-- ==== Sys2Proof/Word.lean ====
section
/-! DEFINITION. The word types the module's registers and buffers are made of (spec/00_scope.md, R9). -/

namespace Sys2Proof

/-- One byte of a mailbox area, a queue cell or a record. -/
abbrev Byte := BitVec 8

/-- A string of bytes, the first at the lowest offset (R9: multi-byte values are little-endian). -/
abbrev Bytes := List Byte

/-- A 32-bit control-window register. -/
abbrev Word32 := BitVec 32

/-- A 64-bit control-window register. -/
abbrev Word64 := BitVec 64

/-- A 72-bit time value: bits 71:36 seconds, bits 35:0 the fraction in 2^-36 s (R82). -/
abbrev Time := BitVec 72

end Sys2Proof
end

