-- ==== Sys2Proof/Syntax.lean ====
section
/-! DEFINITION. The commands the module takes from outside: one constructor of `Instr` for each row of
spec/opcode_table.json.

A row that is a Nulvo command carries only its SOURCE: the mailbox, or the submission-queue entry, whose taken
request it executes; the request's fields are the bytes of that request, held in the state (R56, R71).
A row that is an access or an event carries what reaches the module from outside with it: the offset and value of a
write, the bytes of a frame, the codes of a converter, what a measurement of the environment gave. -/

namespace Sys2Proof

/-- Where an access comes from: the PCIe function or the sideband management port (R45, R78). -/
inductive Path where
  | pcie
  | smp
  deriving DecidableEq, Repr

/-- Where a Nulvo command was taken from: mailbox `n` (R50), or the entry with fetch number `idx` of submission queue `n`
(R71). -/
inductive Src where
  | mb (n : Nat)
  | sq (n idx : Nat)
  deriving DecidableEq, Repr

/-- An IEEE 1588 event message at a port, with what the port's time stamp gave (R104, R105). -/
structure PtpMessage where
  /-- ETH port 0–3. -/
  port : Nat
  /-- 0 Sync received, 1 Delay_Req, 2 Pdelay_Req, 3 Pdelay_Resp; 4 the instant at which a master port sends Sync. -/
  kind : Nat
  /-- bits 35:0 of the 48-bit secondsField. -/
  seconds : Nat
  /-- bits 47:36 of the secondsField; a message in which they are not 0 is discarded (R105). -/
  secondsHigh : Nat
  nanos : Nat
  /-- correctionField, signed, in 2^-16 ns. -/
  correction : Int
  seq : Nat
  /-- the path delay that the delay-request exchange gave, in 2^-36 s. -/
  pathDelay : Int
  /-- the time at which the answered Pdelay_Req left this port. -/
  sent : Time
  /-- the turnaround time that a two-step peer reports, in 2^-36 s. -/
  turnaround : Int
  /-- the message is valid for the servo. -/
  valid : Bool
  deriving DecidableEq, Repr

/-- The last two samples of a tamper source of classes 4 to 15 (R446). -/
inductive TamperSample where
  /-- TMPn, n 0–6: the level of the earlier and of the later sample, true for high. -/
  | input (n : Nat) (first second : Bool)
  /-- TMESH_INn, n 0 or 1: the level of the earlier and of the later sample. -/
  | mesh (n : Nat) (first second : Bool)
  /-- deviation of a core supply from nominal in 0.1 %, how long it has lasted in ns, and VBAT in mV. -/
  | supply (deviation : Int) (ns vbatMv : Nat)
  /-- period of a root-derived clock in % of nominal, frequency of the crystal in Hz, and how long that has lasted in ms. -/
  | clock (periodPercent crystalHz ms : Nat)
  /-- a die sensor and its temperature in 0.1 °C. -/
  | temperature (die : Nat) (deciC : Int)
  /-- the top-metal shield of a die is open or short. -/
  | shield (die : Nat) (broken : Bool)
  deriving DecidableEq, Repr

/-- A TIME frame at sync in (R118). -/
structure AethTime where
  value : Time
  hop : Nat
  masterValid : Bool
  crcOk : Bool
  /-- measured offset of TB11 from the received time, in ps. -/
  offsetPs : Int
  deriving DecidableEq, Repr

/-- A TRIGGER frame at sync in (R118, R121). -/
structure AethTrigger where
  target : Time
  id : Nat
  activate : Bool
  crcOk : Bool
  deriving DecidableEq, Repr

/-- A DELAY_REQ or DELAY_RESP frame at an Aetheno port (R118); the four times are departure and arrival in ps. -/
structure AethDelay where
  syncIn : Bool
  response : Bool
  t1 : Nat
  t2 : Nat
  t3 : Nat
  t4 : Nat
  deriving DecidableEq, Repr

/-- Raw 18-bit sample codes of one analog input over a tick or window, with the over-range marks they imply (R125). -/
structure ChannelSamples where
  ain : Nat
  codes : List Int
  deriving DecidableEq, Repr

/-- Samples that lie on both sides of tick boundaries (R145, R147): `first` is the number of the first sample, counted as samples
are delivered, and `times` are the TB3 times of the boundaries (R127). -/
structure SampleBlock where
  first : Nat
  times : List (BitVec 72)
  chans : List ChannelSamples
  deriving DecidableEq, Repr

/-- What a step boundary of the rotating-spare slot measured (R129–R131): raw codes. -/
structure SpareMeasure where
  /-- all codes of the injected path in the step that ends (steps 1, 2, 5, 6). -/
  injected : List Int
  /-- number of the first of the 320 samples that are compared (steps 3 and 7). -/
  first : Nat
  /-- codes of the spare path, and of the channel's own path, at the same 320 boundaries. -/
  spare : List Int
  own : List Int
  deriving DecidableEq, Repr

/-- What Nulvo asks of a charge-point sequencer for its vehicle (R222, R223, R238). -/
inductive EnergyRequest where
  | powerDelivery
  | cableCheck
  | endDelivery
  /-- R238; Plug & Charge: the contract certificate chain in DER, the contract certificate first; what the vehicle signed, and its signature. -/
  | plugAndCharge (chain : List Bytes) (message signature : Bytes)
  deriving DecidableEq, Repr

/-- A tone map as a tone map response carries it (R262, R265). -/
structure ToneMapResponse where
  modulation : Nat
  coherent : Bool
  mask : Nat
  coefficients : List Nat
  deriving DecidableEq, Repr

/-- One payload symbol as the receiver measured it (R260, R263). -/
structure PlSymbol where
  /-- time-domain peak, 0.25 dB. -/
  peak : Int
  /-- mean decision error, as a power. -/
  error : Nat
  /-- SNR of each group, 0.25 dB. -/
  snr : List Int
  deriving DecidableEq, Repr

/-- A powerline frame after demodulation: the fields of the profile's headers that the rules name (R257–R266). -/
structure PlFrame where
  fcsOk : Bool
  fcs : Nat
  pan : Nat
  dest : Nat
  source : Nat
  eui : Nat
  seq : Nat
  secured : Bool
  keyIndex : Nat
  counter : Nat
  mic : Nat
  ackRequested : Bool
  /-- 0 data, 1 adaptation-layer control, 2 broadcast or multicast, 3 beacon request. -/
  kind : Nat
  finalDest : Nat
  hopsLeft : Nat
  /-- `some (tag, offset, size)` for a fragment of a packet (R258). -/
  fragment : Option (Nat × Nat × Nat)
  udpPort : Nat
  /-- bytes after security, and after the headers the port's framing removes (R312). -/
  payload : Bytes
  /-- 2^-36 s since the start of the preamble, and from there to the payload start (R255, R257). -/
  preambleAgo : Nat
  payloadDelay : Nat
  /-- the channel's running noise estimate, 0.25 dB (R260). -/
  noise : Int
  /-- the payload symbols in order, and the groups the frame uses. -/
  symbols : List PlSymbol
  mask : Nat
  /-- modulation code of the payload, as in R262. -/
  modulation : Nat
  /-- phase detection counter as a zero-crossing delay in µs, where the frame carries one (R257). -/
  zcDelayUs : Option Nat
  coherentSupport : Bool
  toneMapRequest : Bool
  toneMapResponse : Option ToneMapResponse
  deriving DecidableEq, Repr

/-- What the channel predicts for one powerline transmit turn (R267, R269). -/
structure PlGrant where
  /-- 2^-36 s from now to the predicted payload start: the access grant plus the preamble and frame control header. -/
  lead : Nat
  /-- the access was won in the contention window of high priority (R248). -/
  highWindow : Bool
  /-- the acknowledgement can still start within the profile's interval (R41). -/
  ackInTime : Bool
  deriving DecidableEq, Repr

/-- A radio frame after demodulation (R294–R299, R304). -/
structure RfFrame where
  fcsOk : Bool
  fcs : Nat
  version : Nat
  pan : Nat
  dest : Nat
  broadcast : Bool
  /-- source short address; 0xFFFF when none. -/
  source : Nat
  /-- source EUI-64, 0 when the frame carries only a short address. -/
  eui : Nat
  seq : Nat
  securityLevel : Nat
  keyIdMode : Nat
  keyIndex : Nat
  counter : Nat
  mic : Nat
  ackRequested : Bool
  /-- the frame is a data frame; a MAC command otherwise. -/
  isData : Bool
  udpPort : Nat
  payload : Bytes
  /-- channel of the band plan on which it arrived. -/
  channel : Nat
  phyRate : Nat
  /-- the receiver's measure at RFn_RXI, 0.25 dBm (R289). -/
  rssi : Int
  lqi : Nat
  /-- what a listen of EVT_LBT after the acknowledgement of this frame measures at RFn_RXI, 0.25 dBm (R305). -/
  listen : List Int := []
  /-- TB(8+k) at the end of the SFD. -/
  sfd : Time
  deriving DecidableEq, Repr

/-- Where a memory ECC error lies (R482). -/
inductive EccPlace where
  | corrected
  | frameBuffer
  | workingMemory
  | codeStore
  | dramTables
  | pondCell
  | dramRuntime
  deriving DecidableEq, Repr

/-- A detected ECC error: its place, the unit that owns or requested the memory, the address and the syndrome, and the
piece of work concerned where there is one (pipeline tag, or harvest queue of a pond packet). -/
structure EccError where
  place : EccPlace
  unit : Nat
  addr : Nat
  syndrome : Nat
  work : Nat
  deriving DecidableEq, Repr

/-- One item that a reconciliation pass found different between hardware and intent (R492). -/
structure Mismatch where
  item : Nat
  unit : Nat
  hardware : Nat
  intent : Nat
  deriving DecidableEq, Repr

/-- What starts a removal (R520, R530). -/
inductive RemovalSource where
  /-- REMOVE_REQ_N is held low; `false` is its rise, which withdraws no request (R520). -/
  | removeReqN (low : Bool)
  | hpCtrl
  | prsntN (contact : Nat)
  deriving DecidableEq, Repr

/-- A read of the control window: its byte offset and its width in bytes (R47). -/
structure RegRead where
  off : Nat
  width : Nat
  deriving DecidableEq, Repr

/-- A submission-queue doorbell (R69, R71): the new tail index, and the harvest queues that the `HQ_FLUSH` entries posted with it name. -/
structure Doorbell where
  tail : Word32
  flushes : List Nat
  deriving DecidableEq, Repr

/-- Band-passed samples on the two sides of a zero crossing (R111). -/
structure Straddle where
  before : Int
  after : Int
  deriving DecidableEq, Repr

/-- How a frame came over a serial meter bus (R313, R513): its framing and check are right; SMBn_CD was high during it. -/
structure SmbLine where
  ok : Bool
  collision : Bool
  deriving DecidableEq, Repr

/-- The commands: one constructor for each row of the table of operations and events. -/
inductive Instr where
  /-- `MB_GO_WRITE` (R53). Host write of GO to MBn_CTRL: it hands over a request, or sets OVERRUN if OWN or DONE is set. -/
  | mbGoWrite (mb : Nat) (value : Word32) (path : Path)
  /-- `MAILBOX_REQUEST_TAKE` (R51). The module takes a pending mailbox request, setting OWN and clearing GO, once Nulvo serves mailboxes. -/
  | mailboxRequestTake (mb : Nat)
  /-- `REGISTER_WRITE` (R47). Host write to a control-window register that has no row of its own. -/
  | registerWrite (off width : Nat) (value : Word64) (path : Path)
  /-- `RC_REGISTER_READ` (R12). Read of a read-clear register, which returns the value and then clears it. -/
  | rcRegisterRead (read : RegRead) (path : Path)
  /-- `Q_CTRL_EN_WRITE` (R63). Write to the EN bit of Q_CTRL, which enables or disables a queue after its checks, flush or drain. -/
  | qCtrlEnWrite (q : Nat) (value : Word32)
  /-- `HQ_CONSUMED_WRITE` (R67). Host reports consumed packets, which reduces HQn_PKTS and frees cells. -/
  | hqConsumedWrite (hq : Nat) (count : Word32)
  /-- `SQ_TAIL_WRITE` (R71). Host SQ doorbell write of a new tail index. -/
  | sqTailWrite (sq : Nat) (bell : Doorbell)
  /-- `CQ_HEAD_WRITE` (R72). Host returns completion-queue entries by writing CQ_HEAD. -/
  | cqHeadWrite (cq : Nat) (head : Word32)
  /-- `SQ_ENTRY_FETCH` (R71). The module fetches the next SQ entry once a CQ entry can be reserved and admission allows it. -/
  | sqEntryFetch (sq : Nat) (cell buffer : Bytes)
  /-- `TB_NOW_READ_LATCH` (R91). Read of TBn_NOW_LO, which latches the whole 72-bit value. -/
  | tbNowReadLatch (tb width : Nat)
  /-- `TB_INC_WRITE` (R85). Host write of a time-base increment, clamped to ±500 ppm, or ignored with OWNER_ERR. -/
  | tbIncWrite (tb : Nat) (value : Word64)
  /-- `TB_STEP_HI_WRITE` (R92). Write of TBn_STEP_HI, which applies or refuses a register step. -/
  | tbStepHiWrite (tb : Nat) (value : Word32)
  /-- `MS_POP_WRITE` (R102). Write to MS_POP, which removes the head milestone entry. -/
  | msPopWrite (value : Word32)
  /-- `RST_CTRL_WRITE` (R81). Write to RST_CTRL with key 0xA5, which performs MODULE_RESET. -/
  | rstCtrlWrite (value : Word32)
  /-- `HP_CTRL_WRITE` (R81). Write of REMOVE_REQ to HP_CTRL, which requests removal. -/
  | hpCtrlWrite (value : Word32)
  /-- `LOG_CURSOR_WRITE` (R502). Write to LOG_CURSOR, which loads the named record into LOG_WINDOW. -/
  | logCursorWrite (value : Word32)
  /-- `LOG_WINDOW_LAST_READ` (R502). Read of the last byte of LOG_WINDOW, which advances the cursor and loads the next record. -/
  | logWindowLastRead (width : Nat)
  /-- `SMP_WRITE` (R78). SMP WRITE frame, applied when chip select rises after a correct CRC. -/
  | smpWrite (frame : Bytes)
  /-- `SMP_READ` (R79). SMP READ frame, which returns data after wait bytes and the marker. -/
  | smpRead (frame : Bytes)
  /-- `SMP_STATUS` (R78). SMP STATUS frame, which returns SMP_STATUS. -/
  | smpStatus (frame : Bytes)
  /-- `SMP_POP` (R79). SMP POP frame, which reads the next cell of a MODE 1 harvest queue, stalling until a cell is available. -/
  | smpPop (frame : Bytes)
  /-- `SMP_POP_CANCEL` (R70). Chip select deasserted during a stalled POP, which cancels it without consuming a cell. -/
  | smpPopCancel
  /-- `PACKET_WRITE_TO_RING` (R66). A draining pan writes its next packet to the host ring once enough cells are free, then counts it. -/
  | packetWriteToRing (hq : Nat)
  /-- `PAN_TAIL_TIMEOUT` (R68). TAIL_TIMEOUT expires for the filling pan, which closes and hands off. -/
  | panTailTimeout (hq : Nat)
  /-- `VECTOR_MODERATION_TIMEOUT` (R75). MOD_TIME expires after the first counted item, which raises the queue's vector. -/
  | vectorModerationTimeout (q : Nat)
  /-- `CREDIT_WITHHOLD_TIMEOUT` (R43). The host has withheld posted-write credits for 50 ms, which raises an F3 of the host link. -/
  | creditWithholdTimeout
  /-- `PCIE_LINK_DOWN` (R74). PCIe hot reset or link-down, which resets the queue blocks, MSI-X and INT control. -/
  | pcieLinkDown
  /-- `PERST_N_ASSERT` (R511). PERST_N goes low, which holds the PCIe function in reset. -/
  | perstNAssert
  /-- `RST_IN_N_ASSERT` (R511). RST_IN_N goes low, which holds every domain except PD0 and PD10 in reset. -/
  | rstInNAssert
  /-- `RST_IN_N_RELEASE` (R511). Rising edge of RST_IN_N, after which the module starts as after MODULE_RESET. -/
  | rstInNRelease
  /-- `PD_SET` (R554). Command that switches a power domain on or off after its ordered checks. -/
  | pdSet (src : Src)
  /-- `PD_TRANSITION_COMPLETE` (R26). A domain switch-on or switch-off ends and the final OK is written. -/
  | pdTransitionComplete (failedLanes : List Nat)
  /-- `PD_OFF_WORK_DISCARD` (R27). 20 ms after a switch-off doorbell, uncompleted work is discarded with FENCE completions. -/
  | pdOffWorkDiscard
  /-- `PD_STATUS` (R555). Command that reports the on, transitioning and supply-fault state of the domains. -/
  | pdStatus (src : Src)
  /-- `DRAM_ARB_SET` (R38). Command that sets the DRAM round-robin weights for IN, HV and SP. -/
  | dramArbSet (src : Src)
  /-- `FABRIC_STATUS` (R33). Command that reports the buffer use of a credit class. -/
  | fabricStatus (src : Src)
  /-- `PL_COUPLING_SET` (R40). Command that sets the members of a powerline coupling group. -/
  | plCouplingSet (src : Src)
  /-- `FABRIC_WORD_ERROR` (R32). A hop receives a word with a parity error or a reserved class, discards it and requests retransmission. -/
  | fabricWordError (hop : Nat) (word : BitVec 72)
  /-- `DRAM_REQUEST_PROMOTION` (R38). An IN, HV or SP DRAM request that has waited 2 µs is promoted to the MT level. -/
  | dramRequestPromotion (cls : Nat)
  /-- `PLL_LOCK_LOSS` (R21). Loss of root PLL lock: an F3 for the module, and PD10 switches to bypass; `refHz` is the
  frequency last measured of an external reference (R512). -/
  | pllLockLoss (refHz : Nat)
  /-- `PLL_LOCK_REGAIN` (R21). The root PLL locks again, and PD10 returns to the root clocks at a sample boundary. -/
  | pllLockRegain
  /-- `Q_INFO` (R62). Command that returns the state of a queue. -/
  | qInfo (src : Src)
  /-- `HQ_FLUSH` (R69). SQ command that discards every waiting packet of a harvest queue. -/
  | hqFlush (src : Src)
  /-- `SQ_NOP` (R71). SQ command that does nothing and completes. -/
  | sqNop (src : Src)
  /-- `INT_TEST` (R75). Command that raises the named vector once. -/
  | intTest (src : Src)
  /-- `TB_INFO` (R91). Command that returns the state of a time base. -/
  | tbInfo (src : Src)
  /-- `TB_SET` (R97). Command that sets a time-base value, as a step or an initial set, at once or at the next PPS. -/
  | tbSet (src : Src)
  /-- `TB_STEP` (R92). Command that steps a time base, subject to STEP_LIMIT. -/
  | tbStep (src : Src)
  /-- `TB_LIMIT_SET` (R94). Command that sets STEP_LIMIT of a time base. -/
  | tbLimitSet (src : Src)
  /-- `TB_SOURCE_SET` (R87). Command that sets the discipline source of a time base. -/
  | tbSourceSet (src : Src)
  /-- `TB_UTC_OFFSET_SET` (R110). MB1 command that sets the UTC offset, at once or at a TB0 instant. -/
  | tbUtcOffsetSet (src : Src)
  /-- `UTC_OFFSET_EFFECTIVE` (R110). TB0 reaches the instant of a pending UTC offset change, which takes effect. -/
  | utcOffsetEffective
  /-- `TB_DECLARE_LOST` (R96). Command that declares a time base lost. -/
  | tbDeclareLost (src : Src)
  /-- `TB2_TRIM_SET` (R116). MB1 command that sets the user trim of TB2. -/
  | tb2TrimSet (src : Src)
  /-- `MS_TRIGGER_SET` (R100). Command that enables milestone triggers. -/
  | msTriggerSet (src : Src)
  /-- `MS_CAPTURE` (R100). Command that captures a milestone. -/
  | msCapture (src : Src)
  /-- `MS_SCHEDULE` (R121). Command that schedules a milestone on this module or across the chain. -/
  | msSchedule (src : Src)
  /-- `PTP_PORT_CFG` (R104). Command that configures a PTP port. -/
  | ptpPortCfg (src : Src)
  /-- `AETHENO_CFG` (R118). Command that enables and configures Aetheno. -/
  | aethenoCfg (src : Src)
  /-- `PPS_IN_EDGE` (R100). Rising edge on PPS_IN, which captures a milestone and applies a pending at_pps TB_SET. -/
  | ppsInEdge (offset : Word32)
  /-- `TB_SET_PPS_TIMEOUT` (R97). No PPS_IN edge within 2 s of an at_pps TB_SET, which completes with BADARG. -/
  | tbSetPpsTimeout (mb : Nat)
  /-- `ZERO_CROSSING` (R111). A positive-going zero crossing is detected, and the MAINS loop and crossing users update: `instant`
  is the TB3 time of the sample before it. -/
  | zeroCrossing (mp ch : Nat) (around : Straddle) (instant : Time)
  /-- `MAINS_CROSSING_MISSING` (R113). 10 nominal periods without a crossing, after which the MAINS time base enters HOLDOVER. -/
  | mainsCrossingMissing (tb : Nat)
  /-- `PTP_EVENT_MESSAGE` (R104). A PTP event message is timestamped on a port and processed by the servo. -/
  | ptpEventMessage (m : PtpMessage)
  /-- `PTP_SYNC_TIMEOUT` (R108). Three Sync intervals pass without a valid Sync, and TB0 enters HOLDOVER. -/
  | ptpSyncTimeout
  /-- `SCHEDULED_MILESTONE_FIRE` (R103). TB0 reaches a scheduled milestone target, and the milestone fires with any bound action. -/
  | scheduledMilestoneFire (slot : Nat)
  /-- `AETHENO_TIME_SEND` (R118). The 1 ms timer sends a TIME frame on sync out. -/
  | aethenoTimeSend
  /-- `AETHENO_TIME_RECEIVE` (R119). A TIME frame arrives at sync in and disciplines TB11. -/
  | aethenoTimeReceive (f : AethTime)
  /-- `AETHENO_TIME_MISSED` (R119). Four TIME frames are missed, and TB11 enters HOLDOVER. -/
  | aethenoTimeMissed
  /-- `AETHENO_DELAY_EXCHANGE` (R118). The 16 ms timer starts a DELAY_REQ/DELAY_RESP round-trip measurement. -/
  | aethenoDelayExchange
  /-- `AETHENO_TRIGGER_RECEIVE` (R121). A TRIGGER frame is received, forwarded and scheduled. -/
  | aethenoTriggerReceive (f : AethTrigger)
  /-- `TB2_TEMPERATURE_SAMPLE` (R116). Periodic PD0 temperature reading that updates the TB2 compensation. -/
  | tb2TemperatureSample (centi : Int)
  /-- `VBAT_LOW_DETECT` (R117). VBAT falls below 1.9 V without main power, which marks TB2 BACKUP_FAIL. -/
  | vbatLowDetect
  /-- `METROLOGY_TICK_END` (R142). A 320-sample metrology tick or partial tick ends, is accumulated, and its MT message is sent. -/
  | metrologyTickEnd (samples : List ChannelSamples)
  /-- `SPARE_SLOT_PHASE` (R129). A step boundary of the rotating-spare slot: injection, comparison and path switch. -/
  | spareSlotPhase (m : SpareMeasure)
  /-- `SPARE_RETRY` (R132). 60 s timer of a suspended rotation, which repeats the spare's zero and reference steps. -/
  | spareRetry (zero reference : List Int)
  /-- `MEASUREMENT_WINDOW_END` (R145). An RMS, frequency and harmonic window ends and its values are computed. -/
  | measurementWindowEnd (mp : Nat) (block : SampleBlock) (crossings : List Time)
  /-- `PHASOR_REPORT` (R147). A phasor reporting instant, at which a PHASOR record is computed and built. -/
  | phasorReport (block : SampleBlock)
  /-- `METROLOGY_ALARM_TIMER` (R176). An alarm condition has held for its duration, and the alarm sets or clears. -/
  | metrologyAlarmTimer (mp bit : Nat)
  /-- `WRITE_THROUGH` (R153). The 250 ms write-through of every register to its alternate MRAM record. -/
  | writeThrough
  /-- `METERING_INTERVAL_BOUNDARY` (R155). A metering interval boundary: snapshot, MRAM store and INTERVAL records. -/
  | meteringIntervalBoundary (offset : Word32)
  /-- `POWER_FAIL_TRIGGER` (R162). PFAIL_N or the 12 V monitor triggers hold-up and the power-fail commit. -/
  | powerFailTrigger (cause : Nat)
  /-- `POWER_FAIL_COMMIT_DONE` (R163). A register commit during hold-up completes; COMMIT_OK is set and the next commit starts. -/
  | powerFailCommitDone
  /-- `HOLDUP_CUTOFF` (R163). The hold-up store reaches cutoff, and PD10 and the PD0 service section go off. -/
  | holdupCutoff
  /-- `SUPPLY_RETURN` (R164). 12 V is back above 10.8 V for 10 ms before cutoff, which is taken as a brownout. -/
  | supplyReturn
  /-- `HOLDUP_CHECK_START` (R165). The periodic or initial hold-up check begins to draw load from the store. -/
  | holdupCheckStart
  /-- `HOLDUP_CHECK_END` (R165). The hold-up check ends and HOLDUP_DEGRADED is set or cleared. -/
  | holdupCheckEnd (predictedUs capacitanceUf esrMilliohm : Nat)
  /-- `MET_CAPTURE_DONE` (R128). The capture buffer is full and MET_CAPTURE completes with OK. -/
  | metCaptureDone (block : SampleBlock)
  /-- `MET_INFO` (R178). Command that returns the state of a metering point. -/
  | metInfo (src : Src)
  /-- `MET_CHAN_CFG` (R138). MB1 command that sets the kind, gain and scale of an input channel. -/
  | metChanCfg (src : Src)
  /-- `MET_BIND` (R140). MB1 command that binds the slots and wiring of a metering point. -/
  | metBind (src : Src)
  /-- `MET_CAL_SET` (R137). MB1 command that sets the user calibration of a channel. -/
  | metCalSet (src : Src)
  /-- `MET_CAL_GET` (R135). Command that returns the calibration coefficients of a channel. -/
  | metCalGet (src : Src)
  /-- `MET_REG_CFG` (R151). MB1 command that configures or clears an energy register. -/
  | metRegCfg (src : Src)
  /-- `MET_READ` (R148). Command that returns the registers of a metering point. -/
  | metRead (src : Src)
  /-- `MET_INSTANT` (R145). Command that returns the instantaneous values of a metering point. -/
  | metInstant (src : Src)
  /-- `MET_HARMONICS` (R146). Command that returns the harmonics of a channel. -/
  | metHarmonics (src : Src)
  /-- `MET_OUTPUT_CFG` (R159). Command that sets the harvest output of INTERVAL and PHASOR records. -/
  | metOutputCfg (src : Src)
  /-- `MET_INTERVAL_SET` (R155). Command that sets the metering interval length. -/
  | metIntervalSet (src : Src)
  /-- `MET_TPO_CFG` (R171). MB1 command that configures a test pulse output. -/
  | metTpoCfg (src : Src)
  /-- `MET_THRESH_SET` (R173). MB1 command that sets the starting threshold and the reverse-flow alarm. -/
  | metThreshSet (src : Src)
  /-- `MET_CAPTURE` (R128). Command that starts a raw sample capture. -/
  | metCapture (src : Src)
  /-- `MET_CAPTURE_READ` (R128). Command that reads capture words. -/
  | metCaptureRead (src : Src)
  /-- `HOLDUP_TEST` (R165). Command that runs a hold-up check on demand. -/
  | holdupTest (src : Src)
  /-- `MET_OUTAGE_READ` (R166). Command that reads an outage record. -/
  | metOutageRead (src : Src)
  /-- `MET_ROTATION` (R129). Command that reports the rotating-spare state. -/
  | metRotation (src : Src)
  /-- `RATE_SWITCH` (R184). A day-profile switch action takes effect as a billing boundary, and the rate in force changes. -/
  | rateSwitch (table : Nat)
  /-- `DST_CHANGE` (R184). The start or end of DST takes effect as a billing boundary. -/
  | dstChange (table : Nat)
  /-- `DEMAND_SUBINTERVAL_END` (R193). A demand subinterval boundary, at which the window is formed and maxima are updated. -/
  | demandSubintervalEnd (mp : Nat)
  /-- `BILLING_PERIOD_CLOSE` (R190). A scheduled billing boundary closes the period and stores history. -/
  | billingPeriodClose (table : Nat)
  /-- `TARIFF_ACTIVATION_DUE` (R185). TB2 reaches a pending activation, and the passive copy becomes active. -/
  | tariffActivationDue (table : Nat)
  /-- `PREPAY_FEEDBACK_CHANGE` (R200). The debounced CFB state of a prepayment contactor changes. -/
  | prepayFeedbackChange (mp : Nat) (closed : Bool)
  /-- `PREPAY_FEEDBACK_TIMEOUT` (R200). t_fb expires in OPENING or CLOSING of the prepayment state machine. -/
  | prepayFeedbackTimeout (mp : Nat)
  /-- `PREPAY_BYPASS_DETECT` (R200). Current flows for 2 s while DISCONNECTED, which records SUPPLY_BYPASS. -/
  | prepayBypassDetect (mp : Nat)
  /-- `LEGAL_DISPLAY_PING` (R208). The 1 s ping of each enabled legal display. -/
  | legalDisplayPing (display : Nat) (reply : Bytes)
  /-- `LEGAL_DISPLAY_SCROLL` (R208). The scroll timer advances the legal display to its next item. -/
  | legalDisplayScroll (display : Nat)
  /-- `LDREQ_N_FALL` (R208). Falling edge of LDREQ_N, which shows the check value for 10 s. -/
  | ldreqNFall
  /-- `CV_SHOW_EXPIRY` (R208). The 10 s check-value display ends. -/
  | cvShowExpiry
  /-- `TAR_STATUS` (R183). Command that returns the rate in force of a metering point. -/
  | tarStatus (src : Src)
  /-- `TAR_DAY_SET` (R182). MB1 command that writes a day profile to the passive copy. -/
  | tarDaySet (src : Src)
  /-- `TAR_WEEK_SET` (R181). MB1 command that writes a week profile. -/
  | tarWeekSet (src : Src)
  /-- `TAR_SEASON_SET` (R181). MB1 command that writes or deletes a season. -/
  | tarSeasonSet (src : Src)
  /-- `TAR_SPECIAL_SET` (R181). MB1 command that writes or deletes a special day. -/
  | tarSpecialSet (src : Src)
  /-- `TAR_TABLE_SET` (R181). MB1 command that writes the default rate, local time rule and billing schedule. -/
  | tarTableSet (src : Src)
  /-- `TAR_ACTIVATE` (R185). MB1 command that activates a passive tariff copy, at once or at a TB2 instant. -/
  | tarActivate (src : Src)
  /-- `TAR_ASSIGN` (R181). MB1 command that assigns a tariff table to a metering point. -/
  | tarAssign (src : Src)
  /-- `BILL_REG_CFG` (R186). MB1 command that sets a tariffed source and its billing register format. -/
  | billRegCfg (src : Src)
  /-- `BILL_CLOSE` (R189). MB1 command that closes a billing period. -/
  | billClose (src : Src)
  /-- `BILL_READ` (R188). Command that reads the rate registers of a slot. -/
  | billRead (src : Src)
  /-- `BILL_HISTORY_READ` (R190). SQ command that reads a billing history record. -/
  | billHistoryRead (src : Src)
  /-- `DEM_CFG` (R194). MB1 command that configures demand. -/
  | demCfg (src : Src)
  /-- `DEM_READ` (R193). Command that reads demand values and maxima. -/
  | demRead (src : Src)
  /-- `PREPAY_CFG` (R198). MB1 command that configures prepayment. -/
  | prepayCfg (src : Src)
  /-- `PREPAY_CREDIT` (R199). MB1 command that adds credit with a token id. -/
  | prepayCredit (src : Src)
  /-- `PREPAY_SWITCH` (R200). MB1 command that forces open, returns to auto, or clears a prepayment fault. -/
  | prepaySwitch (src : Src)
  /-- `PREPAY_RECONNECT` (R200). Command that recloses the contactor from RECONNECT_READY. -/
  | prepayReconnect (src : Src)
  /-- `PREPAY_STATUS` (R200). Command that returns the prepayment state. -/
  | prepayStatus (src : Src)
  /-- `TAMPER_READ` (R203). Command that reads a tamper class record. -/
  | tamperRead (src : Src)
  /-- `LEGAL_CV_READ` (R206). Command that returns the legal check value. -/
  | legalCvRead (src : Src)
  /-- `LEGAL_CV_SHOW` (R208). Command that shows the check value on the legal displays. -/
  | legalCvShow (src : Src)
  /-- `LEGAL_DISPLAY_CFG` (R208). MB1 command that configures a legal display. -/
  | legalDisplayCfg (src : Src)
  /-- `LEGAL_LOG_READ` (R209). Command that reads a legal log entry. -/
  | legalLogRead (src : Src)
  /-- `LEGAL_DECOMMISSION` (R211). MB1 command that closes every period, commits the registers and sets DECOMMISSIONED. -/
  | legalDecommission (src : Src)
  /-- `LEGAL_STATUS` (R211). Command that returns the legal state. -/
  | legalStatus (src : Src)
  /-- `PILOT_MEASUREMENT` (R218). A 1 ms pilot measurement period ends, its plateaus are formed and the pilot state is decoded:
  the codes from the rising edge of CPn_DRV on, and from its falling edge on; with constant drive all are `high`. -/
  | pilotMeasurement (cp : Nat) (high low : List Nat)
  /-- `PROXIMITY_WINDOW` (R220). A 10 ms proximity window yields rp and updates the cable decode. -/
  | proximityWindow (cp code : Nat)
  /-- `CP_FEEDBACK_CHANGE` (R223). The debounced feedback of a charge-point contactor changes. -/
  | cpFeedbackChange (cp : Nat) (second closed : Bool)
  /-- `CP_FEEDBACK_TIMEOUT` (R223). t_fb expires in CLOSING, OPENING or FAULT of a charge point. -/
  | cpFeedbackTimeout (cp : Nat)
  /-- `CP_PULL_IN_END` (R226). PULL_IN ends and the drive changes to HOLD_DUTY. -/
  | cpPullInEnd (cp : Nat)
  /-- `CP_STOPPING_TIMEOUT` (R223). 6 s in STOPPING without a vehicle response; the contactor opens under load. -/
  | cpStoppingTimeout (cp : Nat)
  /-- `RCD_SELF_TEST_END` (R230). The 300 ms residual self-test ends and passes or trips; `recent` are the samples since the
  last tick end. -/
  | rcdSelfTestEnd (cp : Nat) (recent : List ChannelSamples)
  /-- `IMD_PERIOD_END` (R232). An insulation injection period ends, and r_iso is computed and classed: the codes of its
  two halves, and whether the converter has marked a sample of it as over range. -/
  | imdPeriodEnd (cp : Nat) (positive negative : List Int) (saturated : Bool)
  /-- `AUTH_TIMEOUT` (R238). AUTH_TIMEOUT expires without a host decision. -/
  | authTimeout (cp : Nat)
  /-- `NULVO_HEARTBEAT_LOSS` (R243). The Nulvo heartbeat is absent for 1 s at a charge point. -/
  | nulvoHeartbeatLoss (cp : Nat)
  /-- `NULVO_ENERGY_REQUEST` (R222). Nulvo requests energy, by PowerDelivery or CableCheck, or ends the power delivery. -/
  | nulvoEnergyRequest (cp : Nat) (kind : EnergyRequest)
  /-- `SLAC_SOUND_FRAME` (R235). A SLAC sound frame is received and its group attenuations are measured. -/
  | slacSoundFrame (pl : Nat) (runId : Bytes) (groups : List Nat)
  /-- `SLAC_RUN_END` (R236). A SLAC run ends, and the means are compared to decide which channel answers. -/
  | slacRunEnd (runId : Bytes)
  /-- `SESSION_RECORD_EMIT` (R242). A waiting SESSION record is signed and emitted once PD5 and a reservation are available. -/
  | sessionRecordEmit
  /-- `CP_CFG` (R214). Command that configures and enables or disables a charge point. -/
  | cpCfg (src : Src)
  /-- `CP_STATUS` (R228). Command that returns the state of a charge point. -/
  | cpStatus (src : Src)
  /-- `CP_AUTHORISE` (R238). Command that grants or denies authorisation of a session. -/
  | cpAuthorise (src : Src)
  /-- `CP_LIMIT` (R221). Command that sets the host current limit. -/
  | cpLimit (src : Src)
  /-- `CP_STOP` (R223). Command that stops energy delivery. -/
  | cpStop (src : Src)
  /-- `CP_AVAILABILITY` (R223). Command that makes a charge point available or unavailable. -/
  | cpAvailability (src : Src)
  /-- `CP_RESET` (R224). Command that leaves FAULT when its condition holds. -/
  | cpReset (src : Src)
  /-- `CP_RCD_CFG` (R229). Command that sets residual thresholds and TEST_NOM. -/
  | cpRcdCfg (src : Src)
  /-- `CP_IMD_CFG` (R234). Command that configures insulation monitoring. -/
  | cpImdCfg (src : Src)
  /-- `CP_SESSION_READ` (R241). Command that reads a SESSION record. -/
  | cpSessionRead (src : Src)
  /-- `CP_SLAC_STATUS` (R236). Command that reports the last SLAC run. -/
  | cpSlacStatus (src : Src)
  /-- `CP_V2G_CFG` (R237). Command that sets the V2G session slots and options. -/
  | cpV2gCfg (src : Src)
  /-- `CP_TRUST_SET` (R238). SQ command that stores or deletes a trust anchor. -/
  | cpTrustSet (src : Src)
  /-- `CP_PILOT_READ` (R218). Command that returns recent pilot plateaus. -/
  | cpPilotRead (src : Src)
  /-- `CP_RECORD_CFG` (R242). Command that sets the SESSION record output and signing key. -/
  | cpRecordCfg (src : Src)
  /-- `PL_FRAME_RECEIVE` (R258). A powerline frame is received, checked, committed and acknowledged or forwarded. -/
  | plFrameReceive (ch : Nat) (f : PlFrame)
  /-- `PL_TRANSMIT_TURN` (R269). A powerline channel takes a transmit turn from its queues under the coupling-group rules. -/
  | plTransmitTurn (ch : Nat) (g : PlGrant)
  /-- `PL_ACK_RECEIVE` (R270). The acknowledgement of a unicast frame arrives; the frame is delivered and etx updates. -/
  | plAckReceive (ch : Nat)
  /-- `PL_ACK_TIMEOUT` (R270). No acknowledgement arrives, so the frame of sequence number `seq` is retransmitted more robustly
  or fails. -/
  | plAckTimeout (ch : Nat) (accessFailed : Bool) (seq : Nat)
  /-- `PL_REFRESH_TIMER` (R268). 100 ms without a queued frame for a pending refresh, so a request-only frame is sent. -/
  | plRefreshTimer (ch short slot : Nat)
  /-- `PL_REASSEMBLY_TIMEOUT` (R258). A reassembly has had no new fragment for 60 s and is discarded. -/
  | plReassemblyTimeout (ch tag : Nat)
  /-- `PL_NEIGHBOUR_AGEING` (R272). A neighbour not heard for 86,400 s is removed. -/
  | plNeighbourAgeing (ch short : Nat)
  /-- `PL_ROUTE_LAPSE` (R275). A route entry reaches its expiry and is removed. -/
  | plRouteLapse (ch dest : Nat)
  /-- `PL_CFG` (R253). Command that sets the mode, band and network of a channel. -/
  | plCfg (src : Src)
  /-- `PL_NET_CFG` (R252). Command that configures a narrowband network and its keys. -/
  | plNetCfg (src : Src)
  /-- `PL_STATUS` (R259). Command that returns channel counters. -/
  | plStatus (src : Src)
  /-- `PL_NBR_READ` (R272). SQ command that reads a neighbour entry. -/
  | plNbrRead (src : Src)
  /-- `PL_NBR_DELETE` (R272). Command that removes a neighbour. -/
  | plNbrDelete (src : Src)
  /-- `PL_TM_READ` (R262). Command that reads a tone map entry. -/
  | plTmRead (src : Src)
  /-- `PL_TM_REFRESH` (R281). Command that requests a tone map refresh. -/
  | plTmRefresh (src : Src)
  /-- `PL_ROUTE_SET` (R275). SQ command that installs or deletes routes. -/
  | plRouteSet (src : Src)
  /-- `PL_ROUTE_READ` (R275). SQ command that reads route entries. -/
  | plRouteRead (src : Src)
  /-- `PL_ROUTE_FLUSH` (R275). Command that removes every route of a channel. -/
  | plRouteFlush (src : Src)
  /-- `PL_TX` (R269). SQ command that queues a host frame for transmission. -/
  | plTx (src : Src)
  /-- `PL_BEACON_SET` (R248). Command that loads the beacon response template. -/
  | plBeaconSet (src : Src)
  /-- `RF_FRAME_RECEIVE` (R294). A radio frame is received, checked, committed and acknowledged. -/
  | rfFrameReceive (ch : Nat) (f : RfFrame)
  /-- `RF_BACKOFF_EXPIRY` (R291). A CSMA backoff ends and the CCA or LBT listen runs: the levels at RFn_RXI, 0.25 dBm,
  over the CCA of 8 symbols and over the LBT listen. -/
  | rfBackoffExpiry (ch : Nat) (cca listen : List Int)
  /-- `RF_ACK_RECEIVE` (R293). The acknowledgement of a radio frame arrives and the frame is delivered. -/
  | rfAckReceive (ch : Nat)
  /-- `RF_ACK_TIMEOUT` (R293). No acknowledgement arrives, so the frame is retried or fails. -/
  | rfAckTimeout (ch : Nat)
  /-- `RF_WINDOW_TUNE` (R305). The receiver is tuned to a scheduled link's window channel. -/
  | rfWindowTune (ch link : Nat)
  /-- `RF_WINDOW_END` (R307). A scheduled window ends, the event counter advances, and misses and state are updated. -/
  | rfWindowEnd (ch link : Nat)
  /-- `RF_SUPERVISION_TIMEOUT` (R307). TB reaches a_last plus sup, and the link is removed. -/
  | rfSupervisionTimeout (ch link : Nat)
  /-- `RF_DUTY_LIMIT_CHANGE` (R292). The sliding transmit count reaches or leaves the data or acknowledgement limit. -/
  | rfDutyLimitChange (ch : Nat) (ack : Bool)
  /-- `RF_DEVICE_AGEING` (R295). A device entry not heard for 86,400 s is removed. -/
  | rfDeviceAgeing (net eui : Nat)
  /-- `RF_CFG` (R287). Command that configures a radio channel. -/
  | rfCfg (src : Src)
  /-- `RF_NET_CFG` (R286). Command that configures a radio network. -/
  | rfNetCfg (src : Src)
  /-- `RF_STATUS` (R294). Command that returns radio channel counters. -/
  | rfStatus (src : Src)
  /-- `RF_LINK_ADD` (R300). Command that adds a scheduled link. -/
  | rfLinkAdd (src : Src)
  /-- `RF_LINK_UPDATE` (R303). Command that schedules a hopping update of a link. -/
  | rfLinkUpdate (src : Src)
  /-- `RF_LINK_REMOVE` (R307). Command that removes a scheduled link. -/
  | rfLinkRemove (src : Src)
  /-- `RF_LINK_READ` (R306). Command that reads a scheduled link. -/
  | rfLinkRead (src : Src)
  /-- `RF_TX` (R308). SQ command that queues a host radio frame. -/
  | rfTx (src : Src)
  /-- `RF_DEV_DELETE` (R310). Command that deletes a device entry. -/
  | rfDevDelete (src : Src)
  /-- `SMB_FRAME_RECEIVE` (R314). A serial meter bus frame is received and placed into ingress, or discarded. -/
  | smbFrameReceive (bus : Nat) (line : SmbLine) (apdu : Bool) (addr : Nat) (bytes : Bytes)
  /-- `DX_DATA_RECEIVE` (R355). A DX DATA envelope arrives, and is checked and steered whole: the source address, the
  destination port, whether the Ethernet frame check and the UDP checksum are right, and the UDP payload. -/
  | dxDataReceive (eth : Nat) (addr : Bytes) (udpPort : Nat) (fcsOk sumOk : Bool) (bytes : Bytes)
  /-- `FRAME_ADMIT` (R321). A pipeline admits its head frame once reservations and an in-flight tag are available. -/
  | frameAdmit (fip : Nat)
  /-- `ADMISSION_REOPEN` (R325). The failed credit exceeds its need by ADMIT_HYST, and admission reopens. -/
  | admissionReopen (fip : Nat)
  /-- `LANE_GRANT` (R366). An IDLE cipher lane is granted to its owner's or a neighbour's queue head. -/
  | laneGrant (lane : Nat)
  /-- `LANE_OPERATION_END` (R364). A lane operation ends, releasing its result or fencing the lane, and clears key material. -/
  | laneOperationEnd (lane : Nat) (mismatch : Bool)
  /-- `LANE_QUEUE_TIMEOUT` (R367). A lane operation has waited 10 ms, and it and its frame are discarded. -/
  | laneQueueTimeout (fip : Nat)
  /-- `FRAME_VALIDATE` (R395). A microengine validates a frame's readings, then commits, sends balance messages and emits records. -/
  | frameValidate (fip tag : Nat)
  /-- `JUNCTION_LEARN` (R332). An entry from the learn queue is inserted into the junction table by cuckoo relocation. -/
  | junctionLearn (fip : Nat)
  /-- `JUNCTION_SCRUB` (R335). The scrubber reads a junction bucket and clears parity errors. -/
  | junctionScrub (fip bucket : Nat)
  /-- `RECORD_DELIVERED` (R347). The last record of a frame is delivered, and its acknowledgement is queued from the reply store. -/
  | recordDelivered (hq seq : Nat)
  /-- `REPLY_ENTRY_EXPIRY` (R348). A SENT reply-store entry reaches 600 s and is freed. -/
  | replyEntryExpiry (entry : Nat)
  /-- `DX_ACK_RECEIVE` (R354). A DX ACK envelope arrives, which releases the envelope and delivers its records. -/
  | dxAckReceive (eth : Nat) (bytes : Bytes)
  /-- `DX_ENVELOPE_TIMEOUT` (R356). The uplink envelope timeout passes, and the open envelope is sent. -/
  | dxEnvelopeTimeout
  /-- `DX_RETRANSMIT_TIMEOUT` (R356). An envelope is unacknowledged at its retransmit time and is resent. -/
  | dxRetransmitTimeout (seq : Nat)
  /-- `ING_STATUS` (R321). Command that returns pipeline counters. -/
  | ingStatus (src : Src)
  /-- `FIP_CFG` (R333). Command that configures a pipeline's queues and eviction. -/
  | fipCfg (src : Src)
  /-- `ING_STEER_SET` (R319). Command that loads the steering map. -/
  | ingSteerSet (src : Src)
  /-- `ING_PORT_CFG` (R313). Command that configures port framing and acknowledgement. -/
  | ingPortCfg (src : Src)
  /-- `ING_PARSE_SET` (R345). Command that loads a parse template. -/
  | ingParseSet (src : Src)
  /-- `ING_ACK_TEMPLATE` (R348). Command that loads an acknowledgement template. -/
  | ingAckTemplate (src : Src)
  /-- `CTX_WRITE` (R339). Command that writes context lines 0 and 3 and updates the directory. -/
  | ctxWrite (src : Src)
  /-- `CTX_READ` (R338). Command that reads a context. -/
  | ctxRead (src : Src)
  /-- `CTX_DELETE` (R339). Command that deletes a context. -/
  | ctxDelete (src : Src)
  /-- `JT_INVALIDATE` (R334). Command that clears junction entries. -/
  | jtInvalidate (src : Src)
  /-- `JT_READ` (R330). SQ command that reads junction entries. -/
  | jtRead (src : Src)
  /-- `ING_SUBMIT` (R312). SQ command that submits a frame to ingest. -/
  | ingSubmit (src : Src)
  /-- `DX_PEER_CFG` (R355). Command that configures a DX peer. -/
  | dxPeerCfg (src : Src)
  /-- `DX_UPLINK_CFG` (R356). Command that configures the DX uplink. -/
  | dxUplinkCfg (src : Src)
  /-- `SMB_CFG` (R314). Command that configures a serial meter bus. -/
  | smbCfg (src : Src)
  /-- `SMB_TX` (R314). SQ command that sends a request on a meter bus. -/
  | smbTx (src : Src)
  /-- `REVOCATION` (R384). A revocation reaches PD5; WKRs are zeroed and operations are discarded or restarted. -/
  | revocation (omk : Option Nat)
  /-- `GRACE_WINDOW_END` (R383). GRACE expires, and the grace generation is erased. -/
  | graceWindowEnd (omk : Nat)
  /-- `REMASK_PERIOD` (R435). The 2^20 µs re-masking pass over every key record and the lane key RAM. -/
  | remaskPeriod
  /-- `RNG_RESEED` (R453). The 1 s reseed of the CTR_DRBG. -/
  | rngReseed
  /-- `RNG_HEALTH_FAIL` (R453). An entropy health test fails or passes again, stopping or resuming secret uses. -/
  | rngHealthFail (passing : Bool)
  /-- `TAMPER_SAMPLE_TRIP` (R446). Two consecutive tripping samples of a tamper source. -/
  | tamperSampleTrip (sample : TamperSample)
  /-- `DEBUG_ACCESS_ATTEMPT` (R427). 8 or more TCK edges on a closed debug port, a DEBUG_ATTEMPT source. -/
  | debugAccessAttempt (tckEdges : Nat)
  /-- `PKE_OPERATION_END` (R451). A public-key operation completes or fails its self-check, and the next request is served. -/
  | pkeOperationEnd (pke : Nat) (selfCheckOk : Bool)
  /-- `PKE_QUEUE_AGEING` (R452). A PKE request has waited 100 ms and rises one class. -/
  | pkeQueueAgeing (index : Nat)
  /-- `MAILBOX_LOCKOUT_END` (R59). The 10 s AUTHFAIL lockout of a mailbox ends. -/
  | mailboxLockoutEnd (mb : Nat)
  /-- `CL_STATUS` (R364). Command that returns the state of a lane. -/
  | clStatus (src : Src)
  /-- `CL_TEST` (R364). Command that runs known-answer tests on a lane. -/
  | clTest (src : Src)
  /-- `CL_TEST_END` (R364). Lane known-answer tests end and the lane goes to IDLE or FENCED. -/
  | clTestEnd (lane : Nat) (failing : Nat)
  /-- `CL_BORROW_CFG` (R366). Command that sets BORROW_MAX. -/
  | clBorrowCfg (src : Src)
  /-- `KEYGEN_STATUS` (R553). Command that reports OMK generations and counters. -/
  | keygenStatus (src : Src)
  /-- `KEY_GRACE_SET` (R383). MB2 command that sets GRACE of a slot. -/
  | keyGraceSet (src : Src)
  /-- `SESS_STATUS` (R387). Command that reports a session slot. -/
  | sessStatus (src : Src)
  /-- `SESS_CLEAR` (R390). Command that clears a session slot. -/
  | sessClear (src : Src)
  /-- `BAL_INTERVAL_OPEN` (R410). TB2 reaches a balance boundary and an interval opens. -/
  | balIntervalOpen (group : Nat)
  /-- `BAL_DEADLINE` (R414). An open interval reaches its DEADLINE and closes. -/
  | balDeadline (group : Nat)
  /-- `BAL_RECORD_EMIT` (R416). A BALANCE payload in the closed ring is emitted once a reservation is granted. -/
  | balRecordEmit (group : Nat)
  /-- `PHASE_RECORD_EMIT` (R420). A pending PHASE record is emitted once a reservation is granted. -/
  | phaseRecordEmit (ctx : Nat)
  /-- `BAL_GROUP_CFG` (R409). Command that configures a balance group. -/
  | balGroupCfg (src : Src)
  /-- `BAL_FEED` (R413). SQ command that supplies the feeder side of a remote interval. -/
  | balFeed (src : Src)
  /-- `BAL_STATUS` (R408). Command that returns the state of a group. -/
  | balStatus (src : Src)
  /-- `BAL_CLOSE` (R414). Command that closes the oldest open interval. -/
  | balClose (src : Src)
  /-- `BAL_HISTORY_READ` (R408). SQ command that reads the closed ring. -/
  | balHistoryRead (src : Src)
  /-- `PHASE_CFG` (R419). Command that sets the phase identification parameters. -/
  | phaseCfg (src : Src)
  /-- `PHASE_READ` (R420). Command that reads a phase entry. -/
  | phaseRead (src : Src)
  /-- `PHASE_RESET` (R421). Command that resets a phase entry. -/
  | phaseReset (src : Src)
  /-- `BAL_OUTPUT_CFG` (R416). Command that sets the BALANCE output queue. -/
  | balOutputCfg (src : Src)
  /-- `OMK_LOAD` (R440). MB2 command that loads an OMK candidate. -/
  | omkLoad (src : Src)
  /-- `OMK_VERIFY` (R441). MB2 command that checks a candidate's KCV. -/
  | omkVerify (src : Src)
  /-- `OMK_COMMIT` (R442). MB2 command that commits a verified candidate as a new generation. -/
  | omkCommit (src : Src)
  /-- `OMK_REVOKE` (R443). MB2 command that erases a slot and revokes it. -/
  | omkRevoke (src : Src)
  /-- `KEY_IMPORT` (R445). MB2 command that imports a wrapped general key. -/
  | keyImport (src : Src)
  /-- `KEY_GENERATE` (R445). MB2 command that generates an EC key pair. -/
  | keyGenerate (src : Src)
  /-- `KEY_ERASE` (R445). MB2 command that erases a general key. -/
  | keyErase (src : Src)
  /-- `KEY_INFO` (R445). Command that returns a key's type, usage and KCV or public key. -/
  | keyInfo (src : Src)
  /-- `DIK_READ` (R433). Command that returns the DIK and its attestations. -/
  | dikRead (src : Src)
  /-- `KEY_AUTH_SET` (R436). Command that installs or replaces an authority key. -/
  | keyAuthSet (src : Src)
  /-- `KEY_AUTH_ROTATE` (R438). Command that rotates the key version of a session. -/
  | keyAuthRotate (src : Src)
  /-- `TMP_CFG` (R447). MB3 command that configures tamper inputs and actions. -/
  | tmpCfg (src : Src)
  /-- `TMP_STATUS` (R448). Command that returns the tamper status. -/
  | tmpStatus (src : Src)
  /-- `SEC_STATUS` (R452). Command that returns the PKE and RNG status. -/
  | secStatus (src : Src)
  /-- `LC_STATUS` (R426). Command that returns the life-cycle status. -/
  | lcStatus (src : Src)
  /-- `LC_ADVANCE` (R428). Command that performs a life-cycle transition. -/
  | lcAdvance (src : Src)
  /-- `LC_TRANSITION_COMPLETE` (R429). A transition's fuses, keys and bundle are done, the final response is written and the module restarts. -/
  | lcTransitionComplete
  /-- `LC_NEXT_DIK` (R432). Command that returns the next state's DIK. -/
  | lcNextDik (src : Src)
  /-- `LC_RECOVER` (R449). Command that recovers from ALARM_HOLD with a kind 6 token. -/
  | lcRecover (src : Src)
  /-- `LC_DEBUG_OPEN` (R427). Command that opens the debug port in PROVISION. -/
  | lcDebugOpen (src : Src)
  /-- `FW_STATUS` (R457). Command that returns the firmware directory state. -/
  | fwStatus (src : Src)
  /-- `FW_STAGE_OPEN` (R470). Command that opens staging into the inactive bank. -/
  | fwStageOpen (src : Src)
  /-- `FW_STAGE_OPEN_DONE` (R470). The bank erase ends and FW_STAGE_OPEN completes. -/
  | fwStageOpenDone
  /-- `FW_STAGE_WRITE` (R470). Command that writes container bytes. -/
  | fwStageWrite (src : Src)
  /-- `FW_STAGE_CLOSE` (R470). Command that checks the staged container. -/
  | fwStageClose (src : Src)
  /-- `FW_STAGE_CLOSE_DONE` (R470). The container checks end and the bank becomes STAGED or EMPTY. -/
  | fwStageCloseDone
  /-- `FW_STAGE_ABORT` (R470). Command that aborts staging. -/
  | fwStageAbort (src : Src)
  /-- `ACTIVATE` (R471). Command that activates a bank. -/
  | activate (src : Src)
  /-- `ACTIVATE_PREPARED` (R471). The bank is decrypted into the idle half, and the pause begins at T_A. -/
  | activatePrepared
  /-- `ACTIVATE_PAUSE_END` (R471). Engines are reloaded, admission reopens, Nulvo restarts and the final OK is written, `pauseUs` after T_A. -/
  | activatePauseEnd (pauseUs : Nat)
  /-- `ACTIVATE_AT` (R473). Command that schedules activation at a TB0 instant, alone or chain-wide. -/
  | activateAt (src : Src)
  /-- `FW_CONFIRM` (R469). Command that confirms a TRIAL bank. -/
  | fwConfirm (src : Src)
  /-- `FW_OPKEY_SET` (R460). MB3 command that sets the operator countersignature key digest. -/
  | fwOpkeySet (src : Src)
  /-- `ACTIVATE_LEGAL` (R476). MB1 command that installs new legal code. -/
  | activateLegal (src : Src)
  /-- `WATCHDOG_EXPIRY` (R469). A Gorjo pair's 2 s watchdog expires, which is an F3. -/
  | watchdogExpiry (pair : Nat)
  /-- `ECC_ERROR` (R482). A memory ECC error is detected and classed by where it lies. -/
  | eccError (e : EccError)
  /-- `LOCKSTEP_MISMATCH` (R482). A Gorjo lockstep mismatch, which is an F3. -/
  | lockstepMismatch (pair pc checkpoint : Nat)
  /-- `BUS_TIMEOUT` (R482). An internal bus timeout or protocol error, which is an F2 of the target. -/
  | busTimeout (unit source transaction : Nat)
  /-- `MRAM_VERIFY_FAILURE` (R482). An MRAM write verify failure, an F1 after which the write is repeated. -/
  | mramVerifyFailure (addr attempts : Nat)
  /-- `DOMAIN_SUPPLY_FAULT` (R482). A domain supply fault, classed per R22 for every unit of the domain. -/
  | domainSupplyFault (domain rail : Nat)
  /-- `F1_HANDLING_COMPLETE` (R479). An F1 repeat or discard has completed plus 100 µs, and the slot returns to READY. -/
  | f1HandlingComplete (unit : Nat)
  /-- `F1_REPEAT_TIMEOUT` (R479). An F1 repeat has not completed within 1 ms and escalates to F2. -/
  | f1RepeatTimeout (unit : Nat)
  /-- `FENCE_COMPLETE` (R481). A fence completes: FENCE completions, logbook 0xC02, flush and V193. -/
  | fenceComplete (unit : Nat)
  /-- `UNIT_RECOVERY_END` (R481). A recovery self-test ends or times out at 100 ms, and the unit becomes READY or FENCED. -/
  | unitRecoveryEnd (unit : Nat) (passed : Bool)
  /-- `RESTART_RESET_RELEASE` (R488). Reset is released after the restart flush, and start, FENCE postings and DISCARDED responses follow. -/
  | restartResetRelease
  /-- `RECONCILIATION_PASS` (R492). The 10 ms comparison of hardware state against intent, with re-apply or escalation. -/
  | reconciliationPass (found : List Mismatch)
  /-- `LOG_FLUSH_TIMER` (R499). The 1 s flush of the logbook staging buffer to MRAM. -/
  | logFlushTimer
  /-- `LOG_TOKEN_REFILL` (R498). A refill period passes and a logbook code's bucket gains a token. -/
  | logTokenRefill (code : Nat)
  /-- `LOG_INFO` (R502). Command that returns the logbook state. -/
  | logInfo (src : Src)
  /-- `LOG_READ` (R504). SQ command that reads flushed logbook records. -/
  | logRead (src : Src)
  /-- `LOG_FLUSH` (R499). Command that flushes the staging buffer. -/
  | logFlush (src : Src)
  /-- `LOG_RATE_SET` (R498). Command that sets a code's refill period. -/
  | logRateSet (src : Src)
  /-- `LOG_CLEAR` (R503). MB1 command that clears the circulating area. -/
  | logClear (src : Src)
  /-- `FAULT_STATUS` (R491). Command that returns a unit's fault state. -/
  | faultStatus (src : Src)
  /-- `UNIT_RECOVER` (R487). Command that resets, reloads and self-tests a fenced unit. -/
  | unitRecover (src : Src)
  /-- `FAULT_INJECT` (R504). Command that injects a fault in MFG or PROVISION. -/
  | faultInject (src : Src)
  /-- `AUX_SUPPLY_PRESENT` (R17). P3V3_AUX appears and the PD0 service section starts. -/
  | auxSupplyPresent
  /-- `INSERTION_PRESENT` (R517). Both PRSNT_N contacts read low for 10 ms, PRSNT is set and the 12 V ramp starts. -/
  | insertionPresent
  /-- `POWER_GOOD` (R463). Main and auxiliary supplies are in range, and the start sequence runs. -/
  | powerGood (refSel : Bool) (refHz rampMv rampUs : Nat)
  /-- `INRUSH_FAULT` (R518). The 12 V ramp fails to regulate or the current limit acts for 5 ms, and the switch opens. -/
  | inrushFault (peakMa : Nat)
  /-- `INRUSH_RETRY` (R518). 1 s after an inrush fault, the ramp is tried again. -/
  | inrushRetry
  /-- `REMOVAL_REQUEST` (R520). REMOVE_REQ_N, HP_CTRL or a PRSNT_N event latches removal and starts drives-off and admission close. -/
  | removalRequest (source : RemovalSource)
  /-- `REMOVAL_INFLIGHT_END` (R521). In-flight frames have completed, or been discarded at 100 ms, and the drain begins. -/
  | removalInflightEnd
  /-- `REMOVAL_DRAIN_END` (R521). The drain ends; PD10 commits, domains switch off and SAFE_TO_REMOVE is set. -/
  | removalDrainEnd
  /-- `HP_CFG` (R529). Command that sets DRAIN. -/
  | hpCfg (src : Src)
  /-- `HP_RESUME` (R523). Command that returns to service without removal. -/
  | hpResume (src : Src)
  /-- `HP_RESUME_COMPLETE` (R523). Domains are restored after HP_RESUME and the final status is written. -/
  | hpResumeComplete
  /-- `THERMAL_THRESHOLD` (R543). A die temperature crosses 110 °C or 120 °C, or a tamper threshold, and the action is taken. -/
  | thermalThreshold (die : Nat) (deciC caseDeciC : Int)
  /-- `THERMAL_HOLD_END` (R543). Every sensor reads below 100 °C, and a thermal-cutoff restart continues. -/
  | thermalHoldEnd (temps : List Int)
  /-- `PERST_N_RELEASE` (R511). PERST_N deasserts, the PCIe function leaves reset and starts link training within 20 ms. -/
  | perstNRelease
  /-- `PCIE_LINK_UP` (R519). The PCIe link completes training and comes up, so configuration requests complete, SMP_STATUS shows link up and the credit supervision of R43 can arm. -/
  | pcieLinkUp (msixEnable : Bool)
  /-- `AETHENO_DELAY_RECEIVE` (R118). A DELAY_REQ or DELAY_RESP frame arrives on an Aetheno port; a request is answered, and a response completes the round-trip measurement that corrects TB11. -/
  | aethenoDelayReceive (f : AethDelay)
  /-- `LC_RECOVER_COMPLETE` (R449). The token check of an accepted LC_RECOVER ends; the latch is cleared, logbook 0xB23 is written, the final status follows and the module restarts in the same state. -/
  | lcRecoverComplete
  deriving DecidableEq, Repr

end Sys2Proof
end

