-- ==== Sys2Proof/Machine/Bits.lean ====
section
/-! DEFINITION. Little-endian fields, sign extension and bit sets: how a number lies in a request, a record or a
register (spec/00_scope.md, R9). -/

namespace Sys2Proof.Machine

/-- The number whose little-endian bytes are given (R9). -/
def leNat : Bytes → Nat
  | [] => 0
  | b :: r => b.toNat + 256 * leNat r

/-- The `n` little-endian bytes of `v` (R9); bits above them are dropped. -/
def leBytes : Nat → Nat → Bytes
  | 0, _ => []
  | n + 1, v => BitVec.ofNat 8 v :: leBytes n (v / 256)

/-- The `n` bytes of `v`, most significant first (the fields of IEEE 1588 and of TLS). -/
def beBytes (n v : Nat) : Bytes := (leBytes n v).reverse

/-- The number whose big-endian bytes are given (DER values and SMP offsets travel most significant byte first). -/
def beNat (b : Bytes) : Nat := leNat b.reverse

/-- The two's-complement value of the low `bits` bits of `v`. -/
def signed (bits v : Nat) : Int :=
  let m := v % 2 ^ bits
  if m < 2 ^ (bits - 1) then (m : Int) else (m : Int) - (2 ^ bits : Nat)

/-- The low `bits` bits of a signed number as an unsigned number. -/
def unsigned (bits : Nat) (i : Int) : Nat := (i % ((2 ^ bits : Nat) : Int)).toNat

/-- The `n` little-endian bytes of a signed number (R9). -/
def leInt (n : Nat) (i : Int) : Bytes := leBytes n (unsigned (8 * n) i)

/-- The unsigned field of `n` bytes at offset `off`; bytes beyond the end read as 0. -/
def fieldU (b : Bytes) (off n : Nat) : Nat := leNat ((b.drop off).take n)

/-- The signed field of `n` bytes at offset `off`. -/
def fieldS (b : Bytes) (off n : Nat) : Int := signed (8 * n) (fieldU b off n)

/-- The `n` bytes at offset `off`. -/
def fieldB (b : Bytes) (off n : Nat) : Bytes := (b.drop off).take n

/-- `b` cut to `n` bytes, or filled up with 0 bytes. -/
def padTo (n : Nat) (b : Bytes) : Bytes := b.take n ++ List.replicate (n - b.length) 0

/-- Bit `i` of a number. -/
def bitOf (v i : Nat) : Bool := v / 2 ^ i % 2 == 1

/-- `v` with bit `i` set. -/
def bitSet (v i : Nat) : Nat := if bitOf v i then v else v + 2 ^ i

/-- `v` with bit `i` clear. -/
def bitClear (v i : Nat) : Nat := if bitOf v i then v - 2 ^ i else v

/-- 1 for true, 0 for false. -/
def b2n (b : Bool) : Nat := if b then 1 else 0

/-- The number whose bit `i` is entry `i` of the list. -/
def ofBits : List Bool → Nat
  | [] => 0
  | b :: r => b2n b + 2 * ofBits r

/-- The number of 1 bits among the low `n` bits of `v`. -/
def popCount : Nat → Nat → Nat
  | 0, _ => 0
  | n + 1, v => v % 2 + popCount n (v / 2)

/-- `i` held between `lo` and `hi`. -/
def clampI (lo hi i : Int) : Int := if i < lo then lo else if hi < i then hi else i

/-- A counter that stops at its largest value. -/
def satAdd (max a b : Nat) : Nat := if max ≤ a + b then max else a + b

/-- Integer quotient rounded to nearest, halves away from zero. -/
def roundDiv (a : Int) (b : Nat) : Int :=
  if b = 0 then 0
  else if 0 ≤ a then ((2 * a.toNat + b) / (2 * b) : Nat) else -(((2 * (-a).toNat + b) / (2 * b) : Nat) : Int)

/-- The sum of a list of signed numbers. -/
def sumI : List Int → Int
  | [] => 0
  | a :: r => a + sumI r

/-- The sum of a list of counts. -/
def sumN : List Nat → Nat
  | [] => 0
  | a :: r => a + sumN r

/-- The list with entry `i` replaced; a list too short is unchanged. -/
def setAt {α : Type} : List α → Nat → α → List α
  | [], _, _ => []
  | _ :: r, 0, v => v :: r
  | a :: r, i + 1, v => a :: setAt r i v

/-- Entry `i` of a list of numbers; 0 beyond its end. -/
def nthN (l : List Nat) (i : Nat) : Nat := l.getD i 0

/-- Entry `i` of a list of signed numbers; 0 beyond its end. -/
def nthI (l : List Int) (i : Nat) : Int := l.getD i 0

/-- The smallest whole square root (Newton's rule would give the same): the largest r ≤ bound with r² ≤ v, by bisection
over `fuel` bits. -/
def isqrtFrom : Nat → Nat → Nat → Nat
  | 0, _, acc => acc
  | k + 1, v, acc => if (acc + 2 ^ k) * (acc + 2 ^ k) ≤ v then isqrtFrom k v (acc + 2 ^ k) else isqrtFrom k v acc

/-- The whole part of the square root of `v` (below 2^256). -/
def isqrt (v : Nat) : Nat := isqrtFrom 128 v 0

end Sys2Proof.Machine
end

