-- ==== Sys2Proof/Machine/Opcodes.lean ====
section
/-! DEFINITION. The command table: for each Nulvo command its opcode, the payload lengths it defines, the mailboxes and
queues it is permitted in, the largest response it can produce and the logbook code its chapter assigns to the change it
makes (R60, R72, R209 and the command tables of the chapters). -/

namespace Sys2Proof.Machine

/-- The payload lengths that a command defines (R60, step 1). -/
inductive Len where
  | exact (n : Nat)
  | between (lo hi : Nat)
  | among (l : List Nat)
  /-- `base` bytes and `step` more for each item; the item count is the field of `size` bytes at `off` -/
  | counted (base step off size : Nat)
  deriving DecidableEq, Repr

/-- The payload has a length that the command defines. -/
def lenOk : Len → Bytes → Bool
  | .exact n, p => p.length == n
  | .between lo hi, p => decide (lo ≤ p.length ∧ p.length ≤ hi)
  | .among l, p => l.contains p.length
  | .counted base step off size, p => decide (base ≤ p.length) && p.length == base + step * fieldU p off size

/-- One command of the table. -/
structure OpRow where
  op : Nat
  len : Len
  /-- permitted in MB4–MB63 -/
  general : Bool := false
  /-- permitted in a submission queue -/
  sq : Bool := false
  mb1 : Bool := false
  mb2 : Bool := false
  mb3 : Bool := false
  /-- largest response in bytes (R72) -/
  resp : Nat := 0
  /-- logbook code of the change, for the legal log (R209) -/
  legal : Nat := 0
  deriving DecidableEq, Repr

/-- The commands of chapter 01. -/
def opsPower : List OpRow :=
  [ { op := 0x0120, len := .exact 2, general := true, mb1 := true }  -- PD_SET
  , { op := 0x0121, len := .exact 0, general := true }  -- PD_STATUS
  , { op := 0x0122, len := .exact 3, general := true }  -- DRAM_ARB_SET
  , { op := 0x0123, len := .exact 1, general := true }  -- FABRIC_STATUS
  , { op := 0x0610, len := .exact 3, general := true }  -- PL_COUPLING_SET
  ]

/-- The commands of chapter 02. -/
def opsHost : List OpRow :=
  [ { op := 0x0D01, len := .exact 1, general := true, sq := true, resp := 16 }  -- Q_INFO
  , { op := 0x0D02, len := .exact 1, sq := true }  -- HQ_FLUSH
  , { op := 0x0D03, len := .exact 0, sq := true }  -- SQ_NOP
  , { op := 0x0D04, len := .exact 1, general := true }  -- INT_TEST
  ]

/-- The commands of chapter 03. -/
def opsTime : List OpRow :=
  [ { op := 0x0201, len := .exact 1, general := true, sq := true, resp := 42 }  -- TB_INFO
  , { op := 0x0202, len := .exact 11, general := true, mb1 := true }  -- TB_SET
  , { op := 0x0203, len := .exact 10, general := true, mb1 := true }  -- TB_STEP
  , { op := 0x0204, len := .exact 10, general := true, mb1 := true }  -- TB_LIMIT_SET
  , { op := 0x0205, len := .exact 5, general := true }  -- TB_SOURCE_SET
  , { op := 0x0206, len := .exact 11, mb1 := true, legal := 0x20A }  -- TB_UTC_OFFSET_SET
  , { op := 0x0207, len := .exact 1, general := true, mb1 := true, legal := 0x203 }  -- TB_DECLARE_LOST
  , { op := 0x0208, len := .exact 6, mb1 := true }  -- TB2_TRIM_SET
  , { op := 0x0209, len := .exact 5, general := true }  -- MS_TRIGGER_SET
  , { op := 0x020A, len := .exact 2, general := true, sq := true, resp := 2 }  -- MS_CAPTURE
  , { op := 0x020B, len := .exact 12, general := true }  -- MS_SCHEDULE
  , { op := 0x020C, len := .exact 12, general := true }  -- PTP_PORT_CFG
  , { op := 0x020D, len := .exact 5, general := true }  -- AETHENO_CFG
  ]

/-- The commands of chapter 04. -/
def opsMeter : List OpRow :=
  [ { op := 0x0301, len := .exact 1, general := true, sq := true, resp := 6 }  -- MET_INFO
  , { op := 0x0302, len := .exact 9, mb1 := true, legal := 0x302 }  -- MET_CHAN_CFG
  , { op := 0x0303, len := .exact 20, mb1 := true, legal := 0x302 }  -- MET_BIND
  , { op := 0x0304, len := .exact 13, mb1 := true, legal := 0x305 }  -- MET_CAL_SET
  , { op := 0x0305, len := .exact 2, general := true }  -- MET_CAL_GET
  , { op := 0x0306, len := .exact 6, mb1 := true, legal := 0x306 }  -- MET_REG_CFG
  , { op := 0x0307, len := .exact 1, general := true, sq := true, resp := 189 }  -- MET_READ
  , { op := 0x0308, len := .exact 1, general := true, sq := true, resp := 120 }  -- MET_INSTANT
  , { op := 0x0309, len := .exact 1, general := true }  -- MET_HARMONICS
  , { op := 0x030A, len := .exact 10, general := true }  -- MET_OUTPUT_CFG
  , { op := 0x030B, len := .exact 1, general := true }  -- MET_INTERVAL_SET
  , { op := 0x030C, len := .exact 13, mb1 := true }  -- MET_TPO_CFG
  , { op := 0x030D, len := .exact 4, mb1 := true }  -- MET_THRESH_SET
  , { op := 0x030E, len := .exact 11, general := true }  -- MET_CAPTURE
  , { op := 0x030F, len := .exact 2, general := true }  -- MET_CAPTURE_READ
  , { op := 0x0310, len := .exact 0, general := true }  -- HOLDUP_TEST
  , { op := 0x0311, len := .exact 1, general := true }  -- MET_OUTAGE_READ
  , { op := 0x0312, len := .exact 0, general := true }  -- MET_ROTATION
  ]

/-- The commands of chapter 05. -/
def opsTariff : List OpRow :=
  [ { op := 0x0401, len := .exact 1, general := true, sq := true, resp := 21 }  -- TAR_STATUS
  , { op := 0x0402, len := .counted 3 6 2 1, mb1 := true, legal := 0x404 }  -- TAR_DAY_SET
  , { op := 0x0403, len := .exact 9, mb1 := true, legal := 0x404 }  -- TAR_WEEK_SET
  , { op := 0x0404, len := .exact 5, mb1 := true, legal := 0x404 }  -- TAR_SEASON_SET
  , { op := 0x0405, len := .exact 7, mb1 := true, legal := 0x404 }  -- TAR_SPECIAL_SET
  , { op := 0x0406, len := .exact 18, mb1 := true, legal := 0x404 }  -- TAR_TABLE_SET
  , { op := 0x0407, len := .exact 10, mb1 := true, legal := 0x403 }  -- TAR_ACTIVATE
  , { op := 0x0408, len := .exact 2, mb1 := true, legal := 0x404 }  -- TAR_ASSIGN
  , { op := 0x0409, len := .exact 5, mb1 := true, legal := 0x405 }  -- BILL_REG_CFG
  , { op := 0x040A, len := .exact 1, mb1 := true, legal := 0x401 }  -- BILL_CLOSE
  , { op := 0x040B, len := .exact 2, general := true, sq := true, resp := 192 }  -- BILL_READ
  , { op := 0x040C, len := .exact 2, sq := true, resp := 1664 }  -- BILL_HISTORY_READ
  , { op := 0x040D, len := .exact 5, mb1 := true, legal := 0x406 }  -- DEM_CFG
  , { op := 0x040E, len := .exact 2, general := true, sq := true, resp := 600 }  -- DEM_READ
  , { op := 0x040F, len := .exact 95, mb1 := true, legal := 0x408 }  -- PREPAY_CFG
  , { op := 0x0410, len := .exact 13, mb1 := true, legal := 0x409 }  -- PREPAY_CREDIT
  , { op := 0x0411, len := .exact 2, mb1 := true, legal := 0x40B }  -- PREPAY_SWITCH
  , { op := 0x0412, len := .exact 1, general := true }  -- PREPAY_RECONNECT
  , { op := 0x0413, len := .exact 1, general := true, sq := true, resp := 15 }  -- PREPAY_STATUS
  , { op := 0x0414, len := .exact 1, general := true }  -- TAMPER_READ
  , { op := 0x0415, len := .exact 0, general := true }  -- LEGAL_CV_READ
  , { op := 0x0416, len := .exact 0, general := true }  -- LEGAL_CV_SHOW
  , { op := 0x0417, len := .counted 4 3 3 1, mb1 := true }  -- LEGAL_DISPLAY_CFG
  , { op := 0x0418, len := .exact 2, general := true, sq := true, resp := 130 }  -- LEGAL_LOG_READ
  , { op := 0x0419, len := .exact 0, mb1 := true, legal := 0x40F }  -- LEGAL_DECOMMISSION
  , { op := 0x041A, len := .exact 0, general := true }  -- LEGAL_STATUS
  ]

/-- The commands of chapter 06. -/
def opsCharge : List OpRow :=
  [ { op := 0x0501, len := .exact 41, general := true }  -- CP_CFG
  , { op := 0x0502, len := .exact 1, general := true, sq := true, resp := 47 }  -- CP_STATUS
  , { op := 0x0503, len := .exact 31, general := true }  -- CP_AUTHORISE
  , { op := 0x0504, len := .exact 3, general := true, sq := true, resp := 4 }  -- CP_LIMIT
  , { op := 0x0505, len := .exact 1, general := true, sq := true, resp := 1 }  -- CP_STOP
  , { op := 0x0506, len := .exact 2, general := true }  -- CP_AVAILABILITY
  , { op := 0x0507, len := .exact 1, general := true }  -- CP_RESET
  , { op := 0x0508, len := .exact 15, general := true }  -- CP_RCD_CFG
  , { op := 0x0509, len := .exact 16, general := true }  -- CP_IMD_CFG
  , { op := 0x050A, len := .exact 1, general := true, sq := true, resp := 200 }  -- CP_SESSION_READ
  , { op := 0x050B, len := .exact 1, general := true }  -- CP_SLAC_STATUS
  , { op := 0x050C, len := .exact 7, general := true }  -- CP_V2G_CFG
  , { op := 0x050D, len := .between 1 2049, sq := true, resp := 32 }  -- CP_TRUST_SET
  , { op := 0x050E, len := .exact 1, general := true }  -- CP_PILOT_READ
  , { op := 0x050F, len := .exact 3, general := true }  -- CP_RECORD_CFG
  ]

/-- The commands of chapter 07. -/
def opsLine : List OpRow :=
  [ { op := 0x0601, len := .exact 9, general := true }  -- PL_CFG
  , { op := 0x0602, len := .exact 20, general := true }  -- PL_NET_CFG
  , { op := 0x0603, len := .exact 1, general := true, sq := true, resp := 48 }  -- PL_STATUS
  , { op := 0x0604, len := .exact 3, sq := true, resp := 1000 }  -- PL_NBR_READ
  , { op := 0x0605, len := .exact 3, general := true, sq := true }  -- PL_NBR_DELETE
  , { op := 0x0606, len := .exact 5, general := true, sq := true, resp := 64 }  -- PL_TM_READ
  , { op := 0x0607, len := .exact 4, general := true }  -- PL_TM_REFRESH
  , { op := 0x0608, len := .counted 3 9 1 2, sq := true, resp := 2 }  -- PL_ROUTE_SET
  , { op := 0x0609, len := .exact 5, sq := true, resp := 1000 }  -- PL_ROUTE_READ
  , { op := 0x060A, len := .exact 1, general := true, sq := true, resp := 2 }  -- PL_ROUTE_FLUSH
  , { op := 0x060B, len := .between 5 1284, sq := true, resp := 14 }  -- PL_TX
  , { op := 0x060C, len := .counted 2 1 1 1, general := true }  -- PL_BEACON_SET
  ]

/-- The commands of chapter 08. -/
def opsRadio : List OpRow :=
  [ { op := 0x0701, len := .exact 30, general := true }  -- RF_CFG
  , { op := 0x0702, len := .exact 27, general := true }  -- RF_NET_CFG
  , { op := 0x0703, len := .exact 1, general := true, sq := true, resp := 52 }  -- RF_STATUS
  , { op := 0x0704, len := .exact 58, general := true, sq := true, resp := 2 }  -- RF_LINK_ADD
  , { op := 0x0705, len := .exact 26, general := true, sq := true, resp := 4 }  -- RF_LINK_UPDATE
  , { op := 0x0706, len := .exact 3, general := true, sq := true }  -- RF_LINK_REMOVE
  , { op := 0x0707, len := .exact 3, general := true, sq := true, resp := 120 }  -- RF_LINK_READ
  , { op := 0x0708, len := .between 12 2011, sq := true, resp := 11 }  -- RF_TX
  , { op := 0x0709, len := .exact 9, general := true, sq := true }  -- RF_DEV_DELETE
  ]

/-- The commands of chapter 09. -/
def opsIngest : List OpRow :=
  [ { op := 0x0801, len := .exact 1, general := true, sq := true, resp := 40 }  -- ING_STATUS
  , { op := 0x0802, len := .exact 5, general := true }  -- FIP_CFG
  , { op := 0x0803, len := .exact 65, general := true }  -- ING_STEER_SET
  , { op := 0x0804, len := .exact 6, general := true }  -- ING_PORT_CFG
  , { op := 0x0805, len := .counted 2 10 1 1, general := true }  -- ING_PARSE_SET
  , { op := 0x0806, len := .counted 3 1 2 1, general := true }  -- ING_ACK_TEMPLATE
  , { op := 0x0807, len := .exact 133, general := true, sq := true, resp := 1 }  -- CTX_WRITE
  , { op := 0x0808, len := .exact 4, general := true, sq := true, resp := 256 }  -- CTX_READ
  , { op := 0x0809, len := .exact 4, general := true, sq := true, resp := 1 }  -- CTX_DELETE
  , { op := 0x080A, len := .exact 5, general := true, sq := true, resp := 4 }  -- JT_INVALIDATE
  , { op := 0x080B, len := .exact 5, sq := true, resp := 1000 }  -- JT_READ
  , { op := 0x080C, len := .between 1 2048, sq := true, resp := 5 }  -- ING_SUBMIT
  , { op := 0x080D, len := .exact 29, general := true }  -- DX_PEER_CFG
  , { op := 0x080E, len := .exact 30, general := true }  -- DX_UPLINK_CFG
  , { op := 0x080F, len := .exact 7, general := true }  -- SMB_CFG
  , { op := 0x0810, len := .between 2 513, sq := true, resp := 10 }  -- SMB_TX
  ]

/-- The commands of chapter 10. -/
def opsLane : List OpRow :=
  [ { op := 0x0920, len := .exact 1, general := true, sq := true, resp := 19 }  -- CL_STATUS
  , { op := 0x0921, len := .exact 1, general := true }  -- CL_TEST
  , { op := 0x0922, len := .exact 2, general := true }  -- CL_BORROW_CFG
  , { op := 0x0923, len := .exact 1, general := true }  -- KEYGEN_STATUS
  , { op := 0x0924, len := .exact 5, mb2 := true }  -- KEY_GRACE_SET
  , { op := 0x0925, len := .exact 1, general := true, sq := true, resp := 40 }  -- SESS_STATUS
  , { op := 0x0926, len := .exact 1, general := true }  -- SESS_CLEAR
  ]

/-- The commands of chapter 11. -/
def opsBalance : List OpRow :=
  [ { op := 0x0A01, len := .exact 40, general := true }  -- BAL_GROUP_CFG
  , { op := 0x0A02, len := .exact 43, sq := true, resp := 1 }  -- BAL_FEED
  , { op := 0x0A03, len := .exact 4, general := true, sq := true, resp := 72 }  -- BAL_STATUS
  , { op := 0x0A04, len := .exact 4, general := true, sq := true, resp := 9 }  -- BAL_CLOSE
  , { op := 0x0A05, len := .exact 4, sq := true, resp := 1000 }  -- BAL_HISTORY_READ
  , { op := 0x0A06, len := .exact 11, general := true }  -- PHASE_CFG
  , { op := 0x0A07, len := .exact 4, general := true, sq := true, resp := 400 }  -- PHASE_READ
  , { op := 0x0A08, len := .exact 4, general := true, sq := true }  -- PHASE_RESET
  , { op := 0x0A09, len := .exact 1, general := true }  -- BAL_OUTPUT_CFG
  ]

/-- The commands of chapter 12. -/
def opsKey : List OpRow :=
  [ { op := 0x0901, len := .exact 140, mb2 := true }  -- OMK_LOAD
  , { op := 0x0902, len := .exact 4, mb2 := true }  -- OMK_VERIFY
  , { op := 0x0903, len := .exact 1, mb2 := true }  -- OMK_COMMIT
  , { op := 0x0904, len := .exact 1, mb2 := true }  -- OMK_REVOKE
  , { op := 0x0906, len := .among [126, 142, 158], mb2 := true }  -- KEY_IMPORT
  , { op := 0x0907, len := .exact 3, mb2 := true }  -- KEY_GENERATE
  , { op := 0x0908, len := .exact 1, mb2 := true }  -- KEY_ERASE
  , { op := 0x0909, len := .exact 1, general := true, sq := true, resp := 99 }  -- KEY_INFO
  , { op := 0x090A, len := .exact 0, general := true }  -- DIK_READ
  , { op := 0x090B, len := .exact 138, general := true, mb1 := true, mb2 := true, mb3 := true, legal := 0x90A }  -- KEY_AUTH_SET
  , { op := 0x090C, len := .exact 1, mb1 := true, mb2 := true, mb3 := true, legal := 0x90A }  -- KEY_AUTH_ROTATE
  , { op := 0x090D, len := .exact 21, mb3 := true }  -- TMP_CFG
  , { op := 0x090E, len := .exact 0, general := true }  -- TMP_STATUS
  , { op := 0x090F, len := .exact 0, general := true }  -- SEC_STATUS
  , { op := 0x0B20, len := .exact 0, general := true }  -- LC_STATUS
  , { op := 0x0B21, len := .among [1, 209, 257, 465], general := true, mb3 := true }  -- LC_ADVANCE
  , { op := 0x0B22, len := .exact 0, general := true }  -- LC_NEXT_DIK
  , { op := 0x0B23, len := .among [256, 464], general := true }  -- LC_RECOVER
  , { op := 0x0B24, len := .exact 256, general := true }  -- LC_DEBUG_OPEN
  ]

/-- The commands of chapter 13. -/
def opsFirmware : List OpRow :=
  [ { op := 0x0B01, len := .exact 0, general := true, sq := true, resp := 209 }  -- FW_STATUS
  , { op := 0x0B02, len := .exact 141, general := true }  -- FW_STAGE_OPEN
  , { op := 0x0B03, len := .between 5 65535, general := true, sq := true, resp := 4 }  -- FW_STAGE_WRITE
  , { op := 0x0B04, len := .exact 0, general := true }  -- FW_STAGE_CLOSE
  , { op := 0x0B05, len := .exact 0, general := true }  -- FW_STAGE_ABORT
  , { op := 0x0B06, len := .exact 1, general := true }  -- ACTIVATE
  , { op := 0x0B07, len := .exact 10, general := true }  -- ACTIVATE_AT
  , { op := 0x0B08, len := .exact 0, general := true }  -- FW_CONFIRM
  , { op := 0x0B0A, len := .exact 48, mb3 := true }  -- FW_OPKEY_SET
  , { op := 0x041B, len := .exact 1, mb1 := true, legal := 0xB0A }  -- ACTIVATE_LEGAL
  ]

/-- The commands of chapter 14. -/
def opsLog : List OpRow :=
  [ { op := 0x0C01, len := .exact 0, general := true, sq := true, resp := 18 }  -- LOG_INFO
  , { op := 0x0C02, len := .exact 6, sq := true, resp := 1000 }  -- LOG_READ
  , { op := 0x0C03, len := .exact 0, general := true, sq := true, resp := 2 }  -- LOG_FLUSH
  , { op := 0x0C04, len := .exact 6, general := true }  -- LOG_RATE_SET
  , { op := 0x0C05, len := .exact 0, mb1 := true, legal := 0xC07 }  -- LOG_CLEAR
  , { op := 0x0C06, len := .exact 1, general := true, sq := true, resp := 14 }  -- FAULT_STATUS
  , { op := 0x0C07, len := .exact 1, general := true, mb1 := true, legal := 0xC06 }  -- UNIT_RECOVER
  , { op := 0x0C08, len := .exact 4, general := true }  -- FAULT_INJECT
  ]

/-- The commands of chapter 15. -/
def opsPlug : List OpRow :=
  [ { op := 0x0130, len := .exact 2, general := true }  -- HP_CFG
  , { op := 0x0131, len := .exact 0, general := true }  -- HP_RESUME
  ]

/-- Every command of the table. -/
def opRows : List OpRow :=
  opsPower ++ opsHost ++ opsTime ++ opsMeter ++ opsTariff ++ opsCharge ++ opsLine ++ opsRadio ++ opsIngest ++ opsLane ++ opsBalance ++ opsKey ++ opsFirmware ++ opsLog ++ opsPlug

/-- The row of an opcode in a list of rows. -/
def findOp (op : Nat) : List OpRow → Option OpRow
  | [] => none
  | r :: rs => if r.op = op then some r else findOp op rs

/-- The command that an opcode names; reserved and unknown opcodes name none (R60, step 2). -/
def opRow (op : Nat) : Option OpRow := findOp op opRows

end Sys2Proof.Machine
end

