-- ==== Sys2Proof/Config.lean ====
section
/-! DEFINITION. What one module fixes (fuse and factory values, calibration) and what the spec leaves open or defines by
a published standard: uninterpreted constants, each with no body, so that no proof can rest on a value of one.
A cryptographic function of a standard the spec names is uninterpreted too (assumption log 1); a free value is the
constant applied to a counter of the state (assumption log 2). -/

namespace Sys2Proof.Config

/-- Free value number `k`: a value that the spec leaves open. -/
opaque freeNat : Nat → Nat

/-- Byte `i` of random draw `k` of the CTR_DRBG (R453). -/
opaque drbg : Nat → Nat → Byte

/-- Fuse value UID (R48, R423). -/
opaque uid : BitVec 128

/-- Fuse value GRADE: true for DX1872-N0 (R48). -/
opaque gradeN0 : Bool

/-- Root `k` (0 MFG, 1 PROVISION, 2 FIELD, 3 RMA) of the roots drawn with draw number `d` (R423, R424). -/
opaque root : Nat → Nat → Bytes

/-- What the 16 bits of ROOT_CRC for root `k` of draw number `d` read as at start number `n` (R423, R424): they were blown as the CRC-16 of the
root, and a fuse can have failed since. -/
opaque rootCrc : (d k n : Nat) → BitVec 16

/-- Bit `c` of the LFSR stream that TMESH_OUTn drives under a seed, by crystal tick (R446): the spec gives neither the polynomial nor how the seed
is drawn. -/
opaque meshBit : (seed n c : Nat) → Bool

/-- T0 in 0.01 °C and k in 0.01 ppb/°C² of the crystal, from the OTP of the analog die (R116). -/
opaque crystalT0 : Int
opaque crystalK : Nat

/-- Lane `l` passes its power-up test at start number `n` (R364). -/
opaque laneTestOk : (n l : Nat) → Bool

/-- CMAC-AES-256 and CMAC-AES-128 of a message under a key (R58, R441). -/
opaque cmac256 : Bytes → Bytes → Bytes
opaque cmac128 : Bytes → Bytes → Bytes

/-- SHA-256 and SHA-384. -/
opaque sha256 : Bytes → Bytes
opaque sha384 : Bytes → Bytes

/-- The first `n` bytes of the AES-256-CTR pad of record `idx` under a store key (R434). -/
opaque storePad : Bytes → Nat → Nat → Bytes

/-- AES-128/256-GCM: seal gives ciphertext and tag, open gives the plaintext or nothing (R370). -/
opaque gcmSeal : (key iv aad plain : Bytes) → Bytes × Bytes
opaque gcmOpen : (key iv aad cipher tag : Bytes) → Option Bytes

/-- AES-128-CCM* open of a link frame: the plaintext, or nothing when the MIC is wrong (R254, R299). -/
opaque ccmOpen : (key nonce payload : Bytes) → (mic : Nat) → Option Bytes

/-- AES-128-CCM* seal of a link frame: ciphertext and MIC (R254, R299). -/
opaque ccmSeal : (key nonce payload : Bytes) → Bytes × Nat

/-- HKDF-Expand-Label over HMAC-SHA-256 with an empty context: secret, label, length (R388). -/
opaque hkdfLabel : (secret : Bytes) → (label : String) → (len : Nat) → Bytes

/-- The unified header of a DTLS 1.3 record, its sequence number bits encrypted under the record number key, and the full
sequence number that a record's header gives, nearest to the highest received (R388, R389; RFC 9147). -/
opaque dtlsHeader : (sn : Bytes) → (epoch seq len : Nat) → (cipher : Bytes) → Bytes
opaque dtlsSeq : (sn : Bytes) → (highest : Nat) → (record : Bytes) → Nat

/-- Header length of a received DTLS record (RFC 9147). -/
opaque dtlsHeaderLen : (record : Bytes) → Nat

/-- RFC 3394 key unwrap and wrap under a key-encryption key (R431, R461). -/
opaque unwrap : (kek wrapped : Bytes) → Option Bytes
opaque wrap : (kek key : Bytes) → Bytes

/-- ECDH shared secret of a private scalar and a public point; nothing when the point is not on the curve (R451). -/
opaque ecdh : (priv point : Bytes) → Option Bytes

/-- Public key of a P-256 (3) or P-384 (4) private key (R445). -/
opaque ecPublic : (typ : Nat) → (priv : Bytes) → Bytes

/-- ECDSA signature and verification over a digest (R430, R433, R451). -/
opaque ecdsaSign : (priv digest : Bytes) → Bytes
opaque ecdsaVerify : (pub digest sig : Bytes) → Bool

/-- The SHA-384 digest of Yarnogan key `i` in the boot ROM (R430). -/
opaque yarnoganKey : Nat → Bytes

/-! ### Images -/

/-- The legal partition installed from an image of LEGAL_API `inForce` serves code that needs LEGAL_API `need`: the spec states no
relation of the two numbers (assumption log 28). -/
opaque legalApiServed : (need inForce : Nat) → Bool

/-- Legal segments of LEGAL_FMT `new` can read registers of format `old` (assumption log 28). -/
opaque legalFmtReads : (new old : Nat) → Bool

/-! ### Metrology -/

/-- Where a quotient `num / den` is not whole, whether it is rounded up: the spec states no rounding (assumption log 18). -/
opaque roundUp : Int → Nat → Bool

/-- A quotient by 0, of its dividend: the spec states no result (assumption log 18). -/
opaque divByZero : Int → Int

/-- Factory terms of the analog OTP (R134, R135): gain_fac, off_fac and ph_fac of a channel at a gain exponent, ph_path of
a path at a gain exponent, and ref_otp of a gain exponent in 2^-8 code. -/
opaque gainFac : Nat → Nat → Nat
opaque offFac : Nat → Nat → Int
opaque phFac : Nat → Nat → Int
opaque phPath : Nat → Nat → Int
opaque refOtp : Nat → Nat

/-- The CRC-32 of the analog OTP is correct at PD10 start number `n` (R136). -/
opaque otpCrcOk : Nat → Bool

/-- Sample `i` of the fractional-delay filter (R134) and of the Hilbert filter (R143) over a run of samples; the first
argument is the number of its first sample, which stands for the samples before it (assumption log 18). -/
opaque fracDelay : (history : Nat) → (delay : Int) → List Int → Nat → Int
opaque hilbert : (history : Nat) → List Int → Nat → Int

/-- Point `k` of `m` of a window resampled by cubic interpolation, in 2^-32 of the samples' unit (R146): the spec does not say which
cubic (assumption log 18). -/
opaque resample : (samples : List Int) → (m k : Nat) → Int

/-- The Hann window has its period over all its samples, rather than over one fewer (R147, assumption log 18). -/
opaque hannPeriodic : Bool

/-- Hash of the subject of a DER certificate (CP_TRUST_SET). -/
opaque subjectHash : Bytes → Bytes

/-- Parts of a DER certificate (R238): subject public key, signed part, signature, and whether its curve is P-384; nothing for a curve that is
not supported (R237). X.509 is a published standard that the spec names and does not restate. -/
opaque certKey : Bytes → Bytes
opaque certSigned : Bytes → Bytes
opaque certSignature : Bytes → Bytes
opaque certP384 : Bytes → Option Bool

/-- The contract identifier of a contract certificate (R238). -/
opaque contractId : Bytes → Bytes

/-- The text of an ISO 15118 message (R237): what it answers, whether it says finished, MeterInfo in Wh and the time value. -/
opaque v2gText : (kind : Nat) → (finished : Bool) → (meterWh : Int) → (time : BitVec 72) → Bytes

/-! ### Powerline -/

/-- Payload symbols that the profile's encoding gives for a frame of so many bytes under a map: band, modulation, coherent
form, carriers used (R267). The profiles are published standards that the spec names and does not restate. -/
opaque plSymbols : (band mod : Nat) → (coherent : Bool) → (carriers bytes : Nat) → Nat

/-- The hops-left value that the profile gives a frame the module originates (R276). -/
opaque plHops : Nat

/-- The largest payload of a MAC frame of the profile, less one byte (R248). -/
opaque plMacMore : Nat

/-- The acknowledgement slots of a link transmitter beyond the first (R34): the spec gives no number. -/
opaque moreAckSlots : Nat

/-- Airtime in µs of a frame of so many payload bytes in a PHY mode and rate (R292): the PHY headers are those of a published
standard that the spec names and does not restate. -/
opaque rfAirtimeUs : (phy rate bytes : Nat) → Nat

/-- The acknowledgement wait of a PHY mode and rate, µs (R306), which that standard gives. -/
opaque rfAckWaitUs : (phy rate : Nat) → Nat

/-- The index of the analog die among the dies with a temperature sensor (R543): the spec does not number them. -/
opaque analogDie : Nat

end Sys2Proof.Config
end

