-- ==== Sys2Proof/Machine/Crc.lean ====
section
/-! DEFINITION. The check codes the spec names: CRC-16 of a queue cell (R64), CRC-8 of an SMP frame (R78), CRC-32 of a
logbook record and of MRAM records (R494, R153). -/

namespace Sys2Proof.Machine

/-- One shift of the CRC-16 register: polynomial 0x1021, no reflection (R64). -/
def crc16Bit (c : BitVec 16) : BitVec 16 := if c.msb then (c <<< 1) ^^^ 0x1021#16 else c <<< 1

def crc16Shift : Nat → BitVec 16 → BitVec 16
  | 0, c => c
  | n + 1, c => crc16Shift n (crc16Bit c)

def crc16From : BitVec 16 → Bytes → BitVec 16
  | c, [] => c
  | c, b :: r => crc16From (crc16Shift 8 (c ^^^ ((b.zeroExtend 16) <<< 8))) r

/-- CRC-16 with polynomial 0x1021, initial value 0xFFFF, no reflection and no final XOR (R64). -/
def crc16 (b : Bytes) : BitVec 16 := crc16From 0xFFFF#16 b

def crc8Bit (c : BitVec 8) : BitVec 8 := if c.msb then (c <<< 1) ^^^ 0x07#8 else c <<< 1

def crc8Shift : Nat → BitVec 8 → BitVec 8
  | 0, c => c
  | n + 1, c => crc8Shift n (crc8Bit c)

def crc8From : BitVec 8 → Bytes → BitVec 8
  | c, [] => c
  | c, b :: r => crc8From (crc8Shift 8 (c ^^^ b)) r

/-- CRC-8 with polynomial 0x07 and initial value 0 (R78). -/
def crc8 (b : Bytes) : BitVec 8 := crc8From 0#8 b

def crc32Bit (c : BitVec 32) : BitVec 32 := if c.getLsbD 0 then (c >>> 1) ^^^ 0xEDB88320#32 else c >>> 1

def crc32Shift : Nat → BitVec 32 → BitVec 32
  | 0, c => c
  | n + 1, c => crc32Shift n (crc32Bit c)

def crc32From : BitVec 32 → Bytes → BitVec 32
  | c, [] => c
  | c, b :: r => crc32From (crc32Shift 8 (c ^^^ (b.zeroExtend 32))) r

/-- CRC-32 with the IEEE 802.3 polynomial (R494): reflected, initial value and final XOR of all ones. -/
def crc32 (b : Bytes) : BitVec 32 := crc32From 0xFFFFFFFF#32 b ^^^ 0xFFFFFFFF#32

end Sys2Proof.Machine
end

