-- ==== Sys2Proof/Machine/Tab.lean ====
section
/-! DEFINITION. A table indexed by a number, held as the list of the entries that differ from a default, in rising
order of the index; and byte memory in the same form. -/

namespace Sys2Proof.Machine

/-- The entries of a table that differ from its default, in rising order of the index. -/
abbrev Tab (α : Type) := List (Nat × α)

/-- Entry `i`: the listed value, or the default `d`. -/
def look {α : Type} (d : α) : Tab α → Nat → α
  | [], _ => d
  | (k, v) :: r, i => if k = i then v else look d r i

/-- The table without entry `i`. -/
def dropKey {α : Type} : Tab α → Nat → Tab α
  | [], _ => []
  | (k, v) :: r, i => if k = i then r else (k, v) :: dropKey r i

/-- The table with entry `i` listed as `v`, in its place in the order. -/
def insertKey {α : Type} : Tab α → Nat → α → Tab α
  | [], i, v => [(i, v)]
  | (k, w) :: r, i, v =>
    if i < k then (i, v) :: (k, w) :: r
    else if k = i then (i, v) :: r
    else (k, w) :: insertKey r i v

/-- The table with entry `i` equal to `v`; a value equal to the default `d` is not listed. -/
def put {α : Type} [DecidableEq α] (d : α) (t : Tab α) (i : Nat) (v : α) : Tab α :=
  if v = d then dropKey t i else insertKey t i v

/-- The canonical form: every listed index is above `lo`, indices rise strictly, and no entry equals the default. -/
def wfFrom {α : Type} [DecidableEq α] (d : α) : Nat → Tab α → Bool
  | _, [] => true
  | lo, (k, v) :: r => decide (lo ≤ k) && decide (v ≠ d) && wfFrom d (k + 1) r

def tabWf {α : Type} [DecidableEq α] (d : α) (t : Tab α) : Bool := wfFrom d 0 t

/-- Byte memory: the bytes that differ from 0, in rising order of the address. -/
abbrev Memory := List Host.Cell

/-- The byte at `a`. An unlisted address reads as 0 (DESIGN CHOICE: the spec gives buffers no reset contents). -/
def Memory.read (m : Memory) (a : Nat) : Byte := look 0#8 m a

def Memory.write (m : Memory) (a : Nat) (b : Byte) : Memory := put 0#8 m a b

/-- The canonical form of a memory. -/
def Memory.wf (m : Memory) : Bool := tabWf 0#8 m

/-- The `n` bytes from address `a`. -/
def readBytes (m : Memory) (a : Nat) : Nat → Bytes
  | 0 => []
  | n + 1 => Memory.read m a :: readBytes m (a + 1) n

/-- `m` with the bytes written from address `a` on. -/
def writeBytes (m : Memory) (a : Nat) : Bytes → Memory
  | [] => m
  | b :: r => writeBytes (Memory.write m a b) (a + 1) r

end Sys2Proof.Machine
end

