-- ==== Sys2Proof/Machine/StateBalance.lean ====
section
/-! DEFINITION. Balance groups, their intervals, and phase identification (spec/11_validation_balance.md, R404–R422). -/

namespace Sys2Proof.Machine

/-- An open interval of a group (R410). -/
structure BalInterval where
  /-- s_i, TB2 seconds -/
  start : Nat := 0
  /-- R409; 72; reset 0: FEED in 2^-32 µWh, and FEED_SEEN -/
  feed : Int := 0
  feedSeen : Bool := false
  /-- R409; 72; reset 0: I2T in 2^-32 µA²h -/
  i2t : Nat := 0
  /-- 72; reset 0: MET µWh -/
  met : Int := 0
  /-- 72; reset 0: EST µWh -/
  est : Int := 0
  /-- 64; reset 0: RATE_IN W -/
  rateIn : Int := 0
  /-- 64; reset 0: PEND W·s -/
  pend : Int := 0
  /-- 32; reset 0: COVERED -/
  covered : Nat := 0
  /-- per-phase voltage sums (mV × weight) and their weight -/
  volts : List Nat := [0, 0, 0]
  weight : Nat := 0
  /-- flags: POWER_FAIL, MEMBERSHIP, CLKSTEP, and TB2 not VALID during the interval -/
  powerFail : Bool := false
  membership : Bool := false
  clkStep : Bool := false
  untrusted : Bool := false
  deriving DecidableEq, Repr

/-- A BALANCE record of the closed ring (R408, R416). -/
structure BalClosed where
  payload : Bytes := []
  /-- the record header that goes before it -/
  header : Bytes := []
  emitted : Bool := false
  /-- R416; the model's own: number of the close, for the order of emission -/
  order : Nat := 0
  deriving DecidableEq, Repr

/-- The mean phase voltages of an interval (R408, R417). -/
structure BalVolts where
  /-- e_i -/
  end_ : Nat := 0
  /-- 0.1 V per phase -/
  u : List Nat := [0, 0, 0]
  deriving DecidableEq, Repr

/-- A balance group (R408, R409). -/
structure BalGroup where
  /-- R409; 1; reset 0: enabled -/
  enable : Bool := false
  /-- R409; 5; reset 0: metering point of a local group -/
  mp : Nat := 0
  /-- R409; 16; reset 15: LEN -/
  len : Nat := 15
  /-- R409; 32; reset 3,600 (4 × LEN): DEADLINE -/
  deadline : Nat := 3600
  /-- R409; 16; reset 990: COVER -/
  cover : Nat := 990
  /-- R409; 32; reset 0: R_CU -/
  rCu : Nat := 0
  /-- R409; 32; reset 0: P_FE -/
  pFe : Nat := 0
  /-- R409; 32; reset 500: FLOOR -/
  floor : Nat := 500
  /-- R409; 16; reset 300: REL -/
  rel : Nat := 300
  /-- R409; 16; reset 500: EST_MAX -/
  estMax : Nat := 500
  /-- R409; 16; reset 2,300: U_NOM -/
  uNom : Nat := 2300
  /-- R409; 16 × 3; reset 0, 21,845, 43,691: PH_REF -/
  phRef : List Nat := [0, 21845, 43691]
  /-- R409; 16; reset 2,731: ZC_TOL -/
  zcTol : Nat := 2731
  /-- R408; 32; reset 0: MEMBERS -/
  members : Nat := 0
  /-- R408; 64; reset 0: RATE_SUM -/
  rateSum : Int := 0
  /-- R410; 8; reset none: open intervals, oldest first -/
  opens : List BalInterval := []
  /-- R410, R414; reset 0: greatest start up to which no further interval opens -/
  last : Nat := 0
  /-- R408; 16; reset none: closed ring, oldest first -/
  ring : List BalClosed := []
  /-- R408; 96; reset none: voltage ring, newest first -/
  volts : List BalVolts := []
  /-- R408; 48; reset 0: unplaced energy since the last record -/
  unplaced : Int := 0
  /-- R408; 32; reset 0: records dropped -/
  dropped : Nat := 0
  /-- R416; 32; reset 0: BALANCE count -/
  count : Nat := 0
  deriving DecidableEq, Repr

/-- The sums of one phase (R417). -/
structure PhaseSums where
  sy : Int := 0
  syy : Nat := 0
  sxy : Int := 0
  deriving DecidableEq, Repr

/-- A phase entry (R417–R420). -/
structure PhaseEntry where
  /-- R417; 32; reset 0: n -/
  n : Nat := 0
  /-- R417; 64 each; reset 0: sx, sxx -/
  sx : Int := 0
  sxx : Nat := 0
  /-- R417; 3 × 3 × 64; reset 0: sy, syy, sxy of L1–L3 -/
  s1 : PhaseSums := {}
  s2 : PhaseSums := {}
  s3 : PhaseSums := {}
  /-- R418; 4 × 16; reset 0: votes for L1, L2, L3, NONE -/
  votes : List Nat := [0, 0, 0, 0]
  /-- R419; 2; reset 0: decided phase -/
  phase : Nat := 0
  /-- R420; 2; reset 0: previous decided phase -/
  previous : Nat := 0
  /-- R419; 2; reset 0: basis -/
  basis : Nat := 0
  /-- R419; 2; reset 0: topology cause, 0 when not suspect -/
  topo : Nat := 0
  /-- R420; 1; reset 0: MISMATCH -/
  mismatch : Bool := false
  /-- R420; 1; reset 0: the decided phase changed and no record has said so -/
  updated : Bool := false
  /-- R420; reset none: record that waits for a reservation -/
  pending : Option Bytes := none
  deriving DecidableEq, Repr

/-- Balance and phase identification (chapter 11). -/
structure BalancePart where
  /-- R407; RB0–RB65535 at their index, LB0–LB31 at 65,536 and up; reset as the group -/
  groups : Tab BalGroup := []
  /-- R407, R417; 2,097,152 phase entries; reset 0 -/
  phases : Tab PhaseEntry := []
  /-- R419; 16; reset 96: N_MIN -/
  nMin : Nat := 96
  /-- R419; 16; reset 1,344: N_HALF -/
  nHalf : Nat := 1344
  /-- R419; 16; reset 800: R_MIN, 0.001 -/
  rMin : Nat := 800
  /-- R419; 16; reset 100: R_MARGIN, 0.001 -/
  rMargin : Nat := 100
  /-- R419; 16; reset 500: R_TOPO, 0.001 -/
  rTopo : Nat := 500
  /-- R419; 8; reset 8: ZC_MIN -/
  zcMin : Nat := 8
  /-- R416; the model's own: closes so far -/
  closes : Nat := 0
  /-- R416; 8; reset none (DESIGN CHOICE 26): output queue -/
  outHq : Option Nat := none
  deriving DecidableEq, Repr

end Sys2Proof.Machine
end

