-- ==== Sys2Proof/Machine/StateCharge.lean ====
section
/-! DEFINITION. The charge points' part of the state (spec/06_charge_points.md, R214–R246). -/

namespace Sys2Proof.Machine

/-- The states of the sequencer (R223). -/
inductive CpState where
  | off
  | idle
  | plugged
  | offered
  | closing
  | energised
  | stopping
  | opening
  | fault
  | unavailable
  deriving DecidableEq, Repr

/-- The pilot states (R219). -/
inductive Pilot where
  | a
  | b
  | c
  | d
  | e
  | diode
  | invalid
  deriving DecidableEq, Repr

/-- The proximity decode (R220). -/
inductive Cable where
  | short
  | r100
  | r220
  | r680
  | r1500
  | invalid
  | none
  deriving DecidableEq, Repr

/-- The configuration of CP_CFG (R214–R230). -/
structure CpCfg where
  /-- R216; 0 AC, 1 DC (DESIGN CHOICE 23); reset 0 -/
  dc : Bool := false
  /-- R216; 0 basic, 1 digital (DESIGN CHOICE 23); reset 0 -/
  digital : Bool := false
  /-- R238; reset 0 -/
  authAuto : Bool := false
  /-- R214; 255 for none; reset 255 -/
  ctdA : Nat := 255
  ctdB : Nat := 255
  cfbA : Nat := 255
  cfbB : Nat := 255
  /-- R226; ms; reset 100 -/
  tfb : Nat := 100
  /-- R226; ms; reset 200 -/
  pullIn : Nat := 200
  /-- R226; percent; reset 100 -/
  hold : Nat := 100
  /-- R214; reset 0 -/
  mp : Nat := 0
  reg : Nat := 0
  /-- R221; 0.1 A; reset 0 -/
  hwLimit : Nat := 0
  /-- R220; 1: socket outlet; reset 0 -/
  socket : Bool := false
  /-- R220; 0.1 A; reset 0 -/
  cableLimit : Nat := 0
  /-- R218; µV per code and mV; reset 0 -/
  pilotGain : Int := 0
  pilotOffset : Int := 0
  /-- R220; reset 0 -/
  ppGain : Nat := 0
  ppVref : Nat := 0
  ppRpu : Nat := 0
  /-- R222; reset 0 -/
  ventOk : Bool := false
  /-- R229; reset 0 -/
  rcdEn : Bool := false
  deriving DecidableEq, Repr

/-- An open session (R240). -/
structure Session where
  id : Nat := 0
  plugTb2 : Time := 0
  firstTb2 : Time := 0
  start : Option Int := none
  stop : Option Int := none
  closures : Nat := 0
  method : Nat := 0
  identifier : Bytes := []
  /-- TB2 was not VALID at a time stamp of the session -/
  untrusted : Bool := false
  /-- a calibration alarm was raised during the session -/
  calAlarm : Bool := false
  /-- the last delivery was ended by CP_STOP, a limit of 0 or Nulvo -/
  stopped : Bool := false
  /-- R240, R244: end cause waiting for the end of the tick, or for the first tick end after the restore -/
  ending : Option Nat := none
  deriving DecidableEq, Repr

/-- The residual self-test (R230). -/
inductive SelfTest where
  | none
  | running
  | passed
  deriving DecidableEq, Repr

/-- One charge point. -/
structure ChargePoint where
  /-- R223; reset OFF -/
  state : CpState := .off
  /-- R217; 0.1 %; reset 0: duty in force at CPDRVn, 1,000 constant high, 0 constant low -/
  duty : Nat := 0
  cfg : CpCfg := {}
  /-- R219; reset A (DESIGN CHOICE 23): accepted pilot state -/
  pilot : Pilot := .a
  /-- R219; reset 0: consecutive periods of the candidate -/
  candidate : Pilot := .a
  agreed : Nat := 0
  /-- R218; reset 0: last plateaus, mV, newest first, at most 16 -/
  plateaus : List (Int × Int) := []
  /-- R220; reset none: accepted decode, candidate, windows -/
  cable : Cable := .none
  cableSeen : Cable := .none
  cableCount : Nat := 0
  /-- CP_STATUS; reset 0: last rp, ohms -/
  rp : Nat := 0
  /-- R221; 0.1 A; reset 0 (DESIGN CHOICE 23): host limit -/
  limit : Nat := 0
  /-- R238; 1; reset 0 -/
  authorised : Bool := false
  /-- R238; 1; reset 0: a host decision is awaited -/
  authPending : Bool := false
  /-- R222; 1; reset 0: Nulvo has requested energy -/
  requested : Bool := false
  /-- R223; 1; reset 0: unavailability has been requested -/
  unavail : Bool := false
  /-- R223; 1; reset 0: CLOSING energises the drives at the end of the tick -/
  closePending : Bool := false
  /-- R223; 1; reset 0: the stop snapshot is due at the end of the tick -/
  stopPending : Bool := false
  /-- R240; reset none: open session -/
  session : Option Session := none
  /-- R223; 8; reset 0: fault cause -/
  cause : Nat := 0
  /-- R223; reset 0: TB1 at the entry into FAULT, µs -/
  faultAt : Nat := 0
  /-- R224; reset none: drives energised at the entry into FAULT whose feedback has not read open -/
  checkA : Bool := false
  checkB : Bool := false
  /-- R229; µA; reset 200,000, 60,000, 6,000 -/
  tier1 : Nat := 200000
  tier2 : Nat := 60000
  tier3 : Nat := 6000
  /-- R230; µA; reset 10,000 -/
  testNom : Nat := 10000
  /-- R230; reset none -/
  selfTest : SelfTest := .none
  /-- R229, R230; reset none: (samples, IR DC mean in µA) of the ticks of the last 5 s, newest first -/
  residual : List (Nat × Int) := []
  /-- R234; reset 1,000 ms, 0, 0, 0, 0, 0 (DESIGN CHOICE 23 beyond the period) -/
  imdPeriod : Nat := 1000
  uInj : Nat := 0
  rI : Nat := 0
  imdGain : Nat := 0
  uMax : Nat := 0
  warnOk : Bool := false
  /-- R232; reset 0: TB1 at the start of the injection period, µs -/
  imdStart : Nat := 0
  /-- R232; 32; reset 0: last r_iso, ohms -/
  rIso : Nat := 0
  /-- R233; reset none: classes of the last two results under the current energisation, newest first: 0 OK, 1 WARNING,
  2 FAULT, 3 invalid -/
  imd : List Nat := []
  /-- R237; reset 0xFFFF (DESIGN CHOICE 23): session slots -/
  slotA : Nat := 0xFFFF
  slotB : Nat := 0xFFFF
  /-- R239; reset 0 -/
  pnc : Bool := false
  /-- R238; s; reset 40 -/
  authTimeout : Nat := 40
  /-- R243; 1; reset 0: the Nulvo heartbeat is absent -/
  nulvoLost : Bool := false
  /-- R236; reset none: last SLAC run: RunID, means of PL8–PL15, answered -/
  slacRun : Bytes := []
  slacMeans : List Int := []
  slacAnswered : Bool := false
  deriving DecidableEq, Repr

/-- A SESSION record in the ring (R241). -/
structure SessionRec where
  cp : Nat := 0
  endCause : Nat := 0
  flags : Nat := 0
  session : Session := {}
  /-- R99, R241; the header's time stamp and TIME_UNTRUSTED, taken when the record is built -/
  tb0 : Time := 0
  timeBad : Bool := false
  mp : Nat := 0
  reg : Nat := 0
  endTb2 : Time := 0
  cv : Nat := 0
  epoch : Nat := 0
  cause : Nat := 0
  keySlot : Nat := 0xFF
  curve : Nat := 0
  signature : Bytes := []
  /-- R242, R452; a public-key engine has been asked for the signature -/
  signing : Bool := false
  emitted : Bool := false
  deriving DecidableEq, Repr

/-- Sounds of one SLAC run on one channel (R235). -/
structure SlacSounds where
  runId : Bytes := []
  pl : Nat := 0
  count : Nat := 0
  sums : List Nat := []
  deriving DecidableEq, Repr

/-- Charge-point control (chapter 06). -/
structure ChargePart where
  /-- R214; 8; reset as ChargePoint -/
  cps : Tab ChargePoint := []
  /-- R240; 32; reset 1 (DESIGN CHOICE 23): next session id -/
  nextId : Nat := 1
  /-- R241; 64; reset none: SESSION records, newest first, in MRAM -/
  records : List SessionRec := []
  /-- R242; reset 0, 0xFF, 0 (DESIGN CHOICE 23) -/
  recHq : Nat := 0
  recSlot : Nat := 0xFF
  recCurve : Nat := 0
  /-- R238; 8; reset none: trust anchors -/
  trust : Tab Bytes := []
  /-- R235; reset none: sounds of the runs in progress -/
  sounds : List SlacSounds := []
  deriving DecidableEq, Repr

end Sys2Proof.Machine
end

