-- ==== Sys2Proof/Machine/StateClock.lean ====
section
/-! DEFINITION. The time bases, milestones, PTP and Aetheno (spec/03_time_bases_milestones.md, R82–R123). -/

namespace Sys2Proof.Machine

/-- The nominal increment, 2^72 / 600,000,000 rounded (R84). -/
def incNominal : Nat := 7870610804783

/-- The nominal increment of TB2, 2^57 (R115). -/
def incNominalTb2 : Nat := 0x0200000000000000

/-- What is kept of a time base while its domain is off (R90). -/
structure KeptBase where
  /-- offset from TB1 at the switch-off edge, u72 -/
  offset : Time := 0
  /-- TB1 accumulator at the switch-off edge -/
  tb1 : BitVec 108 := 0
  /-- the increment that the base was adding -/
  inc : Nat := 0
  valid : Bool := false
  source : Nat := 0
  /-- reset of PD2 since the switch-off makes the values unusable (R90) -/
  pd2Kept : Bool := true
  deriving DecidableEq, Repr

/-- Steps written to a time base and not applied yet (R92, R95). -/
structure PendStep where
  /-- sum of the steps, in 2^-36 s -/
  sum : Int := 0
  /-- mailboxes of the `TB_STEP` and `TB_SET` commands among them, oldest first -/
  mbs : List Nat := []
  deriving DecidableEq, Repr

/-- One time base (R83, R91). -/
structure TimeBase where
  /-- R83; 108; reset 0: 36 bits of seconds and 72 bits of fraction -/
  acc : BitVec 108 := 0
  /-- R91; 54 (TB2: 64); reset nominal: TBn_INC -/
  inc : Nat := incNominal
  /-- R91; 64; reset 0: TBn_STEP_LO -/
  stepLo : Word64 := 0
  /-- R91; 72; reset 0: value latched by the last read of TBn_NOW_LO -/
  latched : Time := 0
  /-- R91; 1; reset 0 (TB1: 1) -/
  valid : Bool := false
  /-- R91; 1; reset 0 -/
  lost : Bool := false
  /-- R91; 1; reset 0; TB2 only -/
  backupFail : Bool := false
  /-- R91; 1; reset 0; read as 1 under HOST -/
  locked : Bool := false
  /-- R91; 1; reset 0 -/
  holdover : Bool := false
  /-- R91; 1; reset 0 -/
  stepRefused : Bool := false
  /-- R91; 1; reset 0 -/
  incClamped : Bool := false
  /-- R91; 1; reset 0 -/
  ownerErr : Bool := false
  /-- R91; 1; reset 0 -/
  stepped : Bool := false
  /-- R91; 3; reset 0 (TB3: 4; TB11: 5): TBn_CTRL.SOURCE -/
  source : Nat := 0
  /-- R91; 5; reset 0: TBn_CTRL.ZC_MP -/
  zcMp : Nat := 0
  /-- R91; 2; reset 0: TBn_CTRL.ZC_CH -/
  zcCh : Nat := 0
  /-- R91; 1; reset 0: TBn_CTRL.HZ60 -/
  hz60 : Bool := false
  /-- R91; 72; reset as R86: STEP_LIMIT -/
  limit : Time := 0
  /-- R91; 32; reset 0: TBn_REFUSED -/
  refused : Nat := 0
  /-- R91, R112; 32; reset 0: measured mains frequency, mHz -/
  fMeas : Nat := 0
  /-- R112; reset nominal: inc_f of the last crossing -/
  incF : Nat := incNominal
  /-- R113; 5; reset 0: crossings taken since the reference came back -/
  crossings : Nat := 0
  /-- R90; reset none -/
  kept : Option KeptBase := none
  /-- R92, R95; reset none: steps that wait for the next fabric edge -/
  pend : Option PendStep := none
  deriving DecidableEq, Repr

/-- The state of TBn at reset (R86, R91). -/
def tbReset (n : Nat) : TimeBase :=
  { inc := if n = 2 then incNominalTb2 else incNominal
    valid := n == 1
    source := if n = 3 then 4 else if n = 11 then 5 else 0
    limit :=
      if n = 0 ∨ n = 8 ∨ n = 9 ∨ n = 10 then 68719477#72        -- 1 ms
      else if n = 2 then 137438953472#72                          -- 2 s
      else if 4 ≤ n ∧ n ≤ 7 then 6871948#72                       -- 100 µs
      else 0#72 }

/-- A milestone entry (R101). -/
structure Milestone where
  code : Nat := 0
  detail : Nat := 0
  /-- bit n = VALID of TBn at capture -/
  validMask : Nat := 0
  seq : Nat := 0
  id : Nat := 0
  /-- TB0 to TB11 -/
  values : List Time := []
  offset : Nat := 0
  deriving DecidableEq, Repr

/-- A pending scheduled milestone (R103, R121, R473). -/
structure Scheduled where
  target : Time := 0
  id : Nat := 0
  /-- the target is a TB11 instant of a trigger frame (code 3) -/
  chain : Bool := false
  /-- the activation flag (R473) -/
  activate : Bool := false
  deriving DecidableEq, Repr

/-- The configuration of a PTP port (R104). -/
structure PtpPort where
  role : Nat := 0
  profile : Nat := 0
  steps : Nat := 1
  /-- correction of the carrier's receive and transmit latency, ps (R105) -/
  ingress : Int := 0
  egress : Int := 0
  /-- IEC/IEEE 61850-9-3: mean path delay of the last peer-delay exchange, 2^-36 s -/
  pathDelay : Int := 0
  deriving DecidableEq, Repr

/-- A TB_SET that waits for the next PPS_IN edge (R97). -/
structure PpsSet where
  base : Nat := 0
  value : Time := 0
  mb : Nat := 0
  deriving DecidableEq, Repr

/-- Time bases, milestones and the calendar (chapter 03). -/
structure ClockPart where
  /-- R82–R91; 12 time bases; reset as tbReset -/
  tbs : Tab TimeBase := []
  /-- R115; reset 0: fraction of a crystal period elapsed, in units of 1/600,000,000 period -/
  crystalPhase : Nat := 0
  /-- R110; 16; reset 0: UTC offset in seconds -/
  utcOffset : Int := 0
  /-- R110; reset none: pending UTC offset and its TB0 instant -/
  utcPending : Option (Int × Time) := none
  /-- R116; 32; reset 0: user trim, ppb -/
  trim : Int := 0
  /-- R116; 16; reset 0: user second-order term, 0.01 ppb/°C² -/
  quad : Int := 0
  /-- R116; 16; reset 2,500 (DESIGN CHOICE 8): last PD0 temperature reading, 0.01 °C -/
  temp : Int := 2500
  /-- R91, R116; 32; reset 0: compensation in force, ppb -/
  comp : Int := 0
  /-- R117; 1; reset 0: VBAT fell below 1.9 V while main power was absent; taken at the next start -/
  backupFail : Bool := false
  /-- R102; 64 entries; reset empty: milestone FIFO, oldest first -/
  fifo : List Milestone := []
  /-- R101; 16; reset 0 (DESIGN CHOICE 9): sequence number of the next milestone -/
  msSeq : Nat := 0
  /-- R102; 1; reset 0: MS_STATUS.OVERFLOW -/
  msOverflow : Bool := false
  /-- R102; 32; reset 0: MS_LOST -/
  msLost : Nat := 0
  /-- R100; 4; reset 0 (DESIGN CHOICE 9): trigger enables -/
  msEnable : Nat := 0
  /-- R100; 5, 2, 16; reset 0, 0, 1 (DESIGN CHOICE 9): channel and interval of trigger 1 -/
  zcMp : Nat := 0
  zcCh : Nat := 0
  zcEvery : Nat := 1
  /-- R100; reset 0: crossings since the last trigger 1 -/
  zcCount : Nat := 0
  /-- R103; 4 slots; reset none: pending scheduled milestones -/
  slots : Tab (Option Scheduled) := []
  /-- R97; reset none: TB_SETs waiting for PPS_IN -/
  pps : List PpsSet := []
  /-- R104; 4 ports; reset role off (DESIGN CHOICE 9) -/
  ptp : Tab PtpPort := []
  /-- R118; 1; reset 0: Aetheno enabled -/
  aetheno : Bool := false
  /-- R118; 16 each; reset 0: asymmetry corrections, ps -/
  asymIn : Int := 0
  asymOut : Int := 0
  /-- R118; 1; reset 0: sync in is valid, so the module is no chain master -/
  syncIn : Bool := false
  /-- R91; 6; reset 0: chain position (hop count) -/
  position : Nat := 0
  /-- R119; 5; reset 0: consecutive good TIME frames -/
  goodFrames : Nat := 0
  /-- R118; 1; reset 0: the TIME frames report the master's TB0 VALID -/
  masterValid : Bool := false
  /-- R118; 32; reset 0: measured round trip of sync in, ps -/
  roundTrip : Nat := 0
  /-- R118; reset 0: departure of the outstanding DELAY_REQ, TB11 value -/
  delaySent : Option Time := none
  deriving DecidableEq, Repr

end Sys2Proof.Machine
end

