-- ==== Sys2Proof/Machine/StateFirmware.lean ====
section
/-! DEFINITION. Start-up, image banks and activation (spec/13_start_up_firmware.md, R456–R476). -/

namespace Sys2Proof.Machine

/-- The state of an image bank (R457). -/
inductive BankState where
  | empty
  | staging
  | staged
  | trial
  | confirmed
  deriving DecidableEq, Repr

/-- A bank record of the directory (R457). -/
structure Bank where
  /-- 8; reset EMPTY (DESIGN CHOICE 10) -/
  state : BankState := .empty
  /-- 8; reset 0 -/
  trials : Nat := 0
  /-- 16; reset 0 -/
  svn : Nat := 0
  /-- 32; reset 0 -/
  version : Nat := 0
  /-- 8; reset 0 -/
  ce : Nat := 0
  /-- 8; reset 0 -/
  mpe : Nat := 0
  /-- 32; reset 0: container length -/
  length : Nat := 0
  /-- 40 bytes; reset empty: IK wrapped under WK_b (R461) -/
  ik : Bytes := []
  deriving DecidableEq, Repr

/-- Code as it stands in a half of the code store or in an instruction memory: load offset and plaintext of each segment (R459). -/
abbrev Code := List (Nat × Bytes)

/-- A staging operation (R470). -/
structure Staging where
  bank : Nat := 0
  length : Nat := 0
  /-- IK as unwrapped from the envelope -/
  ik : Bytes := []
  /-- mailbox of the FW_STAGE_OPEN or FW_STAGE_CLOSE in progress -/
  mb : Option Nat := none
  /-- the bank erase has ended -/
  erased : Bool := false
  /-- FW_STAGE_CLOSE is checking -/
  closing : Bool := false
  deriving DecidableEq, Repr

/-- How far an activation has come (R471). -/
inductive ActStep where
  /-- steps 1–2: verifying and decrypting -/
  | preparing
  /-- prepared, waiting for the milestone of ACTIVATE_AT -/
  | prepared
  /-- preparation failed; waits for its instant to report a miss -/
  | failed
  /-- steps 3–6: the pause -/
  | pause
  deriving DecidableEq, Repr

/-- An activation in progress or pending (R471, R473). -/
structure Activation where
  bank : Nat := 0
  step : ActStep := .preparing
  /-- mailbox that gets the final response; none on a chain member -/
  mb : Option Nat := none
  /-- ACTIVATE_AT -/
  scheduled : Bool := false
  /-- chain-wide (R473) -/
  chain : Bool := false
  /-- TB0 instant -/
  target : Time := 0
  /-- first failing reason (R470) -/
  reason : Nat := 0
  /-- the milestone slot in use -/
  slot : Nat := 0
  /-- T_A, the TB1 value at which the pause began -/
  pauseAt : Time := 0
  deriving DecidableEq, Repr

/-- A legal activation in progress (R476). -/
structure LegalAct where
  bank : Nat := 0
  mb : Nat := 1
  /-- digest of the new legal segments -/
  digest : Bytes := []
  /-- the LEGAL_FMT of the new segments -/
  fmt : Nat := 0
  deriving DecidableEq, Repr

/-- The boot stages (R464). -/
inductive BootStage where
  | reset
  | fuses
  | keyStore
  | image
  | nulvo
  | restore
  | ready
  | alarmHold
  | noImage
  | blank
  | void
  | pause
  deriving DecidableEq, Repr

/-- Start-up and firmware (chapter 13). -/
structure FirmPart where
  /-- R48, R464; 4; reset 0: BOOT_STAGE -/
  stage : BootStage := .reset
  /-- R48; 1; reset 0: NULVO_READY -/
  nulvoReady : Bool := false
  /-- R48; 32; reset 0: ID_NULVO -/
  idNulvo : Nat := 0
  /-- R48; 1; reset 0: PFAIL -/
  pfail : Bool := false
  /-- R456; two banks of 112 MiB; reset reads as 0 (DESIGN CHOICE 3): flash bytes of the banks -/
  flash0 : Memory := []
  flash1 : Memory := []
  /-- R457; 32; reset 0 (DESIGN CHOICE 10): directory sequence number -/
  dirSeq : Nat := 0
  /-- R457; 1; reset 0 (DESIGN CHOICE 10): directory copy written last -/
  dirCopy : Nat := 0
  /-- R457; 2 × 4 KiB; reset none (DESIGN CHOICE 10): the directory copies in flash -/
  dirPages : Tab Bytes := []
  /-- R457; 1; reset 0 (DESIGN CHOICE 10): active bank -/
  active : Nat := 0
  /-- R457; reset none (DESIGN CHOICE 10): legal copy in force, 0 A, 1 B -/
  legalCopy : Option Nat := none
  /-- R457; two bank records -/
  bank0 : Bank := {}
  bank1 : Bank := {}
  /-- R457; 32 bytes each; reset none: recorded digests of legal copies A and B -/
  digestA : Bytes := []
  digestB : Bytes := []
  /-- R456; reset none (DESIGN CHOICE 10): bytes of the plaintext legal segments in copies A and B -/
  legalA : Bytes := []
  legalB : Bytes := []
  /-- R456; up to 64 KiB each; reset none (DESIGN CHOICE 10): header, segment table and signature blocks in copies A and B -/
  headA : Bytes := []
  headB : Bytes := []
  /-- R458; 2 × 12 MiB; reset empty: the halves of the code store, by engine code -/
  half0 : Tab Code := []
  half1 : Tab Code := []
  /-- R458; 1; reset 0: the active half -/
  half : Nat := 0
  /-- R458; up to 96 MiB; reset empty: Nulvo service code in the firmware runtime area, and that of an image being prepared -/
  service : Code := []
  serviceNext : Code := []
  /-- R466; reset empty: instruction memory of each engine, by fault unit -/
  imem : Tab Code := []
  /-- R459; 16 each; reset 0: LEGAL_API and LEGAL_FMT of the legal partition in force -/
  legalApi : Nat := 0
  legalFmt : Nat := 0
  /-- R475; 1; reset 0: a legal copy with its recorded digest has been loaded, and PD10 runs it -/
  legalRuns : Bool := false
  /-- R459; 16; reset 0: CFG_FMT of the persisted configuration -/
  cfgFmt : Nat := 0
  /-- R469; 16; reset 0: stored SVN -/
  svn : Nat := 0
  /-- R459; 8; reset 0: CE of the running image -/
  ce : Nat := 0
  /-- R460; 48 bytes; reset none: digest set by FW_OPKEY_SET -/
  opKey : Bytes := []
  /-- R470; reset none -/
  staging : Option Staging := none
  /-- R471; reset none -/
  act : Option Activation := none
  /-- R476; reset none -/
  legalAct : Option LegalAct := none
  /-- R474; reset none: MPE that set INGEST_HOLD, persisted -/
  hold : Option Nat := none
  deriving DecidableEq, Repr

end Sys2Proof.Machine
end

