-- ==== Sys2Proof/Machine/StateHost.lean ====
section
/-! DEFINITION. The host interface's part of the state: mailboxes, queues, pans, vectors and the sideband port
(spec/02_host_interface_nulvo.md, R45–R81). -/

namespace Sys2Proof.Machine

/-- A request as the module took it: from a mailbox (R51, R56) or from a submission queue (R71). -/
structure Req where
  /-- command opcode -/
  opcode : Nat := 0
  /-- host-chosen tag -/
  tag : Nat := 0
  /-- header FLAGS: bit 0 IRQ in a mailbox, BUF in a queue entry -/
  flags : Nat := 0
  /-- SESSION of MB1–MB3 -/
  session : Nat := 0
  /-- AUTH_COUNTER of MB1–MB3 -/
  counter : Nat := 0
  /-- payload bytes: inline, or the host buffer -/
  payload : Bytes := []
  /-- BUF_ADDR, when the entry has BUF = 1 -/
  buffer : Option Nat := none
  /-- GO was written over the SMP (R79) -/
  smp : Bool := false
  deriving DecidableEq, Repr

/-- MBn_CTRL and the request in progress of one mailbox (R50, R51). -/
structure Mailbox where
  /-- R50; 1; reset 0: a request is handed over -/
  go : Bool := false
  /-- R50; 1; reset 0: the module owns the mailbox -/
  own : Bool := false
  /-- R50; 1; reset 0: a response is written -/
  done : Bool := false
  /-- R50; 1; reset 0: GO written while OWN or DONE was 1 -/
  overrun : Bool := false
  /-- R50; 16; reset 0: responses or notices written, modulo 65,536 -/
  seq : BitVec 16 := 0
  /-- R79; 1; reset 0: GO came over the SMP -/
  goSmp : Bool := false
  /-- R51 step 4; reset none: the copied request -/
  taken : Option Req := none
  /-- R51 step 7; 1; reset 0: the request has been answered with ACCEPTED -/
  started : Bool := false
  deriving DecidableEq, Repr

/-- A whole packet of a harvest queue (R64, R65). -/
structure Packet where
  /-- per-queue sequence number -/
  seq : Nat := 0
  /-- the record, without the padding of the last cell -/
  bytes : Bytes := []
  /-- reply-store entry whose frame's records this packet carries (R347) -/
  reply : Option Nat := none
  deriving DecidableEq, Repr

/-- One pan of a harvest queue (R68). -/
structure Pan where
  /-- R68; reset none: whole packets completed into the pan, oldest first -/
  pkts : List Packet := []
  /-- R323; 8; reset 0: cells reserved for packets not yet written -/
  resv : Nat := 0
  /-- R68; 1; reset 0: handed off and draining -/
  handed : Bool := false
  /-- R68; 1; reset 0: a hand-off is due and waits for the other pan or for packets still being written -/
  closing : Bool := false
  deriving DecidableEq, Repr

/-- The block and pans of harvest queue HQn (R62, R68). -/
structure Hq where
  /-- R62; 64; reset 0 -/
  ringBase : Word64 := 0
  /-- R62; 32; reset 0x0000_0106 -/
  cfg : Word32 := 0x106#32
  /-- R62; 1; reset 0: Q_CTRL.EN -/
  en : Bool := false
  /-- R62; 1; reset 0: Q_CTRL.ERROR -/
  error : Bool := false
  /-- R62, R325; 8; reset 0: Q_CTRL.NO_ROOM: cells of the reservation that could not be granted, 0 none -/
  need : Nat := 0
  /-- R63 table; 32; reset 0: HQn_PKTS -/
  pkts : Nat := 0
  /-- R63 table; 32; reset 0: CELLS_WRITTEN -/
  written : Word32 := 0
  /-- R63 table; 32; reset 0: CELLS_FREED -/
  freed : Word32 := 0
  /-- R63 table; 32; reset 200: TAIL_TIMEOUT -/
  tailTimeout : Word32 := 200#32
  /-- R63 table; 32; reset 0: MOD_TIME -/
  modTime : Word32 := 0
  /-- R63 table; 32; reset 0: SEQ_NEXT -/
  seqNext : Nat := 0
  /-- R63 table; 64; reset 0: WB_ADDR -/
  wbAddr : Word64 := 0
  /-- R66, R67; reset none: cell count of each packet in the ring not yet consumed, oldest first -/
  ring : List Nat := []
  /-- R68; reset none: packets waiting in the holding pond, oldest first -/
  pond : List Packet := []
  /-- R323; 32; reset 0: pond cells reserved for packets not yet written -/
  pondResv : Nat := 0
  /-- R68; two pans; reset empty -/
  panA : Pan := {}
  panB : Pan := {}
  /-- R68; 1; reset 0 (pan A fills): pan B is the filling pan -/
  fillB : Bool := false
  /-- R75; reset 0: packets counted since the last raise -/
  counted : Nat := 0
  /-- R70; 7; reset 0: next cell of the oldest packet that a MODE 1 read takes -/
  popCell : Nat := 0
  /-- R69; reset none: completion queue and index of each written completion of a flush of this queue that the host has not read -/
  flushCq : List (Nat × Nat) := []
  deriving DecidableEq, Repr

/-- The status codes (R61). -/
inductive Status where
  | ok
  | accepted
  | badop
  | badarg
  | badlen
  | denied
  | authfail
  | legalLock
  | lifecycle
  | busy
  | nores
  | discarded
  | fenced
  | stale
  | timeRefused
  | timeLost
  | nokey
  | kcvMismatch
  | imgBad
  | imgIncompat
  deriving DecidableEq, Repr

/-- What a command answers. -/
structure Reply where
  status : Status := .ok
  payload : Bytes := []
  /-- INFO of a completion -/
  info : Nat := 0
  /-- bytes written to the host buffer beside the payload -/
  buffer : Bytes := []
  /-- logbook code of the change where it is not the one of the command table (R209) -/
  legal : Nat := 0
  /-- the command has begun and answers later, with no ACCEPTED before (R92) -/
  later : Bool := false
  deriving DecidableEq, Repr

/-- A fetched entry of a submission queue with no completion posted (R71). -/
structure Entry where
  /-- number of its fetch in its queue -/
  idx : Nat := 0
  req : Req := {}
  /-- R315; TB0 at its fetch -/
  fetched : Time := 0
  /-- R99; 1: TB0 or TB2 was not VALID then -/
  untrusted : Bool := false
  /-- the entry's command has run and completes later -/
  started : Bool := false
  /-- the entry was made void by a FENCE: it is carried out without a completion (R485) -/
  void : Bool := false
  /-- unit that holds the entry's work, once it has been handed to one (R485) -/
  unit : Option Nat := none
  /-- R484; reset none: the command has run and its completion waits for the PCIe function -/
  reply : Option Reply := none
  deriving DecidableEq, Repr

/-- A FENCE completion that waits for the PCIe function (R43, R73, R484). -/
structure WaitFence where
  tag : Nat := 0
  status : Status := .fenced
  /-- the SQ_HEAD that it reports -/
  head : Nat := 0
  /-- harvest queues whose posted flushes it made void -/
  flushes : List Nat := []
  deriving DecidableEq, Repr

/-- The block of submission queue SQn (R62, R71). -/
structure Sq where
  /-- R62; 64; reset 0 -/
  ringBase : Word64 := 0
  /-- R62; 32; reset 0x0000_0106 -/
  cfg : Word32 := 0x106#32
  /-- R62; 1; reset 0 -/
  en : Bool := false
  /-- R62; 1; reset 0 -/
  error : Bool := false
  /-- R62; 1; reset 0: a FENCE has been posted for this queue -/
  fencedSeen : Bool := false
  /-- R71 table; 32; reset 0: SQ_TAIL -/
  tail : Nat := 0
  /-- R71 table; 32; reset 0: SQ_HEAD -/
  head : Nat := 0
  /-- R71; the model's own: entries fetched so far -/
  fetches : Nat := 0
  /-- R71; reset none: fetched entries with no completion posted, in fetch order -/
  running : List Entry := []
  /-- R63; 1; reset 0: EN has been cleared and fetched entries are still to complete -/
  closing : Bool := false
  /-- R69; reset none: harvest queue of each posted `HQ_FLUSH` whose completion is not written yet -/
  flushes : List Nat := []
  /-- R73; reset none: FENCE completions that wait for the PCIe function, oldest first -/
  fences : List WaitFence := []
  deriving DecidableEq, Repr

/-- The block of completion queue CQn (R62, R72). -/
structure Cq where
  /-- R62; 64; reset 0 -/
  ringBase : Word64 := 0
  /-- R62; 32; reset 0x0000_0106 -/
  cfg : Word32 := 0x106#32
  /-- R62; 1; reset 0 -/
  en : Bool := false
  /-- R62; 1; reset 0 -/
  error : Bool := false
  /-- R71 table; 32; reset 0: CQ_TAIL -/
  tail : Nat := 0
  /-- R71 table; 32; reset 0: CQ_HEAD -/
  head : Nat := 0
  /-- R71 table; 32; reset 0: CQ_RESERVED -/
  reserved : Nat := 0
  /-- R71 table; 32; reset 0: MOD_TIME -/
  modTime : Word32 := 0
  /-- R72; 1; reset 1: phase of the current pass -/
  phase : Bool := true
  /-- R75; reset 0: entries counted since the last raise -/
  counted : Nat := 0
  deriving DecidableEq, Repr

/-- What has left the module, newest first: the visible side of a command's effect. -/
inductive Emission where
  /-- a PCIe posted write of bytes to host memory (R66, R72, R73) -/
  | dma (addr : Nat) (bytes : Bytes)
  /-- an MSI-X message of vector `v` (R75) -/
  | msix (v addr data : Nat)
  /-- data an access returns: a register read, the bytes of an SMP frame -/
  | readData (path : Nat) (bytes : Bytes)
  /-- a frame sent on a port: 0–15 PL, 16–21 RF, 32–35 ETH, 48–51 SMB, 64 sync out, 65 sync in, 80–81 legal displays -/
  | frame (port : Nat) (bytes : Bytes)
  /-- a link acknowledgement sent on a port -/
  | linkAck (port : Nat) (seq : Nat)
  /-- a frame handed to the Nulvo queue, with its port code (R258, R313) -/
  | nulvo (port : Nat) (bytes : Bytes)
  /-- the result of a session operation, to its submitter (R389) -/
  | session (slot : Nat) (ok : Bool) (bytes : Bytes)
  /-- a fabric-link retransmission request at a hop (R32) -/
  | retransmit (hop : Nat)
  /-- leading edges of TPOn, in sample boundaries after the tick's end (R172) -/
  | pulses (tpo : Nat) (edges : List Nat)
  /-- a contactor or IMD drive changes to the given duty in percent (R225, R226) -/
  | drive (ctd duty : Nat)
  /-- SMBn_CD of an RS-485 bus is high for so many bit times, from one before the first start bit of the frame that follows until one after its
  last stop bit (R513) -/
  | driverEnable (bus bits : Nat)
  /-- Nulvo answers the vehicle of charge point `cp` (R233, R234, R237, R238): 0 CableCheck, 1 PowerDelivery, 2 end of the power delivery,
  3 insulation warning, 4 authorisation; finished or ongoing; MeterInfo in Wh; time value of TB10 -/
  | v2g (cp kind : Nat) (finished : Bool) (meterWh : Int) (time : Time)
  deriving DecidableEq, Repr

/-- The host interface (chapter 02). -/
structure HostPart where
  /-- R48; 32; reset 0: SCRATCH -/
  scratch : Word32 := 0
  /-- R48, R49; 32; reset 0: BULK_SEL -/
  bulkSel : Word32 := 0
  /-- R50; 64 mailboxes; reset all 0 -/
  mbs : Tab Mailbox := []
  /-- R24, R54; 64; reset none: mailboxes whose GO has been accepted and whose command is not applied yet, oldest GO first -/
  goOrder : List Nat := []
  /-- R50; 64 KiB; reset reads as 0 (DESIGN CHOICE 3): request and response areas, mailbox n at 0x400 × n -/
  areas : Memory := []
  /-- R59; mailboxes 1–3; reset none: SESSION of the pair whose eighth AUTHFAIL locked the mailbox -/
  lockout : Tab (Option Nat) := []
  /-- R62; 128 harvest queues; reset as the block table -/
  hqs : Tab Hq := []
  /-- R62; 64 submission queues; reset as the block table -/
  sqs : Tab Sq := []
  /-- R62; 64 completion queues; reset as the block table -/
  cqs : Tab Cq := []
  /-- R77; 1; reset 0 (PRESUMED 4, PCI): MSI-X Enable bit -/
  msixEnable : Bool := false
  /-- R76; 1,024 dwords; reset 0, vector control 1 (PRESUMED 4, PCI): dword k of the MSI-X table; vector control is held
  inverted, so that an unlisted entry is masked -/
  msixTable : Tab Nat := []
  /-- R76; 256; reset 0: MSI-X PBA -/
  pba : BitVec 256 := 0
  /-- R77; 8 × 32; reset 0 (DESIGN CHOICE 5): INT_MAP0–INT_MAP7 -/
  intMap : Tab Nat := []
  /-- R77; 256; reset 0 (DESIGN CHOICE 5): INT_PENDING -/
  intPending : BitVec 256 := 0
  /-- R47; reset none: lower half of a 64-bit register written as two 32-bit writes, by offset -/
  lowHalf : Tab Nat := []
  /-- R78; 4; reset 0 (DESIGN CHOICE 5): SMP_STATUS bits 2:0 -/
  smpStatus : Nat := 0
  /-- R70; reset none: harvest queue of a stalled pop -/
  popStall : Option Nat := none
  /-- R78; 1; reset 0: the PCIe link is up -/
  linkUp : Bool := false
  /-- R511; 1; reset 0: PERST_N holds the PCIe function in reset -/
  perst : Bool := false
  /-- R43; 1; reset 0: the link has returned posted-write credits since the last start -/
  creditSeen : Bool := false
  /-- R43; 1; reset 0: posted-write credits are withheld after an F3 for that cause -/
  creditHeld : Bool := false
  /-- R323; 32; reset 67,108,864: pond cells not reserved and not in use -/
  pondFree : Nat := 67108864
  /-- R347; reset none: (queue, sequence number, reply-store entry) of delivered packets whose acknowledgement is not yet
  queued -/
  delivered : List (Nat × Nat × Nat) := []
  /-- the model's own: what has left the module, newest first; reset none -/
  out : List Emission := []
  deriving DecidableEq, Repr

end Sys2Proof.Machine
end

