-- ==== Sys2Proof/Machine/StateIngest.lean ====
section
/-! DEFINITION. Ingress queues, pipelines, junction tables, the context store and directory, the reply store, DX envelopes
and the serial meter buses (spec/09_ingest_pipelines.md, R312–R359). -/

namespace Sys2Proof.Machine

/-- A frame that waits in an ingress FIFO: its descriptor (R315) and its bytes. LEN is the number of the bytes; the offset
BUF of the bytes in the frame buffer is not held, since the bytes stand here. -/
structure IngDesc where
  /-- byte 2: PORT -/
  port : Nat := 0
  /-- byte 3: NETWORK -/
  network : Nat := 0
  /-- bytes 4–12: RX_TB0 -/
  rxTb0 : Time := 0
  /-- R99; 1: TB0 or TB2 was not VALID as RX_TB0 was taken -/
  untrusted : Bool := false
  /-- bytes 13–21: RX_NET -/
  rxNet : Time := 0
  /-- bytes 22–37: SRC_META -/
  srcMeta : Bytes := []
  /-- bytes 38–45: SRC_ADDR -/
  srcAddr : Nat := 0
  /-- bytes 46–47: ENV, here the whole reply-store index -/
  env : Option Nat := none
  /-- bytes 48–49: INNER -/
  inner : Nat := 0
  /-- bytes 56–57: STEER -/
  steer : Nat := 0
  /-- byte 58: KIND -/
  kind : Nat := 0
  /-- byte 59: APDU -/
  apdu : Nat := 0xFF
  /-- R317: the steering key, byte 0 most significant -/
  key : Nat := 0
  /-- the frame -/
  bytes : Bytes := []
  /-- submission-queue entry of an ING_SUBMIT -/
  host : Option (Nat × Nat) := none
  deriving DecidableEq, Repr

/-- The verdicts of the replay check (R378). -/
inductive Verdict where
  | accept
  | dup
  | reuse
  | old
  deriving DecidableEq, Repr

/-- Lines 1 and 2 of a context in fields, lines 0 and 3 as bytes (R338, R377, R393). -/
structure Ctx where
  /-- bytes 0–63; reset 0: line 0 -/
  line0 : Bytes := List.replicate 64 0
  /-- bytes 192–255; reset 0: line 3 -/
  line3 : Bytes := List.replicate 64 0
  /-- 64–67; reset 0: SEQ1 -/
  seq1 : Nat := 0
  /-- 68–71; reset 0: FRAMES -/
  frames : Nat := 0
  /-- 72–73; reset 0: DUPS -/
  dups : Nat := 0
  /-- 74–75; reset 0: REPLAYS -/
  replays : Nat := 0
  /-- 76–79; reset 0: LAST_RX -/
  lastRx : Nat := 0
  /-- 80–83; reset 0: ACK_IC -/
  ackIc : Nat := 0
  /-- 84–87; reset 0: IC_TOP -/
  icTop : Nat := 0
  /-- 88–95; reset 0: WINDOW -/
  window : BitVec 64 := 0
  /-- 96–127; reset 0: FP, fingerprint d in bits 4d + 3 to 4d -/
  fp : BitVec 256 := 0
  /-- 128–131; reset 0: SEQ2 -/
  seq2 : Nat := 0
  /-- 132–140; reset 0: E_LAST -/
  eLast : Int := 0
  /-- 141–145; reset 0: T_LAST -/
  tLast : Nat := 0
  /-- 146–149; reset 0: E_IC -/
  eIc : Nat := 0
  /-- 150–153; reset 0: DELTA -/
  delta : Int := 0
  /-- 154–157; reset 0: RATE -/
  rate : Nat := 0
  /-- 158–161; reset 0: ZERO_RUN -/
  zeroRun : Nat := 0
  /-- 162–165; reset 0: U_LAST -/
  uLast : Nat := 0
  /-- 166; reset 0: FLAT_CNT -/
  flatCnt : Nat := 0
  /-- 167; reset 0: VFLAGS bits 0–4 -/
  eValid : Bool := false
  uValid : Bool := false
  deltaValid : Bool := false
  zeroOn : Bool := false
  flatOn : Bool := false
  /-- 168–169; reset 0: WRAPS -/
  wraps : Nat := 0
  /-- 170–171; reset 0: SPIKES -/
  spikes : Nat := 0
  /-- 172–173; reset 0: GAPS -/
  gaps : Nat := 0
  /-- R398; 1; reset 0: rate_known -/
  rateKnown : Bool := false
  deriving DecidableEq, Repr

/-- A frame in flight in a pipeline (R321, R326). -/
structure Flight where
  /-- R321; 6: in-flight tag -/
  tag : Nat := 0
  /-- R321; 32: module-wide ingest sequence number -/
  seq : Nat := 0
  desc : IngDesc := {}
  /-- R322; cells and place of the reservation in HQ: 0 pan A, 1 pan B, 2 pond -/
  hq : Nat := 0
  cells : Nat := 0
  place : Nat := 0
  /-- R322; the uplink reservation, where UHQ is named: queue, cells, place -/
  up : Option (Nat × Nat × Nat) := none
  /-- R348; its own reply-store entry -/
  entry : Option Nat := none
  /-- context index -/
  ctx : Nat := 0
  /-- R326, R327; the context lines as the CONTEXT stage read them, with line 1 as it was last re-read -/
  seen : Ctx := {}
  /-- R327; 4: failed tries -/
  tries : Nat := 0
  /-- R382; 1: a retry has been made, the detail of the first failure, and the instance first used -/
  retried : Bool := false
  firstDetail : Nat := 0
  /-- R342; 1: accepted under another generation -/
  stale : Bool := false
  /-- R382, R375; OMK instance of the VERIFY that succeeded, and the lane that ran it -/
  inst : Nat := 0
  lane : Nat := 0
  /-- the plaintext APDU, once verified -/
  plain : Option Bytes := none
  /-- R375; the ciphered acknowledgement -/
  ack : Option Bytes := none
  /-- R378; the verdict, once REPLAY has decided -/
  verdict : Option Verdict := none
  /-- R385; the frame is in a lane -/
  inLane : Bool := false
  deriving DecidableEq, Repr

/-- The credit whose lack stopped admission (R325). -/
inductive Credit where
  /-- `pond`: the pond is what lacked, rather than the queue being disabled -/
  | cells (hq need : Nat) (pond : Bool)
  | reply
  deriving DecidableEq, Repr

/-- One ingest pipeline (R316, R321, ING_STATUS, FIP_CFG). -/
structure Fip where
  /-- FIP_CFG; 8; reset 0 (DESIGN CHOICE 24): HQ -/
  hq : Nat := 0
  /-- FIP_CFG; 8; reset 0xFF (DESIGN CHOICE 24): UHQ -/
  uhq : Nat := 0xFF
  /-- R333; 1; reset 0: EVICT -/
  evict : Nat := 0
  /-- R343; 1; reset 0 (DESIGN CHOICE 24): UPLINK_UNKNOWN -/
  uplinkUnknown : Nat := 0
  /-- R316; 256 descriptors and 512 KiB; reset empty: ingress FIFO, oldest first -/
  fifo : List IngDesc := []
  /-- R321; 64 tags; reset none: frames in flight -/
  flights : List Flight := []
  /-- R332; 16 entries; reset empty: learn queue (title, context, generation), oldest first -/
  learn : List (Nat × Nat × Nat) := []
  /-- R325; reset none: the credit that stopped admission -/
  closed : Option Credit := none
  /-- ING_STATUS; 32 each; reset 0 -/
  admitted : Nat := 0
  completed : Nat := 0
  discarded : Nat := 0
  noContext : Nat := 0
  authFail : Nat := 0
  dup : Nat := 0
  replay : Nat := 0
  learnSkipped : Nat := 0
  jtParity : Nat := 0
  /-- R335; reset none: TB1 µs of the parity errors within the last second -/
  parityTimes : List Nat := []
  deriving DecidableEq, Repr

/-- One 16-byte entry of the context directory that is VALID (R336). -/
structure DirEntry where
  title : Nat := 0
  ctx : Nat := 0
  gen : Nat := 0
  deriving DecidableEq, Repr

/-- What a reply-store entry answers (R348). -/
inductive ReplyKey where
  /-- not yet keyed: reserved at admission -/
  | unset
  | frame (ctx ic : Nat)
  | envelope (peer seq : Nat)
  deriving DecidableEq, Repr

/-- An entry of the reply store (R348). -/
structure ReplyEntry where
  key : ReplyKey := .unset
  /-- 1: SENT; PENDING otherwise -/
  sent : Bool := false
  /-- the stored acknowledgement: port and bytes; an envelope's ACK: the ETH port -/
  port : Nat := 0
  bytes : Bytes := []
  /-- neighbour, device, bus or source address the acknowledgement goes to -/
  addr : Nat := 0
  /-- records written and not yet delivered -/
  records : Nat := 0
  /-- inner frames of the envelope not yet completed, or 1 while the frame has not reached EMIT -/
  open_ : Nat := 0
  /-- order of sending, for "the oldest SENT entry" -/
  order : Nat := 0
  deriving DecidableEq, Repr

/-- A port's framing and acknowledgement (R313). -/
structure PortCfg where
  /-- R313; 1; reset 1 (DESIGN CHOICE 24): framing -/
  framing : Nat := 1
  /-- R313; 1; reset 1 (DESIGN CHOICE 24): the port bears acknowledgements -/
  ack : Nat := 1
  /-- R313; 16; reset 4059 for PL and RF, 17,496 for ETH (0 stands for the default): UDP port -/
  udp : Nat := 0
  /-- R313; 3; reset 0 (DESIGN CHOICE 24): PFC priority -/
  pfc : Nat := 0
  deriving DecidableEq, Repr

/-- A capture object of a parse template (R345). -/
structure CaptureObj where
  obis : Bytes := []
  attr : Nat := 0
  scaler : Int := 0
  unit : Nat := 0
  kind : Nat := 0
  deriving DecidableEq, Repr

/-- A DX peer (R355). -/
structure Peer where
  enable : Bool := false
  title : Nat := 0
  addr : Bytes := []
  dtls : Nat := 0xFFFF
  deriving DecidableEq, Repr

/-- An uplink envelope awaiting its ACK (R356). -/
structure Envelope where
  seq : Nat := 0
  /-- the UDP payload as sent -/
  bytes : Bytes := []
  /-- records it carries: (queue, sequence number, reply-store entry) -/
  records : List (Nat × Nat × Option Nat) := []
  /-- sendings so far -/
  attempts : Nat := 1
  /-- current retransmit time, ms -/
  wait : Nat := 200
  deriving DecidableEq, Repr

/-- The DX uplink (R356). -/
structure Uplink where
  /-- DX_UPLINK_CFG; 1; reset 0: configured -/
  enable : Bool := false
  hq : Nat := 0
  eth : Nat := 0
  addr : Bytes := []
  udp : Nat := 0
  dtls : Nat := 0xFFFF
  /-- 16; reset 1,472 (DESIGN CHOICE 24): maximum envelope size -/
  max : Nat := 1472
  /-- 32; reset 1,000 µs -/
  timeout : Nat := 1000
  /-- 16; reset 200 ms -/
  retransmit : Nat := 200
  /-- R352; 32; reset 1: next envelope sequence number -/
  nextSeq : Nat := 1
  /-- R356; reset empty: inner frames of the open envelope, and their records -/
  inner : List Bytes := []
  records : List (Nat × Nat × Option Nat) := []
  /-- R356; 16,384 envelopes; reset empty: envelopes awaiting ACK, oldest first -/
  unacked : List Envelope := []
  deriving DecidableEq, Repr

/-- A DATA envelope that waits in the ingress buffer of the ETH ports for room in the pipelines (R316). -/
structure EthWait where
  eth : Nat := 0
  peer : Nat := 0
  seq : Nat := 0
  /-- header bytes and frame of each inner frame -/
  frames : List (Bytes × Bytes) := []
  /-- bytes that it takes in the buffer -/
  size : Nat := 0
  /-- TB0 at the end of its reception, and whether TB0 or TB2 was not VALID then (R99, R315) -/
  rx : Time := 0
  untrusted : Bool := false
  deriving DecidableEq, Repr

/-- A request on a serial meter bus that waits for its answer (R314). -/
structure SmbReq where
  sq : Nat := 0
  idx : Nat := 0
  bytes : Bytes := []
  deriving DecidableEq, Repr

/-- A serial meter bus (R314). -/
structure Smb where
  /-- SMB_CFG; 2; reset 0: mode -/
  mode : Nat := 0
  /-- SMB_CFG; 32; reset 0: baud rate -/
  baud : Nat := 0
  /-- SMB_CFG; 8; reset 0: parity -/
  parity : Nat := 0
  /-- R314; 32; reset 0: frames discarded for errors, and for lack of ingress room -/
  errors : Nat := 0
  noRoom : Nat := 0
  /-- R314; reset none: request that waits for its answer, and requests behind it -/
  requests : List SmbReq := []
  deriving DecidableEq, Repr

/-- Ingest (chapter 09). -/
structure IngestPart where
  /-- R316; 16 pipelines; reset as the pipeline -/
  fips : Tab Fip := []
  /-- R319; 64 entries; reset entry i names FIP(i mod 16) (an unlisted entry) -/
  steerMap : Tab Nat := []
  /-- R319; 8; reset 32: STEER_LOW -/
  steerLow : Nat := 32
  /-- R313; one per port code; reset as the port -/
  ports : Tab PortCfg := []
  /-- R345; 16 templates; reset empty -/
  templates : Tab (List CaptureObj) := []
  /-- R348; 16 templates; reset empty: acknowledgement templates, protected mark and bytes -/
  ackTemplates : Tab (Bool × Bytes) := []
  /-- R330; 16 × 8,192 × 4 entries of 128 bits; reset 0: junction tables, entry 4 × bucket + slot of table n at
  32,768 × n -/
  junction : Tab (BitVec 128) := []
  /-- R336; 2^20 × 4 entries; reset none VALID: context directory, slot k of bucket b at 4 × b + k -/
  directory : Tab (Option DirEntry) := []
  /-- R338; 2,097,152 contexts of 256 bytes; reset 0 -/
  ctxs : Tab Ctx := []
  /-- R348; 1,048,576 entries; reset empty: reply store, by a number that is never given twice -/
  replies : Tab (Option ReplyEntry) := []
  /-- R348; the model's own: number of the next entry -/
  nextReply : Nat := 0
  /-- R348; the model's own: SENT entries so far, for their order -/
  sentCtr : Nat := 0
  /-- R321; 32; reset 1: next module-wide ingest sequence number -/
  nextSeq : Nat := 1
  /-- R325, R359; 1; reset 0: 0x807 has been written for the present exhaustion of the reply store -/
  replyHeld : Bool := false
  /-- R355; 4,096 peers; reset none -/
  peers : Tab Peer := []
  /-- R356; reset off -/
  uplink : Uplink := {}
  /-- R316; 1 MiB; reset empty: ingress buffer of the ETH ports, oldest first -/
  ingress : List EthWait := []
  /-- R316; 1; reset 0: the ETH ports assert PFC pause -/
  pause : Bool := false
  /-- R314; 4 buses; reset off -/
  smbs : Tab Smb := []
  deriving DecidableEq, Repr

end Sys2Proof.Machine
end

