-- ==== Sys2Proof/Machine/StateKeys.lean ====
section
/-! DEFINITION. Fuses, life cycle, key store, tamper, public-key engines and random numbers
(spec/12_keys_life_cycle_tamper.md, R423–R455). -/

namespace Sys2Proof.Machine

/-- The life-cycle states, in the order of their codes (R425). -/
inductive LifeCycle where
  | blank
  | mfg
  | provision
  | field
  | rma
  | void
  deriving DecidableEq, Repr

/-- A key record: two copies of share A with their epochs, share B with its epoch, and the type (R434). -/
structure KeyRec where
  /-- R434; 32 or 48 bytes; reset empty: MRAM copies of share A -/
  a0 : Bytes := []
  a1 : Bytes := []
  /-- R434; 8 each; reset 0: epochs of the A copies -/
  ea0 : Nat := 0
  ea1 : Nat := 0
  /-- R434; reset empty: PD0 share B -/
  b : Bytes := []
  /-- R434; 8; reset 0: epoch of share B -/
  eb : Nat := 0
  /-- R434, R445; reset 0 (empty): 1 AES-128, 2 AES-256, 3 P-256, 4 P-384 -/
  typ : Nat := 0
  /-- R444; 8; reset 0: usage mask -/
  usage : Nat := 0
  /-- R434; 16; reset 0: CRC-16 of the record, checked on every read -/
  crc : Nat := 0
  deriving DecidableEq, Repr

/-- State record of a mailbox and session pair (R437). -/
structure SessRec where
  /-- 8; reset 0: KVER -/
  kver : Nat := 0
  /-- 32; reset 0: stored AUTH_COUNTER (R59) -/
  counter : Nat := 0
  /-- 8; reset 0: consecutive failures (R59) -/
  fails : Nat := 0
  deriving DecidableEq, Repr

/-- Metadata of an OMK slot (R439). Instances are the records 3 × slot to 3 × slot + 2. -/
structure OmkSlot where
  /-- reset none: instance that is current, grace, candidate -/
  current : Option Nat := none
  grace : Option Nat := none
  candidate : Option Nat := none
  /-- 8; reset 0: current generation -/
  gen : Nat := 0
  /-- 8; reset 0: generation of the grace instance -/
  graceGen : Nat := 0
  /-- 72; reset 0: TB2 time of the last commit -/
  commitTb2 : Time := 0
  /-- 1; reset 0: the candidate has been verified -/
  verified : Bool := false
  /-- R383; 20; reset 86,400: GRACE in s -/
  graceSecs : Nat := 86400
  /-- R383; TB1 value at the last commit, from which GRACE runs -/
  commitTb1 : Time := 0
  /-- KEYGEN_STATUS, R553; 32 each; reset 0: operations under the current and the grace generation, stale retries -/
  opsCurrent : Nat := 0
  opsGrace : Nat := 0
  staleRetries : Nat := 0
  deriving DecidableEq, Repr

/-- The transition journal (R429). -/
structure Journal where
  src : LifeCycle := .blank
  dst : LifeCycle := .blank
  bundle : Bytes := []
  /-- R462; bank and image key envelope, wrapped for the next state's DIK -/
  iks : List (Nat × Bytes) := []
  /-- R429, step 2: signature of the next state's attestation -/
  sig : Bytes := []
  deriving DecidableEq, Repr

/-- A life-cycle transition in progress (R429). -/
structure LcRun where
  dst : LifeCycle := .blank
  mb : Nat := 4
  deriving DecidableEq, Repr

/-- Who waits for a public-key operation (R452, R484). -/
inductive PkeJob where
  /-- the command of a mailbox, which completes when the operation ends -/
  | command (mb : Nat) (req : Req)
  /-- the signature of the SESSION record of a session id (R242) -/
  | session (id : Nat)
  /-- work whose completion has a row of its own -/
  | other
  deriving DecidableEq, Repr

/-- A request for a public-key engine (R452). -/
structure PkeReq where
  /-- class 1–5 -/
  cls : Nat := 5
  /-- what asked -/
  job : PkeJob := .other
  /-- TB1 when it was asked (R452) -/
  since : Time := 0
  /-- it has waited 100 ms and risen one class -/
  risen : Bool := false
  deriving DecidableEq, Repr

/-- Keys, life cycle and tamper (chapter 12). -/
structure KeyPart where
  /-- R423; 10; reset 0x00F, PROVISION (DESIGN CHOICE 11; fuse): LC_THERMO -/
  thermo : Nat := 0x00F
  /-- R423; 2; reset 0 (DESIGN CHOICE 11; fuse): DEBUG_DIS -/
  debugDis : Nat := 0
  /-- R423, R424; reset 0 (DESIGN CHOICE 11; fuse): number of the draw that gave the four roots; the roots themselves are
  the uninterpreted Config.root of it -/
  rootDraw : Nat := 0
  /-- R424, R425; 1; reset 0: ROOT_FAULT -/
  rootFault : Bool := false
  /-- R425, R448; 1; reset 0: PD0 tamper latch -/
  latch : Bool := false
  /-- R430; 32; reset 0 (DESIGN CHOICE 11): ALARM_SEQ -/
  alarmSeq : Nat := 0
  /-- R429, R434; reset 0: number of the draw that gave the store mask -/
  storeMask : Nat := 0
  /-- R384; reset none: revocations on their way to PD5, of one OMK slot or of every root -/
  revocations : List (Option Nat) := []
  /-- R448; 1; reset 0: the module is in ALARM_HOLD -/
  alarmHold : Bool := false
  /-- R427; 1; reset 0: LC_DEBUG_OPEN has opened the debug port -/
  debugOpen : Bool := false
  /-- R434; 3 records; reset empty (DESIGN CHOICE 11): AUK_1–AUK_3 -/
  auks : Tab KeyRec := []
  /-- R437; 48 records; reset 0: mailbox session state, pair (m, s) at 16 × m + s -/
  sess : Tab SessRec := []
  /-- R434, R439; 192 records; reset empty: OMK instances -/
  omkRecs : Tab KeyRec := []
  /-- R439; 64 slots; reset empty -/
  omks : Tab OmkSlot := []
  /-- R444; 255 records; reset empty: GK0–GK254 -/
  gks : Tab KeyRec := []
  /-- R435; 192 entries; reset empty: lane key RAM, first and second share of each OMK instance -/
  laneRam : Tab (Bytes × Bytes) := []
  /-- R429; reset none: transition journal -/
  journal : Option Journal := none
  /-- R429; reset none: transition in progress -/
  run : Option LcRun := none
  /-- R449; reset none: mailbox and bundle of an LC_RECOVER in progress -/
  recover : Option (Nat × Bytes) := none
  /-- R433; reset none: statements of the transitions since MFG: new state and signature -/
  statements : List (Nat × Bytes) := []
  /-- R447; 8; reset 0 (DESIGN CHOICE 12): modes of TMP0–TMP7 (1 and 2 enabled, 0 off; TMP7 1) -/
  modes : List Nat := [0, 0, 0, 0, 0, 0, 0, 1]
  /-- R446, R447; 13; reset the default actions of R446: action of classes 4–16, 1 ALARM, 0 RECORD -/
  actions : List Nat := [0, 0, 0, 0, 0, 0, 0, 1, 1, 1, 1, 1, 0]
  /-- R446, TMP_STATUS; 8; reset 0 (DESIGN CHOICE 11): level of TMP0–TMP6 at the last sample; bit 7, the lid mesh trips -/
  inputs : Nat := 0
  /-- R446; 2; reset 0: lid mesh traces that trip -/
  meshTrips : Nat := 0
  /-- R446, R449, TMP_STATUS; 13; reset 0: classes 4–16 that trip, class 4 in bit 0 -/
  tripping : Nat := 0
  /-- R446; reset none: dies whose sensor or shield trips, by class -/
  diesTripping : List (Nat × Nat) := []
  /-- R446; reset 0: number of the draw that seeded the mesh streams -/
  meshSeed : Nat := 0
  /-- R448; reset none: classes latched by the backup section while it was alone, with their TB2 times -/
  sleepTrips : List (Nat × Time) := []
  /-- R452; reset none: request running in each PKE -/
  pkeRun : Tab (Option PkeReq) := []
  /-- SEC_STATUS; 32 each; reset 0: operations of each PKE -/
  pkeOps : Tab Nat := []
  /-- R452; reset none: waiting requests, oldest first -/
  pkeQueue : List PkeReq := []
  /-- R453; 1; reset 1: the health tests pass -/
  rngHealthy : Bool := true
  /-- R453; reset 0: reseeds so far -/
  reseeds : Nat := 0
  /-- SEC_STATUS; 32; reset 0: re-masks skipped -/
  remaskSkips : Nat := 0
  /-- the model's own: number of random draws so far; the draws are the uninterpreted Config.drbg -/
  rngCtr : Nat := 0
  /-- the model's own: number of free values taken so far (DESIGN CHOICE 2) -/
  freeCtr : Nat := 0
  deriving DecidableEq, Repr

end Sys2Proof.Machine
end

