-- ==== Sys2Proof/Machine/StateLane.lean ====
section
/-! DEFINITION. Cipher lanes, lane queues and session slots (spec/10_frame_security.md, R360–R390). -/

namespace Sys2Proof.Machine

/-- The lane states (R364). OFF is not stored: it is the state of every lane while PD5 is off. -/
inductive LaneState where
  | idle
  | busy
  | lent
  | fenced
  | test
  deriving DecidableEq, Repr

/-- Where a record that carries a DX envelope came from (R351): the ETH port, the source address, and TB0 at the end of its reception with whether TB0
or TB2 was not VALID then (R99). -/
structure DxFrom where
  eth : Nat := 0
  addr : Bytes := []
  rx : Time := 0
  untrusted : Bool := false
  deriving DecidableEq, Repr

/-- A lane operation (R362): VERIFY of an ingest frame, PROTECT of its acknowledgement, and the session operations on a slot:
SEAL of a plaintext (sent on ETH port `eth` when an uplink envelope), OPEN of a record (of a DX envelope, or one of Nulvo's), UPDATE. -/
inductive LaneKind where
  | verify
  | protect
  | seal (slot : Nat) (plain : Bytes) (eth : Option Nat)
  | openRec (slot : Nat) (record : Bytes) (dx : Option DxFrom)
  | update (slot : Nat)
  deriving DecidableEq, Repr

/-- An operation that waits in a lane queue (R365). -/
structure LaneReq where
  kind : LaneKind := .verify
  /-- in-flight tag of its frame -/
  tag : Nat := 0
  /-- R382; the number of the instance under which a retry runs, or none for the current one -/
  inst : Option Nat := none
  /-- TB1 value when it entered the queue (R366) -/
  since : Time := 0
  deriving DecidableEq, Repr

/-- A session slot (R387). -/
structure SessSlot where
  /-- byte 0; reset 0: KIND -/
  kind : Nat := 0
  /-- byte 1; reset 0: DIR -/
  dir : Nat := 0
  /-- byte 2; reset 0: HOME_FIP -/
  homeFip : Nat := 0
  /-- byte 3; reset 0: STATE -/
  state : Nat := 0
  /-- bytes 4–7; reset 0: OWNER -/
  owner : Nat := 0
  /-- bytes 8–39; reset 0 (no bytes): SECRET -/
  secret : Bytes := []
  /-- bytes 40–41; reset 0: EPOCH -/
  epoch : Nat := 0
  /-- bytes 48–55; reset 0: SEQ -/
  seq : Nat := 0
  /-- bytes 56–63; reset 0: WIN -/
  win : Nat := 0
  /-- bytes 64–65; reset 0: UPDATES -/
  updates : Nat := 0
  /-- bytes 66–69; reset 0: RECORDS -/
  records : Nat := 0
  /-- R389; 32; reset 0: DTLS records dropped (no byte of the slot shows the count) -/
  dropped : Nat := 0
  deriving DecidableEq, Repr

/-- The operation that occupies a lane (R362). -/
structure LaneOp where
  kind : LaneKind := .verify
  /-- pipeline and in-flight tag of its frame -/
  fip : Nat := 0
  tag : Nat := 0
  /-- OMK slot, the instance unmasked and its generation (R381) -/
  omk : Nat := 0
  inst : Nat := 0
  gen : Nat := 0
  /-- R388, R390; the session slot as it was at dispatch -/
  sess : SessSlot := {}
  /-- R373; an RFC 3394 unwrap gave a wrong integrity value -/
  unwrapBad : Bool := false
  deriving DecidableEq, Repr

/-- One cipher lane (R360, CL_STATUS). -/
structure Lane where
  /-- R364; 3; reset IDLE once PD5 is on: state -/
  state : LaneState := .idle
  /-- R360; 256; reset 0 (no bytes): working key register WKR -/
  wkr : Bytes := []
  /-- R360; 512; reset 0 (no bytes): AAD buffer -/
  aad : Bytes := []
  /-- R362; reset none: operation in progress -/
  op : Option LaneOp := none
  /-- CL_STATUS; 32 each; reset 0: operations, operations while lent, faults, operations discarded -/
  ops : Nat := 0
  lentOps : Nat := 0
  faults : Nat := 0
  discarded : Nat := 0
  /-- R364; reset none: mailbox of the CL_TEST in progress -/
  testMb : Option Nat := none
  deriving DecidableEq, Repr

/-- Frame security (chapter 10). -/
structure LanePart where
  /-- R360; 64 lanes; reset as the lane -/
  lanes : Tab Lane := []
  /-- R365; 16 queues of 24 operations; reset empty: lane queue of each pipeline, oldest first; entries beyond 24 are held
  by its LANE stage -/
  queues : Tab (List LaneReq) := []
  /-- R366; 3 × 16; reset 2: BORROW_MAX of each pipeline -/
  borrowMax : Tab Nat := []
  /-- R387; 256 slots of 128 bytes; reset empty -/
  sessions : Tab SessSlot := []
  deriving DecidableEq, Repr

end Sys2Proof.Machine
end

