-- ==== Sys2Proof/Machine/StateLegal.lean ====
section
/-! DEFINITION. Tamper records, the legal log and the legal partition's standing
(spec/05_tariffs_billing_legal.md, R202–R211). -/

namespace Sys2Proof.Machine

/-- The 32 bytes of an MRAM tamper record (R203). -/
def tamperRecord (count : Nat) (first last : Time) (flags : Nat) : Bytes :=
  let b := leBytes 5 count ++ leBytes 9 first.toNat ++ leBytes 9 last.toNat ++ leBytes 1 flags ++ List.replicate 6 0
  b ++ leBytes 2 (crc16 b).toNat

/-- A tamper class and its two records (R203). -/
structure Tamper where
  /-- 36; reset 0 -/
  count : Nat := 0
  /-- 72 each; reset 0 -/
  first : Time := 0
  last : Time := 0
  firstBad : Bool := false
  lastBad : Bool := false
  /-- R203; 32 bytes each; MRAM records A and B; reset the record of count 0 (DESIGN CHOICE 17) -/
  recA : Bytes := tamperRecord 0 0 0 0
  recB : Bytes := tamperRecord 0 0 0 0
  /-- R203; 1; reset 0: the next update goes to record B -/
  nextB : Bool := false
  deriving DecidableEq, Repr

/-- A legal log entry (R209). -/
structure LegalEntry where
  index : Nat := 0
  code : Nat := 0
  opcode : Nat := 0
  session : Nat := 0xFF
  tb2 : Time := 0
  tb0 : Time := 0
  epoch : Nat := 0
  cv : Nat := 0
  counter : Nat := 0
  /-- bytes 0–15 of the SHA-256 of the previous entry -/
  prev : Bytes := []
  detail : Bytes := []
  deriving DecidableEq, Repr

/-- The legal state of PD10 (R211). -/
inductive LegalState where
  | none
  | inService
  | decommissioned
  deriving DecidableEq, Repr

/-- Tamper records and the legal log. -/
structure LegalPart where
  /-- R202, R203; 32 classes; reset count 0 -/
  tamper : Tab Tamper := []
  /-- R209, R210; 1,024 entries; reset none: legal log, newest first -/
  entries : List LegalEntry := []
  /-- R211; reset none -/
  state : LegalState := .none
  /-- R206; 32 bytes; reset 0 bytes: digest of the legal code in force -/
  digest : Bytes := []
  /-- R206; 72; reset 0: TB2 at the computation of the digest -/
  digestTb2 : Time := 0
  /-- R189; 8 × 32; reset 0: epoch of the open billing period of each tariff table -/
  epochs : Tab Nat := []
  deriving DecidableEq, Repr

end Sys2Proof.Machine
end

