-- ==== Sys2Proof/Machine/StateLine.lean ====
section
/-! DEFINITION. Powerline channels, neighbours, tone maps, routes and networks (spec/07_powerline.md, R247–R282;
spec/01_module_organisation.md, R40, R41). -/

namespace Sys2Proof.Machine

/-- A tone map entry (R262). EXPIRED is not stored: it follows from `updated` and TM_MAX_AGE. -/
structure ToneMap where
  /-- 3; reset 0: modulation -/
  mod : Nat := 0
  /-- 1; reset 0: coherent form -/
  coherent : Bool := false
  /-- 24; reset 0: mask -/
  mask : Nat := 0
  /-- 24 × 8; reset 0: SNR per group of a reverse entry -/
  snr : List Int := []
  /-- 24 × 4; reset 0: transmit coefficients of a forward entry -/
  txcoef : List Nat := []
  /-- 16; reset 0: capacity -/
  cap : Nat := 0
  /-- 32; reset 0: TB1 seconds at the last update -/
  updated : Nat := 0
  /-- 8; reset 0: source -/
  source : Nat := 0
  /-- 1; reset 0: REFRESH_PENDING -/
  pending : Bool := false
  deriving DecidableEq, Repr

/-- An early refresh of a neighbour and slot (R268). -/
structure Refresh where
  /-- reset 0: requests sent for the refresh that is pending -/
  attempts : Nat := 0
  /-- reset none: TB1 seconds at the last early refresh -/
  last : Option Nat := none
  deriving DecidableEq, Repr

/-- One accepted frame of a dedupe window (R259). -/
structure Dedupe where
  seq : Nat := 0
  secured : Bool := false
  counter : Nat := 0
  /-- the MIC, or the frame check sequence of an unsecured frame -/
  check : Nat := 0
  /-- TB1 value at acceptance -/
  at_ : Time := 0
  deriving DecidableEq, Repr

/-- A neighbour entry (R272–R274). -/
structure Neighbour where
  /-- 64; reset 0: EUI-64 -/
  eui : Nat := 0
  /-- R273; 16; reset 512: etx -/
  etx : Nat := 512
  /-- R274; 16; reset 0: toll, and toll last reported -/
  toll : Nat := 0
  reported : Nat := 0
  /-- R272; 32; reset 0: TB1 seconds when last heard -/
  heard : Nat := 0
  /-- R263; 1; reset 0: coherent support announced -/
  coherent : Bool := false
  /-- R259; 4; reset empty: dedupe window, newest first -/
  window : List Dedupe := []
  /-- R262; 6 each; reset empty: forward and reverse entries by slot -/
  fwd : Tab ToneMap := []
  rev : Tab ToneMap := []
  /-- R268; 6; reset none: early refreshes by slot -/
  refresh : Tab Refresh := []
  /-- R268; 2; reset 0: consecutive transmissions without acknowledgement -/
  misses : Nat := 0
  /-- R265; reset 0: slot in which the payload of the last frame that carried a tone map request began -/
  asked : Nat := 0
  deriving DecidableEq, Repr

/-- A route (R275). -/
structure Route where
  next : Nat := 0
  toll : Nat := 0
  hops : Nat := 0
  /-- TB1 seconds at which it lapses -/
  expiry : Nat := 0
  deriving DecidableEq, Repr

/-- A frame in a transmit queue (R269, R276). -/
structure PlTx where
  /-- final destination and next hop -/
  dest : Nat := 0
  next : Nat := 0
  hopsLeft : Nat := 0
  payload : Bytes := []
  secure : Bool := false
  ack : Bool := true
  high : Bool := false
  /-- key index, frame counter and sequence number given on entry -/
  keyIndex : Nat := 0
  counter : Nat := 0
  seq : Nat := 0
  /-- 0 reply, 1 forwarding, 2 Nulvo, 3 host -/
  queue : Nat := 3
  /-- submission-queue entry of a host frame -/
  host : Option (Nat × Nat) := none
  /-- R248; of a fragment: datagram tag, offset, size of the packet; and that a later fragment of it follows in the queue -/
  frag : Option (Nat × Nat × Nat) := none
  more : Bool := false
  deriving DecidableEq, Repr

/-- A frame on the line that waits for its acknowledgement (R270). -/
structure PlSent where
  frame : PlTx := {}
  /-- transmissions so far -/
  sent : Nat := 1
  /-- modulation of the last transmission, its form and mask -/
  mod : Nat := 0
  coherent : Bool := false
  mask : Nat := 0
  /-- the frame carries a tone map request (R267, R268) -/
  request : Bool := false
  /-- slot of the payload start of the last transmission (R268) -/
  slot : Nat := 0
  /-- its retransmission waits for a transmit turn (R41) -/
  retry : Bool := false
  deriving DecidableEq, Repr

/-- A link acknowledgement that is due (R258, R269). -/
structure AckDue where
  dest : Nat := 0
  seq : Nat := 0
  deriving DecidableEq, Repr

/-- A reassembly in progress (R258). -/
structure Reassembly where
  source : Nat := 0
  tag : Nat := 0
  size : Nat := 0
  /-- fragments stored: offset and bytes -/
  parts : List (Nat × Bytes) := []
  /-- TB1 seconds of the last new fragment -/
  last : Nat := 0
  deriving DecidableEq, Repr

/-- A tone map refresh that a command asked for (R281). -/
structure TmCommand where
  mb : Nat := 0
  short : Nat := 0
  /-- slots still pending, and slots whose forward entries were updated -/
  wait : Nat := 0
  done : Nat := 0
  /-- TB1 seconds when the command was accepted -/
  since : Nat := 0
  deriving DecidableEq, Repr

/-- A powerline channel (R247, R269, PL_CFG, PL_STATUS). -/
structure PlChannel where
  /-- R247; 2; reset 0: mode -/
  mode : Nat := 0
  /-- R249; 2; reset 0: band -/
  band : Nat := 0
  /-- R252; 2; reset 0: network -/
  net : Nat := 0
  /-- R251; 6; reset 0 (DESIGN CHOICE 25): transmit attenuation, 0.5 dB -/
  atten : Nat := 0
  /-- R260; 5; reset 12: IMP_THRESH, dB -/
  impThresh : Nat := 12
  /-- R270; 3; reset 5: MAX_RETRIES -/
  maxRetries : Nat := 5
  /-- R262; 12; reset 120: TM_MAX_AGE, s -/
  tmMaxAge : Nat := 120
  /-- R272; 1,024; reset empty: neighbours by short address -/
  nbrs : Tab Neighbour := []
  /-- R275; 2,048; reset empty: routes by destination -/
  routes : Tab (Option Route) := []
  /-- R258; 32; reset none: reassemblies -/
  parts : List Reassembly := []
  /-- R269; reset empty: link acknowledgements due -/
  acks : List AckDue := []
  /-- R269; 16, 32, 32 and 64 frames; reset empty: reply, forwarding, Nulvo and host queues -/
  reply : List PlTx := []
  fwd : List PlTx := []
  nulvo : List PlTx := []
  host : List PlTx := []
  /-- R270; reset none: frame that waits for its acknowledgement -/
  sent : Option PlSent := none
  /-- R264; 6 × 256; reset none erased: erasure marks of the last payload symbols per slot, newest first -/
  erasures : Tab (List Bool) := []
  /-- R264; 6; reset 0: IMPULSIVE per slot -/
  impulsive : Nat := 0
  /-- R281; reset none: PL_TM_REFRESH in progress -/
  tmCommands : List TmCommand := []
  /-- R280; 32; reset 0: count of LINK records, and of those dropped -/
  linkCount : Nat := 0
  linkDropped : Nat := 0
  /-- PL_STATUS; 32 each; reset 0 -/
  rx : Nat := 0
  acked : Nat := 0
  tx : Nat := 0
  delivered : Nat := 0
  failed : Nat := 0
  dup : Nat := 0
  replay : Nat := 0
  secfail : Nat := 0
  nbrFull : Nat := 0
  fwdDrop : Nat := 0
  deriving DecidableEq, Repr

/-- A narrowband network (R252). -/
structure PlNet where
  /-- 16; reset 0 (DESIGN CHOICE 25): PAN identifier -/
  pan : Nat := 0
  /-- 16; reset 0xFFFF (DESIGN CHOICE 25): short address -/
  short : Nat := 0xFFFF
  /-- 64; reset 0 (DESIGN CHOICE 25): EUI-64 -/
  eui : Nat := 0
  /-- 8 × 2; reset 0xFF (DESIGN CHOICE 25): key slots of key indexes 0 and 1 -/
  key0 : Nat := 0xFF
  key1 : Nat := 0xFF
  /-- 8; reset 0 (DESIGN CHOICE 25): queue of LINK records -/
  hq : Nat := 0
  /-- R274; 8; reset 16: w_air -/
  wAir : Nat := 16
  /-- R274; 10; reset 8: w_hop -/
  wHop : Nat := 8
  /-- R274; 7; reset 25: TOLL_DELTA, % -/
  tollDelta : Nat := 25
  /-- R261; 65,536 × 2 × 32; reset 0: received frame counters, of short address a under key index i at 2a + i -/
  rxCounters : Tab Nat := []
  /-- R261; 2 × 32; reset 0: own transmit counters -/
  txCounters : Tab Nat := []
  /-- R276; 8; reset 0: next MAC sequence number -/
  seq : Nat := 0
  /-- R256; 1; reset 0: the network was SLOTTED when last looked at -/
  slotted : Bool := false
  /-- R248; ≤ 64 bytes; reset empty: beacon template -/
  beacon : Bytes := []
  deriving DecidableEq, Repr

/-- The powerline part (chapter 07). -/
structure LinePart where
  /-- R247; 16 channels; reset off -/
  chans : Tab PlChannel := []
  /-- R252; 4 networks; reset unconfigured -/
  nets : Tab PlNet := []
  /-- R40; 16 × 4; reset in no group: coupling group of a channel, plus 1 -/
  coupling : Tab Nat := []
  /-- R41; 8 × 4; reset 0: channel of each group that took the last data turn, plus 1 -/
  turn : Tab Nat := []
  deriving DecidableEq, Repr

end Sys2Proof.Machine
end

