-- ==== Sys2Proof/Machine/StateLog.lean ====
section
/-! DEFINITION. The fault units, the fault status registers and the logbook (spec/14_faults_logbook.md, R477–R505). -/

namespace Sys2Proof.Machine

/-- The handling state of a unit, with the codes of FAULT_UNITu.STATE (R481, R491). -/
inductive UnitState where
  | ready
  | handlingF1
  | handlingF2
  | fenced
  | recovering
  | off
  deriving DecidableEq, Repr

/-- One fault unit (R478, R481, R491). -/
structure FaultUnit where
  /-- R481; 3; reset READY (OFF for a unit of a domain that is off) -/
  state : UnitState := .ready
  /-- R491; 2; reset 0: class taken for the last fault -/
  lastClass : Nat := 0
  /-- R491; 1; reset 0 -/
  escalated : Bool := false
  /-- R491; 12; reset 0: logbook code of the last fault -/
  lastCode : Nat := 0
  /-- R491; 8; reset 0: F1 and F2 faults, modulo 256 -/
  faults : Nat := 0
  /-- R486; reset none: seconds of the fences within the last 86,400 s, newest first -/
  fences : List Nat := []
  /-- R486; 1; reset 0 -/
  retired : Bool := false
  /-- R493; reset none: item and second of the last mismatches, newest first -/
  mismatches : List (Nat × Nat) := []
  /-- FAULT_STATUS; 72; reset 0: TB0 of the first mismatch -/
  firstMismatch : Time := 0
  /-- R505; reset 0: code of the fault that the fence in progress answers -/
  fenceCause : Nat := 0
  /-- R479; reset 0xFFFF and none: object and snapshots of the F1 being handled -/
  f1Obj : Nat := 0xFFFF
  f1Snaps : List Time := []
  /-- R505; reset 0: frames or operations the fence has discarded -/
  fenceWork : Nat := 0
  /-- R487; reset none: mailbox of the UNIT_RECOVER in progress -/
  recoverMb : Option Nat := none
  deriving DecidableEq, Repr

/-- A logbook record (R494). -/
structure LogRec where
  /-- bits 11:0 of bytes 0–1 -/
  code : Nat := 0
  /-- bits 14:12 of bytes 0–1 (R495) -/
  sev : Nat := 0
  /-- bytes 2–3 (R498) -/
  suppressed : Nat := 0
  /-- bytes 4–7 (R501) -/
  rn : Nat := 0
  /-- bytes 8–16 -/
  tb0 : Time := 0
  /-- bytes 17–25 -/
  tb2 : Time := 0
  /-- byte 27 bit 0 -/
  tb0Bad : Bool := false
  /-- byte 27 bit 1 -/
  tb2Bad : Bool := false
  /-- byte 27 bit 2 (R550) -/
  escalated : Bool := false
  /-- byte 27 bits 4:3 (R550) -/
  detected : Nat := 0
  /-- byte 27 bit 5 (R500) -/
  viaPd10 : Bool := false
  /-- bytes 28–29 (R478); 0xFFFF none -/
  unit : Nat := 0xFFFF
  /-- bytes 30–31 (R496); 0xFFFF none -/
  obj : Nat := 0xFFFF
  /-- S0–S7 (R496) -/
  snaps : List Time := []
  deriving DecidableEq, Repr

/-- The token bucket of one logbook code (R498). -/
structure Bucket where
  /-- 4; reset 0: tokens taken out of the bucket's 8 -/
  used : Nat := 0
  /-- 16; reset 0: suppressed count -/
  suppressed : Nat := 0
  /-- 22; reset 0 (the default period): refill period in ms set by LOG_RATE_SET, persisted -/
  period : Nat := 0
  /-- 3; reset 0: severity of the most recent record that was due -/
  lastSev : Nat := 0
  /-- 72; reset 0: instant from which the refill period under way is timed -/
  since : Time := 0
  deriving DecidableEq, Repr

/-- The module restart in progress (R488). -/
structure Restart where
  /-- cause code -/
  code : Nat := 0
  /-- unit of the F3 -/
  unit : Nat := 0
  /-- restarts in the last 600 s -/
  recent : Nat := 0
  deriving DecidableEq, Repr

/-- Faults and the logbook (chapter 14). -/
structure LogPart where
  /-- R481, R491; 192 units; reset READY, or OFF with the domain -/
  units : Tab FaultUnit := []
  /-- R491; 4; reset 0: FAULT_EVENTS -/
  events : Nat := 0
  /-- R491; 32; reset 0: FAULT_LAST_F3 -/
  lastF3 : Nat := 0
  /-- R491; 32; reset 0: FAULT_F3_COUNT -/
  f3Count : Nat := 0
  /-- the model's own: seconds that TB1 had counted before the last reset of PD2, so that the windows of R486 and R490 span
  restarts -/
  tb1Base : Nat := 0
  /-- R490; reset none: seconds of the F3 restarts, newest first -/
  f3Times : List Nat := []
  /-- R490; 1; reset 0: F3_LIMIT -/
  f3Limit : Bool := false
  /-- R491; 32; reset 0: FAULT_COUNT_F1 -/
  countF1 : Nat := 0
  /-- R491; 32; reset 0: FAULT_COUNT_F2 -/
  countF2 : Nat := 0
  /-- R491; 32; reset 0: MISMATCH_COUNT -/
  mismatchCount : Nat := 0
  /-- R488; reset none: restart whose reset is still asserted -/
  restart : Option Restart := none
  /-- R489; reset none: unit of an F3 of PD10 that is being handled, and the TB2 value of its commit -/
  pd10Restart : Option (Nat × Time) := none
  /-- R505 (0xC12); reset 0: corrected ECC errors since the last record, per unit -/
  corrected : Tab Nat := []
  /-- R480; reset none: TB1 time in µs of the retransmissions within the last ms, per hop -/
  retransmits : Tab (List Nat) := []
  /-- R499; 256 records; reset empty: staging buffer, oldest first -/
  staging : List LogRec := []
  /-- R500; 32 records; reset empty: PD10 ring, oldest first -/
  ring : List LogRec := []
  /-- R501; MRAM; reset empty: flushed records by RN -/
  recs : Tab LogRec := []
  /-- R502; 32; reset 0 (from MRAM; a new module): LOG_NEXT -/
  next : Nat := 0
  /-- R502; 32; reset 2,048 (DESIGN CHOICE 6; from MRAM, a new module): LOG_OLDEST -/
  oldest : Nat := 2048
  /-- R502; 1; reset 0: the circulating area has overwritten a record -/
  wrapped : Bool := false
  /-- R502; 32; reset 0: LOG_CURSOR -/
  cursor : Nat := 0
  /-- R502; 1,024; reset 0: LOG_WINDOW, the record loaded -/
  window : Option LogRec := none
  /-- R502; 1; reset 0: LOG_STATUS.GONE -/
  gone : Bool := false
  /-- R502; 32; reset 0: LOG_THRESH -/
  thresh : Nat := 0
  /-- R502; 32; reset 0: LOG_ACK -/
  ack : Nat := 0
  /-- R498, R502; 32; reset 0: LOG_SUPPRESSED -/
  suppressed : Nat := 0
  /-- R498; one bucket per code; reset full -/
  buckets : Tab Bucket := []
  /-- R505 (0xC08); reset 0: records suppressed while the staging buffer was full -/
  fullEpisode : Nat := 0
  deriving DecidableEq, Repr

end Sys2Proof.Machine
end

