-- ==== Sys2Proof/Machine/StateMeter.lean ====
section
/-! DEFINITION. The metrology part of the state: channels, calibration, metering points, energy registers, test pulse
outputs, intervals, the capture buffer and the power-fail commit (spec/04_metrology.md, R124–R180).

Energies are held in units of 2^-32 of a register's least significant bit (R148). -/

namespace Sys2Proof.Machine

/-- Background coefficients of one path at one gain (R130, R134). -/
structure Background where
  /-- R134; s32, 2^-8 code; reset 0 (DESIGN CHOICE 17): off_bg -/
  off : Int := 0
  /-- R134; u32, 2^-30; reset 2^30 (DESIGN CHOICE 17): gain_bg -/
  gain : Nat := 1073741824
  /-- R178 (MET_CAL_GET age); samples delivered when the coefficients were accepted; reset 0 -/
  since : Nat := 0
  deriving DecidableEq, Repr

/-- What corrects and scales a sample of a channel: path, gain, coefficients and scale (R134, R138). -/
structure Terms where
  path : Nat := 0
  gainExp : Nat := 0
  scale : Nat := 0
  bg : Background := {}
  trim : Int := 0
  off : Int := 0
  ph : Int := 0
  deriving DecidableEq, Repr

/-- A switch of a channel's path or terms at a sample boundary: what was in force before it (R129, R130, R133, R137, R138). -/
structure PathSwitch where
  ain : Nat := 0
  /-- number of the first sample after the switch -/
  at_ : Nat := 0
  terms : Terms := {}
  deriving DecidableEq, Repr

/-- One analog input channel (R126, R135, R138). -/
structure Channel where
  /-- R138; 2; reset 0: 0 unused, 1 voltage, 2 current, 3 residual -/
  kind : Nat := 0
  /-- R126; 3; reset 0: gain exponent -/
  gainExp : Nat := 0
  /-- R138; 48; reset 0 (DESIGN CHOICE 17): 2^-24 primary unit per volt -/
  scale : Nat := 0
  /-- R138; reset none: kind, gain exponent and scale that take effect at the next tick boundary -/
  pending : Option (Nat × Nat × Nat) := none
  /-- R135; 32; reset 0: trim_user, 2^-31 -/
  trim : Int := 0
  /-- R135; 32; reset 0: off_user, 2^-8 code -/
  off : Int := 0
  /-- R135; 32; reset 0: ph_user, 2^-16 sample -/
  ph : Int := 0
  /-- R137; reset none: user terms that take effect at the next tick boundary -/
  pendingCal : Option (Int × Int × Int) := none
  /-- R176; over-range samples of the last tick; reset 0 -/
  ovr : Nat := 0
  /-- R161; 1; reset 0: over range in the last measurement window -/
  ovrWindow : Bool := false
  /-- R131; consecutive failed slots; reset 0 -/
  fails : Nat := 0
  /-- R133; 1; reset 0: CAL_AGED -/
  aged : Bool := false
  /-- R146; reset 0: f (µHz) and thd (ppm) of the last window -/
  freq : Nat := 0
  thd : Nat := 0
  /-- R146; reset none: magnitude and angle of h = 1 to 63 -/
  harmonics : List (Nat × Int) := []
  deriving DecidableEq, Repr

/-- The binding of a metering point (R139, R140). -/
structure Binding where
  /-- R139; 3; reset 0: wiring -/
  wiring : Nat := 0
  /-- R139; nine slots V0–V3, I0–I3, IR; reset 255 each (none) -/
  slots : List Nat := [255, 255, 255, 255, 255, 255, 255, 255, 255]
  /-- R140; 32; reset 0: U_nom, mV -/
  uNom : Nat := 0
  /-- R140; 32; reset 0: I_nom, mA -/
  iNom : Nat := 0
  /-- R140; 8; reset 50 (DESIGN CHOICE 17): nominal frequency -/
  hz : Nat := 50
  deriving DecidableEq, Repr

/-- Configuration of an energy register (R149). -/
structure RegCfg where
  qty : Nat := 0
  mode : Nat := 0
  mask : Nat := 0
  deriving DecidableEq, Repr

/-- The configuration at reset of register `i` (R150). -/
def regCfgReset (i : Nat) : RegCfg :=
  if i = 0 then { qty := 1, mode := 2 }
  else if i = 1 then { qty := 1, mode := 3 }
  else if 2 ≤ i ∧ i ≤ 5 then { qty := 5, mode := 1, mask := 2 ^ (i - 2) }
  else if i = 6 then { qty := 9, mode := 2 }
  else if i = 7 then { qty := 9, mode := 3 }
  else if i = 8 then { qty := 1, mode := 0 }
  else if 9 ≤ i ∧ i ≤ 11 then { qty := i - 7, mode := 2 }
  else {}

/-- The 16 bytes of an MRAM record of an energy register: stored value with its fraction, write count, CRC-16 (R153). -/
def regRecord (value : Int) (count : Nat) : Bytes :=
  let b := leInt 9 (value / 2 ^ 32) ++ leInt 4 value ++ leBytes 1 count
  b ++ leBytes 2 (crc16 b).toNat

/-- One energy register (R148, R153); REG0–REG15 have index 0–15, I2T0–I2T3 have index 16–19. -/
structure EnergyReg where
  /-- R153; reset 0: stored value, 2^-32 of the least significant bit -/
  stored : Int := 0
  /-- R153; s48 and u32 fraction; reset 0: pending advance -/
  pending : Int := 0
  /-- R153; 16 bytes each; MRAM records A and B; reset the record of value 0 and count 0 (DESIGN CHOICE 17) -/
  recA : Bytes := regRecord 0 0
  recB : Bytes := regRecord 0 0
  /-- R153; 1; reset 0: the next write-through goes to record B -/
  nextB : Bool := false
  /-- R151; reset none: configuration and clear field that take effect at the next tick boundary -/
  pendingCfg : Option (RegCfg × Bool) := none
  deriving DecidableEq, Repr

/-- What one tick of a metering point gave: the content of its MT message (R158). -/
structure TickResult where
  /-- samples of the tick -/
  n : Nat := 0
  /-- TB3 at the end of the tick -/
  tb3 : Time := 0
  /-- totals dp, dq and ds -/
  dp : Int := 0
  dq : Int := 0
  ds : Int := 0
  /-- per-element active, reactive and apparent energy -/
  p : List Int := []
  q : List Int := []
  s : List Int := []
  /-- I²·t increments of I0–I3 -/
  i2t : List Int := []
  /-- tick RMS values of the nine slots, mV or mA -/
  rms : List Nat := []
  /-- DC mean of the residual slot, µA -/
  irDc : Int := 0
  /-- quadrant 1–4 -/
  quadrant : Nat := 1
  deriving DecidableEq, Repr

/-- The values of the last measurement window of a metering point (R145, R146). -/
structure WindowResult where
  /-- RMS of the nine slots, mV or mA -/
  rms : List Nat := []
  /-- active, reactive and apparent power of each element, W, var, VA -/
  p : List Int := []
  q : List Int := []
  s : List Int := []
  /-- totals -/
  pTotal : Int := 0
  qTotal : Int := 0
  sTotal : Int := 0
  /-- frequency, µHz -/
  freq : Nat := 0
  /-- power factor, 2^-14 -/
  pf : Int := 0
  /-- fundamental of (V0 + V1 + V2) / 3, mV -/
  neutral : Nat := 0
  deriving DecidableEq, Repr

/-- One metering point (R139–R176). -/
structure MeteringPoint where
  bind : Binding := {}
  /-- R141; reset none: the binding that takes effect at the next tick boundary -/
  pendingBind : Option Binding := none
  /-- R149; 16; reset as R150 -/
  cfgs : Tab RegCfg := []
  /-- R148; 20; reset 0 -/
  regs : Tab EnergyReg := []
  /-- R173; 16; reset 50: starting threshold, 10^-6 I_ref -/
  start : Nat := 50
  /-- R176; 1; reset 0 (DESIGN CHOICE 17): REVERSE_FLOW enabled -/
  revAlarm : Bool := false
  /-- R173; 3; reset 0: elements that are adding -/
  gates : Nat := 0
  /-- R173; reset none: squares of the element's current samples of the last 1 s, newest first, per element -/
  lastSecond : Tab (List Nat) := []
  /-- R176; 16; reset 0: alarm bits -/
  alarms : Nat := 0
  /-- R177; reset 0: the element for which an alarm was set, by alarm bit -/
  alarmElem : Tab Nat := []
  /-- R158; reset 0: the last tick -/
  tick : TickResult := {}
  /-- R145; reset 0: the last measurement window -/
  window : WindowResult := {}
  /-- R160; 1; reset 0: an alarm was set during the open interval -/
  alarmSeen : Bool := false
  /-- R141; 1; reset 0: CONFIG of the open interval -/
  config : Bool := false
  /-- R159; 32; reset 0: INTERVAL and PHASOR records counted -/
  intervals : Nat := 0
  phasors : Nat := 0
  /-- R155; reset none: REG0–REG15 and I2T0–I2T3 at the last boundary, in MRAM -/
  snapshot : List Int := []
  deriving DecidableEq, Repr

/-- A test pulse output (R171, R172). -/
structure Tpo where
  /-- R171; 1; reset 0 -/
  enable : Bool := false
  /-- R171; 5; reset 0 -/
  mp : Nat := 0
  /-- R171; 4; reset 0 -/
  reg : Nat := 0
  /-- R171; 48; reset 1 (DESIGN CHOICE 17): weight W -/
  weight : Nat := 1
  /-- R171; 16; reset 1 (DESIGN CHOICE 17): pulse width, 0.05 ms -/
  width : Nat := 1
  /-- R171; 1; reset 0 -/
  polarity : Nat := 0
  /-- R172; reset 0: residue, 2^-32 of the least significant bit; committed at a power fail -/
  residue : Nat := 0
  /-- R172; reset 0: residue in MRAM -/
  residueStored : Nat := 0
  /-- R172; reset 0: pulses carried to the next tick -/
  carried : Nat := 0
  /-- R172; reset 0: the instant from which the next pulse may start, 1.25 µs of the sample clock -/
  ready : Nat := 0
  deriving DecidableEq, Repr

/-- A raw capture in progress (R128). -/
structure Capture where
  ains : List Nat := []
  samples : Nat := 0
  /-- 1: starts at the next crossing of the first listed voltage channel -/
  atCrossing : Bool := false
  mb : Nat := 0
  deriving DecidableEq, Repr

/-- One outage record (R166). -/
structure Outage where
  cause : Nat := 0
  commitOk : Bool := false
  degraded : Bool := false
  brownout : Bool := false
  tb2Bad : Bool := false
  commits : Nat := 0
  trigger : Time := 0
  lastCommit : Time := 0
  restart : Time := 0
  deriving DecidableEq, Repr

/-- The hold-up check in progress (R165): periodic, or a HOLDUP_TEST of a mailbox. -/
inductive HoldupCheck where
  | none
  | periodic
  | test (mb : Nat)
  deriving DecidableEq, Repr

/-- A record of a boundary that has not been handed to the phasor output (R157). -/
structure UnsentRec where
  mp : Nat := 0
  payload : Bytes := []
  /-- TB0 at the boundary, and the validation flags it carries -/
  stamp : Time := 0
  vflags : Nat := 0
  deriving DecidableEq, Repr

/-- The step of the rotating-spare slot in progress (R129). -/
structure Rotation where
  /-- R132; 1; reset 0: the rotation is suspended -/
  suspended : Bool := false
  /-- R129; 7; reset 0: channel of the slot -/
  ain : Nat := 0
  /-- R129; 4; reset 1: step in progress, 1–9 -/
  step : Nat := 1
  /-- R133; 1; reset 0: the slot has been ended, and its measurements are discarded -/
  ended : Bool := false
  /-- R129; 1; reset 0: the spare path substitutes for the channel -/
  substituting : Bool := false
  /-- R129; reset 0: number of the first sample of the slot -/
  start : Nat := 0
  /-- R130; reset none: sum and count of the raw codes of the slot's last zero step -/
  zero : Option (Int × Nat) := none
  /-- R130; reset none: fresh coefficients waiting for their comparison -/
  fresh : Option Background := none
  /-- MET_ROTATION; 32; reset 0 -/
  rotations : Nat := 0
  failures : Nat := 0
  deriving DecidableEq, Repr

/-- Precision metrology (chapter 04). -/
structure MeterPart where
  /-- R124, R138; 96 channels; reset as Channel -/
  chans : Tab Channel := []
  /-- R130; 97 paths × 6 gains, index 6 × path + gain exponent; path 96 is the spare; reset as Background; in MRAM -/
  bgs : Tab Background := []
  /-- R129; reset as Rotation -/
  rot : Rotation := {}
  /-- R129, R130, R134; reset none: switches of the last 16,384 samples, oldest first -/
  switches : List PathSwitch := []
  /-- R136; 1; reset 1 (DESIGN CHOICE 17): the CRC-32 of the analog OTP was correct at the last PD10 start -/
  otpOk : Bool := true
  /-- R136; reset 0: PD10 starts of the module's life -/
  starts : Nat := 0
  /-- R138–R176; 32 metering points; reset as MeteringPoint -/
  points : Tab MeteringPoint := []
  /-- R142; reset 0: sample of the regular tick at which the next tick starts, 0–319 -/
  tickPos : Nat := 0
  /-- R142; reset 0: samples delivered since the first PD10 start -/
  samples : Nat := 0
  /-- R137; reset 0: fabric ticks since the last regular tick boundary -/
  tickAge : Nat := 0
  /-- R111; reset none: TB3 instants of the last 32 positive-going crossings of channel `ch` of point `mp`, newest first,
  index 4 × mp + ch -/
  crossed : Tab (List Time) := []
  /-- R155; reset 15: interval length, minutes -/
  minutes : Nat := 15
  /-- R155; reset none: length that takes effect at the next boundary of the old length -/
  minutesNext : Option Nat := none
  /-- R156; reset none: TB2 second of the last boundary taken -/
  lastBoundary : Option Nat := none
  /-- R156; reset 0: samples delivered when the open interval began -/
  intervalStart : Nat := 0
  /-- R156, R157; 3; reset 0: SHORT, LONG and CLKSTEP of the open interval -/
  short : Bool := false
  long : Bool := false
  clkStep : Bool := false
  /-- R157; 1; reset 0: POWER_FAIL of the open interval -/
  powerFail : Bool := false
  /-- R157; reset none: boundaries whose record has not been handed over, in MRAM -/
  unsent : List UnsentRec := []
  /-- MET_OUTPUT_CFG; reset 0 (DESIGN CHOICE 17): harvest queue, masks, rate -/
  outHq : Nat := 0
  intervalMask : Nat := 0
  phasorMask : Nat := 0
  phasorRate : Nat := 0
  /-- R159; reset 0: records dropped for lack of a cell reservation -/
  dropped : Nat := 0
  /-- R171; 8 test pulse outputs; reset as Tpo -/
  tpos : Tab Tpo := []
  /-- R128; 16,384 × 32; reset 0 (DESIGN CHOICE 3): capture buffer -/
  capture : Tab Nat := []
  /-- R128; reset none: capture in progress -/
  capturing : Option Capture := none
  /-- R163; 1; reset 0: GLOBAL_STATUS.PFAIL, hold-up operation -/
  pfail : Bool := false
  /-- R195, R196; 72; reset 0: TB2 at the sample boundary of the power-fail commit -/
  commitTb2 : Time := 0
  /-- R166; 16; reset none: outage records, newest first -/
  outages : List Outage := []
  /-- R165; reset none -/
  check : HoldupCheck := .none
  /-- R165; 1; reset 0: HOLDUP_DEGRADED -/
  degraded : Bool := false
  /-- R165; 1; reset 0: a check has passed since power good -/
  checkPassed : Bool := false
  deriving DecidableEq, Repr

end Sys2Proof.Machine
end

