-- ==== Sys2Proof/Machine/StatePower.lean ====
section
/-! DEFINITION. Power domains, clocks, fabric sharing, reset and hot plug (spec/01_module_organisation.md,
spec/15_connector_hot_plug.md, spec/16_electrical_mechanical.md). -/

namespace Sys2Proof.Machine

/-- What started the domain transition in progress, and who gets its final response (R24, R521, R523). -/
inductive TransitionBy where
  | pdSet (mb : Nat)
  | removal
  | resume (mb : Nat)
  deriving DecidableEq, Repr

/-- The domain transition in progress (R24, R26, R27). -/
structure Transition where
  /-- domains of the transition -/
  domains : List Nat := []
  /-- 1 switches on, 0 switches off -/
  on : Bool := false
  by_ : TransitionBy := .removal
  /-- R27: work left after 20 ms has been discarded -/
  discarded : Bool := false
  deriving DecidableEq, Repr

/-- The step that a removal has reached (R521). -/
inductive RemovalStep where
  /-- steps 1–3 done: frames in flight complete -/
  | inflight
  /-- step 4 done: pans and pond drain -/
  | drain
  /-- steps 5–6 done: the domains switch off once the transition that runs has ended (R24) -/
  | domains
  /-- step 8: SAFE_TO_REMOVE is set -/
  | safe
  deriving DecidableEq, Repr

/-- A removal in progress (R520, R521). -/
structure Removal where
  step : RemovalStep := .inflight
  /-- TB1 value at the request -/
  start : Time := 0
  /-- DRAIN in force for this removal, ms (R529) -/
  drain : Nat := 2000
  /-- packets discarded at the drain end -/
  discarded : Nat := 0
  deriving DecidableEq, Repr

/-- Power, clocks, fabric, reset and hot plug (chapters 01, 15 and 16). -/
structure PowerPart where
  /-- R17; 1; reset 0: the 3.3 V auxiliary supply is present and the PD0 service section runs -/
  aux : Bool := false
  /-- R17, R463; 1; reset 0: main power is good -/
  main : Bool := false
  /-- R555; 12; reset 0: bit n = PDn has power (PD_STATUS on) -/
  on : Nat := 0
  /-- R555; 12; reset 0: bit n = the units of PDn have joined steering -/
  joined : Nat := 0
  /-- R28; 12; reset 0 (DESIGN CHOICE 7; MRAM of a new module): persisted on/off state -/
  persisted : Nat := 0
  /-- R28; 1; reset 0: PD10 has been on in this module's life -/
  everMetro : Bool := false
  /-- PD_STATUS; 12; reset 0: supply fault bits -/
  supplyFault : Nat := 0
  /-- R24; reset none: the domain transition in progress -/
  transition : Option Transition := none
  /-- R38; 3 × 4; reset 4, 3, 2: DRAM weights of IN, HV and SP -/
  weights : Nat × Nat × Nat := (4, 3, 2)
  /-- R38; reset none: classes with a DRAM request promoted to the MT level -/
  promoted : List Nat := []
  /-- R38; reset 4, 3, 2 and 0: what is left of the round's weights, and slots since LG was served -/
  dramLeft : Nat × Nat × Nat := (4, 3, 2)
  dramSinceLg : Nat := 0
  /-- R21; 1; reset 0: root PLL locked -/
  pllLocked : Bool := false
  /-- R505, 0xC17; 72; reset 0: TB1 when the root PLL locked -/
  lockAt : Time := 0
  /-- R21; 1; reset 0: PD10 runs in bypass -/
  bypass : Bool := false
  /-- R512; 1; reset 0: REF40_IN is the reference in use -/
  refExternal : Bool := false
  /-- the model's own: starts so far -/
  starts : Nat := 0
  /-- R511; 1; reset 0: RST_IN_N holds the domains in reset -/
  rstIn : Bool := false
  /-- R81; 5; reset 0: RST_CAUSE -/
  rstCause : Nat := 0
  /-- R81; 3; reset 0: HP_STATUS bit 2 PRSNT -/
  prsnt : Bool := false
  /-- R511, R523; 1; reset 0: REMOVE_REQ_N is held low -/
  removeReq : Bool := false
  /-- R520, R530; reset 0: contact of the last PRSNT_N removal event, 1 or 2 -/
  lostContact : Nat := 0
  /-- R81, R520; 1; reset 0: HP_STATUS bit 0 REMOVE_PENDING, the latch of the PD0 service section -/
  removePending : Bool := false
  /-- R81; 1; reset 0: HP_STATUS bit 1 SAFE_TO_REMOVE -/
  safe : Bool := false
  /-- R521; reset none: the removal in progress -/
  removal : Option Removal := none
  /-- R521; 16; reset 2,000: DRAIN in ms, persisted -/
  drain : Nat := 2000
  /-- R518; 1; reset 0: the 12 V switch ramps or is closed -/
  switch : Bool := false
  /-- R518; reset 0: failed attempts of this insertion -/
  attempts : Nat := 0
  /-- R518, R530; reset 0: inrush faults since the last start that reached power good -/
  inrush : Nat := 0
  /-- R530; reset 0: largest peak current of those faults, mA -/
  inrushPeak : Nat := 0
  /-- R543; reset none: dies above 110 °C whose crossing has been reported -/
  hot : List Nat := []
  /-- R543; 1; reset 0: a restart holds at step 3 of R488 until every sensor reads below 100 °C -/
  thermalHold : Bool := false
  /-- R543, 0x138; reset 0: die whose sensor caused the last thermal cutoff -/
  cutoffDie : Nat := 0
  /-- R543, 0x138; 72; reset 0: TB2 when that cutoff was entered -/
  cutoffAt : Time := 0
  deriving DecidableEq, Repr

end Sys2Proof.Machine
end

