-- ==== Sys2Proof/Machine/StateRadio.lean ====
section
/-! DEFINITION. Radio channels, devices, scheduled links and networks (spec/08_radio.md, R283–R311). -/

namespace Sys2Proof.Machine

/-- A device entry (R295, R299). -/
structure Device where
  /-- 16; reset 0xFFFF: short address, where one is known -/
  short : Nat := 0xFFFF
  /-- 32; reset 0: TB1 seconds when last heard -/
  heard : Nat := 0
  /-- 4; reset empty: dedupe window, newest first -/
  window : List Dedupe := []
  /-- R299; 3 × 32; reset 0: received counters of mode 0, index 1 and index 2 -/
  c0 : Nat := 0
  c1 : Nat := 0
  c2 : Nat := 0
  /-- R295; reset none: channel and index of the scheduled link it is bound to -/
  link : Option (Nat × Nat) := none
  deriving DecidableEq, Repr

/-- A pending hopping update (R303). -/
structure LinkUpdate where
  at_ : Nat := 0
  map : BitVec 136 := 0
  seed : Nat := 0
  inc : Nat := 0
  deriving DecidableEq, Repr

/-- The states of a scheduled link (R307). -/
inductive LinkState where
  | synced
  | seeking
  | reAcquire
  deriving DecidableEq, Repr

/-- A frame in a radio transmit queue (R308). -/
structure RfTxFrame where
  /-- destination short address, or 0xFFFF with the EUI-64 -/
  short : Nat := 0xFFFF
  eui : Nat := 0
  payload : Bytes := []
  secure : Bool := false
  ack : Bool := true
  keyMode : Nat := 1
  keyIndex : Nat := 1
  counter : Nat := 0
  seq : Nat := 0
  /-- 1 event downlink, 2 reply, 3 Nulvo, 4 host -/
  queue : Nat := 4
  host : Option (Nat × Nat) := none
  /-- transmissions so far -/
  sent : Nat := 0
  deriving DecidableEq, Repr

/-- A scheduled link (R300). -/
structure Link where
  short : Nat := 0xFFFF
  eui : Nat := 0
  keySlot : Nat := 0xFF
  /-- ms -/
  w : Nat := 0
  e : Nat := 0
  eLast : Nat := 0
  aLast : Time := 0
  map : BitVec 136 := 0
  seed : Nat := 0
  inc : Nat := 1
  sup : Nat := 0
  guard : Nat := 10000
  acc : Nat := 20000
  alpha : Nat := 3
  missRv : Nat := 4
  err : Int := 0
  var : Nat := 0
  learned : Nat := 0
  misses : Nat := 0
  state : LinkState := .synced
  /-- R306; 32; reset 0: windows skipped -/
  skipped : Nat := 0
  /-- RF_LINK_READ; 32; reset 0: anchors acknowledged -/
  anchors : Nat := 0
  /-- R303; reset none -/
  update : Option LinkUpdate := none
  /-- R308; 4; reset none: event downlinks waiting, oldest first -/
  downlinks : List RfTxFrame := []
  /-- R304; 1; reset 0: the anchor of the current event has been acknowledged -/
  hit : Bool := false
  /-- R309; 8; reset 0: rssi of the last anchor -/
  rssi : Int := 0
  /-- R299; 32; reset 0: own transmit counter of the link key -/
  txCounter : Nat := 0
  deriving DecidableEq, Repr

/-- Channel access in progress (R291). -/
structure Access where
  frame : RfTxFrame := {}
  /-- backoff exponent and busy attempts -/
  be : Nat := 3
  busy : Nat := 0
  /-- unit backoffs drawn, and LBT listen in µs -/
  backoff : Nat := 0
  listen : Nat := 0
  deriving DecidableEq, Repr

/-- A radio channel (R286, R291, RF_STATUS). -/
structure RfChannel where
  /-- R283; 3; reset 0: PHY -/
  phy : Nat := 0
  rate : Nat := 0
  modIndex : Nat := 0
  gfsk : Nat := 0
  fec : Nat := 0
  net : Nat := 0
  /-- R286; 8; reset 0: home channel -/
  home : Nat := 0
  /-- R289; reset 0 (DESIGN CHOICE 25): transmit power 0.5 dBm, FE_TX and FE_RX 0.25 dB -/
  txPower : Int := 0
  feTx : Int := 0
  feRx : Int := 0
  /-- R291; reset the defaults of the table -/
  minBe : Nat := 3
  maxBe : Nat := 5
  maxBackoffs : Nat := 4
  unitBackoff : Nat := 1000
  cca : Int := -85
  lbt : Nat := 0
  lbtMin : Nat := 160
  lbtRand : Nat := 5000
  txOnMax : Nat := 1000
  txOffMin : Nat := 100
  maxRetries : Nat := 3
  /-- R305; 1; reset 0 (DESIGN CHOICE 25): EVT_LBT -/
  evtLbt : Nat := 0
  /-- R300; 8,192; reset none: scheduled links -/
  links : Tab (Option Link) := []
  /-- R308; 16, 32 and 64 frames; reset empty: reply, Nulvo and host queues (an acknowledgement goes out within the row of
  its frame) -/
  reply : List RfTxFrame := []
  nulvo : List RfTxFrame := []
  host : List RfTxFrame := []
  /-- R291; reset none: channel access in progress -/
  access : Option Access := none
  /-- R293; reset none: frame that waits for its acknowledgement -/
  sent : Option RfTxFrame := none
  /-- R305; reset none: link whose window the receiver is tuned to -/
  tuned : Option Nat := none
  /-- R305; reset none: event downlink that waits for its acknowledgement -/
  downlink : Option (Nat × RfTxFrame) := none
  /-- R292; 72; reset none: TB1 at the end of the channel's previous transmission (DESIGN CHOICE 79: the spec names no base) -/
  txEnd : Option Time := none
  /-- R292; reset none: the channel's own transmissions that touch the sliding window, oldest first: start in TB1 µs, and length in µs -/
  duty : List (Nat × Nat) := []
  /-- R292; 2; reset 0: data limit and acknowledgement limit reported as reached -/
  dataHeld : Bool := false
  ackHeld : Bool := false
  /-- R309; 32; reset 0: LINK records, and records dropped -/
  linkCount : Nat := 0
  linkDropped : Nat := 0
  /-- RF_STATUS; 32 each; reset 0 -/
  rx : Nat := 0
  acked : Nat := 0
  tx : Nat := 0
  delivered : Nat := 0
  failed : Nat := 0
  dup : Nat := 0
  replay : Nat := 0
  secfail : Nat := 0
  devFull : Nat := 0
  skipped : Nat := 0
  deriving DecidableEq, Repr

/-- A radio network (R286). -/
structure RfNet where
  /-- reset 0 (DESIGN CHOICE 25): not configured until N_CH is not 0 -/
  f0 : Nat := 0
  spacing : Nat := 0
  nCh : Nat := 0
  pan : Nat := 0
  short : Nat := 0xFFFF
  eui : Nat := 0
  key1 : Nat := 0xFF
  key2 : Nat := 0xFF
  hq : Nat := 0
  /-- R292; 16; reset 10,000: DUTY_LIMIT, 0.01 % -/
  dutyLimit : Nat := 10000
  /-- R292; 16; reset 10: ACK_RESERVE, 0.01 % -/
  ackReserve : Nat := 10
  /-- R295; 65,536; reset empty: devices by EUI-64 -/
  devices : Tab Device := []
  /-- R299; 2 × 32; reset 0: own transmit counters of key indexes 1 and 2 -/
  txCounters : Tab Nat := []
  /-- R284; 8; reset 0: next MAC sequence number -/
  seq : Nat := 0
  deriving DecidableEq, Repr

/-- The radio part (chapter 08). -/
structure RadioPart where
  /-- R286; 6 channels; reset off -/
  chans : Tab RfChannel := []
  /-- R286; 2 networks; reset unconfigured -/
  nets : Tab RfNet := []
  deriving DecidableEq, Repr

end Sys2Proof.Machine
end

