-- ==== Sys2Proof/Machine/StateTariff.lean ====
section
/-! DEFINITION. The tariff engine's part of the state: tariff tables, billing registers, demand, prepayment and legal
displays (spec/05_tariffs_billing_legal.md, R181–R208), and the contactor drives and feedback inputs that prepayment and
charge points share (spec/06_charge_points.md, R215, R226–R228). -/

namespace Sys2Proof.Machine

/-- A switch action of a day profile (R181). -/
structure SwitchAction where
  /-- local time of day, s -/
  time : Nat := 0
  rate : Nat := 1
  friendly : Bool := false
  deriving DecidableEq, Repr

/-- A season (R181). -/
structure Season where
  month : Nat := 1
  day : Nat := 1
  week : Nat := 0
  deriving DecidableEq, Repr

/-- A special day (R181); year 0xFFFF for every year. -/
structure SpecialDay where
  year : Nat := 0xFFFF
  month : Nat := 1
  day : Nat := 1
  profile : Nat := 0
  deriving DecidableEq, Repr

/-- The start or end of DST (R181): month 0 means no DST. -/
structure DstRule where
  month : Nat := 0
  week : Nat := 0
  weekday : Nat := 0
  minute : Nat := 0
  deriving DecidableEq, Repr

/-- The contents of one copy of a tariff table (R181). -/
structure TariffCopy where
  /-- R181; 16 day profiles; reset none defined -/
  days : Tab (List SwitchAction) := []
  /-- R181; 8 week profiles, seven day profiles each; reset none defined -/
  weeks : Tab (List Nat) := []
  /-- R181; 8; reset none -/
  seasons : Tab (Option Season) := []
  /-- R181; 64; reset none -/
  specials : Tab (Option SpecialDay) := []
  /-- R181; 5; reset 1: default rate -/
  defaultRate : Nat := 1
  /-- R181; 16; reset 0 (DESIGN CHOICE 21): standard offset, min -/
  stdOffset : Int := 0
  /-- R181; 8; reset 0 (DESIGN CHOICE 21): DST shift, min -/
  dstShift : Nat := 0
  /-- R181; reset month 0 -/
  dstStart : DstRule := {}
  dstEnd : DstRule := {}
  /-- R181; 5; reset 0: billing day, 0 none -/
  billDay : Nat := 0
  /-- R181; 11; reset 0: billing minute -/
  billMinute : Nat := 0
  deriving DecidableEq, Repr

/-- A tariff table (R181–R191). -/
structure TariffTable where
  active : TariffCopy := {}
  passive : TariffCopy := {}
  /-- R185; reset none: TB2 instant of the pending activation -/
  activation : Option Time := none
  /-- R183; 5; reset 1: rate in force -/
  rate : Nat := 1
  /-- R183; 1; reset 0: FRIENDLY of the action in force -/
  friendly : Bool := false
  /-- R183; 1; reset 0: DST in force -/
  dst : Bool := false
  /-- R192; 1; reset 0: the default rate is in force because TB2 is not VALID -/
  defaulting : Bool := false
  /-- R189; 72; reset 0 (DESIGN CHOICE 75): LAST_CLOSED -/
  lastClosed : Time := 0
  /-- R189; reset none: number of the sample boundary of the last close -/
  closedAt : Option Nat := none
  /-- R190; 72; reset 0: TB2 at the opening of the period -/
  opened : Time := 0
  /-- R190; 1; reset 0: CLOCK_BACK during the open period -/
  clockBack : Bool := false
  deriving DecidableEq, Repr

/-- A billing history record (R190). -/
structure History where
  epoch : Nat := 0
  cause : Nat := 0
  flags : Nat := 0
  skipped : Nat := 0
  opened : Time := 0
  closed : Time := 0
  /-- T1–T16 and the source register of S0–S3, whole parts -/
  regs : List Int := []
  /-- maxima of S0–S3 for T1–T16 and all rates, mW, with the window end -/
  maxima : List (Nat × Time) := []
  deriving DecidableEq, Repr

/-- A tariffed source and its billing register format (R186, R188). -/
structure BillSlot where
  /-- R186; 4; reset 0, 1, 2, 5 for S0–S3 -/
  reg : Nat := 0
  /-- R188; 5–9; reset 8 (DESIGN CHOICE 21) -/
  digits : Nat := 8
  /-- R188; 0–3; reset 0 (DESIGN CHOICE 21) -/
  decimals : Nat := 0
  /-- R187; reset none: source that takes effect at the next tick boundary -/
  regNext : Option Nat := none
  deriving DecidableEq, Repr

/-- The slot at reset (R186). -/
def billSlotReset (k : Nat) : BillSlot := { reg := if k = 3 then 5 else k % 4 }

/-- Demand configuration (R193). -/
structure DemandCfg where
  /-- 0 block, 1 sliding; reset 0 (DESIGN CHOICE 21) -/
  method : Nat := 0
  /-- subinterval length, min; reset 15 (DESIGN CHOICE 21) -/
  minutes : Nat := 15
  /-- subintervals of a window; reset 1 (DESIGN CHOICE 21) -/
  count : Nat := 1
  /-- bit 0 INCLUDE_SHORT, bit 1 INCLUDE_UNTRUSTED; reset 0 -/
  include_ : Nat := 0
  deriving DecidableEq, Repr

/-- A demand subinterval (R193, R194). -/
structure SubInterval where
  /-- source energy of S0–S3, 2^-32 -/
  energy : List Int := [0, 0, 0, 0]
  /-- elapsed samples -/
  samples : Nat := 0
  /-- rates in force and their parts, in samples, earliest first -/
  parts : List (Nat × Nat) := []
  /-- bits: 0 SHORT, 1 LONG, 2 CLKSTEP, 3 POWER_FAIL, 4 UNTRUSTED -/
  flags : Nat := 0
  deriving DecidableEq, Repr

/-- Demand of one metering point (R193). -/
structure Demand where
  cfg : DemandCfg := {}
  /-- R194; reset none: configuration that takes effect at the next subinterval boundary -/
  cfgNext : Option DemandCfg := none
  /-- R193; reset none: closed subintervals, newest first, at most 14 -/
  held : List SubInterval := []
  /-- R193; reset empty: the open subinterval -/
  open_ : SubInterval := {}
  /-- R193; reset none: TB2 second of the last subinterval boundary -/
  lastEnd : Option Nat := none
  /-- R193; reset 0: last window of S0–S3, mW -/
  last : List Nat := [0, 0, 0, 0]
  lastFlags : Nat := 0
  lastTb2 : Time := 0
  /-- R193; reset 0: maxima, index 17 × slot + rate − 1, with 16 for all rates -/
  maxima : Tab (Nat × Time) := []
  deriving DecidableEq, Repr

/-- The states of R200. -/
inductive PrepayState where
  | connected
  | lowCredit
  | deferred
  | opening
  | disconnected
  | reconnectReady
  | closing
  | fault
  deriving DecidableEq, Repr

/-- Prepayment of one metering point (R198–R200). -/
structure Prepay where
  /-- R198; 1; reset 0 -/
  enable : Bool := false
  /-- R198; 16 × 32; reset 0 -/
  prices : List Nat := []
  /-- R198; 64 each; reset 0: LOW, EMERGENCY, RECONNECT -/
  low : Int := 0
  emergency : Int := 0
  reconnect : Int := 0
  /-- R198; reset 0 -/
  ctd : Nat := 0
  cfb : Nat := 0
  /-- R198; 16; reset 100 -/
  tfb : Nat := 100
  /-- R198; 1; reset 0: AUTO_RECONNECT -/
  auto : Bool := false
  /-- R200; reset CONNECTED (DESIGN CHOICE 22) -/
  state : PrepayState := .connected
  /-- R200; reset 0: 0 none, 1 WELD, 2 FAIL_TO_CLOSE, 3 UNCOMMANDED, 4 DOMAIN (DESIGN CHOICE 22) -/
  cause : Nat := 0
  /-- R200; 1; reset 0 -/
  forced : Bool := false
  /-- R199; 64 + 32; reset 0: credit, 2^-32 of 10^-6 currency units -/
  credit : Int := 0
  /-- R199; reset 0: credit in MRAM -/
  creditStored : Int := 0
  /-- R199; 32; reset 0: last token id -/
  token : Nat := 0
  deriving DecidableEq, Repr

/-- A legal display (R208). -/
structure LegalDisplay where
  /-- R208; 1; reset 0 -/
  enable : Bool := false
  /-- R208; 8; reset 2 (DESIGN CHOICE 21): scroll time, s -/
  scroll : Nat := 2
  /-- R208; reset none: items (metering point, slot, rate) -/
  items : List (Nat × Nat × Nat) := []
  /-- R208; reset 0: item shown -/
  shown : Nat := 0
  /-- R208; reset 0: consecutive pings without 0xA5 -/
  missed : Nat := 0
  /-- R208; 1; reset 0: the display is lost -/
  fault : Bool := false
  deriving DecidableEq, Repr

/-- The tariff engine (chapter 05). -/
structure TariffPart where
  /-- R181; 8; reset as TariffTable -/
  tables : Tab TariffTable := []
  /-- R181; 32; reset 0: table of each metering point -/
  assign : Tab Nat := []
  /-- R186; index 4 × point + slot; reset as billSlotReset -/
  slots : Tab BillSlot := []
  /-- R186; index 64 × point + 16 × slot + rate − 1; reset 0: rate registers -/
  rates : Tab EnergyReg := []
  /-- R190; 12 per point; reset none: history, newest first -/
  history : Tab (List History) := []
  /-- R193; reset as Demand -/
  demand : Tab Demand := []
  /-- R198; reset as Prepay -/
  prepay : Tab Prepay := []
  /-- R208; 8; reset as LegalDisplay -/
  displays : Tab LegalDisplay := []
  /-- R208; 1; reset 0: the check value is shown -/
  cvShown : Bool := false
  deriving DecidableEq, Repr

/-- Who uses a contactor drive or a feedback input (R198, R215). -/
inductive DriveUser where
  | none
  | point (mp : Nat)
  | charge (cp : Nat)
  deriving DecidableEq, Repr

/-- Contactor drives CTD0–CTD15 and feedback inputs CFB0–CFB15. -/
structure DrivePart where
  /-- R215; 16; reset none -/
  ctdUser : Tab DriveUser := []
  cfbUser : Tab DriveUser := []
  /-- R226; 16; reset 0: duty of each drive, percent -/
  duty : Tab Nat := []
  /-- R200, R514; 16; reset 0 (DESIGN CHOICE 22): debounced feedback reads closed -/
  closed : Tab Bool := []
  /-- R228; 16 × 32 each; reset 0: operation counters in MRAM -/
  operations : Tab Nat := []
  loaded : Tab Nat := []
  deriving DecidableEq, Repr

end Sys2Proof.Machine
end

