-- ==== Sys2Proof/Machine/State.lean ====
section
/-! DEFINITION. The whole state of the module, and the state right after reset. -/

namespace Sys2Proof.Machine

/-- Why the module stops: a row of the table names a unit, mailbox, queue or instance that the spec says does not
exist. No such command can reach the module, so the stop is safe. -/
inductive Fault where
  /-- raised by the meaning of any row whose operand names an instance outside the module's counts; safe -/
  | noSuchUnit (what : String) (index : Nat)
  deriving DecidableEq, Repr

/-- Why a command is refused. -/
inductive Refusal where
  /-- raised only by an arm of `exec` whose row has no meaning yet; safe -/
  | notModelled (mnemonic : String)
  deriving DecidableEq, Repr

/-- The state of the module: a part for each chapter of the spec, and the queue of commands that wait. -/
structure State where
  /-- the model's own: commands waiting, first in, first out; reset empty -/
  pending : List Instr := []
  /-- chapter 02 -/
  host : HostPart := {}
  /-- chapter 14 -/
  log : LogPart := {}
  /-- chapters 01, 15, 16 -/
  power : PowerPart := {}
  /-- chapter 03 -/
  clock : ClockPart := {}
  /-- chapter 12 -/
  keys : KeyPart := {}
  /-- chapter 13 -/
  firm : FirmPart := {}
  /-- chapter 05, tamper records and legal log -/
  legal : LegalPart := {}
  /-- chapter 04 -/
  meter : MeterPart := {}
  /-- chapter 05, tariff engine -/
  tariff : TariffPart := {}
  /-- chapters 05 and 06, contactor drives and feedback -/
  drives : DrivePart := {}
  /-- chapter 06 -/
  charge : ChargePart := {}
  /-- chapter 07 -/
  line : LinePart := {}
  /-- chapter 08 -/
  radio : RadioPart := {}
  /-- chapter 09 -/
  ingest : IngestPart := {}
  /-- chapter 10 -/
  lanes : LanePart := {}
  /-- chapter 11 -/
  balance : BalancePart := {}
  deriving DecidableEq, Repr

/-- The state right after reset: an unpowered module with every register at its reset value. -/
def State.reset : State := {}

end Sys2Proof.Machine
end

