-- ==== Sys2Proof/Machine/Ops.lean ====
section
/-! DEFINITION. The operations that every command is built from: reading the time bases, emitting, raising a vector,
writing the logbook, notices, tamper classes and the legal log, and taking a random or a free value. -/

namespace Sys2Proof.Machine

/-- The code of a status (R61). -/
def statusCode : Status → Nat
  | .ok => 0x0000
  | .accepted => 0x0001
  | .badop => 0x0100
  | .badarg => 0x0101
  | .badlen => 0x0102
  | .denied => 0x0200
  | .authfail => 0x0201
  | .legalLock => 0x0202
  | .lifecycle => 0x0203
  | .busy => 0x0300
  | .nores => 0x0301
  | .discarded => 0x0400
  | .fenced => 0x0401
  | .stale => 0x0402
  | .timeRefused => 0x0500
  | .timeLost => 0x0501
  | .nokey => 0x0600
  | .kcvMismatch => 0x0601
  | .imgBad => 0x0700
  | .imgIncompat => 0x0701

/-- The status of the first condition that holds: the ordered checks of R60. -/
def firstFail : List (Bool × Status) → Option Status
  | [] => none
  | (c, st) :: r => if c then some st else firstFail r

/-! ### Free and random values -/

/-- A free value and the state after taking it: the value is constrained by nothing (assumption log 2). -/
def takeFree (s : State) : Nat × State :=
  (Config.freeNat s.keys.freeCtr, { s with keys := { s.keys with freeCtr := s.keys.freeCtr + 1 } })

/-- The bytes `i` on of random draw `k`. -/
def drawBytes (k : Nat) : Nat → Nat → Bytes
  | 0, _ => []
  | n + 1, i => Config.drbg k i :: drawBytes k n (i + 1)

/-- A random string of `n` bytes and the state after drawing it (R453). -/
def draw (n : Nat) (s : State) : Bytes × State :=
  (drawBytes s.keys.rngCtr n 0, { s with keys := { s.keys with rngCtr := s.keys.rngCtr + 1 } })

/-! ### Emissions -/

/-- The module puts something out. -/
def emit (e : Emission) (s : State) : State := { s with host := { s.host with out := e :: s.host.out } }

/-! ### Time -/

def tb (s : State) (n : Nat) : TimeBase := look (tbReset n) s.clock.tbs n

def setTb (n : Nat) (t : TimeBase) (s : State) : State :=
  { s with clock := { s.clock with tbs := put (tbReset n) s.clock.tbs n t } }

/-- The reported value of a time base: the upper 72 bits of its accumulator (R83). -/
def tbTime (t : TimeBase) : Time := t.acc.extractLsb' 36 72

def tbVal (s : State) (n : Nat) : Time := tbTime (tb s n)

/-- TB1 in whole seconds, and in microseconds: the monotonic clock by which windows are judged. -/
def tb1Sec (s : State) : Nat := (tbVal s 1).toNat / 2 ^ 36
def tb1Us (s : State) : Nat := (tbVal s 1).toNat * 1000000 / 2 ^ 36

/-- The seconds by which windows that span restarts are judged: those of TB1, with what it had counted before the last reset of
PD2 (assumption log 29). -/
def ageSec (s : State) : Nat := s.log.tb1Base + tb1Sec s

/-- TB2 in whole seconds. -/
def tb2Sec (s : State) : Nat := (tbVal s 2).toNat / 2 ^ 36

/-- A number as the 9 bytes of a 72-bit value. -/
def le72 (t : Time) : Bytes := leBytes 9 t.toNat

/-- TBn_STATUS (R91); LOCKED reads 1 under HOST. SOURCE of TB1 and TB2 is 0 and has no meaning (R87), and the table's reset of LOCKED is 0:
here LOCKED of both reads 1, as under HOST (DESIGN CHOICE, assumption log 72). -/
def tbStatus (t : TimeBase) : Nat :=
  ofBits [t.valid, t.lost, t.backupFail, t.locked || t.source == 0, t.holdover, t.stepRefused, t.incClamped, t.ownerErr,
    t.stepped]

/-- TBn_CTRL (R91). -/
def tbCtrl (t : TimeBase) : Nat := t.source + 8 * t.zcMp + 256 * t.zcCh + 1024 * b2n t.hz60

/-! ### Vectors and INT lines -/

/-- The posted writes of the PCIe function leave the module: its unit 97 is not fenced, the link is up and the function
is out of reset (R43, R484, R511). -/
def pcieServes (s : State) : Bool :=
  s.host.linkUp && !s.host.perst && !s.host.creditHeld &&
    match (look {} s.log.units 97).state with
    | .ready => true
    | .handlingF1 => true
    | _ => false

/-- Dword `k` of MSI-X table entry `v`: address low, address high, data, vector control. Vector control is held
inverted in the state. -/
def msixWord (s : State) (v k : Nat) : Nat :=
  let w := look 0 s.host.msixTable (4 * v + k)
  if k = 3 then (w + 1) % 2 else w

/-- Raise vector `v` (R75–R77): an MSI-X message, or the pending bit of a masked vector in the PBA; with MSI-X disabled,
the bit of INT_PENDING. A raise while the pending bit is set is merged into it. -/
def raiseV (v : Nat) (s : State) : State :=
  if s.host.msixEnable then
    if msixWord s v 3 % 2 = 1 ∨ pcieServes s = false then
      { s with host := { s.host with pba := s.host.pba ||| (1#256 <<< v) } }
    else emit (.msix v (msixWord s v 0 + 2 ^ 32 * msixWord s v 1) (msixWord s v 2)) s
  else { s with host := { s.host with intPending := s.host.intPending ||| (1#256 <<< v) } }

/-- The pending vectors below `n` that are no longer masked are sent (R76, R484). -/
def sendPending : Nat → State → State
  | 0, s => s
  | n + 1, s =>
    let s := sendPending n s
    if s.host.msixEnable && s.host.pba.getLsbD n && pcieServes s && decide (msixWord s n 3 % 2 = 0) then
      emit (.msix n (msixWord s n 0 + 2 ^ 32 * msixWord s n 1) (msixWord s n 2))
        { s with host := { s.host with pba := s.host.pba &&& ~~~(1#256 <<< n) } }
    else s

/-- The vector groups of R77. -/
def vectorGroup (v : Nat) : Option Nat :=
  if v < 192 then some (v / 32)
  else if v < 200 then some 6
  else if v < 208 then some 7
  else if v < 224 then some 8
  else if v < 230 then some 9
  else if v < 237 then some 10
  else none

/-- Some pending bit among vectors `lo` to `lo + n - 1`. -/
def anyPending (p : BitVec 256) (lo : Nat) : Nat → Bool
  | 0 => false
  | n + 1 => p.getLsbD (lo + n) || anyPending p lo n

def groupPending (p : BitVec 256) (g : Nat) : Bool :=
  if g < 6 then anyPending p (32 * g) 32
  else if g = 6 then anyPending p 192 8
  else if g = 7 then anyPending p 200 8
  else if g = 8 then anyPending p 208 16
  else if g = 9 then anyPending p 224 6
  else if g = 10 then anyPending p 230 7
  else false

/-- INTn_N is driven low: a pending bit of a group mapped to the line is set and MSI-X is disabled (R77). -/
def intLow (s : State) (n : Nat) : Bool :=
  !s.host.msixEnable &&
    (List.range 11).any fun g => bitOf (look 0 s.host.intMap n) g && groupPending s.host.intPending g

/-! ### Fault units -/

def unitOf (s : State) (u : Nat) : FaultUnit := look {} s.log.units u

def setUnit (u : Nat) (f : FaultUnit) (s : State) : State :=
  { s with log := { s.log with units := put {} s.log.units u f } }

/-- The unit's own state is being fenced, fenced or recovering: its bit of FENCED_MAP (R491). -/
def ownFenced (s : State) (u : Nat) : Bool :=
  match (unitOf s u).state with
  | .handlingF2 => true
  | .fenced => true
  | .recovering => true
  | _ => false

/-- The units that depend on PD6: pipelines, powerline and radio channels (R22, R484). -/
def needsPd6 (u : Nat) : Bool := decide (8 ≤ u ∧ u ≤ 23) || decide (103 ≤ u ∧ u ≤ 124)

/-- The unit accepts no new work: it is fenced, being fenced or recovering (R483), or it depends on PD6 and the DRAM
controller is (R484). -/
def isFenced (s : State) (u : Nat) : Bool := ownFenced s u || (needsPd6 u && ownFenced s 92)

/-- The state code of FAULT_UNITu (R491). -/
def unitStateCode : UnitState → Nat
  | .ready => 0
  | .handlingF1 => 1
  | .handlingF2 => 2
  | .fenced => 3
  | .recovering => 4
  | .off => 5

/-! ### Power -/

/-- The units of PDn have joined steering (R555): the domain counts as on for R4 and step 6 of R60. PD0 is on with the auxiliary
supply, PD1 and PD2 with main power (R22). -/
def active (s : State) (d : Nat) : Bool :=
  if d = 0 then s.power.aux else if d ≤ 2 then s.power.main else bitOf s.power.joined d

/-- PDn is being switched off and its power has not gone: work admitted before still completes into its reserved output (R27,
step 2), until 20 ms after the doorbell. -/
def leaving (s : State) (d : Nat) : Bool :=
  match s.power.transition with
  | some t => !t.on && !t.discarded && t.domains.contains d
  | none => false

/-- The units of PDn finish admitted work: the domain is active, or is being switched off. -/
def working (s : State) (d : Nat) : Bool := active s d || leaving s d

/-- PD2 is available: main power is good and no restart holds it in reset (R22, R488, R511). -/
def fabricUp (s : State) : Bool :=
  s.power.main && s.log.restart.isNone && !s.power.rstIn && !s.power.thermalHold

/-! ### The logbook -/

/-- The fixed severity of a code (R495). -/
def codeSeverity (code : Nat) : Nat :=
  if 0x401 ≤ code ∧ code ≤ 0x40F then 6
  else if (0x901 ≤ code ∧ code ≤ 0x90B) ∨ (0x90D ≤ code ∧ code ≤ 0x90F) ∨ (0xB20 ≤ code ∧ code ≤ 0xB25) then 5
  else 0

/-- A code whose severity is the class taken: the codes that a rule raises as a fault (R482 and the other chapters), and
0xC04 (R495). -/
def classSeverity (code : Nat) : Bool :=
  decide (0xC10 ≤ code ∧ code ≤ 0xC17) || [0xC04, 0xB0E, 0x802, 0x803, 0x806, 0x90C, 0x920].contains code

/-- The default refill period of a code of fixed severity, in ms (R498). -/
def defaultPeriod (code : Nat) : Nat := if codeSeverity code ≤ 2 then 1000 else 10

def bucketOf (s : State) (code : Nat) : Bucket := look {} s.log.buckets code

def setBucket (code : Nat) (b : Bucket) (s : State) : State :=
  { s with log := { s.log with buckets := put {} s.log.buckets code b } }

/-- The base that times the buckets: TB1, or TB3 for those of PD10 while PD2 is unavailable (R498, R500; DESIGN CHOICE, assumption log 82). -/
def bucketClock (s : State) : Time := if fabricUp s then tbVal s 1 else tbVal s 3

/-- The refill period of a code, in ms (R498): the one set; else the default for its severity, that of the most recent record due where the severity
is the class taken. -/
def refillPeriod (code : Nat) (b : Bucket) : Nat :=
  if b.period ≠ 0 then b.period else if classSeverity code then (if b.lastSev ≤ 2 then 1000 else 10) else defaultPeriod code

/-- A token is taken by a record of severity `sev`, which carries the suppressed count; the period runs from the instant the bucket last fell below
8 (R498). -/
def takeToken (sev : Nat) (b : Bucket) (s : State) : Bucket :=
  { b with used := b.used + 1, suppressed := 0, lastSev := sev, since := if b.used = 0 then bucketClock s else b.since }

/-- A record as its rule names it, before the time stamps. -/
structure LogCall where
  code : Nat := 0
  sev : Nat := 0
  unit : Nat := 0xFFFF
  obj : Nat := 0xFFFF
  escalated : Bool := false
  detected : Nat := 0
  snaps : List Time := []
  deriving DecidableEq, Repr

/-- The record that a call makes at this instant (R494). -/
def recordOf (c : LogCall) (suppressed : Nat) (viaPd10 : Bool) (s : State) : LogRec :=
  { code := c.code, sev := c.sev, suppressed := suppressed, tb0 := tbVal s 0, tb2 := tbVal s 2,
    tb0Bad := !(tb s 0).valid, tb2Bad := !(tb s 2).valid, escalated := c.escalated, detected := c.detected,
    viaPd10 := viaPd10, unit := c.unit, obj := c.obj, snaps := c.snaps.take 8 }

/-- The record is not staged: its code's suppressed count rises, saturating, and LOG_SUPPRESSED counts it (R498). -/
def suppress (c : LogCall) (full : Bool) (s : State) : State :=
  let b := bucketOf s c.code
  let s := setBucket c.code { b with suppressed := satAdd 65535 b.suppressed 1, lastSev := c.sev } s
  { s with log := { s.log with
      suppressed := s.log.suppressed + 1
      fullEpisode := if full then s.log.fullEpisode + 1 else s.log.fullEpisode } }

/-- Stage a record (R498, R499), or put a PD10 record into the ring of PD10 while PD2 is unavailable (R500). -/
def stage (c : LogCall) (s : State) : State :=
  let b := bucketOf s c.code
  if fabricUp s then
    if b.used < 8 ∧ s.log.staging.length < 256 ∧ (unitOf s 6).state = .ready then
      let s := setBucket c.code (takeToken c.sev b s) s
      { s with log := { s.log with staging := s.log.staging ++ [recordOf c b.suppressed false s] } }
    else suppress c (decide (256 ≤ s.log.staging.length)) s
  else if (c.unit = 125 ∨ c.unit = 126) ∧ bitOf s.power.on 10 then
    if b.used < 8 ∧ s.log.ring.length < 32 then
      let s := setBucket c.code (takeToken c.sev b s) s
      { s with log := { s.log with ring := s.log.ring ++ [recordOf c b.suppressed true s] } }
    else suppress c false s
  else suppress c false s

/-- A record of a code with fixed severity (R495, R496). -/
def logEv (code unit obj : Nat) (snaps : List Time) (s : State) : State :=
  stage { code := code, sev := codeSeverity code, unit := unit, obj := obj, snaps := snaps } s

/-- A number as a snapshot value (R496). -/
def snapN (n : Nat) : Time := BitVec.ofNat 72 n

/-- A signed number as a snapshot value, sign-extended (R496). -/
def snapI (i : Int) : Time := BitVec.ofInt 72 i

/-- A byte string as a snapshot value, byte 0 in bits 7:0 (R496). -/
def snapB (b : Bytes) : Time := BitVec.ofNat 72 (leNat (b.take 9))

/-- The 9-byte snapshots of a record, 72 bytes (R494). -/
def snapBytes (n : Nat) (l : List Time) : Bytes := padTo (9 * n) ((l.take n).flatMap le72)

/-- The 128 bytes of a record (R494). -/
def recordBytes (r : LogRec) : Bytes :=
  let body := leBytes 2 (r.code % 4096 + 4096 * (r.sev % 8)) ++ leBytes 2 r.suppressed ++ leBytes 4 r.rn ++ le72 r.tb0
    ++ le72 r.tb2 ++ [BitVec.ofNat 8 (2 ^ r.snaps.length - 1)]
    ++ leBytes 1 (ofBits [r.tb0Bad, r.tb2Bad, r.escalated] + 8 * (r.detected % 4) + 32 * b2n r.viaPd10)
    ++ leBytes 2 r.unit ++ leBytes 2 r.obj ++ snapBytes 8 r.snaps ++ List.replicate 20 0
  body ++ leBytes 4 (crc32 body).toNat

/-- Put one record into its area (R501). -/
def storeRec (l : LogPart) (r : LogRec) : LogPart :=
  let rn := l.next
  let old := if 10240 ≤ rn then rn - 8192 else 0
  { l with
    recs := insertKey (if 10240 ≤ rn then dropKey l.recs old else l.recs) rn { r with rn := rn }
    next := rn + 1
    oldest := if 10240 ≤ rn then max l.oldest (old + 1) else l.oldest
    wrapped := l.wrapped || decide (10240 ≤ rn ∧ l.oldest ≤ old) }

/-- Put the records into their areas, oldest first. -/
def storeRecs : LogPart → List LogRec → LogPart
  | l, [] => l
  | l, r :: rs => storeRecs (storeRec l r) rs

/-- V231 is due: a multiple of the threshold between LOG_ACK and LOG_NEXT has been reached (R502). -/
def threshReached (l : LogPart) (before : Nat) : Bool :=
  l.thresh != 0 && decide (before < l.ack + l.thresh) && decide (l.ack + l.thresh ≤ l.next)

/-- Flush the staging buffer, then the PD10 ring, to MRAM (R499, R500); raise V231 when the threshold is reached, and log
the end of an episode in which the buffer was full (R505, 0xC08). -/
def flush (s : State) : State :=
  let before := s.log.next
  let l := storeRecs s.log (s.log.staging ++ s.log.ring)
  let full := s.log.fullEpisode
  let s := { s with log := { l with staging := [], ring := [], fullEpisode := 0 } }
  let s := if threshReached s.log before then raiseV 231 s else s
  if full = 0 then s else logEv 0xC08 6 0xFFFF [snapN full] s

/-! ### Notices -/

/-- Write a notice into the MB0 ring (R55): slot SEQ mod 8, then DONE and SEQ. -/
def notice (code sev unit : Nat) (detail : Bytes) (s : State) : State :=
  let m := look {} s.host.mbs 0
  let bytes := leBytes 2 (code % 4096 + 4096 * (sev % 8)) ++ leBytes 2 unit ++ le72 (tbVal s 0) ++ List.replicate 3 0
    ++ padTo 48 detail
  { s with host := { s.host with
      areas := writeBytes s.host.areas (0x200 + 64 * (m.seq.toNat % 8)) bytes
      mbs := put {} s.host.mbs 0 { m with done := true, seq := m.seq + 1 } } }

/-- A record and its notice, whose detail is S0–S4 (R497). -/
def logNotice (code unit obj : Nat) (snaps : List Time) (s : State) : State :=
  notice code (codeSeverity code) unit (snapBytes 5 snaps) (logEv code unit obj snaps s)

/-- Log records of the 0x2xx subject: unit and object, then the defaults of R496. -/
def logTb (code n : Nat) (named : List Time) (s : State) : State :=
  let t := tb s n
  logEv code (if n = 3 then 125 else if n = 2 then 136 else 4) n
    (named ++ [tbTime t, snapN (tbStatus t), snapN t.inc]) s

/-- The life-cycle state that the thermometer shows (R425): the length of the unbroken run of taken steps; VOID where the
pattern is no run. -/
def lcOfThermo (t : Nat) : LifeCycle :=
  let taken := (List.range 5).map fun k => bitOf t (2 * k) || bitOf t (2 * k + 1)
  match taken with
  | [false, false, false, false, false] => .blank
  | [true, false, false, false, false] => .mfg
  | [true, true, false, false, false] => .provision
  | [true, true, true, false, false] => .field
  | [true, true, true, true, false] => .rma
  | _ => .void

def lcState (s : State) : LifeCycle := lcOfThermo s.keys.thermo

/-- The code of a life-cycle state (R425). -/
def lcCode : LifeCycle → Nat
  | .blank => 0
  | .mfg => 1
  | .provision => 2
  | .field => 3
  | .rma => 4
  | .void => 5

/-- The BOOT_STAGE code (R464). -/
def stageCode : BootStage → Nat
  | .reset => 0
  | .fuses => 1
  | .keyStore => 2
  | .image => 3
  | .nulvo => 4
  | .restore => 5
  | .ready => 6
  | .alarmHold => 7
  | .noImage => 8
  | .blank => 9
  | .void => 10
  | .pause => 11

/-- The record of bank `b`. -/
def bankOf (s : State) (b : Nat) : Bank := if b = 0 then s.firm.bank0 else s.firm.bank1

def setBank (b : Nat) (k : Bank) (s : State) : State :=
  if b = 0 then { s with firm := { s.firm with bank0 := k } } else { s with firm := { s.firm with bank1 := k } }

/-- The image version of a 0xBxx record (R549). -/
def logVersion (s : State) (bank : Nat) : Nat :=
  if bank = 0xFFFF then s.firm.idNulvo
  else
    match (bankOf s bank).state with
    | .empty => 0
    | .staging => 0
    | _ => (bankOf s bank).version

/-- The defaults of the 0xBxx subject (R496, R549). -/
def bootDefaults (s : State) (bank : Nat) : List Time :=
  [snapN (stageCode s.firm.stage), snapN (logVersion s bank), snapN s.firm.svn, snapN (lcCode (lcState s))]

/-- A record of the 0xBxx subject; `bank` is 0xFFFF when no bank applies. -/
def logBoot (code bank : Nat) (named : List Time) (s : State) : State :=
  logEv code 1 bank (named ++ bootDefaults s bank) s

/-- A record of the 0xBxx subject with its notice and V233 (R470). -/
def logBootNotice (code bank : Nat) (named : List Time) (s : State) : State :=
  raiseV 233 (notice code (codeSeverity code) 1 (snapBytes 5 (named ++ bootDefaults s bank)) (logBoot code bank named s))

/-- A record of the 0x9xx subject of unit 137 (R496): the named values, then generation, operations discarded and
life-cycle state. -/
def logKey (code obj gen discarded : Nat) (named : List Time) (s : State) : State :=
  logEv code 137 obj (named ++ [snapN gen, snapN discarded, snapN (lcCode (lcState s))]) s

/-! ### Tamper classes and the legal log -/

/-- The displayed check value as a number: digest byte 0 is the most significant (R206). -/
def cvOf (digest : Bytes) : Nat := beNat (padTo 4 digest)

def le32 (n : Nat) : Bytes := leBytes 4 n
def le16 (n : Nat) : Bytes := leBytes 2 n
def le8 (n : Nat) : Bytes := leBytes 1 n
def le64 (n : Nat) : Bytes := leBytes 8 n

/-- The 128 bytes of a legal log entry (R209). -/
def entryBytes (e : LegalEntry) : Bytes :=
  let body := le16 e.index ++ le16 (e.code % 4096) ++ le16 e.opcode ++ le8 e.session ++ [0] ++ le72 e.tb2 ++ le72 e.tb0
    ++ le32 e.epoch ++ le32 e.cv ++ le32 e.counter ++ padTo 16 e.prev ++ padTo 64 e.detail ++ List.replicate 6 0
  body ++ leBytes 4 (crc32 body).toNat

/-- All 1,024 entries are in use (R210). -/
def legalFull (s : State) : Bool := decide (1024 ≤ s.legal.entries.length)

/-- Bytes 0–23 of a tamper record (R203). -/
def tamperBytes (t : Tamper) : Bytes :=
  leBytes 5 t.count ++ le72 t.first ++ le72 t.last ++ le8 (ofBits [t.firstBad, t.lastBad])

/-- The update of a class goes to its records alternately (R203). -/
def writeTamper (t : Tamper) : Tamper :=
  let r := tamperRecord t.count t.first t.last (ofBits [t.firstBad, t.lastBad])
  if t.nextB then { t with recB := r, nextB := false } else { t with recA := r, nextB := true }

/-- A tamper record whose CRC-16 is correct (R203). -/
def tamperValid (b : Bytes) : Bool := decide (b.length = 32) && decide (fieldU b 30 2 = (crc16 (b.take 30)).toNat)

/-- The class that a record holds. -/
def tamperFrom (t : Tamper) (b : Bytes) (nextB : Bool) : Tamper :=
  { t with
    count := fieldU b 0 5 % 2 ^ 36, first := BitVec.ofNat 72 (fieldU b 5 9), last := BitVec.ofNat 72 (fieldU b 14 9)
    firstBad := bitOf (fieldU b 23 1) 0, lastBad := bitOf (fieldU b 23 1) 1, nextB := nextB }

/-- A class at a start (R203): the valid record with the later count, or 0 without one. -/
def restoreTamper (t : Tamper) : Tamper :=
  let okA := tamperValid t.recA
  let okB := tamperValid t.recB
  if !okA && !okB then { t with count := 0, first := 0, last := 0, firstBad := false, lastBad := false, nextB := false }
  else if okB && (!okA || decide (fieldU t.recA 0 5 < fieldU t.recB 0 5)) then tamperFrom t t.recB false
  else tamperFrom t t.recA true

/-- Update tamper class `c` with the given TB2 time (R202, R203), without the log of it. -/
def tamperCount (c : Nat) (at_ : Time) (bad : Bool) (s : State) : State :=
  let t := look {} s.legal.tamper c
  let t := { t with
    count := satAdd (2 ^ 36 - 1) t.count 1
    last := at_
    lastBad := bad
    first := if t.count = 0 then at_ else t.first
    firstBad := if t.count = 0 then bad else t.firstBad }
  { s with legal := { s.legal with tamper := put {} s.legal.tamper c (writeTamper t) } }

/-- The 0x4xx snapshots named for a class record, with the defaults (R496). -/
def logTamper (c : Nat) (s : State) : State :=
  logEv 0x40D 126 c [snapN (look {} s.legal.tamper c).count, 0, 0, snapN (look 0 s.legal.epochs 0)] s

/-- Write a legal log entry; when the log is full the entry is counted in class 25 instead (R209, R210). At 1,000 entries
an MB0 notice and V234. -/
def legalEntry (code opcode session counter : Nat) (detail : Bytes) (s : State) : State :=
  if legalFull s then logTamper 25 (tamperCount 25 (tbVal s 2) (!(tb s 2).valid) s)
  else
    let prev := match s.legal.entries with
      | [] => List.replicate 16 0
      | e :: _ => (Config.sha256 (entryBytes e)).take 16
    let e : LegalEntry :=
      { index := s.legal.entries.length, code := code, opcode := opcode, session := session, tb2 := tbVal s 2,
        tb0 := tbVal s 0, epoch := look 0 s.legal.epochs 0, cv := cvOf s.legal.digest, counter := counter, prev := prev,
        detail := detail.take 64 }
    let s := { s with legal := { s.legal with entries := e :: s.legal.entries } }
    if s.legal.entries.length = 1000 then
      raiseV 234 (logNotice 0x40F 126 0xFFFF [snapN opcode, snapN counter, snapN (look 0 s.legal.epochs 0)] s)
    else if s.legal.entries.length = 1024 then
      logEv 0x40F 126 0xFFFF [snapN opcode, snapN counter, snapN (look 0 s.legal.epochs 0)] s
    else s

/-- An automatic legal log entry (R209). -/
def legalAuto (code : Nat) (detail : Bytes) (s : State) : State := legalEntry code 0 0xFF 0 detail s

/-- A tamper class sets (R202, R204): count and times, logbook 0x40D, and a legal log entry for classes 4–16, 22, 23. -/
def tamperSet (c : Nat) (s : State) : State :=
  let s := logTamper c (tamperCount c (tbVal s 2) (!(tb s 2).valid) s)
  if (4 ≤ c ∧ c ≤ 16) ∨ c = 22 ∨ c = 23 then legalAuto 0x40D (le8 c) s else s

end Sys2Proof.Machine
end

