-- ==== Sys2Proof/Machine/Vault.lean ====
section
/-! DEFINITION. Key records, keys derived from the active root, and mailbox keys
(spec/12_keys_life_cycle_tamper.md, R432–R437). -/

namespace Sys2Proof.Machine

/-- Byte-wise exclusive or (R434). -/
def xorBytes (a b : Bytes) : Bytes := List.zipWith (· ^^^ ·) a b

/-- The identifier ID_UID as 16 bytes (R48). -/
def uidBytes : Bytes := leBytes 16 Config.uid.toNat

/-- The number of the root that a life-cycle state selects (R426). -/
def rootIndex : LifeCycle → Option Nat
  | .blank => none
  | .mfg => some 0
  | .provision => some 1
  | .field => some 2
  | .rma => some 3
  | .void => none

/-- The root that a life-cycle state selects (R426). -/
def rootFor (s : State) (lc : LifeCycle) : Option Bytes :=
  match rootIndex lc with
  | some k => some (Config.root s.keys.rootDraw k)
  | none => none

/-- One block of the counter-mode derivation of R432: counter, purpose, 0, context, length. -/
def deriveBlock (i purpose bits : Nat) : Bytes :=
  le8 i ++ le8 purpose ++ List.replicate 12 0 ++ (leBytes 2 bits).reverse

/-- A 256-bit key of a purpose under a root (R432). -/
def derive256 (root : Bytes) (purpose : Nat) : Bytes :=
  Config.cmac256 root (deriveBlock 1 purpose 256) ++ Config.cmac256 root (deriveBlock 2 purpose 256)

/-- The DIK seed of a root (R432); its scalar is taken by the public-key engine. -/
def dikSeed (root : Bytes) : Bytes :=
  (List.range 4).flatMap fun i => Config.cmac256 root (deriveBlock (i + 1) 0x21 512)

/-- A key is derived only while the tamper latch is clear and the state has a root (R432). -/
def activeRoot (s : State) : Option Bytes :=
  if s.keys.latch || s.keys.rootFault then none else rootFor s (lcState s)

/-- The store key KSK (R432). -/
def storeKey (s : State) : Bytes :=
  match activeRoot s with
  | some r => derive256 r 0x20
  | none => []

/-- The CRC-16 of a key record, with the parameters of R64 (R434): over both A copies, their epochs, the type and the usage, in that order
(DESIGN CHOICE, assumption log 81). -/
def recCrc (r : KeyRec) : Nat := (crc16 (r.a0 ++ r.a1 ++ le8 r.ea0 ++ le8 r.ea1 ++ le8 r.typ ++ le8 r.usage)).toNat

/-- The record with its CRC. -/
def sealRec (r : KeyRec) : KeyRec := { r with crc := recCrc r }

/-- The A copy in force: the one whose epoch matches share B, in a record whose CRC is right (R434). -/
def shareA (r : KeyRec) : Option Bytes :=
  if r.typ = 0 ∨ r.crc ≠ recCrc r then none
  else if r.ea0 = r.eb then some r.a0
  else if r.ea1 = r.eb then some r.a1
  else none

/-- The key of record number `idx` (R434); nothing when the record reads as empty. -/
def keyOf (s : State) (idx : Nat) (r : KeyRec) : Option Bytes :=
  match activeRoot s, shareA r with
  | some _, some a => some (xorBytes (xorBytes a r.b) (Config.storePad (storeKey s) idx r.b.length))
  | _, _ => none

/-- The record of a key under a fresh mask `m` (R434, R435). -/
def maskKey (s : State) (idx typ usage : Nat) (key m : Bytes) : KeyRec :=
  sealRec { a0 := xorBytes (xorBytes key m) (Config.storePad (storeKey s) idx key.length), ea0 := 0, ea1 := 1, b := m, eb := 0,
            typ := typ, usage := usage }

/-- Re-masking of one record with the mask `m` (R435): the other A copy takes the mask and the next epoch, then share B
follows. -/
def remaskRec (r : KeyRec) (m : Bytes) : KeyRec :=
  if (shareA r).isNone then r
  else if r.ea0 = r.eb then
    sealRec { r with a1 := xorBytes r.a0 m, ea1 := (r.eb + 1) % 256, b := xorBytes r.b m, eb := (r.eb + 1) % 256 }
  else if r.ea1 = r.eb then
    sealRec { r with a0 := xorBytes r.a1 m, ea0 := (r.eb + 1) % 256, b := xorBytes r.b m, eb := (r.eb + 1) % 256 }
  else r

/-- Record numbers in the order of the key store area (R434): AUK_1–AUK_3, OMK instances, general slots. -/
def aukIndex (m : Nat) : Nat := m - 1
def omkIndex (slot inst : Nat) : Nat := 51 + 3 * slot + inst
def gkIndex (k : Nat) : Nat := 243 + k

def aukRec (s : State) (m : Nat) : KeyRec := look {} s.keys.auks m
def omkRec (s : State) (slot inst : Nat) : KeyRec := look {} s.keys.omkRecs (3 * slot + inst)
def gkRec (s : State) (k : Nat) : KeyRec := look {} s.keys.gks k
def omkOf (s : State) (slot : Nat) : OmkSlot := look {} s.keys.omks slot

def setOmk (slot : Nat) (o : OmkSlot) (s : State) : State :=
  { s with keys := { s.keys with omks := put {} s.keys.omks slot o } }

def setOmkRec (slot inst : Nat) (r : KeyRec) (s : State) : State :=
  { s with keys := { s.keys with omkRecs := put {} s.keys.omkRecs (3 * slot + inst) r } }

def setGk (k : Nat) (r : KeyRec) (s : State) : State :=
  { s with keys := { s.keys with gks := put {} s.keys.gks k r } }

def sessOf (s : State) (m n : Nat) : SessRec := look {} s.keys.sess (16 * m + n)

def setSess (m n : Nat) (r : SessRec) (s : State) : State :=
  { s with keys := { s.keys with sess := put {} s.keys.sess (16 * m + n) r } }

/-- The authority key of a mailbox, where one is installed (R436). -/
def authKey (s : State) (m : Nat) : Option Bytes := keyOf s (aukIndex m) (aukRec s m)

/-- The block of R437. -/
def sessBlock (i m n kver : Nat) : Bytes :=
  le8 i ++ [0x10, 0x00] ++ le8 m ++ le8 n ++ le8 kver ++ uidBytes.take 8 ++ [0x01, 0x00]

/-- The key K of a mailbox and session at a key version (R437). -/
def sessKey (auk : Bytes) (m n kver : Nat) : Bytes :=
  Config.cmac256 auk (sessBlock 1 m n kver) ++ Config.cmac256 auk (sessBlock 2 m n kver)

/-- The general key of a slot, when its type and usage fit (R444). -/
def gkFor (s : State) (k : Nat) (types : List Nat) (usageBit : Nat) : Option Bytes :=
  let r := gkRec s k
  if k < 255 ∧ types.contains r.typ ∧ bitOf r.usage usageBit then keyOf s (gkIndex k) r else none

/-- A general slot that fits: an occupied record of a type and usage allowed there (R444). -/
def gkFits (s : State) (k : Nat) (types : List Nat) (usageBit : Nat) : Bool :=
  (gkFor s k types usageBit).isSome

end Sys2Proof.Machine
end

