-- ==== Sys2Proof/WellFormed.lean ====
section
/-! DEFINITION. Well-formed commands: a command names only units, queues, mailboxes and instances that the module has. -/

namespace Sys2Proof

/-- The mailbox or submission queue exists (R50, R62). -/
def Src.exists : Src → Bool
  | .mb n => decide (n < 64)
  | .sq n _ => decide (n < 64)

/-- Every index that the command names lies within the counts of the module (spec/01_module_organisation.md and the chapters of
the units). Any other operand may have any value: what it means is the command's meaning. -/
def Instr.wellFormed : Instr → Bool
  | .mbGoWrite mb _ _ => decide (mb < 64)
  | .mailboxRequestTake mb => decide (mb < 64)
  | .registerWrite _ _ _ _ => true
  | .rcRegisterRead _ _ => true
  | .qCtrlEnWrite q _ => decide (q < 256)
  | .hqConsumedWrite hq _ => decide (hq < 128)
  | .sqTailWrite sq _ => decide (sq < 64)
  | .cqHeadWrite cq _ => decide (cq < 64)
  | .sqEntryFetch sq _ _ => decide (sq < 64)
  | .tbNowReadLatch tb _ => decide (tb < 12)
  | .tbIncWrite tb _ => decide (tb < 12)
  | .tbStepHiWrite tb _ => decide (tb < 12)
  | .msPopWrite _ => true
  | .rstCtrlWrite _ => true
  | .hpCtrlWrite _ => true
  | .logCursorWrite _ => true
  | .logWindowLastRead _ => true
  | .smpWrite _ => true
  | .smpRead _ => true
  | .smpStatus _ => true
  | .smpPop _ => true
  | .smpPopCancel => true
  | .packetWriteToRing hq => decide (hq < 128)
  | .panTailTimeout hq => decide (hq < 128)
  | .vectorModerationTimeout q => decide (q < 256)
  | .creditWithholdTimeout => true
  | .pcieLinkDown => true
  | .perstNAssert => true
  | .rstInNAssert => true
  | .rstInNRelease => true
  | .pdSet src => src.exists
  | .pdTransitionComplete _ => true
  | .pdOffWorkDiscard => true
  | .pdStatus src => src.exists
  | .dramArbSet src => src.exists
  | .fabricStatus src => src.exists
  | .plCouplingSet src => src.exists
  | .fabricWordError _ _ => true
  | .dramRequestPromotion _ => true
  | .pllLockLoss _ => true
  | .pllLockRegain => true
  | .qInfo src => src.exists
  | .hqFlush src => src.exists
  | .sqNop src => src.exists
  | .intTest src => src.exists
  | .tbInfo src => src.exists
  | .tbSet src => src.exists
  | .tbStep src => src.exists
  | .tbLimitSet src => src.exists
  | .tbSourceSet src => src.exists
  | .tbUtcOffsetSet src => src.exists
  | .utcOffsetEffective => true
  | .tbDeclareLost src => src.exists
  | .tb2TrimSet src => src.exists
  | .msTriggerSet src => src.exists
  | .msCapture src => src.exists
  | .msSchedule src => src.exists
  | .ptpPortCfg src => src.exists
  | .aethenoCfg src => src.exists
  | .ppsInEdge _ => true
  | .tbSetPpsTimeout mb => decide (mb < 64)
  | .zeroCrossing mp _ _ _ => decide (mp < 32)
  | .mainsCrossingMissing tb => decide (tb < 12)
  | .ptpEventMessage m => decide (m.port < 4)
  | .ptpSyncTimeout => true
  | .scheduledMilestoneFire slot => decide (slot < 4)
  | .aethenoTimeSend => true
  | .aethenoTimeReceive _ => true
  | .aethenoTimeMissed => true
  | .aethenoDelayExchange => true
  | .aethenoTriggerReceive _ => true
  | .tb2TemperatureSample _ => true
  | .vbatLowDetect => true
  | .metrologyTickEnd _ => true
  | .spareSlotPhase _ => true
  | .spareRetry _ _ => true
  | .measurementWindowEnd mp _ _ => decide (mp < 32)
  | .phasorReport _ => true
  | .metrologyAlarmTimer mp _ => decide (mp < 32)
  | .writeThrough => true
  | .meteringIntervalBoundary _ => true
  | .powerFailTrigger _ => true
  | .powerFailCommitDone => true
  | .holdupCutoff => true
  | .supplyReturn => true
  | .holdupCheckStart => true
  | .holdupCheckEnd _ _ _ => true
  | .metCaptureDone _ => true
  | .metInfo src => src.exists
  | .metChanCfg src => src.exists
  | .metBind src => src.exists
  | .metCalSet src => src.exists
  | .metCalGet src => src.exists
  | .metRegCfg src => src.exists
  | .metRead src => src.exists
  | .metInstant src => src.exists
  | .metHarmonics src => src.exists
  | .metOutputCfg src => src.exists
  | .metIntervalSet src => src.exists
  | .metTpoCfg src => src.exists
  | .metThreshSet src => src.exists
  | .metCapture src => src.exists
  | .metCaptureRead src => src.exists
  | .holdupTest src => src.exists
  | .metOutageRead src => src.exists
  | .metRotation src => src.exists
  | .rateSwitch table => decide (table < 8)
  | .dstChange table => decide (table < 8)
  | .demandSubintervalEnd mp => decide (mp < 32)
  | .billingPeriodClose table => decide (table < 8)
  | .tariffActivationDue table => decide (table < 8)
  | .prepayFeedbackChange mp _ => decide (mp < 32)
  | .prepayFeedbackTimeout mp => decide (mp < 32)
  | .prepayBypassDetect mp => decide (mp < 32)
  | .legalDisplayPing display _ => decide (display < 8)
  | .legalDisplayScroll display => decide (display < 8)
  | .ldreqNFall => true
  | .cvShowExpiry => true
  | .tarStatus src => src.exists
  | .tarDaySet src => src.exists
  | .tarWeekSet src => src.exists
  | .tarSeasonSet src => src.exists
  | .tarSpecialSet src => src.exists
  | .tarTableSet src => src.exists
  | .tarActivate src => src.exists
  | .tarAssign src => src.exists
  | .billRegCfg src => src.exists
  | .billClose src => src.exists
  | .billRead src => src.exists
  | .billHistoryRead src => src.exists
  | .demCfg src => src.exists
  | .demRead src => src.exists
  | .prepayCfg src => src.exists
  | .prepayCredit src => src.exists
  | .prepaySwitch src => src.exists
  | .prepayReconnect src => src.exists
  | .prepayStatus src => src.exists
  | .tamperRead src => src.exists
  | .legalCvRead src => src.exists
  | .legalCvShow src => src.exists
  | .legalDisplayCfg src => src.exists
  | .legalLogRead src => src.exists
  | .legalDecommission src => src.exists
  | .legalStatus src => src.exists
  | .pilotMeasurement cp _ _ => decide (cp < 8)
  | .proximityWindow cp _ => decide (cp < 8)
  | .cpFeedbackChange cp _ _ => decide (cp < 8)
  | .cpFeedbackTimeout cp => decide (cp < 8)
  | .cpPullInEnd cp => decide (cp < 8)
  | .cpStoppingTimeout cp => decide (cp < 8)
  | .rcdSelfTestEnd cp _ => decide (cp < 8)
  | .imdPeriodEnd cp _ _ _ => decide (cp < 8)
  | .authTimeout cp => decide (cp < 8)
  | .nulvoHeartbeatLoss cp => decide (cp < 8)
  | .nulvoEnergyRequest cp _ => decide (cp < 8)
  | .slacSoundFrame pl _ _ => decide (pl < 16)
  | .slacRunEnd _ => true
  | .sessionRecordEmit => true
  | .cpCfg src => src.exists
  | .cpStatus src => src.exists
  | .cpAuthorise src => src.exists
  | .cpLimit src => src.exists
  | .cpStop src => src.exists
  | .cpAvailability src => src.exists
  | .cpReset src => src.exists
  | .cpRcdCfg src => src.exists
  | .cpImdCfg src => src.exists
  | .cpSessionRead src => src.exists
  | .cpSlacStatus src => src.exists
  | .cpV2gCfg src => src.exists
  | .cpTrustSet src => src.exists
  | .cpPilotRead src => src.exists
  | .cpRecordCfg src => src.exists
  | .plFrameReceive ch _ => decide (ch < 16)
  | .plTransmitTurn ch _ => decide (ch < 16)
  | .plAckReceive ch => decide (ch < 16)
  | .plAckTimeout ch _ _ => decide (ch < 16)
  | .plRefreshTimer ch _ _ => decide (ch < 16)
  | .plReassemblyTimeout ch _ => decide (ch < 16)
  | .plNeighbourAgeing ch _ => decide (ch < 16)
  | .plRouteLapse ch _ => decide (ch < 16)
  | .plCfg src => src.exists
  | .plNetCfg src => src.exists
  | .plStatus src => src.exists
  | .plNbrRead src => src.exists
  | .plNbrDelete src => src.exists
  | .plTmRead src => src.exists
  | .plTmRefresh src => src.exists
  | .plRouteSet src => src.exists
  | .plRouteRead src => src.exists
  | .plRouteFlush src => src.exists
  | .plTx src => src.exists
  | .plBeaconSet src => src.exists
  | .rfFrameReceive ch _ => decide (ch < 6)
  | .rfBackoffExpiry ch _ _ => decide (ch < 6)
  | .rfAckReceive ch => decide (ch < 6)
  | .rfAckTimeout ch => decide (ch < 6)
  | .rfWindowTune ch _ => decide (ch < 6)
  | .rfWindowEnd ch _ => decide (ch < 6)
  | .rfSupervisionTimeout ch _ => decide (ch < 6)
  | .rfDutyLimitChange ch _ => decide (ch < 6)
  | .rfDeviceAgeing net _ => decide (net < 2)
  | .rfCfg src => src.exists
  | .rfNetCfg src => src.exists
  | .rfStatus src => src.exists
  | .rfLinkAdd src => src.exists
  | .rfLinkUpdate src => src.exists
  | .rfLinkRemove src => src.exists
  | .rfLinkRead src => src.exists
  | .rfTx src => src.exists
  | .rfDevDelete src => src.exists
  | .smbFrameReceive bus _ _ _ _ => decide (bus < 4)
  | .dxDataReceive eth _ _ _ _ _ => decide (eth < 4)
  | .frameAdmit fip => decide (fip < 16)
  | .admissionReopen fip => decide (fip < 16)
  | .laneGrant lane => decide (lane < 64)
  | .laneOperationEnd lane _ => decide (lane < 64)
  | .laneQueueTimeout fip => decide (fip < 16)
  | .frameValidate fip _ => decide (fip < 16)
  | .junctionLearn fip => decide (fip < 16)
  | .junctionScrub fip _ => decide (fip < 16)
  | .recordDelivered hq _ => decide (hq < 128)
  | .replyEntryExpiry _ => true
  | .dxAckReceive eth _ => decide (eth < 4)
  | .dxEnvelopeTimeout => true
  | .dxRetransmitTimeout _ => true
  | .ingStatus src => src.exists
  | .fipCfg src => src.exists
  | .ingSteerSet src => src.exists
  | .ingPortCfg src => src.exists
  | .ingParseSet src => src.exists
  | .ingAckTemplate src => src.exists
  | .ctxWrite src => src.exists
  | .ctxRead src => src.exists
  | .ctxDelete src => src.exists
  | .jtInvalidate src => src.exists
  | .jtRead src => src.exists
  | .ingSubmit src => src.exists
  | .dxPeerCfg src => src.exists
  | .dxUplinkCfg src => src.exists
  | .smbCfg src => src.exists
  | .smbTx src => src.exists
  | .revocation _ => true
  | .graceWindowEnd omk => decide (omk < 64)
  | .remaskPeriod => true
  | .rngReseed => true
  | .rngHealthFail _ => true
  | .tamperSampleTrip _ => true
  | .debugAccessAttempt _ => true
  | .pkeOperationEnd pke _ => decide (pke < 4)
  | .pkeQueueAgeing _ => true
  | .mailboxLockoutEnd mb => decide (mb < 64)
  | .clStatus src => src.exists
  | .clTest src => src.exists
  | .clTestEnd lane _ => decide (lane < 64)
  | .clBorrowCfg src => src.exists
  | .keygenStatus src => src.exists
  | .keyGraceSet src => src.exists
  | .sessStatus src => src.exists
  | .sessClear src => src.exists
  | .balIntervalOpen group => decide (group < 65568)
  | .balDeadline group => decide (group < 65568)
  | .balRecordEmit group => decide (group < 65568)
  | .phaseRecordEmit ctx => decide (ctx < 2097152)
  | .balGroupCfg src => src.exists
  | .balFeed src => src.exists
  | .balStatus src => src.exists
  | .balClose src => src.exists
  | .balHistoryRead src => src.exists
  | .phaseCfg src => src.exists
  | .phaseRead src => src.exists
  | .phaseReset src => src.exists
  | .balOutputCfg src => src.exists
  | .omkLoad src => src.exists
  | .omkVerify src => src.exists
  | .omkCommit src => src.exists
  | .omkRevoke src => src.exists
  | .keyImport src => src.exists
  | .keyGenerate src => src.exists
  | .keyErase src => src.exists
  | .keyInfo src => src.exists
  | .dikRead src => src.exists
  | .keyAuthSet src => src.exists
  | .keyAuthRotate src => src.exists
  | .tmpCfg src => src.exists
  | .tmpStatus src => src.exists
  | .secStatus src => src.exists
  | .lcStatus src => src.exists
  | .lcAdvance src => src.exists
  | .lcTransitionComplete => true
  | .lcNextDik src => src.exists
  | .lcRecover src => src.exists
  | .lcDebugOpen src => src.exists
  | .fwStatus src => src.exists
  | .fwStageOpen src => src.exists
  | .fwStageOpenDone => true
  | .fwStageWrite src => src.exists
  | .fwStageClose src => src.exists
  | .fwStageCloseDone => true
  | .fwStageAbort src => src.exists
  | .activate src => src.exists
  | .activatePrepared => true
  | .activatePauseEnd _ => true
  | .activateAt src => src.exists
  | .fwConfirm src => src.exists
  | .fwOpkeySet src => src.exists
  | .activateLegal src => src.exists
  | .watchdogExpiry pair => decide (pair < 2)
  | .eccError e => decide (e.unit < 138)
  | .lockstepMismatch pair _ _ => decide (pair < 2)
  | .busTimeout unit _ _ => decide (unit < 138)
  | .mramVerifyFailure _ _ => true
  | .domainSupplyFault domain _ => decide (domain < 12)
  | .f1HandlingComplete unit => decide (unit < 138)
  | .f1RepeatTimeout unit => decide (unit < 138)
  | .fenceComplete unit => decide (unit < 138)
  | .unitRecoveryEnd unit _ => decide (unit < 138)
  | .restartResetRelease => true
  | .reconciliationPass _ => true
  | .logFlushTimer => true
  | .logTokenRefill _ => true
  | .logInfo src => src.exists
  | .logRead src => src.exists
  | .logFlush src => src.exists
  | .logRateSet src => src.exists
  | .logClear src => src.exists
  | .faultStatus src => src.exists
  | .unitRecover src => src.exists
  | .faultInject src => src.exists
  | .auxSupplyPresent => true
  | .insertionPresent => true
  | .powerGood _ _ _ _ => true
  | .inrushFault _ => true
  | .inrushRetry => true
  | .removalRequest _ => true
  | .removalInflightEnd => true
  | .removalDrainEnd => true
  | .hpCfg src => src.exists
  | .hpResume src => src.exists
  | .hpResumeComplete => true
  | .thermalThreshold _ _ _ => true
  | .thermalHoldEnd _ => true
  | .perstNRelease => true
  | .pcieLinkUp _ => true
  | .aethenoDelayReceive _ => true
  | .lcRecoverComplete => true

end Sys2Proof
end

