-- ==== Sys2Proof/Machine/Commands.lean ====
section
/-! DEFINITION. The life of a Nulvo command: the request is taken from a mailbox or fetched from a submission queue and
checked (R60), the command runs, and its response or completion is written
(spec/02_host_interface_nulvo.md, R50–R61, R71–R73). -/

namespace Sys2Proof.Machine

/-! ### Instances -/

def mbOf (s : State) (n : Nat) : Mailbox := look {} s.host.mbs n
def setMb (n : Nat) (m : Mailbox) (s : State) : State := { s with host := { s.host with mbs := put {} s.host.mbs n m } }
def hqOf (s : State) (q : Nat) : Hq := look {} s.host.hqs q
def setHq (q : Nat) (h : Hq) (s : State) : State := { s with host := { s.host with hqs := put {} s.host.hqs q h } }
def sqOf (s : State) (q : Nat) : Sq := look {} s.host.sqs q
def setSq (q : Nat) (h : Sq) (s : State) : State := { s with host := { s.host with sqs := put {} s.host.sqs q h } }
def cqOf (s : State) (q : Nat) : Cq := look {} s.host.cqs q
def setCq (q : Nat) (h : Cq) (s : State) : State := { s with host := { s.host with cqs := put {} s.host.cqs q h } }

/-- The ring size of a queue, 2^LOG2_CELLS (R62). -/
def ringSize (cfg : Word32) : Nat := 2 ^ (cfg.toNat % 32)

/-- PKT_THRESH; 0 acts as 1 (R62). -/
def pktThresh (cfg : Word32) : Nat := max 1 (cfg.toNat / 256 % 256)

/-- CQ_NUM of a submission queue (R62). -/
def cqNum (cfg : Word32) : Nat := cfg.toNat / 65536 % 64

/-- MODE of a harvest queue (R62). -/
def hqMode (cfg : Word32) : Nat := cfg.toNat / 32 % 8

/-! ### Requests -/

/-- The fields of a request at mailbox `n` (R56). -/
def parseReq (area : Bytes) (smp : Bool) : Req :=
  { opcode := fieldU area 0 2, tag := fieldU area 2 2, flags := fieldU area 6 2, session := fieldU area 8 2,
    counter := fieldU area 22 4, payload := fieldB area 32 (min 480 (fieldU area 4 2)), smp := smp }

/-- The message of a command tag (R58): mailbox byte, header bytes 0–9 and 22–31, payload. -/
def tagMessage (mbByte : Nat) (header payload : Bytes) : Bytes :=
  le8 mbByte ++ header.take 10 ++ fieldB header 22 10 ++ payload

/-- The key K under which a mailbox answers a request: session 0 stands for a SESSION above 15 (R58, R59). -/
def tagKey (s : State) (n session : Nat) : Option Bytes :=
  let k := if session < 16 then session else 0
  match authKey s n with
  | some auk => some (sessKey auk n k (sessOf s n k).kver)
  | none => none

/-- The header of a response without its tag (R57). -/
def respHeader (n : Nat) (r : Req) (st : Status) (len : Nat) (tag : Bytes) : Bytes :=
  let auth := decide (1 ≤ n ∧ n ≤ 3)
  le16 r.opcode ++ le16 r.tag ++ le16 len ++ le16 (statusCode st) ++ le16 (if auth then r.session else 0) ++ padTo 12 tag
    ++ le32 (if auth then r.counter else 0) ++ List.replicate 6 0

/-- The bytes of a response, with its tag in MB1–MB3 where a key exists (R57, R58). -/
def respBytes (n : Nat) (r : Req) (key : Option Bytes) (st : Status) (payload : Bytes) : Bytes :=
  match key with
  | some k =>
    let tag := Config.cmac256 k (tagMessage (n + 128) (respHeader n r st payload.length []) payload)
    respHeader n r st payload.length (tag.take 12) ++ payload
  | none => respHeader n r st payload.length [] ++ payload

/-- A reply that carries only a status. -/
def fail (st : Status) : Reply := { status := st }

/-- The command of mailbox `n` has been applied: later ones no longer wait for it (R54). -/
def goneBy (n : Nat) (s : State) : State := { s with host := { s.host with goOrder := s.host.goOrder.filter (· != n) } }

/-- Write a response into mailbox `n` (R51, steps 5 to 8): response area, DONE, SEQ; OWN clears unless the status is
ACCEPTED; V192 when the request asked for it. -/
def answerMb (n : Nat) (r : Req) (key : Option Bytes) (st : Status) (payload : Bytes) (s : State) : State :=
  let m := mbOf s n
  let accepted := decide (st = .accepted)
  let s := { s with host := { s.host with
    areas := writeBytes s.host.areas (0x400 * n + 0x200) (respBytes n r key st payload) } }
  let s := setMb n { m with
    done := true, seq := m.seq + 1, own := accepted, taken := if accepted then m.taken else none, started := accepted } (goneBy n s)
  if bitOf r.flags 0 then raiseV 192 s else s

/-- The final response of an ACCEPTED command (R51, step 7); nothing where the mailbox holds no such command. -/
def finishMb (n : Nat) (st : Status) (payload : Bytes) (s : State) : State :=
  let m := mbOf s n
  match m.taken with
  | some r => if m.started then answerMb n r (if 1 ≤ n ∧ n ≤ 3 then tagKey s n r.session else none) st payload s else s
  | none => s

/-! ### Completion queues -/

/-- Count one item of a moderated queue: the new count, and whether the vector is raised now (R75). -/
def moderate (counted : Nat) (cfg modTime : Word32) : Nat × Bool :=
  if modTime.toNat % 65536 = 0 ∨ pktThresh cfg ≤ counted + 1 then (0, true) else (counted + 1, false)

/-- The 64 bytes of a CQ entry (R72). -/
def cqEntry (tag st sqHead sq type len info : Nat) (time : Time) (payload : Bytes) (phase : Bool) : Bytes :=
  le16 tag ++ le16 st ++ le32 sqHead ++ le8 sq ++ le8 type ++ le16 len ++ le32 info ++ le72 time ++ [0, 0]
    ++ padTo 36 payload ++ le8 (b2n phase)

/-- Write one entry into the completion queue of `sq`, with the SQ_HEAD that it reports (R72): the ring cell, the next index, the
reservation used, the phase of the pass, and the vector. -/
def postCqAt (head sq tag : Nat) (st : Status) (type info : Nat) (payload : Bytes) (s : State) : State :=
  let q := sqOf s sq
  let n := cqNum q.cfg
  let c := cqOf s n
  let size := ringSize c.cfg
  let bytes := cqEntry tag (statusCode st) head sq type payload.length info (tbVal s 0) payload c.phase
  let s := emit (.dma (c.ringBase.toNat + 64 * c.tail) bytes) s
  let (cnt, now) := moderate c.counted c.cfg c.modTime
  let s := setCq n { c with
    tail := (c.tail + 1) % size, reserved := c.reserved - 1, counted := cnt,
    phase := if c.tail + 1 = size then !c.phase else c.phase } s
  if now then raiseV (128 + n) s else s

/-- Write one entry with the SQ_HEAD of now. -/
def postCq (sq tag : Nat) (st : Status) (type info : Nat) (payload : Bytes) (s : State) : State :=
  postCqAt (sqOf s sq).head sq tag st type info payload s

/-- The completion of a posted flush of `q` is about to be written: the interval of R69 now ends when the host returns that entry. -/
def flushDone (sq q : Nat) (s : State) : State :=
  let x := sqOf s sq
  let n := cqNum x.cfg
  let s := setSq sq { x with flushes := x.flushes.erase q } s
  if q < 128 then setHq q { hqOf s q with flushCq := (hqOf s q).flushCq ++ [(n, (cqOf s n).tail)] } s else s

/-- The running entry of submission queue `sq` with fetch number `idx`. -/
def entryAt (s : State) (sq idx : Nat) : Option Entry := (sqOf s sq).running.find? fun e => e.idx == idx

/-- Take an entry off the running list; a queue whose EN was cleared becomes disabled with its last entry (R63). -/
def dropEntry (sq idx : Nat) (s : State) : State :=
  let q := sqOf s sq
  let run := q.running.filter fun e => e.idx != idx
  setSq sq { q with
    running := run, en := q.en && !(q.closing && run.isEmpty), closing := q.closing && !run.isEmpty } s

/-- Release the CQ reservation of an entry that gets no completion (R485). -/
def releaseCq (sq : Nat) (s : State) : State :=
  let n := cqNum (sqOf s sq).cfg
  let c := cqOf s n
  setCq n { c with reserved := c.reserved - 1 } s

/-- Complete a submission-queue entry (R72): a payload above 36 bytes, and buffer bytes, go to BUF_ADDR with their length
in INFO; an entry that a FENCE made void is carried out without a completion (R485). A completion waits while the PCIe function
cannot write it (R484). -/
def completeSq (sq : Nat) (e : Entry) (rep : Reply) (s : State) : State :=
  let big := if 36 < rep.payload.length then rep.payload else rep.buffer
  let small := if 36 < rep.payload.length then [] else rep.payload
  let info := if big = [] then rep.info else big.length
  if !e.void && !pcieServes s then
    setSq sq { sqOf s sq with
      running := (sqOf s sq).running.map fun x => if x.idx = e.idx then { x with started := true, reply := some rep } else x } s
  else
  let s := dropEntry sq e.idx s
  if e.void then s
  else
    let s := match e.req.buffer with
      | some a => if big = [] then s else emit (.dma a big) s
      | none => s
    let s := if e.req.opcode = 0x0D02 then flushDone sq (fieldU e.req.payload 0 1) s else s
    postCq sq e.req.tag rep.status 0 info small s

/-- Post a FENCE completion (R73). -/
def postWaitFence (sq : Nat) (w : WaitFence) (s : State) : State :=
  postCqAt w.head sq w.tag w.status 1 0 [] (w.flushes.foldl (fun s q => flushDone sq q s) s)

/-- The FENCE completions and the completions of submission queue `sq` that waited are posted (R484). -/
def postWaiting (sq : Nat) (s : State) : State :=
  let fences := (sqOf s sq).fences
  let s := fences.foldl (fun s w => postWaitFence sq w s) (setSq sq { sqOf s sq with fences := [] } s)
  (sqOf s sq).running.foldl (fun s e => match e.reply with
    | some rep => completeSq sq e rep s
    | none => s) s

def postAllWaiting (s : State) : State := (List.range 64).foldl (fun s sq => postWaiting sq s) s

/-! ### Running a command -/

/-- The subject of the command that mailbox `n` holds or has handed over: the high byte of its opcode. Commands of one subject are
taken to act on the same unit (assumption log 66). -/
def mbSubject (s : State) (n : Nat) : Nat :=
  match (mbOf s n).taken with
  | some r => r.opcode / 256
  | none => (s.host.areas.read (0x400 * n + 1)).toNat

/-- It is the turn of mailbox `n` (R24, R54): no command of the same subject whose GO came before its own is still to be applied. -/
def goTurn (s : State) (n : Nat) : Bool :=
  (s.host.goOrder.takeWhile (· != n)).all fun k => mbSubject s k != mbSubject s n

/-- The request that a source holds and that is next to run: the mailbox's taken request when it is its turn, or the fetched
entry. -/
def takenReq (s : State) : Src → Option Req
  | .mb n =>
    let m := mbOf s n
    if m.own && !m.started && goTurn s n then m.taken else none
  | .sq n idx =>
    match entryAt s n idx with
    | some e => if e.started then none else some e.req
    | none => none

/-- Write a command's reply to its source. A command that completes later without ACCEPTED is only marked as running. A reply ACCEPTED leaves a mailbox owned, and a queue entry running: the command
completes later. -/
def respond (src : Src) (r : Req) (key : Option Bytes) (rep : Reply) (s : State) : State :=
  match src with
  | .mb n => if rep.later then goneBy n (setMb n { mbOf s n with started := true } s) else answerMb n r key rep.status rep.payload s
  | .sq n idx =>
    match entryAt s n idx with
    | some e =>
      if rep.status = .accepted then
        setSq n { sqOf s n with
          running := (sqOf s n).running.map fun x => if x.idx = idx then { x with started := true } else x } s
      else completeSq n e rep s
    | none => s

/-- The response key of a source (R58). -/
def srcKey (s : State) (src : Src) (r : Req) : Option Bytes :=
  match src with
  | .mb n => if 1 ≤ n ∧ n ≤ 3 then tagKey s n r.session else none
  | .sq _ _ => none

/-- The status is one under which the command takes effect. -/
def accepted (st : Status) : Bool := decide (st = .ok) || decide (st = .accepted)

/-- The legal log entry of an accepted MB1 command (R209). ACTIVATE_LEGAL writes its own (R476). -/
def mb1Entry (src : Src) (r : Req) (code : Nat) (s : State) : State :=
  match src with
  | .mb n => if n = 1 ∧ r.opcode ≠ 0x041B then legalEntry code r.opcode r.session r.counter r.payload s else s
  | .sq _ _ => s

/-- The source is MB1. -/
def isMb1 : Src → Bool
  | .mb n => n == 1
  | .sq _ _ => false

/-- The effect of a command whose checks have passed: it runs, an MB1 command writes its legal log entry, or completes
with LEGAL_LOCK and changes nothing while the legal log is full (R209, R210), and the reply is written. -/
def carryOut (run : Src → Req → State → Reply × State) (src : Src) (r : Req) (s : State) : State :=
  let key := srcKey s src r
  let (rep, s') := run src r s
  if isMb1 src && accepted rep.status then
    if legalFull s then respond src r key (fail .legalLock) s
    else
      let code := match opRow r.opcode with
        | some row => if rep.legal = 0 then row.legal else rep.legal
        | none => rep.legal
      respond src r key rep (if rep.later then s' else mb1Entry src r code s')
  else respond src r key rep s'

/-- A command row: the request that the source holds is checked and carried out. Where the source holds no request of this
opcode, the row does not happen and the state is unchanged (assumption log 13). -/
def runCmd (op : Nat) (check : Src → Req → State → Option Status) (run : Src → Req → State → Reply × State) (src : Src)
    (s : State) : Host.Outcome State Fault Refusal :=
  if src.exists then
    match takenReq s src with
    | some r =>
      if r.opcode = op then
        match check src r s with
        | some st => .next (respond src r (srcKey s src r) (fail st) s)
        | none => .next (carryOut run src r s)
      else .next s
    | none => .next s
  else .fault (.noSuchUnit "source" 64)

/-- An event row of unit `i` of `n`: an index outside the module's count names nothing. -/
def within (what : String) (i n : Nat) (t : State) : Host.Outcome State Fault Refusal :=
  if i < n then .next t else .fault (.noSuchUnit what i)

/-- A command that is always permitted once the checks of R60, steps 1 to 5, have passed. -/
def noCheck (_ : Src) (_ : Req) (_ : State) : Option Status := none

/-- Argument `off` of a request, as a number of `n` bytes. -/
def arg (r : Req) (off n : Nat) : Nat := fieldU r.payload off n

/-- Argument `off` of a request, as a signed number of `n` bytes. -/
def argS (r : Req) (off n : Nat) : Int := fieldS r.payload off n

/-- Argument `off` of a request as a 72-bit value. -/
def argT (r : Req) (off : Nat) : Time := BitVec.ofNat 72 (fieldU r.payload off 9)

/-! ### Taking a request -/

/-- The module serves mailboxes: NULVO_READY, no activation pause, and PD1 out of reset (R52, R471). -/
def served (s : State) : Bool := s.firm.nulvoReady && decide (s.firm.stage ≠ .pause) && fabricUp s

/-- Step 1 of R60 for a mailbox request. -/
def lengthFails (row : OpRow) (len : Nat) (r : Req) : Bool :=
  decide (480 < len) || !lenOk row.len r.payload || (r.opcode == 0x0B03 && decide (452 < len))

/-- The bases of a time-base command that only MB1 may name (R86, R122). -/
def tbCommand (op : Nat) : Bool := op == 0x0202 || op == 0x0203 || op == 0x0204 || op == 0x0207

/-- KEY_AUTH_SET is permitted in this place (R436). -/
def authSetHere (s : State) (n : Nat) (r : Req) : Bool :=
  let m := arg r 0 1
  let held := (authKey s m).isSome
  if m < 1 ∨ 3 < m then true
  else if 4 ≤ n then decide (m ≠ 1) && !held
  else if n = m then decide (r.session = 0) && held
  else if n = 3 then decide (r.session = 0) && !held
  else false

/-- The module is the master of its chain: Aetheno enabled and no valid sync in (R118). A member in HOLDOVER stays a member (R119;
DEDUCED, assumption log 72). -/
def chainMaster (s : State) : Bool := s.clock.aetheno && !s.clock.syncIn

/-- Step 3 of R60: the command is permitted in mailbox `n`. -/
def permitted (s : State) (row : OpRow) (n : Nat) (r : Req) : Bool :=
  let b := arg r 0 1
  let inPlace := if n = 1 then row.mb1 else if n = 2 then row.mb2 else if n = 3 then row.mb3 else row.general
  if row.op = 0x0120 then
    if n = 1 then b == 10
    else inPlace && b != 10 && (b != 7 || arg r 1 1 != 0 || r.smp)
  else if row.op = 0x0C07 then
    if n = 1 then b == 125 || b == 126 else inPlace && b != 125 && b != 126
  else if tbCommand row.op then
    if n = 1 then !(decide (4 ≤ b) && decide (b ≤ 10)) else inPlace && b != 0 && b != 2
  else if row.op = 0x020B then inPlace && (arg r 11 1 != 1 || chainMaster s)
  else if row.op = 0x0B07 then inPlace && (arg r 9 1 != 1 || argT r 0 == 0#72 || chainMaster s)
  else if row.op = 0x090B then authSetHere s n r
  else if row.op = 0x090C then inPlace && decide (r.session = 0)
  else inPlace

/-- The command's subject is legal (R60, step 3). -/
def legalSubject (r : Req) : Bool :=
  r.opcode / 256 == 0x04 || (r.opcode == 0x0120 && arg r 0 1 == 10)
    || (r.opcode == 0x0C07 && (arg r 0 1 == 125 || arg r 0 1 == 126))

/-- The commands served in ALARM_HOLD, BLANK and VOID (R448, R454). -/
def holdServes (s : State) (r : Req) : Bool :=
  let lc := lcState s
  if r.opcode = 0x0B21 then
    if lc = .blank then r.smp && arg r 5 1 == 1
    else if lc = .void then false
    else arg r 5 1 == 4 || arg r 5 1 == 5
  else if r.opcode = 0x0B23 then decide (lc ≠ .blank ∧ lc ≠ .void)
  else [0x0B20, 0x090E, 0x0414, 0x0418, 0x041A, 0x0C01, 0x0C02, 0x0C03, 0x0C04, 0x0C05, 0x0C06].contains r.opcode

/-- The commands that the boot ROM serves in NO_IMAGE (R468). -/
def noImageServes (r : Req) (mailbox : Bool) : Bool :=
  [0x0B02, 0x0B04, 0x0B01, 0x0B20, 0x090E, 0x0414, 0x0418, 0x041A, 0x0C01, 0x0C02, 0x0C03, 0x0C04, 0x0C05, 0x0C06].contains
    r.opcode || (r.opcode == 0x0B03 && mailbox) || [0x0B21, 0x0B23].contains r.opcode

/-- Step 5 of R60: not permitted in the life-cycle state, in ALARM_HOLD or in NO_IMAGE. -/
def lifecycleFails (s : State) (r : Req) (mailbox : Bool) : Bool :=
  let lc := lcState s
  if s.keys.alarmHold ∨ lc = .blank ∨ lc = .void then !holdServes s r
  else if s.firm.stage = .noImage then !noImageServes r mailbox
  else false

/-- An AUTHFAIL of the pair (R59): its failure count rises; at eight the whole mailbox is locked out, with logbook 0x90F,
notice and V232, and tamper class 21 for MB1. -/
def countFailure (n session : Nat) (s : State) : State :=
  let k := if session < 16 then session else 0
  let p := sessOf s n k
  let s := setSess n k { p with fails := p.fails + 1 } s
  if p.fails + 1 < 8 then s
  else
    let s := { s with host := { s.host with lockout := put none s.host.lockout n (some k) } }
    let snaps := [snapN n, snapN k, snapN 1, 0, 0, snapN (lcCode (lcState s))]
    let s := raiseV 232 (logNotice 0x90F 137 n snaps s)
    if n = 1 then tamperSet 21 s else s

/-- The requests of MB1–MB3 that end AUTHFAIL without being evaluated (R58, R59): the mailbox has no authority key, is locked out, or
SESSION is above 15, which counts as a failure. -/
def unevaluated (n : Nat) (r : Req) (s : State) : Option State :=
  match tagKey s n r.session with
  | none => some s
  | some _ =>
    if look none s.host.lockout n ≠ none then some s
    else if 15 < r.session then some (countFailure n 0 s)
    else none

/-- Step 4 of R60 (R58, R59): the status, and the state with the counter stored or the failure counted. -/
def authenticate (n : Nat) (header : Bytes) (r : Req) (s : State) : Option Status × State :=
  match tagKey s n r.session with
  | none => (some .authfail, s)
  | some k =>
    let p := sessOf s n r.session
    let want := (Config.cmac256 k (tagMessage n header r.payload)).take 12
    if fieldB header 10 12 = want ∧ p.counter < r.counter then
      (none, setSess n r.session { p with counter := r.counter, fails := 0 } s)
    else (some .authfail, countFailure n r.session s)

/-- Steps 1 to 3 of R60 for a mailbox request. -/
def earlyCheck (s : State) (n len : Nat) (r : Req) : Option Status :=
  match opRow r.opcode with
  | none => if 480 < len then some .badlen else some .badop
  | some row =>
    firstFail [(lengthFails row len r, .badlen),
      (!permitted s row n r, if legalSubject r then .legalLock else .denied)]

/-- The checks of R60 that come before the command's own, and the state they leave. -/
def checkReq (n : Nat) (header : Bytes) (r : Req) (s : State) : Option Status × State :=
  match earlyCheck s n (fieldU header 4 2) r with
  | some st => (some st, s)
  | none =>
    let (st, s) := if 1 ≤ n ∧ n ≤ 3 then authenticate n header r s else (none, s)
    match st with
    | some x => (some x, s)
    | none => (firstFail [(lifecycleFails s r true, .lifecycle)], s)

/-- The checks of a request that is taken: those of R60, or AUTHFAIL without evaluation in MB1–MB3. -/
def admitReq (n : Nat) (header : Bytes) (r : Req) (s : State) : Option Status × State :=
  match if 1 ≤ n ∧ n ≤ 3 then unevaluated n r s else none with
  | some s => (some .authfail, s)
  | none => checkReq n header r s

/-- The module takes the request of mailbox `n` (R51, step 4), and answers at once a request that fails steps 1 to 5. -/
def takeRequest (n : Nat) (s : State) : State :=
  let m := mbOf s n
  if m.go && !m.own && served s then
    let area := readBytes s.host.areas (0x400 * n) 512
    let r := parseReq area m.goSmp
    let s := setMb n { m with go := false, own := true, taken := some r, started := false } s
    let (st, s) := admitReq n (area.take 32) r s
    match st with
    | some x => answerMb n r (if 1 ≤ n ∧ n ≤ 3 then tagKey s n r.session else none) x [] s
    | none => s
  else s

/-- `MAILBOX_REQUEST_TAKE` (R51). MB0 accepts no requests (R55). -/
def execMailboxRequestTake (mb : Nat) (s : State) : Host.Outcome State Fault Refusal :=
  within "mailbox" mb 64 (if mb = 0 then s else takeRequest mb s)

/-! ### Fetching a queue entry -/

/-- The request of a submission-queue entry (R71). -/
def parseEntry (cell buffer : Bytes) : Req :=
  let buf := bitOf (fieldU cell 6 2) 0
  let len := fieldU cell 4 2
  { opcode := fieldU cell 0 2, tag := fieldU cell 2 2, flags := fieldU cell 6 2,
    payload := if buf then buffer.take len else fieldB cell 24 (min 40 len),
    buffer := if buf then some (fieldU cell 8 8) else none }

/-- The largest response that a request can produce (R72): the commands that return a number of entries name it. -/
def respMax (row : OpRow) (r : Req) : Nat :=
  if row.op = 0x0609 then 11 * arg r 3 2
  else if row.op = 0x080B then 64 * arg r 3 2
  else if row.op = 0x0C02 then 6 + 128 * arg r 4 2
  else row.resp

/-- Steps 1 to 5 of R60 for a queue entry, with the buffer rule of R72. -/
def entryCheck (s : State) (len : Nat) (r : Req) : Option Status :=
  let buf := r.buffer.isSome
  let badLen := if buf then len == 0 else decide (40 < len)
  match opRow r.opcode with
  | none => firstFail [(badLen, .badlen), (true, .badop)]
  | some row =>
    firstFail [(badLen || !lenOk row.len r.payload || (decide (36 < respMax row r) && !buf), .badlen),
      (!row.sq, .denied), (lifecycleFails s r false, .lifecycle)]

/-- One entry of the completion queue can be reserved: entries reserved or written and not yet returned stay below the
ring size (R35, R72). -/
def cqHasRoom (c : Cq) : Bool :=
  let size := ringSize c.cfg
  c.en && decide ((c.tail + size - c.head) % size + c.reserved + 1 < size)

end Sys2Proof.Machine
end

