-- ==== Sys2Proof/Machine/Queues.lean ====
section
/-! DEFINITION. Harvest queues, submission and completion queues, and interrupt moderation
(spec/02_host_interface_nulvo.md, R62–R77; spec/09_ingest_pipelines.md, R323, R324). -/

namespace Sys2Proof.Machine

/-! ### Packets, pans and the pond -/

/-- Cells of a record of `n` bytes: 56 bytes of payload each, at least one (R64, R65). -/
def cellsOf (n : Nat) : Nat := max 1 ((n + 55) / 56)

def packetCells (p : Packet) : Nat := cellsOf p.bytes.length

def cellSum (l : List Packet) : Nat := sumN (l.map packetCells)

/-- POND_CELLS (R63): the queue's cells waiting in the holding pond. -/
def pondCells (h : Hq) : Nat := cellSum h.pond

/-- The trailer value of cell `i` of a packet (R64), without its CRC. -/
def trailer (p : Packet) (i : Nat) : Bytes :=
  let c := packetCells p
  le8 (b2n (i + 1 == c) + 2 * b2n (i == 0)) ++ le8 (if i = 0 then c else 0) ++ le32 p.seq

/-- Cell `i` of a packet: 56 bytes of payload, trailer, and the CRC over bytes 0–61 (R64). -/
def cellBytes (p : Packet) (i : Nat) : Bytes :=
  let body := padTo 56 (fieldB p.bytes (56 * i) 56) ++ trailer p i
  body ++ leBytes 2 (crc16 body).toNat

/-- The place where a reservation is granted (R323). -/
inductive Place where
  | panA
  | panB
  | pond
  deriving DecidableEq, Repr

def fillPan (h : Hq) : Pan := if h.fillB then h.panB else h.panA
def otherPan (h : Hq) : Pan := if h.fillB then h.panA else h.panB
def setFill (h : Hq) (p : Pan) : Hq := if h.fillB then { h with panB := p } else { h with panA := p }
def setOther (h : Hq) (p : Pan) : Hq := if h.fillB then { h with panA := p } else { h with panB := p }
def fillPlace (h : Hq) : Place := if h.fillB then .panB else .panA
def otherPlace (h : Hq) : Place := if h.fillB then .panA else .panB

/-- Cells of a pan in use or reserved, of its 128 (R68). -/
def panUsed (p : Pan) : Nat := cellSum p.pkts + p.resv

/-- The pan holds nothing and reserves nothing. -/
def panEmpty (p : Pan) : Bool := p.pkts.isEmpty && p.resv == 0

/-- The write-back of HQn_PKTS when WB_EN is set (R62, R66), while DMA runs (R484). -/
def writeBack (q : Nat) (s : State) : State :=
  let h := hqOf s q
  if bitOf h.cfg.toNat 22 ∧ pcieServes s then emit (.dma h.wbAddr.toNat (le32 h.pkts)) s else s

/-- Count packets of a MODE 1 or MODE 2 queue as they become available to its consumer (R70, R75). -/
def countAvail (q n : Nat) (s : State) : State :=
  match n with
  | 0 => s
  | k + 1 =>
    let h := hqOf s q
    let (cnt, now) := moderate h.counted h.cfg h.modTime
    let s := writeBack q (setHq q { h with pkts := h.pkts + 1, counted := cnt } s)
    countAvail q k (if now then raiseV q s else s)

/-- The hand-off of R68: a closing pan with no reservation left hands off once the other pan is empty, and the other pan
becomes the filling pan; an empty closing pan just opens again. -/
def handOff (q : Nat) (s : State) : State :=
  let h := hqOf s q
  let f := fillPan h
  let o := otherPan h
  if o.closing && o.resv == 0 && !o.handed then
    -- the former filling pan of R323, step 2: the new filling pan is the other one
    if o.pkts.isEmpty then setHq q (setOther h { o with closing := false }) s
    else if f.handed then s
    else
      let s := setHq q (setOther h { o with closing := false, handed := true }) s
      if hqMode h.cfg = 0 then s else countAvail q o.pkts.length s
  else if f.closing && f.resv == 0 && panEmpty o then
    if f.pkts.isEmpty then setHq q (setFill h { f with closing := false }) s
    else
      let s := setHq q { setFill h { f with closing := false, handed := true } with fillB := !h.fillB } s
      if hqMode h.cfg = 0 then s else countAvail q f.pkts.length s
  else s

/-- Release a reservation that is not used (R324). -/
def release (q : Nat) (pl : Place) (k : Nat) (s : State) : State :=
  let h := hqOf s q
  match pl with
  | .panA => handOff q (setHq q { h with panA := { h.panA with resv := h.panA.resv - k } } s)
  | .panB => handOff q (setHq q { h with panB := { h.panB with resv := h.panB.resv - k } } s)
  | .pond =>
    let s := setHq q { h with pondResv := h.pondResv - k } s
    { s with host := { s.host with pondFree := s.host.pondFree + k } }

/-- Write a record as a packet into its reservation, using some of its `k` cells and releasing the rest (R324). The packet
takes SEQ_NEXT (R65; assumption log 14). While the queue is disabled the record is discarded, as the flush of its disabling discards
the packets being written (R63, R69). -/
def writePacket (q : Nat) (pl : Place) (k : Nat) (bytes : Bytes) (reply : Option Nat) (s : State) : State :=
  let h := hqOf s q
  if !h.en then release q pl k s
  else
  let p : Packet := { seq := h.seqNext, bytes := bytes, reply := reply }
  let h := { h with seqNext := (h.seqNext + 1) % 2 ^ 32 }
  match pl with
  | .panA =>
    handOff q (setHq q { h with panA := { h.panA with pkts := h.panA.pkts ++ [p], resv := h.panA.resv - k } } s)
  | .panB =>
    handOff q (setHq q { h with panB := { h.panB with pkts := h.panB.pkts ++ [p], resv := h.panB.resv - k } } s)
  | .pond =>
    let s := setHq q { h with pond := h.pond ++ [p], pondResv := h.pondResv - k } s
    let s := { s with host := { s.host with pondFree := s.host.pondFree + k - packetCells p } }
    if hqMode h.cfg = 0 then s else countAvail q 1 s

/-! ### Delivery to the host ring -/

/-- The packet that is next in order of SEQ, where it lies in the pond or in a handed-off pan (R44). -/
inductive NextPacket where
  | pond (p : Packet)
  | panA (p : Packet)
  | panB (p : Packet)
  | none
  deriving DecidableEq, Repr

/-- SEQ of the head of a list, as a distance behind SEQ_NEXT: the oldest packet lies farthest behind. -/
def seqAge (h : Hq) : List Packet → Nat
  | [] => 0
  | p :: _ => (h.seqNext + 2 ^ 32 - p.seq) % 2 ^ 32

/-- The next packet in order (R44): the oldest of pond and pans; nothing while the oldest lies in a pan that has not been
handed off. -/
def nextPacket (h : Hq) : NextPacket :=
  let a := seqAge h h.panA.pkts
  let b := seqAge h h.panB.pkts
  let d := seqAge h h.pond
  if a ≤ d ∧ b ≤ d then
    match h.pond with
    | p :: _ => .pond p
    | [] => .none
  else if b ≤ a then
    match h.panA.pkts with
    | p :: _ => if h.panA.handed then .panA p else .none
    | [] => .none
  else
    match h.panB.pkts with
    | p :: _ => if h.panB.handed then .panB p else .none
    | [] => .none

/-- How far behind SEQ_NEXT a packet lies: older packets lie farther. -/
def pktAge (h : Hq) (p : Packet) : Nat := (h.seqNext + 2 ^ 32 - p.seq) % 2 ^ 32

/-- A packet in its place in the pond, by sequence number (R44). -/
def insertPkt (h : Hq) (p : Packet) : List Packet → List Packet
  | [] => [p]
  | x :: r => if pktAge h x < pktAge h p then p :: x :: r else x :: insertPkt h p r

/-- Packets that spill take their places in the pond. -/
def mergePond (h : Hq) (l : List Packet) : List Packet := l.foldl (fun pond p => insertPkt h p pond) h.pond

/-- The draining pan spills to the holding pond when both pans hold packets, as far as the pond has room (R68). -/
def spillPan (q : Nat) (s : State) : State :=
  let h := hqOf s q
  let spill (p : Pan) (b : Bool) : State :=
    let c := cellSum p.pkts
    if active s 6 ∧ c ≤ s.host.pondFree then
      let p' := { p with pkts := [], handed := false }
      let h' := { h with pond := mergePond h p.pkts }
      let s := setHq q (if b then { h' with panB := p' } else { h' with panA := p' }) s
      handOff q { s with host := { s.host with pondFree := s.host.pondFree - c } }
    else s
  if h.panA.pkts.isEmpty || h.panB.pkts.isEmpty then s
  else if h.panA.handed then spill h.panA false
  else if h.panB.handed then spill h.panB true
  else s

/-- Cells in use in the ring, modulo 2^32 (R66). -/
def ringInUse (h : Hq) : Nat := (h.written - h.freed).toNat

/-- The next packet of a queue cannot leave its pan: the ring of a MODE 0 queue lacks its cells, or DMA does not run; the consumer of a
MODE 1 or 2 queue has not read it (R68, R70, R484). -/
def stuck (s : State) (h : Hq) : Bool :=
  if hqMode h.cfg = 0 then
    let full (p : Packet) : Bool := !pcieServes s || decide (ringSize h.cfg < packetCells p + ringInUse h)
    match nextPacket h with
    | .pond p => full p
    | .panA p => full p
    | .panB p => full p
    | .none => false
  else true

/-- The draining pan of a stuck queue spills (R68). -/
def spillStuck (q : Nat) (s : State) : State := if (hqOf s q).en && stuck s (hqOf s q) then spillPan q s else s

/-! ### Reservations (R323) -/

/-- Where a reservation of `k` cells can be granted (R323): in the filling pan, in the other pan when it is empty, in the pond. -/
def canGrant (s : State) (h : Hq) (k : Nat) : Option Place :=
  let f := fillPan h
  let o := otherPan h
  if !h.en then none
  else if !f.closing && !f.handed && decide (panUsed f + k ≤ 128) then some (fillPlace h)
  else if panEmpty o && !o.handed && decide (k ≤ 128) then some (otherPlace h)
  else if active s 6 && decide (k ≤ s.host.pondFree) then some .pond
  else none

/-- Take the cells of a reservation in the place found for it. -/
def grant (q k : Nat) (pl : Place) (s : State) : State :=
  let h := hqOf s q
  let f := fillPan h
  if pl = .pond then
    let s := setHq q { h with pondResv := h.pondResv + k, need := 0 } s
    { s with host := { s.host with pondFree := s.host.pondFree - k } }
  else if pl = fillPlace h then setHq q { setFill h { f with resv := f.resv + k } with need := 0 } s
  else
    let h' := setOther (setFill h { f with closing := !f.handed }) { otherPan h with resv := k, closing := false }
    handOff q (setHq q { h' with fillB := !h.fillB, need := 0 } s)

/-- Grant a reservation of `k` cells (R323), or nothing with NO_ROOM set. A draining pan that cannot go on is spilled first where the
pans have no room (R68). -/
def reserve (q k : Nat) (s : State) : Option Place × State :=
  let pans := match canGrant s (hqOf s q) k with
    | some .pond => false
    | some _ => true
    | none => false
  let s := if pans then s else spillStuck q s
  match canGrant s (hqOf s q) k with
  | some pl => (some pl, grant q k pl s)
  | none => (none, if (hqOf s q).en then setHq q { hqOf s q with need := k } s else s)

/-- NO_ROOM (R62, R325): the queue is enabled and no cell reservation can be granted: not the one that last failed, or not one of a
single cell. -/
def noRoom (s : State) (h : Hq) : Bool := h.en && (canGrant s h (max 1 h.need)).isNone

/-- A record with a reservation of its own: reserved and written at once; nothing, with the state's NO_ROOM, where no
reservation can be granted. -/
def emitRecord (q : Nat) (bytes : Bytes) (s : State) : Option State :=
  match reserve q (cellsOf bytes.length) s with
  | (some pl, s') => some (writePacket q pl (cellsOf bytes.length) bytes none s')
  | (none, _) => none

/-! ### Taking packets -/

/-- Take the first packet off a pan; a drained pan is empty again. -/
def dropPan (p : Pan) : Pan := { p with pkts := p.pkts.tail, handed := p.handed && !(p.pkts.tail).isEmpty }

/-- Take the next packet out of its place (R68). -/
def takeNext (q : Nat) (n : NextPacket) (s : State) : State :=
  let h := hqOf s q
  match n with
  | .pond p =>
    let s := setHq q { h with pond := h.pond.tail } s
    { s with host := { s.host with pondFree := s.host.pondFree + packetCells p } }
  | .panA _ => handOff q (setHq q { h with panA := dropPan h.panA } s)
  | .panB _ => handOff q (setHq q { h with panB := dropPan h.panB } s)
  | .none => s

/-- A packet of a MODE 1 or MODE 2 queue leaves HQn_PKTS once its END cell has been read (R70). -/
def countRead (q : Nat) (s : State) : State :=
  let h := hqOf s q
  writeBack q (setHq q { h with pkts := h.pkts - 1, popCell := 0 } s)

/-- The DMA writes of the cells of a packet, at consecutive ring positions (R65, R66). -/
def writeCells (base size pos : Nat) (p : Packet) : Nat → State → State
  | 0, s => s
  | n + 1, s =>
    let i := packetCells p - (n + 1)
    writeCells base size pos p n (emit (.dma (base + 64 * ((pos + i) % size)) (cellBytes p i)) s)

/-- Mark a packet delivered (R347). -/
def markDelivered (q : Nat) (p : Packet) (s : State) : State :=
  match p.reply with
  | some e => { s with host := { s.host with delivered := s.host.delivered ++ [(q, p.seq, e)] } }
  | none => s

/-- Write a packet to the host ring and count it (R66, R75). -/
def ringWrite (q : Nat) (p : Packet) (s : State) : State :=
  let h := hqOf s q
  let c := packetCells p
  let s := writeCells h.ringBase.toNat (ringSize h.cfg) h.written.toNat p c s
  let (cnt, now) := moderate h.counted h.cfg h.modTime
  let s := setHq q { hqOf s q with
    written := h.written + BitVec.ofNat 32 c, pkts := h.pkts + 1, ring := h.ring ++ [c], counted := cnt } s
  let s := markDelivered q p (writeBack q s)
  if now then raiseV q s else s

/-- `PACKET_WRITE_TO_RING` (R66, R68, R44): the next packet of a MODE 0 queue is written to the ring when its cells are
free; otherwise the draining pan spills where both pans hold packets. -/
def packetToRing (q : Nat) (s : State) : State :=
  let h := hqOf s q
  if h.en && hqMode h.cfg == 0 && fabricUp s && pcieServes s then
    let deliver (p : Packet) : State :=
      if packetCells p + ringInUse h ≤ ringSize h.cfg then ringWrite q p (takeNext q (nextPacket h) s) else spillPan q s
    match nextPacket h with
    | .pond p => deliver p
    | .panA p => deliver p
    | .panB p => deliver p
    | .none => s
  else if fabricUp s then spillStuck q s
  else s

/-- `PAN_TAIL_TIMEOUT` (R68): the filling pan, which holds a whole packet, closes and hands off; a stuck draining pan spills before. -/
def tailTimeout (q : Nat) (s : State) : State :=
  let s := spillStuck q s
  let h := hqOf s q
  let f := fillPan h
  if h.en && !f.pkts.isEmpty && !f.handed then handOff q (setHq q (setFill h { f with closing := true }) s) else s

def execPanTailTimeout (hq : Nat) (s : State) : Host.Outcome State Fault Refusal :=
  within "harvest queue" hq 128 (tailTimeout hq s)

/-- `VECTOR_MODERATION_TIMEOUT` (R75): MOD_TIME after the first counted item, the queue's vector is raised. Queue index as
in R62: 0–127 HQ, 192–255 CQ. -/
def moderationTimeout (q : Nat) (s : State) : State :=
  if q < 128 then
    let h := hqOf s q
    if h.counted = 0 then s else raiseV q (setHq q { h with counted := 0 } s)
  else if 192 ≤ q then
    let c := cqOf s (q - 192)
    if c.counted = 0 then s else raiseV (128 + (q - 192)) (setCq (q - 192) { c with counted := 0 } s)
  else s

def execVectorModerationTimeout (q : Nat) (s : State) : Host.Outcome State Fault Refusal :=
  within "queue" q 256 (moderationTimeout q s)

/-! ### Consumption and flush -/

/-- A flush of the queue has been posted and its completion not returned (R69). -/
def flushOpen (s : State) (q : Nat) : Bool :=
  !(hqOf s q).flushCq.isEmpty || s.host.sqs.any fun x => x.2.flushes.contains q

/-- A write of HQn_CONSUMED (R67, R69, R70). -/
def consume (q : Nat) (n : Nat) (s : State) : State :=
  let h := hqOf s q
  if n = 0 ∨ h.pkts < n ∨ hqMode h.cfg ≠ 0 ∨ flushOpen s q then setHq q { h with error := true } s
  else
    let freed := sumN (h.ring.take n)
    let s := setHq q { h with pkts := h.pkts - n, ring := h.ring.drop n, freed := h.freed + BitVec.ofNat 32 freed } s
    writeBack q s

/-- `HQ_CONSUMED_WRITE` (R67). -/
def execHqConsumedWrite (hq : Nat) (count : Word32) (s : State) : Host.Outcome State Fault Refusal :=
  within "harvest queue" hq 128 (if fabricUp s then consume hq count.toNat s else s)

/-- A pan after a flush: nothing in it; its reservations stay with the frames that hold them. -/
def flushPan (p : Pan) : Pan := { p with pkts := [], handed := false, closing := p.closing && p.resv != 0 }

/-- The number of whole packets waiting in a queue: in the ring, in the pans, in the pond (R69). In MODE 1 and 2 the ring
holds none. -/
def waiting (h : Hq) : Nat := h.ring.length + h.panA.pkts.length + h.panB.pkts.length + h.pond.length

/-- Discard every waiting packet of a queue (R69). -/
def flushHq (q : Nat) (s : State) : State :=
  let h := hqOf s q
  let s := setHq q { h with
    pkts := 0, ring := [], freed := h.written, pond := [], panA := flushPan h.panA, panB := flushPan h.panB, popCell := 0 } s
  writeBack q { s with host := { s.host with pondFree := s.host.pondFree + pondCells h } }

/-- Discard what waits in the pans and the pond of a queue, but not what the ring holds (R74, step 2). A MODE 1 or 2 queue
counts none of it any more. -/
def dropUnringed (q : Nat) (s : State) : State :=
  let h := hqOf s q
  let s := setHq q { h with
    pkts := h.ring.length, pond := [], pondResv := 0, panA := {}, panB := {}, popCell := 0 } s
  { s with host := { s.host with pondFree := s.host.pondFree + pondCells h + h.pondResv } }

/-- Every listed harvest queue. -/
def hqKeys (s : State) : List Nat := s.host.hqs.map (·.1)

/-- `HQ_FLUSH` (R69). -/
def hqFlushCheck (_ : Src) (r : Req) (_ : State) : Option Status := firstFail [(decide (128 ≤ arg r 0 1), .badarg)]

def hqFlushRun (_ : Src) (r : Req) (s : State) : Reply × State :=
  let q := arg r 0 1
  ({ info := waiting (hqOf s q) }, flushHq q s)

def execHqFlush (src : Src) (s : State) : Host.Outcome State Fault Refusal := runCmd 0x0D02 hqFlushCheck hqFlushRun src s

/-! ### Submission and completion indices -/

/-- An SQ_TAIL write (R71): a value outside the ring, or one that would pass SQ_HEAD, is ignored with ERROR. Moving the
tail from its place must not run over the head. `flushes` are the harvest queues that `HQ_FLUSH` entries among those posted name: the
interval of R69 begins. -/
def sqTail (q : Nat) (v : Nat) (flushes : List Nat) (s : State) : State :=
  let h := sqOf s q
  let size := ringSize h.cfg
  let room := (h.head + size - h.tail - 1) % size
  let move := (v + size - h.tail) % size
  if size ≤ v ∨ room < move then setSq q { h with error := true } s
  else setSq q { h with tail := v, flushes := h.flushes ++ flushes } s

/-- `SQ_TAIL_WRITE` (R71). -/
def execSqTailWrite (sq : Nat) (bell : Doorbell) (s : State) : Host.Outcome State Fault Refusal :=
  within "submission queue" sq 64 (if fabricUp s then sqTail sq bell.tail.toNat bell.flushes s else s)

/-- The flush intervals that a CQ_HEAD write from `head` over `n` entries ends (R69). -/
def endFlushes (c head n size : Nat) : List Nat → State → State
  | [], s => s
  | q :: qs, s =>
    let h := hqOf s q
    let left := h.flushCq.filter fun x => x.1 != c || decide (n ≤ (x.2 + size - head) % size)
    endFlushes c head n size qs (setHq q { h with flushCq := left } s)

/-- A CQ_HEAD write (R72): a value outside the ring, or outside the span from CQ_HEAD to CQ_TAIL, is ignored with ERROR. -/
def cqHead (q : Nat) (v : Nat) (s : State) : State :=
  let c := cqOf s q
  let size := ringSize c.cfg
  let span := (c.tail + size - c.head) % size
  let move := (v + size - c.head) % size
  if size ≤ v ∨ span < move then setCq q { c with error := true } s
  else endFlushes q c.head move size (hqKeys s) (setCq q { c with head := v } s)

/-- `CQ_HEAD_WRITE` (R72). -/
def execCqHeadWrite (cq : Nat) (head : Word32) (s : State) : Host.Outcome State Fault Refusal :=
  within "completion queue" cq 64 (if fabricUp s then cqHead cq head.toNat s else s)

/-! ### Enabling and disabling -/

/-- LOG2_CELLS lies within 6–20 (R63). -/
def cellsLegal (cfg : Word32) : Bool := decide (6 ≤ cfg.toNat % 32 ∧ cfg.toNat % 32 ≤ 20)

/-- An enabled submission queue names completion queue `c` (R63). -/
def cqNamed (s : State) (c : Nat) : Bool := s.host.sqs.any fun (_, q) => q.en && cqNum q.cfg == c

/-- Write of Q_CTRL (R62, R63): FENCED_SEEN and ERROR are cleared by 1, then EN is set or cleared under its rules. -/
def qCtrl (q : Nat) (v : Nat) (s : State) : State :=
  let en := bitOf v 0
  if q < 128 then
    let h := hqOf s q
    let h := { h with error := h.error && !bitOf v 2 }
    if en && !h.en then
      if cellsLegal h.cfg && decide (hqMode h.cfg < 3) then
        setHq q { h with
          en := true, pkts := 0, written := 0, freed := 0, seqNext := 0, ring := [], counted := 0, popCell := 0 } s
      else setHq q { h with error := true } s
    else if !en && h.en then
      let s := flushHq q (setHq q h s)
      setHq q { hqOf s q with en := false } s
    else setHq q h s
  else if q < 192 then
    let n := q - 128
    let h := sqOf s n
    let h := { h with error := h.error && !bitOf v 2, fencedSeen := h.fencedSeen && !bitOf v 1 }
    if en && !h.en then
      if cellsLegal h.cfg then setSq n { h with en := true, tail := 0, head := 0, closing := false, flushes := [], fences := [] } s
      else setSq n { h with error := true } s
    else if !en && h.en then
      let fetched := h.running.filterMap fun e => if e.req.opcode = 0x0D02 then some (fieldU e.req.payload 0 1) else none
      setSq n { h with en := !h.running.isEmpty, closing := !h.running.isEmpty, flushes := fetched } s
    else setSq n h s
  else
    let n := q - 192
    let h := cqOf s n
    let h := { h with error := h.error && !bitOf v 2 }
    if en && !h.en then
      if cellsLegal h.cfg then
        let s := (hqKeys s).foldl (fun s q => setHq q { hqOf s q with flushCq := (hqOf s q).flushCq.filter fun x => x.1 != n } s) s
        setCq n { h with en := true, tail := 0, head := 0, reserved := 0, phase := true, counted := 0 } s
      else setCq n { h with error := true } s
    else if !en && h.en then
      if cqNamed s n then setCq n { h with error := true } s else setCq n { h with en := false } s
    else setCq n h s

/-- `Q_CTRL_EN_WRITE` (R63). -/
def execQCtrlEnWrite (q : Nat) (value : Word32) (s : State) : Host.Outcome State Fault Refusal :=
  within "queue" q 256 (if fabricUp s then qCtrl q value.toNat s else s)

/-- Q_CTRL as it reads (R62). -/
def qCtrlRead (s : State) (q : Nat) : Nat :=
  if q < 128 then let h := hqOf s q; ofBits [h.en, false, h.error, noRoom s h]
  else if q < 192 then let h := sqOf s (q - 128); ofBits [h.en, h.fencedSeen, h.error]
  else let h := cqOf s (q - 192); ofBits [h.en, false, h.error]

/-! ### Commands of the chapter -/

/-- `Q_INFO` (R62). -/
def qInfoRun (_ : Src) (r : Req) (s : State) : Reply × State :=
  let q := arg r 0 1
  let count :=
    if q < 128 then (hqOf s q).pkts else if q < 192 then (sqOf s (q - 128)).head else (cqOf s (q - 192)).tail
  let pond := if q < 128 then pondCells (hqOf s q) else 0
  let next := if q < 128 then (hqOf s q).seqNext else 0
  ({ payload := le32 (qCtrlRead s q) ++ le32 count ++ le32 pond ++ le32 next }, s)

def execQInfo (src : Src) (s : State) : Host.Outcome State Fault Refusal := runCmd 0x0D01 noCheck qInfoRun src s

/-- `SQ_NOP` (R71): does nothing and completes. -/
def sqNopRun (_ : Src) (_ : Req) (s : State) : Reply × State := ({}, s)

def execSqNop (src : Src) (s : State) : Host.Outcome State Fault Refusal := runCmd 0x0D03 noCheck sqNopRun src s

/-- `INT_TEST` (R75): raises the named vector once. V237–V255 are reserved and never produced (R10). -/
def intTestCheck (_ : Src) (r : Req) (_ : State) : Option Status := firstFail [(decide (237 ≤ arg r 0 1), .badarg)]

def intTestRun (_ : Src) (r : Req) (s : State) : Reply × State := ({}, raiseV (arg r 0 1) s)

def execIntTest (src : Src) (s : State) : Host.Outcome State Fault Refusal := runCmd 0x0D04 intTestCheck intTestRun src s

end Sys2Proof.Machine
end

