-- ==== Sys2Proof/Machine/Records.lean ====
section
/-! DEFINITION. The header of harvest records (spec/09_ingest_pipelines.md, R341, R342, R548) and the roundings that the
spec leaves open. -/

namespace Sys2Proof.Machine

/-- A quotient that is exact where it is whole; otherwise one of the two neighbours, which of them the spec leaves open
(assumption log 18). Division by 0 is a free value. -/
def openDiv (num : Int) (den : Nat) : Int :=
  if den = 0 then Config.divByZero num
  else if num % (den : Int) = 0 then num / (den : Int)
  else num / (den : Int) + b2n (Config.roundUp num den)

/-- The square root of `num / den`: exact where it is whole, otherwise one of its two neighbours; 0 for no samples. -/
def openSqrt (num den : Nat) : Nat :=
  if den = 0 then 0
  else
    let r := isqrt (num / den)
    if r * r * den = num then r else r + b2n (Config.roundUp num den)

/-- The fields of a record header (R341). -/
structure RecHeader where
  type : Nat := 0
  flags : Nat := 0
  ctx : Nat := 0
  noContext : Bool := false
  seq : Nat := 0
  vflags : Nat := 0
  tb0 : Time := 0
  port : Nat := 0
  counter : Nat := 0
  deriving DecidableEq, Repr

/-- TIME_UNTRUSTED (R99): TB0 or TB2 is not VALID. -/
def timeUntrusted (s : State) : Bool := !(tb s 0).valid || !(tb s 2).valid

/-- A whole record: the 32-byte header and its payload (R341). -/
def harvestRecord (h : RecHeader) (payload : Bytes) : Bytes :=
  le8 h.type ++ le8 1 ++ le16 h.flags ++ le32 (h.ctx % 2 ^ 21 + 2 ^ 31 * b2n h.noContext) ++ le32 h.seq ++ le32 h.vflags
    ++ le72 h.tb0 ++ le8 h.port ++ le16 payload.length ++ le32 h.counter ++ payload

end Sys2Proof.Machine
end

