-- ==== Sys2Proof/Machine/Faults.lean ====
section
/-! DEFINITION. Taking a fault: its class, the state of its unit, its record, and the start of a module restart
(spec/14_faults_logbook.md, R477–R490, R550, R551). What a fence discards is done when the fence completes; until then the
unit accepts no work. -/

namespace Sys2Proof.Machine

/-- A critical unit lies in PD10 or on the causeway path (R478). -/
def critical (u : Nat) : Bool := [0, 1, 3, 7, 97, 125, 126, 136].contains u

/-- The unit can be fenced (R478). -/
def fenceable (u : Nat) : Bool := !([0, 1, 3, 7, 136].contains u) && decide (u < 138)

/-- The power domain of a unit (R16, R478). -/
def unitDomain (u : Nat) : Nat :=
  if u ≤ 2 then 1
  else if u ≤ 7 then 2
  else if u ≤ 15 then 3
  else if u ≤ 23 then 4
  else if u ≤ 91 then 5
  else if u = 92 then 6
  else if u ≤ 102 then 7
  else if u ≤ 118 then 8
  else if u ≤ 124 then 9
  else if u ≤ 126 then 10
  else if u ≤ 135 then 11
  else 0

/-- The units of a domain. -/
def unitsOf (d : Nat) : List Nat := (List.range 138).filter fun u => unitDomain u == d

/-- The engine of the code store that a unit runs (R459, R478): pipelines, powerline and radio channels, charge points. -/
def unitEngine (u : Nat) : Option Nat :=
  if 8 ≤ u ∧ u ≤ 23 then some 3
  else if 103 ≤ u ∧ u ≤ 118 then some 4
  else if 119 ≤ u ∧ u ≤ 124 then some 5
  else if 128 ≤ u ∧ u ≤ 135 then some 6
  else none

/-- The code of an engine in the active half of the code store (R458). -/
def storedCode (s : State) (k : Nat) : Code := look [] (if s.firm.half = 0 then s.firm.half0 else s.firm.half1) k

/-- The instruction memory of a unit (R466). -/
def setImem (u : Nat) (c : Code) (s : State) : State :=
  { s with firm := { s.firm with imem := put [] s.firm.imem u c } }

/-- Pair 1 loads the engine of a unit from the active half (R26, step 3; R466). -/
def loadEngine (u : Nat) (s : State) : State :=
  match unitEngine u with
  | some k => setImem u (storedCode s k) s
  | none => s

/-- The engines of a domain are loaded, or cleared while the domain is in reset (R466). -/
def loadDomain (d : Nat) (s : State) : State := (unitsOf d).foldl (fun s u => loadEngine u s) s
def clearDomain (d : Nat) (s : State) : State := (unitsOf d).foldl (fun s u => setImem u [] s) s

/-- The unit is OFF: its domain is switched off (R481). -/
def unitOff (s : State) (u : Nat) : Bool :=
  let d := unitDomain u
  if d = 0 then false else if d ≤ 2 then !s.power.main else !bitOf s.power.on d

/-- The fault record of a unit: its severity is the class taken plus one (R495); the class as detected beside it (R550). -/
def faultRecord (u code taken detected : Nat) (esc : Bool) (obj : Nat) (snaps : List Time) (s : State) : State :=
  stage { code := code, sev := taken + 1, unit := u, obj := obj, escalated := esc, detected := detected, snaps := snaps } s

/-- FAULT_UNITu and the fault counts after a fault record (R491). -/
def noteFault (u code taken : Nat) (esc : Bool) (s : State) : State :=
  let f := unitOf s u
  let s := setUnit u { f with
    lastClass := taken, escalated := esc, lastCode := code,
    faults := if taken = 1 ∨ taken = 2 then (f.faults + 1) % 256 else f.faults } s
  { s with log := { s.log with
      countF1 := if taken = 1 then (s.log.countF1 + 1) % 2 ^ 32 else s.log.countF1
      countF2 := if taken = 2 then (s.log.countF2 + 1) % 2 ^ 32 else s.log.countF2 } }

/-- Seconds of a list that lie within the last `w` seconds. -/
def recent (now w : Nat) (l : List Nat) : List Nat := l.filter fun t => decide (now < t + w)

/-- Step 1 and 2 of a module restart after an F3 (R488, R490): FAULT_LAST_F3, the counts, F3_LIMIT, and the flush. From here
until reset release nothing outside PD0 and PD10 takes work. An F3 of unit 125 or 126 also restarts PD10 (R489). -/
def beginRestart (u code : Nat) (s : State) : State :=
  let s := if u = 125 ∨ u = 126 then { s with log := { s.log with pd10Restart := some (u, tbVal s 2) } } else s
  if s.log.restart.isSome then s
  else
    let times := ageSec s :: recent (ageSec s) 600 s.log.f3Times
    let n := times.length
    let s := { s with log := { s.log with
      lastF3 := code % 4096 + 2 ^ 16 * u + 2 ^ 24 * min 255 n
      f3Count := (s.log.f3Count + 1) % 2 ^ 32
      f3Times := times
      events := bitSet s.log.events 1 } }
    let s :=
      if 4 ≤ n ∧ s.log.f3Limit = false then
        logEv 0xC0B 136 0xFFFF [snapN n] { s with log := { s.log with f3Limit := true, events := bitSet s.log.events 2 } }
      else s
    let s := flush s
    { s with log := { s.log with restart := some { code := code, unit := u, recent := n } } }

/-- An F3 (R477, R550). -/
def takeF3 (u code detected : Nat) (esc : Bool) (obj : Nat) (snaps : List Time) (s : State) : State :=
  beginRestart u code (noteFault u code 3 esc (faultRecord u code 3 detected esc obj snaps s))

/-- An F2 (R481, R486): the unit starts to be fenced. The third fence within 86,400 s retires it, except units 125 and
126. -/
def takeF2 (u code detected : Nat) (esc : Bool) (obj : Nat) (snaps : List Time) (s : State) : State :=
  if fenceable u then
    let s := noteFault u code 2 esc (faultRecord u code 2 detected esc obj snaps s)
    let f := unitOf s u
    let times := ageSec s :: recent (ageSec s) 86400 f.fences
    setUnit u { f with
      state := .handlingF2, fences := times, retired := f.retired || (decide (3 ≤ times.length) && u != 125 && u != 126),
      fenceCause := code, fenceWork := 0 } s
  else takeF3 u code detected esc obj snaps s

/-- A fault of a unit that is already fenced or recovering and not critical is logged only (R481). -/
def logOnly (u code cls : Nat) (s : State) : State :=
  noteFault u code cls false (stage { code := 0xC04, sev := cls + 1, unit := u, detected := cls, snaps := [snapN code, snapN cls] } s)

/-- A recovery ends without success (R481, R487). -/
def recoveryFails (u detail : Nat) (s : State) : State :=
  let f := unitOf s u
  let s := setUnit u { f with state := .fenced, recoverMb := none } s
  let s := logEv 0xC06 u 0xFFFF [snapN 1, snapN detail] s
  match f.recoverMb with
  | some m => finishMb m .fenced [] s
  | none => s

/-- A fault of class `cls` detected in unit `u` (R481, R550, R551). -/
def raiseFault (u code cls obj : Nat) (snaps : List Time) (s : State) : State :=
  if s.log.restart.isSome ∧ u ≠ 125 ∧ u ≠ 126 then s
  else if cls = 3 then takeF3 u code 3 false obj snaps s
  else if unitOff s u then noteFault u code cls false (faultRecord u code cls cls false obj snaps s)
  else if cls = 0 then
    noteFault u code 0 false (faultRecord u code 0 0 false obj snaps s)
  else
    match (unitOf s u).state with
    | .handlingF1 => takeF2 u code cls true obj snaps s
    | .handlingF2 => if critical u then takeF3 u code cls true obj snaps s else logOnly u code cls s
    | .fenced => if critical u then takeF3 u code cls true obj snaps s else logOnly u code cls s
    | .recovering =>
      if critical u then takeF3 u code cls true obj snaps s else recoveryFails u code (logOnly u code cls s)
    | _ =>
      if cls = 1 then
        let s := noteFault u code 1 false (faultRecord u code 1 1 false obj snaps s)
        setUnit u { unitOf s u with state := .handlingF1, fenceCause := code, f1Obj := obj, f1Snaps := snaps } s
      else takeF2 u code 2 false obj snaps s

/-- A fault that carries its own count threshold is logged and counted, and occupies no handling slot (R480). -/
def countedFault (u code cls obj : Nat) (snaps : List Time) (s : State) : State :=
  if s.log.restart.isSome ∧ u ≠ 125 ∧ u ≠ 126 then s
  else noteFault u code cls false (faultRecord u code cls cls false obj snaps s)

/-- Count work that a fence or a restart discards from a unit (R505, 0xC02). -/
def countWork (u n : Nat) (s : State) : State :=
  let f := unitOf s u
  setUnit u { f with fenceWork := f.fenceWork + n } s

end Sys2Proof.Machine
end

