-- ==== Sys2Proof/Machine/Steer.lean ====
section
/-! DEFINITION. Steering keys and hashes, the choice of a pipeline, room in the ingress FIFOs, and the reply store
(spec/09_ingest_pipelines.md, R312–R320, R325, R348–R350). -/

namespace Sys2Proof.Machine

/-! ### Pipelines -/

def fipOf (s : State) (n : Nat) : Fip := look {} s.ingest.fips n
def setFip (n : Nat) (f : Fip) (s : State) : State :=
  { s with ingest := { s.ingest with fips := put {} s.ingest.fips n f } }

def laneOf (s : State) (n : Nat) : Lane := look {} s.lanes.lanes n
def setLane (n : Nat) (l : Lane) (s : State) : State :=
  { s with lanes := { s.lanes with lanes := put {} s.lanes.lanes n l } }

/-- The domain of a pipeline (R16). -/
def fipDomain (n : Nat) : Nat := if n < 8 then 3 else 4

/-- The home lanes of a pipeline (R39). -/
def homeLanes (n : Nat) : List Nat := [4 * n, 4 * n + 1, 4 * n + 2, 4 * n + 3]

/-- Every home lane of a pipeline is FENCED: the pipeline is withdrawn from steering (R367). -/
def lanesFenced (s : State) (n : Nat) : Bool :=
  (homeLanes n).all fun l => (laneOf s l).state == .fenced || isFenced s (24 + l)

/-- A pipeline that steering may choose (R319, R367). -/
def fipAvailable (s : State) (n : Nat) : Bool :=
  fabricUp s && active s (fipDomain n) && !isFenced s (8 + n) && !lanesFenced s n

/-- Neither INGEST_HOLD, an activation pause, a removal nor a life-cycle transition has closed admission on every pipeline
(R429, R471, R474, R521). -/
def admissionOpen (s : State) : Bool :=
  s.firm.hold.isNone && decide (s.firm.stage ≠ .pause) && s.power.removal.isNone && s.keys.run.isNone

/-- The pipeline admits frames: its domain is on, and nothing has closed its admission (R325). -/
def admits (s : State) (n : Nat) : Bool := fipAvailable s n && (fipOf s n).closed.isNone && admissionOpen s

/-- INGEST_READY (R325). -/
def ingestReady (s : State) : Bool := (List.range 16).any (admits s)

/-! ### Hashes (R318) -/

/-- A 16-bit number rotated left. -/
def rotl16 (x k : Nat) : Nat := (x * 2 ^ k) % 65536 + (x % 65536) / 2 ^ (16 - k)

/-- The four 16-bit words of a key, byte 0 most significant: w3 first. -/
def keyW3 (k : Nat) : Nat := k / 2 ^ 48 % 65536
def keyW2 (k : Nat) : Nat := k / 2 ^ 32 % 65536
def keyW1 (k : Nat) : Nat := k / 2 ^ 16 % 65536
def keyW0 (k : Nat) : Nat := k % 65536

def hashF0 (k : Nat) : Nat := keyW0 k ^^^ rotl16 (keyW1 k) 4 ^^^ rotl16 (keyW2 k) 8 ^^^ rotl16 (keyW3 k) 12
def hashF1 (k : Nat) : Nat := keyW3 k ^^^ rotl16 (keyW0 k) 4 ^^^ rotl16 (keyW1 k) 8 ^^^ rotl16 (keyW2 k) 12
def hashH0 (k : Nat) : Nat := (hashF0 k * 0x9E37) % 65536 / 8
def hashH1 (k : Nat) : Nat :=
  let h := (hashF1 k * 0x6B43) % 65536 / 8
  if h = hashH0 k then hashH0 k ^^^ 1 else h
def hashD0 (k : Nat) : Nat := hashH0 k * 128 + hashF1 k % 128
def hashD1 (k : Nat) : Nat := hashH1 k * 128 + hashF0 k % 128

/-! ### Keys of frames (R317) -/

/-- The link address of a short address s of network k on port p. -/
def linkAddress (port net short : Nat) : Nat :=
  0xFF * 2 ^ 56 + 0xFE * 2 ^ 48 + port * 2 ^ 40 + net * 2 ^ 32 + short % 65536

/-- The frame begins with general-glo-ciphering or general-ded-ciphering and an 8-byte system title. -/
def titled (b : Bytes) : Bool :=
  decide (10 ≤ b.length) && (fieldU b 0 1 == 0xDB || fieldU b 0 1 == 0xDC) && fieldU b 1 1 == 8

/-- Fill in the steering fields of a descriptor (R315, R317): the system title, or the link address. -/
def keyed (d : IngDesc) (link : Nat) : IngDesc :=
  if titled d.bytes then
    let k := beNat (fieldB d.bytes 2 8)
    { d with key := k, kind := 0, apdu := 0, steer := hashF0 k }
  else { d with key := link, kind := 1, apdu := 0xFF, steer := hashF0 link }

/-! ### Room and choice (R316, R319) -/

def fifoFree (s : State) (n : Nat) : Nat := 256 - (fipOf s n).fifo.length
def bufferFree (s : State) (n : Nat) : Nat := 524288 - sumN ((fipOf s n).fifo.map fun d => d.bytes.length)

/-- The pipeline's FIFO has room for a frame of `len` bytes. -/
def hasRoom (s : State) (n len : Nat) : Bool := decide (1 ≤ fifoFree s n) && decide (len ≤ bufferFree s n)

/-- The test of R319, step 2. -/
def spacious (s : State) (n : Nat) : Bool :=
  decide (s.ingest.steerLow ≤ fifoFree s n) && decide (8192 ≤ bufferFree s n)

/-- Entry `i` of the steering map; an unlisted entry names FIP(i mod 16). -/
def steerEntry (s : State) (i : Nat) : Nat :=
  let v := look 0 s.ingest.steerMap i
  if v = 0 then i % 16 else v - 1

/-- The next available pipeline from `p` on, in ascending order modulo 16. -/
def nextAvailable (s : State) (p : Nat) : Option Nat :=
  ((List.range 16).map fun i => (p + i) % 16).find? (fipAvailable s)

/-- The better of the two neighbours of a pipeline: more free descriptors, then the lower index; only available ones. -/
def betterNeighbour (s : State) (p : Nat) : Option Nat :=
  let a := min ((p + 15) % 16) ((p + 1) % 16)
  let b := max ((p + 15) % 16) ((p + 1) % 16)
  match fipAvailable s a, fipAvailable s b with
  | true, true => some (if fifoFree s a < fifoFree s b then b else a)
  | true, false => some a
  | false, true => some b
  | false, false => none

/-- The target pipeline of a frame (R319); nothing when the frame has no room. -/
def steerTo (s : State) (f0 len : Nat) : Option Nat :=
  match nextAvailable s (steerEntry s (f0 % 64)) with
  | none => none
  | some p =>
    let fallBack := if hasRoom s p len then some p else none
    if spacious s p then some p
    else
      match betterNeighbour s p with
      | some q => if spacious s q then some q else fallBack
      | none => fallBack

/-- Put a frame into the FIFO of a pipeline. -/
def placeIn (n : Nat) (d : IngDesc) (s : State) : State :=
  let f := fipOf s n
  setFip n { f with fifo := f.fifo ++ [d] } s

/-- Steer and place one frame; nothing where it finds no room. -/
def placeFrame (d : IngDesc) (s : State) : Option State :=
  match steerTo s d.steer d.bytes.length with
  | some n => some (placeIn n d s)
  | none => none

/-- Steer and place the inner frames of an envelope, all or none (R320). -/
def placeAll : List IngDesc → State → Option State
  | [], s => some s
  | d :: r, s =>
    match placeFrame d s with
    | some s' => placeAll r s'
    | none => none

/-- Steer and place a frame of a link layer: admission of its pipeline must be open too (R258, step 9). -/
def placeLink (d : IngDesc) (s : State) : Option State :=
  match steerTo s d.steer d.bytes.length with
  | some n => if admits s n then some (placeIn n d s) else none
  | none => none

/-! ### Ports (R312, R313) -/

def portOf (s : State) (p : Nat) : PortCfg := look {} s.ingest.ports p

/-- The UDP port of a port's traffic; 0 stands for the default. -/
def udpPort (s : State) (p : Nat) : Nat :=
  let u := (portOf s p).udp
  if u ≠ 0 then u else if 0x40 ≤ p then 17496 else 4059

/-- The port bears acknowledgements per context (R312): serial buses, powerline and radio. -/
def bearsAck (s : State) (p : Nat) : Bool := decide (0x10 ≤ p ∧ p < 0x40) && (portOf s p).ack == 1

/-- The frame goes to the Nulvo queue instead of ingest (R313). -/
def nulvoFrame (s : State) (port udp len : Nat) : Bool :=
  ((portOf s port).framing == 1 && udp != udpPort s port) || decide (2048 < len) || len == 0

/-- Hand a frame to the Nulvo queue. -/
def toNulvo (port : Nat) (b : Bytes) (s : State) : State := emit (.nulvo port b) s

/-! ### The reply store (R348–R350) -/

def replyOf (s : State) (i : Nat) : Option ReplyEntry := look none s.ingest.replies i
def setReply (i : Nat) (e : Option ReplyEntry) (s : State) : State :=
  { s with ingest := { s.ingest with replies := put none s.ingest.replies i e } }

/-- The entries of the reply store with their indices. -/
def replyList (s : State) : List (Nat × ReplyEntry) :=
  s.ingest.replies.filterMap fun p => match p.2 with
    | some e => some (p.1, e)
    | none => none

/-- PENDING entries (R348). -/
def pendingReplies (s : State) : Nat := ((replyList s).filter fun p => !p.2.sent).length

/-- The first index from `i` on that a table does not list. -/
def firstFree {α : Type} : Nat → Tab α → Nat
  | i, [] => i
  | i, (k, _) :: r => if k = i then firstFree (i + 1) r else i

/-- The SENT entry that was sent first. -/
def oldestSent : List (Nat × ReplyEntry) → Option (Nat × ReplyEntry)
  | [] => none
  | p :: r =>
    match oldestSent r with
    | some q => if p.2.sent && decide (p.2.order ≤ q.2.order) then some p else some q
    | none => if p.2.sent then some p else none

/-- Enter a new reply-store entry under the next number. -/
def newReply (e : ReplyEntry) (s : State) : Nat × State :=
  let i := s.ingest.nextReply
  (i, setReply i (some e) { s with ingest := { s.ingest with nextReply := i + 1 } })

/-- Reserve a reply-store entry (R348): a free one, or else the place of the oldest SENT entry. -/
def reserveReply (e : ReplyEntry) (s : State) : Option (Nat × State) :=
  if s.ingest.replies.length < 1048576 then some (newReply e s)
  else
    match oldestSent (replyList s) with
    | some p => some (newReply e (setReply p.1 none s))
    | none => none

/-- The entry of a key, other than index `but`. -/
def findReply (s : State) (k : ReplyKey) (but : Option Nat) : Option (Nat × ReplyEntry) :=
  (replyList s).find? fun p => decide (p.2.key = k) && decide (but ≠ some p.1)

end Sys2Proof.Machine
end

