-- ==== Sys2Proof/Machine/Line.lean ====
section
/-! DEFINITION. Powerline channels: tone maps, tolls, routes, transmit queues, LINK records
(spec/07_powerline.md, R247–R280; spec/01_module_organisation.md, R40, R41). -/

namespace Sys2Proof.Machine

def plOf (s : State) (n : Nat) : PlChannel := look {} s.line.chans n
def setPl (n : Nat) (c : PlChannel) (s : State) : State :=
  { s with line := { s.line with chans := put {} s.line.chans n c } }
def plNetOf (s : State) (k : Nat) : PlNet := look {} s.line.nets k
def setPlNet (k : Nat) (c : PlNet) (s : State) : State :=
  { s with line := { s.line with nets := put {} s.line.nets k c } }

/-- The channel runs a narrowband mode and is in service; while PD8 leaves it still transmits what was admitted (R27). -/
def plRuns (s : State) (n : Nat) : Bool :=
  let m := (plOf s n).mode
  fabricUp s && working s 8 && !isFenced s (103 + n) && (m == 1 || m == 2)

/-- A neighbour of a channel, when the table holds it. -/
def nbrOf (c : PlChannel) (short : Nat) : Option Neighbour :=
  match c.nbrs.find? fun p => p.1 == short with
  | some p => some p.2
  | none => none

/-- The table with a neighbour listed; an entry equal to a new one is listed too, since listing says that it exists. -/
def putNbr (short : Nat) (e : Neighbour) (n : Nat) (s : State) : State :=
  let c := plOf s n
  setPl n { c with nbrs := insertKey c.nbrs short e } s

def routeOf (c : PlChannel) (dest : Nat) : Option Route := look none c.routes dest

/-- The neighbour is the next hop of a route of the channel (R272). -/
def isNextHop (c : PlChannel) (short : Nat) : Bool :=
  c.routes.any fun p => match p.2 with
    | some r => r.next == short
    | none => false

/-! ### Bands and maps (R249, R263, R271) -/

def bandGroups (band : Nat) : Nat := if band = 0 then 6 else if band = 1 then 24 else 18
def bandPerGroup (band : Nat) : Nat := if band = 0 then 6 else 3
def bandCarriers (band : Nat) : Nat := bandGroups band * bandPerGroup band
def bandRate (band : Nat) : Nat := if band = 0 then 400000 else 1200000
def bandTop (band : Nat) : Nat := if band = 0 then 3 else 4
def capMax (band : Nat) : Nat := if band = 0 then 432 else if band = 1 then 1152 else 864

/-- bpc8 of a modulation: ROBO, BPSK, QPSK, 8PSK, 16-QAM (R263). -/
def bpc8 (mod : Nat) : Nat := if mod = 0 then 2 else 8 * mod

/-- Every group of a band. -/
def fullMask (band : Nat) : Nat := 2 ^ bandGroups band - 1

/-- The capacity of a map (R271). -/
def mapCap (band mod mask : Nat) : Nat := popCount 24 mask * bandPerGroup band * bpc8 mod / 2

/-- A map as it is transmitted: modulation, coherent form, mask. -/
structure TxMap where
  mod : Nat := 0
  coherent : Bool := false
  mask : Nat := 0
  deriving DecidableEq, Repr

/-- ROBO with every group used. -/
def roboMap (band : Nat) : TxMap := { mask := fullMask band }

/-- SNR that a modulation needs, 0.25 dB (R263). -/
def reqSnr (mod : Nat) (coherent : Bool) : Int :=
  (if mod = 0 then -4 else if mod = 1 then 12 else if mod = 2 then 24 else if mod = 3 then 36 else 52)
    + (if coherent then 0 else 8)

/-- The groups whose SNR meets a modulation's need. -/
def okMask (band mod : Nat) (coherent : Bool) (snr : List Int) : Nat :=
  ofBits ((List.range (bandGroups band)).map fun g => decide (reqSnr mod coherent ≤ nthI snr g))

/-- The modulation of greatest capacity among `0 … top`, the more robust one on equal capacity. -/
def bestMod (band : Nat) (coherent : Bool) (snr : List Int) : Nat → Nat
  | 0 => 0
  | m + 1 =>
    let b := bestMod band coherent snr m
    if mapCap band b (okMask band b coherent snr) < mapCap band (m + 1) (okMask band (m + 1) coherent snr) then m + 1 else b

/-- The choice of R263 for a slot; 16-QAM has the coherent form only (R248). -/
def chooseMap (band : Nat) (impulsive coherent : Bool) (snr : List Int) : TxMap :=
  let m := bestMod band coherent snr (if impulsive then 1 else if coherent then bandTop band else min 3 (bandTop band))
  let ok := okMask band m coherent snr
  if mapCap band m ok = 0 then { roboMap band with coherent := coherent } else { mod := m, coherent := coherent, mask := ok }

/-! ### Slots (R255, R256) -/

/-- TB(4 + k) makes network k SLOTTED. -/
def slottedNow (s : State) (k : Nat) : Bool :=
  let t := tb s (4 + k)
  t.source == 3 && (t.locked || t.holdover)

/-- Mains phase at an instant of the network time, 2^-36 cycle (R255). -/
def mainsPhase (s : State) (k : Nat) (t : Time) : Nat :=
  (t.toNat % 2 ^ 36 * (if (tb s (4 + k)).hz60 then 60 else 50)) % 2 ^ 36

/-- The slot of a phase (R255). -/
def slotOfPhase (ph : Nat) : Nat := (12 * ph / 2 ^ 36) % 6

/-- The slot 0 entries of every map copied into slots 1–5 (R256). -/
def spreadMaps (t : Tab ToneMap) : Tab ToneMap :=
  (List.range 5).foldl (fun t i => put {} t (i + 1) (look {} t 0)) t

/-- Every channel of network `k`. -/
def netChannels (s : State) (k : Nat) : List Nat :=
  (List.range 16).filter fun n => let c := plOf s n; (c.mode == 1 || c.mode == 2) && c.net == k

/-- Bring the SLOTTED mark of a network up to date (R256). -/
def syncSlots (k : Nat) (s : State) : State :=
  let net := plNetOf s k
  let now := slottedNow s k
  let s := if net.slotted = now then s else setPlNet k { net with slotted := now } s
  if now && !net.slotted then
    (netChannels s k).foldl (fun s n =>
      let c := plOf s n
      setPl n { c with
        nbrs := c.nbrs.map fun p => (p.1, { p.2 with fwd := spreadMaps p.2.fwd, rev := spreadMaps p.2.rev }) } s) s
  else s

/-- The slot whose entries are used for slot `i`: slot 0 while the network is not SLOTTED. -/
def useSlot (s : State) (k i : Nat) : Nat := if slottedNow s k then i % 6 else 0

/-! ### Forward entries, tolls (R262, R267, R274) -/

/-- The forward entry is neither EXPIRED nor empty. -/
def fresh (s : State) (c : PlChannel) (m : ToneMap) : Bool := m.source != 0 && decide (tb1Sec s ≤ m.updated + c.tmMaxAge)

/-- The flags byte of a forward entry (R262). -/
def tmFlags (s : State) (c : PlChannel) (forward : Bool) (m : ToneMap) : Nat :=
  b2n (forward && m.source != 0 && !fresh s c m) + 2 * b2n m.pending

/-- The capacity that a forward entry counts for. -/
def fwdCap (s : State) (c : PlChannel) (e : Neighbour) (i : Nat) : Nat :=
  let m := look {} e.fwd i
  if fresh s c m then m.cap else mapCap c.band 0 (fullMask c.band)

/-- cap_link (R274). -/
def capLink (s : State) (c : PlChannel) (e : Neighbour) : Nat :=
  if slottedNow s c.net then sumN ((List.range 6).map (fwdCap s c e)) / 6 else fwdCap s c e 0

/-- The toll of a link (R274). -/
def tollOf (s : State) (c : PlChannel) (e : Neighbour) : Nat :=
  let net := plNetOf s c.net
  let cl := capLink s c e
  let air := min 65535 (if cl = 0 then (Config.divByZero (e.etx * capMax c.band : Nat)).toNat else e.etx * capMax c.band / cl)
  min 65535 (net.wAir * air / 256 + net.wHop)

/-- Mean of a list of SNR values, truncated toward zero; 0 for none. -/
def meanI (l : List Int) : Int := if l = [] then 0 else Int.tdiv (sumI l) l.length

/-! ### Logbook and LINK records (R280, R282, R496) -/

/-- The defaults of the 0x6xx subject: neighbour short address, slot, toll, etx. -/
def logPl (code n short slot : Nat) (named : List Time) (s : State) : State :=
  let c := plOf s n
  let e := (nbrOf c short).getD {}
  logEv code (103 + n) c.net (named ++ [snapN short, snapN slot, snapN e.toll, snapN e.etx]) s

/-- A record of codes 0x603, 0x605, 0x606 and 0x608 with its notice and V(208 + n) (R282). -/
def noticePl (code n short slot : Nat) (s : State) : State :=
  let c := plOf s n
  let e := (nbrOf c short).getD {}
  let s := logPl code n short slot [] s
  raiseV (208 + n) (notice code 0 (103 + n) (snapBytes 5 [snapN short, snapN slot, snapN e.toll, snapN e.etx]) s)

/-- The 80-byte payload of a powerline LINK record (R280). -/
def linkPayload (n event slot detail short route : Nat) (e : Neighbour) (s : State) : Bytes :=
  let c := plOf s n
  let body := le8 1 ++ le8 n ++ le8 c.net ++ le8 event ++ le8 slot ++ le8 detail ++ le16 short ++ le64 e.eui
    ++ le16 e.reported ++ le16 e.toll ++ le16 e.etx ++ le16 (capLink s c e)
    ++ (List.range 6).flatMap (fun i => le16 (look {} e.fwd i).cap)
    ++ (List.range 6).flatMap (fun i => le8 ((look {} e.fwd i).mod + 128 * b2n (look {} e.fwd i).coherent))
    ++ (List.range 6).flatMap (fun i => leInt 1 (meanI (look {} e.rev i).snr))
    ++ le16 route ++ le72 (tbVal s (4 + c.net)) ++ le8 (c.impulsive % 64 + 64 * b2n (slottedNow s c.net))
  padTo 80 body

/-- Emit a LINK record (R280): it is dropped and counted, with 0x60A, where no cell reservation can be granted. -/
def linkRecord (n event slot detail short route : Nat) (e : Neighbour) (s : State) : State :=
  let c := plOf s n
  let rec_ := harvestRecord { type := 0x0A, vflags := 16 * b2n (timeUntrusted s), tb0 := tbVal s 0, port := 0x20 + n,
                              counter := c.linkCount } (linkPayload n event slot detail short route e s)
  let s := setPl n { c with linkCount := (c.linkCount + 1) % 2 ^ 32 } s
  match emitRecord (plNetOf s c.net).hq rec_ s with
  | some s' => s'
  | none => logPl 0x60A n short slot [] (setPl n { plOf s n with linkDropped := c.linkDropped + 1 } s)

/-- Recompute the toll of a link; a move of TOLL_DELTA or more of the value last reported is reported (R274). -/
def retoll (n short : Nat) (s : State) : State :=
  let c := plOf s n
  match nbrOf c short with
  | none => s
  | some e =>
    let t := tollOf s c e
    let move := ((t : Int) - e.reported).natAbs
    let e := { e with toll := t }
    if move ≠ 0 ∧ (plNetOf s c.net).tollDelta * e.reported ≤ 100 * move then
      let s := putNbr short e n s
      let s := linkRecord n 4 0xFF 0 short 0 e s
      putNbr short { e with reported := t } n s
    else putNbr short e n s

/-! ### Host frames -/

/-- The payload of a PL_TX completion. -/
def plTxReply (s : State) (result sent mod next : Nat) : Reply :=
  { payload := le8 result ++ le8 sent ++ le8 mod ++ le16 next ++ le72 (tbVal s 0) }

/-- Complete the queue entry of a host frame. -/
def finishHost (host : Option (Nat × Nat)) (rep : Reply) (s : State) : State :=
  match host with
  | some (sq, idx) =>
    match entryAt s sq idx with
    | some e => if e.started then completeSq sq e rep s else s
    | none => s
  | none => s

/-- Discard the frames of a channel's transmit queues; host frames complete with a status (R253, R484). -/
def dropPlQueues (n : Nat) (st : Status) (s : State) : State :=
  let c := plOf s n
  let hosts := (c.host ++ match c.sent with
    | some x => [x.frame]
    | none => []).map fun f => f.host
  let s := setPl n { c with acks := [], reply := [], fwd := [], nulvo := [], host := [], sent := none } s
  hosts.foldl (fun s h => finishHost h (fail st) s) s

/-- Final status of the PL_TM_REFRESH commands of a channel whose slots are all settled (R281). -/
def settleRefresh (n : Nat) (s : State) : State :=
  let c := plOf s n
  let ended := c.tmCommands.filter fun t => t.wait == 0
  let s := setPl n { c with tmCommands := c.tmCommands.filter fun t => t.wait != 0 } s
  ended.foldl (fun s t => finishMb t.mb .ok (le8 t.done) s) s

/-- A refresh of a neighbour and slot ends: filed, or given up. -/
def endRefresh (n short slot : Nat) (filed : Bool) (s : State) : State :=
  let c := plOf s n
  match nbrOf c short with
  | none => s
  | some e =>
    let m := look {} e.fwd slot
    let r := look {} e.refresh slot
    let s := putNbr short { e with
      fwd := put {} e.fwd slot { m with pending := false }, refresh := put {} e.refresh slot { r with attempts := 0 } } n s
    let c := plOf s n
    let s := setPl n { c with tmCommands := c.tmCommands.map fun t =>
      if t.short = short ∧ bitOf t.wait slot then
        { t with wait := bitClear t.wait slot, done := if filed then bitSet t.done slot else t.done }
      else t } s
    settleRefresh n s

/-- Ask for a refresh of a neighbour and slot: REFRESH_PENDING is set (R268). -/
def setPending (n short slot : Nat) (s : State) : State :=
  match nbrOf (plOf s n) short with
  | none => s
  | some e =>
    let m := look {} e.fwd slot
    putNbr short { e with fwd := put {} e.fwd slot { m with pending := true } } n s

/-- An early refresh (R268): merged into a pending one, at most one in 10 s for a neighbour and slot, recorded. -/
def earlyRefresh (n short slot detail : Nat) (s : State) : State :=
  match nbrOf (plOf s n) short with
  | none => s
  | some e =>
    let r := look {} e.refresh slot
    let soon := match r.last with
      | some t => decide (tb1Sec s < t + 10)
      | none => false
    if (look {} e.fwd slot).pending || soon then s
    else
      let s := putNbr short { e with refresh := put {} e.refresh slot { r with last := some (tb1Sec s) } } n s
      let s := setPending n short slot s
      linkRecord n 3 slot detail short 0 ((nbrOf (plOf s n) short).getD {}) (logPl 0x607 n short slot [] s)

/-! ### Keys and sending (R254, R261, R276) -/

/-- The group key of a network under a key index, where its slot holds one that fits. -/
def plKey (s : State) (k idx : Nat) : Option Bytes :=
  let net := plNetOf s k
  if idx = 0 then gkFor s net.key0 [1] 0 else if idx = 1 then gkFor s net.key1 [1] 0 else none

/-- The key index in use: the lowest one with a key (assumption log 25). -/
def plKeyIndex (s : State) (k : Nat) : Option Nat :=
  if (plKey s k 0).isSome then some 0 else if (plKey s k 1).isSome then some 1 else none

/-- Queue depths (R269). -/
def plDepth (q : Nat) : Nat := if q = 0 then 16 else if q = 3 then 64 else 32

def plQueue (c : PlChannel) (q : Nat) : List PlTx :=
  if q = 0 then c.reply else if q = 1 then c.fwd else if q = 2 then c.nulvo else c.host

def setPlQueue (c : PlChannel) (q : Nat) (l : List PlTx) : PlChannel :=
  if q = 0 then { c with reply := l } else if q = 1 then { c with fwd := l } else if q = 2 then { c with nulvo := l }
  else { c with host := l }

/-- Put one MAC frame into a transmit queue, with the network's next sequence number, and its next frame counter where it is
secured (R276, step 4); nothing where the queue is full, or where it cannot be secured (R254, R261). -/
def enqueueOne (n : Nat) (f : PlTx) (s : State) : Option State :=
  let c := plOf s n
  let k := c.net
  let net := plNetOf s k
  if plDepth f.queue ≤ (plQueue c f.queue).length then none
  else
    let f := { f with seq := net.seq }
    let s := setPlNet k { net with seq := (net.seq + 1) % 256 } s
    if f.secure then
      match plKeyIndex s k with
      | none => none
      | some i =>
        let net := plNetOf s k
        let ctr := look 0 net.txCounters i
        if ctr = 0xFFFFFFFF then none
        else
          let s := setPlNet k { net with txCounters := put 0 net.txCounters i (ctr + 1) } s
          some (setPl n (setPlQueue c f.queue (plQueue c f.queue ++ [{ f with keyIndex := i, counter := ctr + 1 }])) s)
    else some (setPl n (setPlQueue c f.queue (plQueue c f.queue ++ [f])) s)

/-- A packet in pieces of at most `most` bytes, with their offsets (R248); the first argument bounds the number of cuts. -/
def splitBytes (most : Nat) : Nat → Nat → Bytes → List (Nat × Bytes)
  | 0, off, b => [(off, b)]
  | k + 1, off, b => if b.length ≤ most then [(off, b)] else (off, b.take most) :: splitBytes most k (off + most) (b.drop most)

/-- The MAC frames of a frame: a packet that one MAC frame cannot carry is fragmented (R248); a fragment that is forwarded stays as it is. -/
def plPieces (tag : Nat) (f : PlTx) : List PlTx :=
  if f.frag.isSome ∨ f.payload.length ≤ Config.plMacMore + 1 then [f]
  else
    let l := splitBytes (Config.plMacMore + 1) 1280 0 f.payload
    l.map fun p => { f with
      payload := p.2, frag := some (tag, p.1, f.payload.length), more := decide (p.1 + p.2.length < f.payload.length) }

/-- Put a frame into a transmit queue, as one MAC frame or in fragments, all of them or none. -/
def enqueuePl (n : Nat) (f : PlTx) (s : State) : Option State :=
  (plPieces (plNetOf s (plOf s n).net).seq f).foldlM (fun s p => enqueueOne n p s) s

/-! ### Next hops (R276) -/

/-- A candidate: toll, channel, next hop. -/
structure Hop where
  toll : Nat
  chan : Nat
  next : Nat
  deriving DecidableEq, Repr

/-- The route of a destination on one channel: its table, or the destination as a neighbour; the lower toll. -/
def hopOn (s : State) (n dest : Nat) : Option Hop :=
  let c := plOf s n
  let byRoute := (routeOf c dest).map fun r => ({ toll := r.toll, chan := n, next := r.next } : Hop)
  let byNbr := (nbrOf c dest).map fun e => ({ toll := e.toll, chan := n, next := dest } : Hop)
  match byRoute, byNbr with
  | some a, some b => some (if b.toll < a.toll then b else a)
  | some a, none => some a
  | none, x => x

/-- The candidate of lowest toll, of the lowest channel on equal tolls. -/
def bestHop : List Hop → Option Hop
  | [] => none
  | a :: r =>
    match bestHop r with
    | some b => some (if b.toll < a.toll then b else a)
    | none => some a

/-- The next hop for a destination over every channel of a network. -/
def nextHop (s : State) (k dest : Nat) : Option Hop := 
  bestHop (((netChannels s k).filter (plRuns s)).filterMap fun n => hopOn s n dest)

/-- Queue a frame the module originates, or forwards, by the lookup of R276; nothing where the queue cannot take it. -/
def routePl (h : Hop) (f : PlTx) (s : State) : Option State := enqueuePl h.chan { f with next := h.next } s

/-- Drop a forwarded frame: counted, with logbook 0x609. -/
def dropForward (n short : Nat) (s : State) : State :=
  let c := plOf s n
  logPl 0x609 n short 0xFF [] (setPl n { c with fwdDrop := c.fwdDrop + 1 } s)

/-! ### Transmit turns (R41, R267, R269, R270) -/

/-- The coupling group of a channel: none, or its index. -/
def groupOf (s : State) (n : Nat) : Option Nat :=
  let g := look 0 s.line.coupling n
  if g = 0 then none else some (g - 1)

/-- The channels that share the line coupler of a channel. -/
def couplers (s : State) (n : Nat) : List Nat :=
  match groupOf s n with
  | some g => (List.range 16).filter fun m => groupOf s m == some g
  | none => [n]

/-- The retransmission of a frame waits for a turn. -/
def retryWaits (c : PlChannel) : Bool := c.sent.any fun x => x.retry

/-- The channel is transmitting: a frame of its is on the line. -/
def transmitting (c : PlChannel) : Bool := c.sent.any fun x => !x.retry

/-- The Nulvo queue as the channel sees it: held during the pause of an activation (R471). -/
def nulvoFrames (s : State) (c : PlChannel) : List PlTx := if s.firm.stage = .pause then [] else c.nulvo

/-- A data frame waits, in a queue or for its retransmission. -/
def dataWaits (s : State) (c : PlChannel) : Bool :=
  retryWaits c || !(c.reply.isEmpty && c.fwd.isEmpty && (nulvoFrames s c).isEmpty && c.host.isEmpty)

/-- The member whose data turn is next: round robin after the last one that had a turn (R41). -/
def dataTurn (s : State) (n : Nat) : Option Nat :=
  let ready := (couplers s n).filter fun m => plRuns s m && dataWaits s (plOf s m)
  let last := match groupOf s n with
    | some g => look 0 s.line.turn g
    | none => 0
  match ready.find? fun m => decide (last ≤ m) with
  | some m => some m
  | none => ready.head?

/-- The member whose acknowledgement is next: the lowest channel index (R41). -/
def ackTurn (s : State) (n : Nat) : Option Nat :=
  (couplers s n).find? fun m => plRuns s m && !(plOf s m).acks.isEmpty

/-- comb(S) of R267. -/
def combine (s : State) (c : PlChannel) (e : Neighbour) (slots : List Nat) : TxMap :=
  let ok := (slots.map fun i => look {} e.fwd i).filter (fresh s c)
  if ok = [] then roboMap c.band
  else
    { mod := ok.foldl (fun m t => min m t.mod) (bandTop c.band)
      coherent := ok.all fun t => t.coherent
      mask := ok.foldl (fun m t => m &&& t.mask) (fullMask c.band) }

/-- Mains phase at the predicted payload start (R255, R267). -/
def startPhase (s : State) (c : PlChannel) (g : PlGrant) : Nat := mainsPhase s c.net (tbVal s (4 + c.net) + BitVec.ofNat 72 g.lead)

/-- Slot of the predicted payload start; 0 while the network is not SLOTTED (R255, R256). -/
def startSlot (s : State) (c : PlChannel) (g : PlGrant) : Nat := useSlot s c.net (slotOfPhase (startPhase s c g))

/-- cover(n): the slots touched by `sym` payload symbols from the predicted start (R267). -/
def cover (s : State) (c : PlChannel) (g : PlGrant) (sym : Nat) : List Nat :=
  if slottedNow s c.net then
    let hz := if (tb s (4 + c.net)).hz60 then 60 else 50
    let rate := bandRate c.band
    let span := 12 * startPhase s c g % 2 ^ 36 * rate + 12 * sym * 278 * hz * 2 ^ 36
    let unit := 2 ^ 36 * rate
    (List.range (min 6 (max 1 ((span + unit - 1) / unit)))).map fun i => (startSlot s c g + i) % 6
  else [0]

/-- The map of a frame (R267), and whether it carries a tone map request. -/
def chooseTx (s : State) (c : PlChannel) (e : Neighbour) (g : PlGrant) (bytes : Nat) : TxMap × Bool :=
  let sym (m : TxMap) : Nat := Config.plSymbols c.band m.mod m.coherent (popCount 24 m.mask * bandPerGroup c.band) bytes
  let all := if slottedNow s c.net then [0, 1, 2, 3, 4, 5] else [0]
  let s1 := cover s c g (sym (combine s c e all))
  let s2 := cover s c g (sym (combine s c e s1))
  let m := combine s c e s2
  (m, (s2.any fun i => !fresh s c (look {} e.fwd i)) || all.any fun i => (look {} e.fwd i).pending)

/-- The bytes of a frame on the line, in the model's own order: next hop, final destination, hops left, sequence number,
map, marks, counter, payload. -/
def plFrameBytes (s : State) (n : Nat) (f : PlTx) (m : TxMap) (request : Bool) : Bytes :=
  let k := (plOf s n).net
  let body := match f.secure, plKey s k f.keyIndex with
    | true, some key =>
      let x := Config.ccmSeal key (le64 (plNetOf s k).eui ++ le32 f.counter) f.payload
      x.1 ++ le32 x.2
    | _, _ => f.payload
  le16 f.next ++ le16 f.dest ++ le8 f.hopsLeft ++ le8 f.seq ++ le8 (m.mod + 128 * b2n m.coherent) ++ leBytes 3 m.mask
    ++ le8 (ofBits [request, f.ack, f.secure, f.dest != f.next] + 16 * f.keyIndex + 128 * b2n f.frag.isSome) ++ le32 f.counter
    ++ (match f.frag with
      | some (tag, off, size) => le16 tag ++ le16 off ++ le16 size
      | none => []) ++ body

/-- Count the requests sent for pending refreshes of a neighbour; the fifth would be one too many (R268). -/
def countRequests (n short : Nat) (s : State) : State :=
  [0, 1, 2, 3, 4, 5].foldl (fun s i =>
    match nbrOf (plOf s n) short with
    | none => s
    | some e =>
      if (look {} e.fwd i).pending then
        let r := look {} e.refresh i
        if 4 ≤ r.attempts then endRefresh n short i false s
        else putNbr short { e with refresh := put {} e.refresh i { r with attempts := r.attempts + 1 } } n s
      else s) s

/-- Take the first data frame of a channel's queues, in strict order (R269). -/
def takeData (s : State) (c : PlChannel) : Option (PlTx × PlChannel) :=
  match c.reply, c.fwd, nulvoFrames s c, c.host with
  | f :: r, _, _, _ => some (f, { c with reply := r })
  | [], f :: r, _, _ => some (f, { c with fwd := r })
  | [], [], f :: r, _ => some (f, { c with nulvo := r })
  | [], [], [], f :: r => some (f, { c with host := r })
  | [], [], [], [] => none

/-- A fragment has failed: the later fragments of its packet leave the queue. -/
def dropSiblings (n : Nat) (f : PlTx) (s : State) : State :=
  match f.frag, f.more with
  | some (tag, _, _), true =>
    let c := plOf s n
    let other (y : PlTx) : Bool := !(y.dest == f.dest && y.host == f.host && (y.frag.any fun p => p.1 == tag))
    setPl n (setPlQueue c f.queue ((plQueue c f.queue).filter other)) s
  | _, _ => s

/-- The host hears of a packet when its last fragment has been delivered, or the first one has failed; the transmissions are those of that
fragment (DESIGN CHOICE, assumption log 77). -/
def finishPl (n : Nat) (x : PlSent) (delivered : Bool) (result : Nat) (s : State) : State :=
  let f := x.frame
  if delivered ∧ f.more then s
  else finishHost f.host (plTxReply s result x.sent x.mod f.next) (if delivered then s else dropSiblings n f s)

/-- A unicast frame is complete: etx, toll, counters, its host (R270, R273). -/
def completePl (n : Nat) (x : PlSent) (delivered : Bool) (result : Nat) (s : State) : State :=
  let c := plOf s n
  let s := setPl n { c with
    sent := none, delivered := if delivered then c.delivered + 1 else c.delivered,
    failed := if delivered then c.failed else c.failed + 1 } s
  let f := x.frame
  let s := match nbrOf (plOf s n) f.next with
    | some e =>
      let k := if delivered then x.sent else 16
      let etx := clampI 256 4096 ((e.etx : Int) + Int.tdiv (256 * (k : Int) - e.etx) 8)
      retoll n f.next (putNbr f.next { e with etx := etx.toNat } n s)
    | none => s
  let s := finishPl n x delivered result s
  if f.queue = 1 ∧ delivered = false then dropForward n f.dest (toNulvo (0x20 + n) (le16 f.dest ++ f.payload) s) else s

/-- The key of a secured frame is gone: nothing is transmitted under its key index (R254). -/
def keyLost (s : State) (n : Nat) (f : PlTx) : Bool := f.secure && (plKey s (plOf s n).net f.keyIndex).isNone

/-- A frame that may not be transmitted has failed (assumption log 52): its host hears that it got no acknowledgement, a forwarded
frame is dropped. -/
def failUnsent (n sent mod : Nat) (f : PlTx) (s : State) : State :=
  let c := plOf s n
  let s := setPl n { c with sent := none, failed := c.failed + 1 } s
  let s := finishPl n { frame := f, sent := sent, mod := mod } false 1 s
  if f.queue = 1 then dropForward n f.dest s else s

/-- A frame that carries a tone map request goes to a neighbour: the slot of its payload start is where the answer files (R265). -/
def noteRequest (n short slot : Nat) (s : State) : State :=
  match nbrOf (plOf s n) short with
  | some e => putNbr short { e with asked := slot } n s
  | none => s

/-- Send a frame: it goes out under a map, and waits for its acknowledgement where it asks for one. -/
def sendPl (n : Nat) (g : PlGrant) (f : PlTx) (s : State) : State :=
  let c := plOf s n
  let e := (nbrOf c f.next).getD {}
  let (m, request) := chooseTx s c e g f.payload.length
  let slot := startSlot s c g
  let s := if request then noteRequest n f.next slot (countRequests n f.next s) else s
  let s := emit (.frame n (plFrameBytes s n f m request)) s
  let c := plOf s n
  let x : PlSent := { frame := f, mod := m.mod, coherent := m.coherent, mask := m.mask, request := request, slot := slot }
  let s := setPl n { c with tx := c.tx + 1, sent := some x } s
  if f.ack then s else completePl n x true 0 s

/-- A retransmission (R270): the next more robust modulation; sequence number, counter and mask stay. -/
def resendPl (n : Nat) (g : PlGrant) (x : PlSent) (s : State) : State :=
  let c := plOf s n
  let slot := startSlot s c g
  let y := { x with sent := x.sent + 1, mod := x.mod - 1, slot := slot, retry := false }
  let s := setPl n { c with tx := c.tx + 1, sent := some y } s
  let s := if y.request then noteRequest n y.frame.next slot s else s
  emit (.frame n (plFrameBytes s n y.frame { mod := y.mod, coherent := y.coherent, mask := y.mask } y.request)) s

/-- Round robin moves on in the coupling group (R41). -/
def turnTaken (n : Nat) (s : State) : State :=
  match groupOf s n with
  | some k => { s with line := { s.line with turn := put 0 s.line.turn k ((n + 1) % 16) } }
  | none => s

/-- A data turn of the channel: round robin moves on, and the frame that waits for its retransmission goes out, else the head frame. A turn won
in the contention window of high priority serves frames of that priority only (R248; DESIGN CHOICE, assumption log 77). -/
def dataTransmit (n : Nat) (g : PlGrant) (s : State) : State :=
  match (plOf s n).sent with
  | some x =>
    if g.highWindow ∧ !x.frame.high then s
    else
      let s := turnTaken n s
      if keyLost s n x.frame then failUnsent n x.sent x.mod x.frame s else resendPl n g x s
  | none =>
    match takeData s (plOf s n) with
    | none => s
    | some (f, c) =>
      if g.highWindow ∧ !f.high then s
      else
        let s := turnTaken n (setPl n c s)
        if keyLost s n f then failUnsent n 0 0 f s else sendPl n g f s

/-- An acknowledgement turn: sent, or dropped with 0x60B when it cannot start in time (R41, R269). -/
def ackTransmit (n : Nat) (g : PlGrant) (s : State) : State :=
  let c := plOf s n
  match c.acks with
  | [] => s
  | a :: r =>
    if g.ackInTime then emit (.linkAck n a.seq) (setPl n { c with acks := r, acked := c.acked + 1 } s)
    else logPl 0x60B n a.dest 0xFF [] (setPl n { c with acks := r } s)

/-- A transmit turn of channel `n` (R269) under the rules of its coupling group (R41): nothing while a member has a frame on
the line, or while the turn is another member's. -/
def transmitTurn (n : Nat) (g : PlGrant) (s : State) : State :=
  if plRuns s n then
    match ackTurn s n with
    | some m => if m = n then ackTransmit n g s else s
    | none =>
      if (couplers s n).any fun m => transmitting (plOf s m) then s
      else if dataTurn s n = some n then dataTransmit n g s
      else s
  else s

/-- `PL_TRANSMIT_TURN` (R269). -/
def execPlTransmitTurn (ch : Nat) (g : PlGrant) (s : State) : Host.Outcome State Fault Refusal :=
  within "powerline channel" ch 16 (transmitTurn ch g s)

/-- The acknowledgement of the frame on the line arrives (R270). -/
def plAcked (n : Nat) (s : State) : State :=
  let c := plOf s n
  match c.sent with
  | none => s
  | some x =>
    let s := match nbrOf c x.frame.next with
      | some e => putNbr x.frame.next { e with misses := 0 } n s
      | none => s
    completePl n x true 0 s

/-- `PL_ACK_RECEIVE` (R270, R273). -/
def execPlAckReceive (ch : Nat) (s : State) : Host.Outcome State Fault Refusal :=
  within "powerline channel" ch 16 (if plRuns s ch then plAcked ch s else s)

/-- A transmission to a neighbour got no acknowledgement: the third in a row triggers an early refresh (R268). -/
def countMiss (n short slot : Nat) (s : State) : State :=
  match nbrOf (plOf s n) short with
  | none => s
  | some e =>
    let s := putNbr short { e with misses := (e.misses + 1) % 3 } n s
    if e.misses + 1 = 3 then earlyRefresh n short (useSlot s (plOf s n).net slot) 2 s else s

/-- Channel access fails for the frame that waits to be sent (R270). -/
def accessFails (n seq : Nat) (s : State) : State :=
  match takeData s (plOf s n) with
  | some (f, c) => if f.seq = seq then completePl n { frame := f, sent := 0 } false 2 (setPl n c s) else s
  | none => s

/-- No acknowledgement arrives, or channel access fails (R270): the frame of sequence number `seq` waits for a turn to go
out again, or has failed. -/
def plNotAcked (n : Nat) (accessFailed : Bool) (seq : Nat) (s : State) : State :=
  match (plOf s n).sent with
  | none => if accessFailed then accessFails n seq s else s
  | some x =>
    if x.frame.seq ≠ seq then s
    else if accessFailed then completePl n x false 2 s
    else if x.retry then s
    else
      let s := countMiss n x.frame.next x.slot s
      let c := plOf s n
      if c.maxRetries < x.sent then completePl n x false 1 s else setPl n { c with sent := some { x with retry := true } } s

/-- `PL_ACK_TIMEOUT` (R270, R268). -/
def execPlAckTimeout (ch : Nat) (accessFailed : Bool) (seq : Nat) (s : State) : Host.Outcome State Fault Refusal :=
  within "powerline channel" ch 16 (if plRuns s ch then plNotAcked ch accessFailed seq s else s)

/-- The final status of a PL_TM_REFRESH follows within 10 s (R281): a command of that age ends with the slots updated so far. -/
def endOldRefresh (n : Nat) (s : State) : State :=
  let c := plOf s n
  let old (t : TmCommand) : Bool := decide (t.since + 10 ≤ tb1Sec s)
  if c.tmCommands.any old then
    settleRefresh n (setPl n { c with tmCommands := c.tmCommands.map fun t => if old t then { t with wait := 0 } else t } s)
  else s

/-- 100 ms without a queued frame for a pending refresh: a data frame that carries only the request is queued (R268). -/
def refreshTimer (n short slot : Nat) (s : State) : State :=
  let s := endOldRefresh n s
  let c := plOf s n
  match nbrOf c short with
  | none => s
  | some e =>
    let queued := (c.reply ++ c.fwd ++ c.nulvo ++ c.host).any fun f => f.next == short
    if (look {} e.fwd slot).pending ∧ queued = false then
      match enqueuePl n { dest := short, next := short, queue := 2, secure := (plKeyIndex s c.net).isSome } s with
      | some s' => s'
      | none => s
    else s

/-- `PL_REFRESH_TIMER` (R268). -/
def execPlRefreshTimer (ch short slot : Nat) (s : State) : Host.Outcome State Fault Refusal :=
  within "powerline channel" ch 16 (if plRuns s ch then refreshTimer ch short slot s else s)

/-- A reassembly without a new fragment for 60 s is discarded (R258). -/
def reassemblyTimeout (n tag : Nat) (s : State) : State :=
  let c := plOf s n
  let late (p : Reassembly) : Bool := p.tag == tag && decide (p.last + 60 ≤ tb1Sec s)
  if c.parts.any late then
    logPl 0x60C n 0xFFFF 0xFF [] (setPl n { c with parts := c.parts.filter fun p => !late p } s)
  else s

/-- `PL_REASSEMBLY_TIMEOUT` (R258). -/
def execPlReassemblyTimeout (ch tag : Nat) (s : State) : Host.Outcome State Fault Refusal :=
  within "powerline channel" ch 16 (if plRuns s ch then reassemblyTimeout ch tag s else s)

/-- Remove a neighbour, with its LINK record (R272, R280). -/
def removeNbr (n short detail : Nat) (s : State) : State :=
  let c := plOf s n
  match nbrOf c short with
  | none => s
  | some e =>
    let s := linkRecord n 2 0xFF detail short 0 e (logPl 0x604 n short 0xFF [] s)
    let c := plOf s n
    settleRefresh n (setPl n { c with
      nbrs := dropKey c.nbrs short
      tmCommands := c.tmCommands.map fun t => if t.short = short then { t with wait := 0 } else t } s)

/-- A neighbour not heard for 86,400 s is removed if it is not a next hop (R272). -/
def nbrAgeing (n short : Nat) (s : State) : State :=
  let c := plOf s n
  match nbrOf c short with
  | none => s
  | some e => if e.heard + 86400 ≤ tb1Sec s ∧ isNextHop c short = false then removeNbr n short 2 s else s

/-- `PL_NEIGHBOUR_AGEING` (R272). -/
def execPlNeighbourAgeing (ch short : Nat) (s : State) : Host.Outcome State Fault Refusal :=
  within "powerline channel" ch 16 (if plRuns s ch then nbrAgeing ch short s else s)

/-- A route reaches its expiry and is removed (R275). -/
def routeLapse (n dest : Nat) (s : State) : State :=
  let c := plOf s n
  match routeOf c dest with
  | none => s
  | some r =>
    if r.expiry ≤ tb1Sec s then
      let s := setPl n { c with routes := put none c.routes dest none } s
      let e := (nbrOf c r.next).getD {}
      linkRecord n 5 0xFF 0 r.next dest e (logPl 0x609 n r.next 0xFF [] s)
    else s

/-- `PL_ROUTE_LAPSE` (R275). -/
def execPlRouteLapse (ch dest : Nat) (s : State) : Host.Outcome State Fault Refusal :=
  within "powerline channel" ch 16 (if plRuns s ch then routeLapse ch dest s else s)

end Sys2Proof.Machine
end

