-- ==== Sys2Proof/Machine/LineReceive.lean ====
section
/-! DEFINITION. Receiving a powerline frame: the ten steps, metadata, reassembly, and what the commit teaches
(spec/07_powerline.md, R256–R266, R268, R272). -/

namespace Sys2Proof.Machine

/-! ### Erasures (R260, R264) -/

/-- The symbols of one received payload that lie in one mains slot: erasure marks, oldest first, and the mean SNR of each group, 0.25 dB. -/
structure SlotSymbols where
  slot : Nat := 0
  marks : List Bool := []
  snr : List Int := []
  deriving DecidableEq, Repr

/-- TB0, or the network time, at the start of the preamble (R257). -/
def preambleAt (s : State) (n : Nat) (f : PlFrame) : Time := tbVal s n - BitVec.ofNat 72 f.preambleAgo

/-- The slot of a network time; 0 while the network is not SLOTTED (R255, R256). -/
def slotAt (s : State) (k : Nat) (t : Time) : Nat := useSlot s k (slotOfPhase (mainsPhase s k t))

/-- The network time at which payload symbol `i` starts: 278 samples each (R249). -/
def symbolAt (s : State) (c : PlChannel) (f : PlFrame) (i : Nat) : Time :=
  preambleAt s (4 + c.net) f + BitVec.ofNat 72 (f.payloadDelay + i * 278 * 2 ^ 36 / bandRate c.band)

/-- A symbol is an erasure (R260): its peak exceeds the noise estimate by more than IMP_THRESH, or its decision error the frame's mean by more
than 10 dB. -/
def erased (c : PlChannel) (f : PlFrame) (x : PlSymbol) : Bool :=
  decide (f.noise + 4 * c.impThresh < x.peak)
    || decide (10 * sumN (f.symbols.map fun y => y.error) < f.symbols.length * x.error)

/-- Mean SNR of each group over symbols, 0.25 dB; the rounding is open (assumption log 18). -/
def meanSnr (band : Nat) (l : List PlSymbol) : List Int :=
  (List.range (bandGroups band)).map fun g => openDiv (sumI (l.map fun x => nthI x.snr g)) l.length

/-- The symbols of a frame by slot. -/
def frameSlots (s : State) (n : Nat) (f : PlFrame) : List SlotSymbols :=
  let c := plOf s n
  let l := f.symbols.zipIdx.map fun p => (slotAt s c.net (symbolAt s c f p.2), p.1)
  (List.range 6).filterMap fun i =>
    let mine := (l.filter fun p => p.1 == i).map fun p => p.2
    if mine = [] then none else some { slot := i, marks := mine.map (erased c f), snr := meanSnr c.band mine }

/-- Erasure marks among the last 256 symbols of a slot. -/
def erasedCount (l : List Bool) : Nat := (l.filter fun b => b).length

/-- Set or clear IMPULSIVE of a slot, with 0x608, its notice and a LINK record. -/
def setImpulsive (n slot : Nat) (on : Bool) (s : State) : State :=
  let c := plOf s n
  let s := setPl n { c with impulsive := if on then bitSet c.impulsive slot else bitClear c.impulsive slot } s
  linkRecord n 7 slot (b2n on) 0xFFFF 0 {} (noticePl 0x608 n 0xFFFF slot s)

/-- Count the symbols and erasures of one slot, newest first, over the last 256 symbols (R264). -/
def countSlot (n : Nat) (x : SlotSymbols) (s : State) : State :=
  let c := plOf s n
  let l := (x.marks.reverse ++ look [] c.erasures x.slot).take 256
  let s := setPl n { c with erasures := put [] c.erasures x.slot l } s
  let k := erasedCount l
  let now := bitOf c.impulsive x.slot
  if now = false ∧ 256 < 10 * k then setImpulsive n x.slot true s
  else if now = true ∧ 20 * k ≤ 256 then setImpulsive n x.slot false s
  else s

/-! ### Neighbours (R272) -/

/-- The neighbour heard least recently that is not a next hop. -/
def displaceable (c : PlChannel) : Option (Nat × Neighbour) :=
  c.nbrs.foldl (fun b p =>
    if isNextHop c p.1 then b
    else
      match b with
      | some q => if p.2.heard < q.2.heard then some p else b
      | none => some p) none

/-- Add a neighbour, with its LINK record and 0x604. -/
def addNbr (n short eui : Nat) (s : State) : State :=
  let e : Neighbour := { eui := eui, heard := tb1Sec s }
  let t := tollOf s (plOf s n) e
  let e := { e with toll := t, reported := t }
  let s := putNbr short e n s
  linkRecord n 1 0xFF 0 short 0 e (logPl 0x604 n short 0xFF [] s)

/-- Find or create the neighbour entry of a sender; nothing where the table is full of next hops. -/
def ensureNbr (n short eui : Nat) (s : State) : Option State :=
  let c := plOf s n
  match nbrOf c short with
  | some _ => some s
  | none =>
    if c.nbrs.length < 1024 then some (addNbr n short eui s)
    else
      match displaceable c with
      | some p => some (addNbr n short eui (removeNbr n p.1 1 s))
      | none => none

/-- The table is full: the frame is not acknowledged (R272). -/
def nbrTableFull (n short : Nat) (s : State) : State :=
  let c := plOf s n
  let s := setPl n { c with nbrFull := c.nbrFull + 1 } s
  linkRecord n 6 0xFF 0 short 0 {} (noticePl 0x603 n short 0xFF s)

/-! ### Descriptor (R257, R315) -/

/-- The zero-crossing offset and its validity (R257). -/
def zcOffset (s : State) (k : Nat) (f : PlFrame) : Nat × Nat × Bool :=
  let phi := mainsPhase s k (preambleAt s (4 + k) f) / 2 ^ 20
  match slottedNow s k, f.zcDelayUs with
  | true, some d =>
    let hz := if (tb s (4 + k)).hz60 then 60 else 50
    let tx := (roundDiv ((d * hz * 65536 : Nat) : Int) 1000000).toNat % 65536
    (phi, (phi + 65536 - tx) % 65536, true)
  | _, _ => (phi, 0, false)

/-- Mean payload SNR over the unmasked groups, 0.25 dB, as a byte (R257); 0 for a frame without payload symbols. -/
def frameSnr (band : Nat) (f : PlFrame) : Nat :=
  let used := (List.range (bandGroups band)).filter (bitOf f.mask)
  let l := f.symbols.flatMap fun x => used.map (nthI x.snr)
  if l = [] then 0 else unsigned 8 (openDiv (sumI l) l.length)

/-- The descriptor of a frame delivered to the ingress queues. -/
def plDesc (s : State) (n : Nat) (f : PlFrame) (bytes : Bytes) : IngDesc :=
  let c := plOf s n
  let k := c.net
  let (phi, off, ok) := zcOffset s k f
  let slot := slotAt s k (symbolAt s c f 0)
  let info := le8 slot ++ le16 phi ++ le16 off ++ le8 (b2n ok) ++ le8 (frameSnr c.band f) ++ le8 f.modulation
    ++ le16 (f.symbols.filter (erased c f)).length ++ le16 f.source ++ List.replicate 4 0
  keyed { port := 0x20 + n, network := k, rxTb0 := preambleAt s 0 f, untrusted := timeUntrusted s, rxNet := preambleAt s (4 + k) f, srcMeta := info,
          srcAddr := if f.eui ≠ 0 then f.eui else f.source, bytes := bytes }
    (if f.eui ≠ 0 then f.eui else linkAddress (0x20 + n) k f.source)

/-! ### Step 8 and 9: where the frame goes -/

/-- Deliver a whole local packet: to ingest, or to the Nulvo queue (R313); nothing without room. -/
def deliverLocal (n : Nat) (f : PlFrame) (bytes : Bytes) (s : State) : Option State :=
  if nulvoFrame s (0x20 + n) f.udpPort bytes.length then some (toNulvo (0x20 + n) bytes s)
  else placeLink (plDesc s n f bytes) s

/-- The bytes of a reassembly in order of offset. -/
def joinBlocks (l : List (Nat × Bytes)) : Bytes := (l.foldl (fun t p => insertKey t p.1 p.2) []).flatMap fun p => p.2

/-- Store a fragment (R258): nothing where all 32 reassemblies are in use; the fragment that completes the packet delivers
it. -/
def storeFragment (n : Nat) (f : PlFrame) (tag off size : Nat) (bytes : Bytes) (s : State) : Option State :=
  let c := plOf s n
  let mine (p : Reassembly) : Bool := p.source == f.source && p.tag == tag
  let old := (c.parts.find? mine).getD { source := f.source, tag := tag, size := size }
  if (c.parts.any mine) = false ∧ 32 ≤ c.parts.length then none
  else
    let parts := insertKey old.parts off bytes
    let rest := c.parts.filter fun p => !mine p
    if size ≤ sumN (parts.map fun p => p.2.length) then
      deliverLocal n f (joinBlocks parts) (setPl n { c with parts := rest } s)
    else
      some (setPl n { c with parts := rest ++ [{ old with parts := parts, last := tb1Sec s }] } s)

/-- Forward a frame (R276). -/
def forwardPl (n : Nat) (f : PlFrame) (bytes : Bytes) (s : State) : Option State :=
  if f.hopsLeft ≤ 1 then some (dropForward n f.finalDest s)
  else
    match nextHop s (plOf s n).net f.finalDest with
    | none => some (toNulvo (0x20 + n) bytes s)
    | some h =>
      routePl h { dest := f.finalDest, hopsLeft := f.hopsLeft - 1, payload := bytes, secure := f.secured, queue := 1, frag := f.fragment } s

/-- A beacon request is answered from the template of the network, by broadcast in the Nulvo queue (R248, R269; DESIGN CHOICE, assumption
log 77); without a template it goes to Nulvo. -/
def answerBeacon (n : Nat) (bytes : Bytes) (s : State) : State :=
  let b := (plNetOf s (plOf s n).net).beacon
  if b = [] then toNulvo (0x20 + n) bytes s
  else
    match enqueuePl n { dest := 0xFFFF, next := 0xFFFF, payload := b, ack := false, queue := 2 } s with
    | some s' => s'
    | none => s

/-- Classify and place a frame (R258, steps 8 and 9); nothing without room. -/
def placePl (n : Nat) (f : PlFrame) (bytes : Bytes) (s : State) : Option State :=
  if f.kind = 3 then some (answerBeacon n bytes s)
  else if f.kind ≠ 0 then some (toNulvo (0x20 + n) bytes s)
  else if f.finalDest = (plNetOf s (plOf s n).net).short then
    match f.fragment with
    | some (tag, off, size) => storeFragment n f tag off size bytes s
    | none => deliverLocal n f bytes s
  else forwardPl n f bytes s

/-! ### Step 10: the commit -/

/-- Update the reverse entry of one slot from a frame's measurement (R263, R268). -/
def learnReverse (n short : Nat) (x : SlotSymbols) (s : State) : State :=
  let c := plOf s n
  match nbrOf c short with
  | none => s
  | some e =>
    let old := look {} e.rev x.slot
    let groups := x.snr.take (bandGroups c.band)
    let drop := old.source != 0 && decide (meanI groups + 24 < meanI old.snr)
    let snr :=
      if old.source = 0 ∨ drop then groups
      else (List.range groups.length).map fun g => nthI old.snr g + Int.tdiv (nthI groups g - nthI old.snr g) 4
    let m := chooseMap c.band (bitOf c.impulsive x.slot) e.coherent snr
    let new : ToneMap := { old with
      mod := m.mod, coherent := m.coherent, mask := m.mask, snr := snr, cap := mapCap c.band m.mod m.mask,
      updated := tb1Sec s, source := 2 }
    let s := putNbr short { e with rev := put {} e.rev x.slot new } n s
    if drop then earlyRefresh n short x.slot 1 s else s

/-- A tone map response updates the forward entry of the slot in which the request's payload began (R265). -/
def learnForward (n short : Nat) (t : ToneMapResponse) (s : State) : State :=
  let c := plOf s n
  match nbrOf c short with
  | none => s
  | some e =>
    let i := useSlot s c.net e.asked
    let old := look {} e.fwd i
    let new : ToneMap := { old with
      mod := t.modulation, coherent := t.coherent, mask := t.mask % 2 ^ 24, txcoef := t.coefficients,
      cap := mapCap c.band t.modulation (t.mask % 2 ^ 24), updated := tb1Sec s, source := 1 }
    let s := putNbr short { e with fwd := put {} e.fwd i new } n s
    let s := if old.pending then endRefresh n short i true s else s
    retoll n short s

/-- The answer to a tone map request (R266): the lowest SNR of each group over the reverse entries that hold measurements; slot 0 alone while
the network is not SLOTTED (R256). -/
def answerMap (c : PlChannel) (slotted : Bool) (e : Neighbour) : TxMap :=
  let held := (List.range (if slotted then 6 else 1)).filter fun i => (look {} e.rev i).source != 0
  if held = [] then roboMap c.band
  else
    let low := (List.range (bandGroups c.band)).map fun g =>
      (held.map fun i => nthI (look {} e.rev i).snr g).foldl min 127
    chooseMap c.band (held.any fun i => bitOf c.impulsive i) e.coherent low

/-- Queue the answer to a tone map request. -/
def answerRequest (n short : Nat) (s : State) : State :=
  let c := plOf s n
  match nbrOf c short with
  | none => s
  | some e =>
    let m := answerMap c (slottedNow s c.net) e
    let f : PlTx := { dest := short, next := short, queue := 2, secure := (plKeyIndex s c.net).isSome,
                      payload := le8 (m.mod + 128 * b2n m.coherent) ++ leBytes 3 m.mask }
    match enqueuePl n f s with
    | some s' => s'
    | none => s

/-- What identifies a frame in the dedupe window (R259). -/
def dedupeOf (f : PlFrame) (at_ : Time) : Dedupe :=
  { seq := f.seq, secured := f.secured, counter := if f.secured then f.counter else 0, check := if f.secured then f.mic else f.fcs, at_ := at_ }

/-- The frame repeats an entry accepted within the last 2 s of TB1 (R259). -/
def repeats (s : State) (l : List Dedupe) (d : Dedupe) : Bool :=
  l.any fun x => decide ({ x with at_ := d.at_ } = d) && decide ((tbVal s 1 - x.at_).toNat ≤ 2 * 2 ^ 36)

/-- The link transmitter has an acknowledgement slot for the frame (R34). -/
def ackRoom (c : PlChannel) (f : PlFrame) : Bool := !f.ackRequested || decide (c.acks.length ≤ Config.moreAckSlots)

/-- A link acknowledgement becomes due, where the transmitter has a slot for it. -/
def dueAck (n : Nat) (f : PlFrame) (s : State) : State :=
  let c := plOf s n
  if f.ackRequested ∧ ackRoom c f then setPl n { c with acks := c.acks ++ [{ dest := f.source, seq := f.seq }] } s else s

/-- Commit the results of steps 4 to 8, and acknowledge (R258, step 10). -/
def commitPl (n : Nat) (f : PlFrame) (s : State) : State :=
  let slots := frameSlots s n f
  let c := plOf s n
  let k := c.net
  let s := match nbrOf c f.source with
    | some e =>
      putNbr f.source { e with
        window := (dedupeOf f (tbVal s 1) :: e.window).take 4, heard := tb1Sec s, coherent := f.coherentSupport } n s
    | none => s
  let net := plNetOf s k
  let s :=
    if f.secured then
      setPlNet k { net with rxCounters := put 0 net.rxCounters (2 * f.source + f.keyIndex) f.counter } s
    else s
  let s := slots.foldl (fun s x => learnReverse n f.source x s) s
  let s := match f.toneMapResponse with
    | some t => learnForward n f.source t s
    | none => s
  let s := if f.toneMapRequest then answerRequest n f.source s else s
  dueAck n f s

/-- Steps 7 to 10 for a frame whose plaintext is known; without a slot for its acknowledgement it leaves no trace (R34). -/
def acceptPl (n : Nat) (f : PlFrame) (bytes : Bytes) (s : State) : State :=
  if ackRoom (plOf s n) f = false then s
  else
  match ensureNbr n f.source f.eui s with
  | none => nbrTableFull n f.source s
  | some s1 =>
    match placePl n f bytes s1 with
    | none => s
    | some s2 => commitPl n f s2

/-- Steps 5 and 6: security and the frame counter (R254, R261). -/
def securePl (n : Nat) (f : PlFrame) (s : State) : State :=
  let c := plOf s n
  if f.secured = false then acceptPl n f f.payload s
  else
    match plKey s c.net f.keyIndex with
    | none => s
    | some key =>
      match Config.ccmOpen key (le64 f.eui ++ le32 f.counter) f.payload f.mic with
      | none => noticePl 0x606 n f.source 0xFF (setPl n { c with secfail := c.secfail + 1 } s)
      | some bytes =>
        if f.counter ≤ look 0 (plNetOf s c.net).rxCounters (2 * f.source + f.keyIndex) then
          noticePl 0x605 n f.source 0xFF (setPl n { c with replay := c.replay + 1 } s)
        else acceptPl n f bytes s

/-- Receive a powerline frame (R258). A secured frame under a key index without a key is discarded before anything acknowledges it (R254). -/
def receivePl (n : Nat) (f : PlFrame) (s : State) : State :=
  let k := (plOf s n).net
  let s := (frameSlots s n f).foldl (fun s x => countSlot n x s) s
  let net := plNetOf s k
  if f.fcsOk = false then s
  else if f.pan ≠ net.pan ∨ (f.kind < 2 ∧ f.dest ≠ net.short) then s
  else
    let c := plOf s n
    let s := setPl n { c with rx := c.rx + 1 } s
    if f.secured ∧ (plKey s k f.keyIndex).isNone then s
    else
    let seen := match nbrOf c f.source with
      | some e => repeats s e.window (dedupeOf f (tbVal s 1))
      | none => false
    if seen then
      let c := plOf s n
      dueAck n f (setPl n { c with dup := c.dup + 1 } s)
    else securePl n f s

/-- `PL_FRAME_RECEIVE` (R258). -/
def execPlFrameReceive (ch : Nat) (f : PlFrame) (s : State) : Host.Outcome State Fault Refusal :=
  within "powerline channel" ch 16 (if plRuns s ch && active s 8 then receivePl ch f s else s)

end Sys2Proof.Machine
end

