-- ==== Sys2Proof/Machine/Radio.lean ====
section
/-! DEFINITION. Radio channels: networks and devices, channel access, scheduled links and their windows
(spec/08_radio.md, R283–R309). -/

namespace Sys2Proof.Machine

def rfOf (s : State) (n : Nat) : RfChannel := look {} s.radio.chans n
def setRf (n : Nat) (c : RfChannel) (s : State) : State :=
  { s with radio := { s.radio with chans := put {} s.radio.chans n c } }
def rfNetOf (s : State) (k : Nat) : RfNet := look {} s.radio.nets k
def setRfNet (k : Nat) (c : RfNet) (s : State) : State :=
  { s with radio := { s.radio with nets := put {} s.radio.nets k c } }

/-- The channel runs a PHY mode and is in service; while PD9 leaves it still transmits what was admitted (R27). -/
def rfRuns (s : State) (n : Nat) : Bool := fabricUp s && working s 9 && !isFenced s (119 + n) && (rfOf s n).phy != 0

/-- The network of a channel. -/
def rfNetAt (s : State) (n : Nat) : RfNet := rfNetOf s (rfOf s n).net

/-- TB(8 + k) of a channel's network. -/
def rfNow (s : State) (n : Nat) : Time := tbVal s (8 + (rfOf s n).net)

def linkOf (c : RfChannel) (i : Nat) : Option Link := look none c.links i
def setLink (n i : Nat) (l : Option Link) (s : State) : State :=
  let c := rfOf s n
  setRf n { c with links := put none c.links i l } s

/-- The links of a channel with their indices. -/
def linkList (c : RfChannel) : List (Nat × Link) :=
  c.links.filterMap fun p => match p.2 with
    | some l => some (p.1, l)
    | none => none

/-! ### Devices (R295) -/

/-- A device of a network by its EUI-64. -/
def devOf (net : RfNet) (eui : Nat) : Option Device :=
  match net.devices.find? fun p => p.1 == eui with
  | some p => some p.2
  | none => none

def putDev (k eui : Nat) (d : Device) (s : State) : State :=
  let net := rfNetOf s k
  setRfNet k { net with devices := insertKey net.devices eui d } s

/-- The EUI-64 of a sender: its own, or that of the entry with its short address. -/
def senderEui (net : RfNet) (f : RfFrame) : Option Nat :=
  if f.eui ≠ 0 then some f.eui
  else
    match net.devices.find? fun p => p.2.short == f.source && f.source != 0xFFFF with
    | some p => some p.1
    | none => none

/-! ### Scheduled links: prediction and hopping (R302, R304) -/

/-- A time difference of TB(8 + k) in ns. -/
def nsBetween (a b : Time) : Int := Int.tdiv ((a - b).toInt * 1000000000) (2 ^ 36)

/-- Events since the last acknowledged anchor. -/
def sinceLast (l : Link) (e : Nat) : Nat := (e + 2 ^ 32 - l.eLast) % 2 ^ 32

/-- dt of event e, ns. -/
def linkDt (l : Link) (e : Nat) : Nat := sinceLast l e * l.w * 1000000

/-- pred(e) less a_last, ns. -/
def predNs (l : Link) (e : Nat) : Int := (linkDt l e : Int) + Int.tdiv ((linkDt l e : Int) * l.err) 1000000000

/-- half(e), ns. -/
def halfNs (l : Link) (e : Nat) : Nat :=
  32000 + (if l.learned < 4 then l.acc else l.err.natAbs) * linkDt l e / 1000000000 + isqrt (16 * l.var)

/-- σ in ns, rounded. -/
def sigmaNs (l : Link) : Nat := (isqrt (4 * l.var) + 1) / 2

/-- The used channels of a map, in ascending order. -/
def usedChannels (map : BitVec 136) : List Nat := (List.range 129).filter map.getLsbD

/-- hop(e) (R302). -/
def hop (l : Link) (nCh e : Nat) : Nat :=
  let u := if nCh = 0 then 0 else (l.seed + e * l.inc) % nCh
  let used := usedChannels l.map
  if l.map.getLsbD u then u else if used = [] then 0 else used.getD (u % used.length) 0

/-- The channel of event e of a link in its state. -/
def linkChannel (s : State) (n : Nat) (l : Link) : Nat :=
  match l.state with
  | .synced => hop l (rfNetAt s n).nCh l.e
  | _ => (rfOf s n).home

/-- The window of the next event is wider than the guard limit (R307). -/
def tooWide (l : Link) : Bool := decide (l.guard * 1000 < halfNs l l.e)

def linkStateCode : LinkState → Nat
  | .synced => 0
  | .seeking => 1
  | .reAcquire => 2

/-! ### Logbook and LINK records (R309, R311) -/

/-- The defaults of the 0x7xx subject: link index, partner short address, link state, e. -/
def rfDefaults (s : State) (n i : Nat) : List Time :=
  match linkOf (rfOf s n) i with
  | some l => [snapN i, snapN l.short, snapN (linkStateCode l.state), snapN l.e]
  | none => [snapN i, 0, 0, 0]

def logRf (code n i : Nat) (s : State) : State := logEv code (119 + n) (rfOf s n).net (rfDefaults s n i) s

/-- A record of codes 0x703, 0x705, 0x707 and 0x708 with its notice and V(224 + n). -/
def noticeRf (code n i : Nat) (s : State) : State :=
  raiseV (224 + n) (notice code 0 (119 + n) (snapBytes 5 (rfDefaults s n i)) (logRf code n i s))

/-- The part of a transmission of `x.2` µs from `x.1` that lies in the 3,600 s before `now` µs (R292). -/
def inWindow (now : Nat) (x : Nat × Nat) : Nat := min now (x.1 + x.2) - max (now - 3600000000) x.1

/-- The channel's own transmit time over the sliding window of 3,600 s, µs (R292), in TB1 (assumption log 79). -/
def dutyUs (s : State) (n : Nat) : Nat := sumN ((rfOf s n).duty.map (inWindow (tb1Us s)))

/-- The duty count in 0.01 % (R292): one unit is 360 ms. -/
def dutyCount (s : State) (n : Nat) : Nat := min 65535 (dutyUs s n / 360000)

/-- A limit in 0.01 % is reached: never under a DUTY_LIMIT of 10,000, which removes the limit (R292). -/
def dutyAt (s : State) (n limit : Nat) : Bool :=
  decide ((rfNetAt s n).dutyLimit < 10000) && decide (limit * 360000 ≤ dutyUs s n)

/-- Data frames, event downlinks and Nulvo frames are held (R292). -/
def dataLimited (s : State) (n : Nat) : Bool := dutyAt s n ((rfNetAt s n).dutyLimit - (rfNetAt s n).ackReserve)

/-- Acknowledgements are not sent (R292). -/
def ackLimited (s : State) (n : Nat) : Bool := dutyAt s n (rfNetAt s n).dutyLimit

/-- The 80-byte payload of a radio LINK record (R309). -/
def rfLinkPayload (n event detail i : Nat) (l : Link) (s : State) : Bytes :=
  let c := rfOf s n
  padTo 80 (le8 2 ++ le8 n ++ le8 c.net ++ le8 event ++ le8 detail ++ le8 (linkStateCode l.state) ++ le16 i ++ le16 l.short
    ++ le64 l.eui ++ le32 l.e ++ le32 l.eLast ++ le72 l.aLast ++ leInt 4 l.err ++ le32 (sigmaNs l) ++ le32 (halfNs l l.e)
    ++ le8 l.misses ++ leInt 1 l.rssi ++ le16 (dutyCount s n) ++ le72 (rfNow s n))

/-- Emit a radio LINK record; it is dropped and counted, with 0x70B, without a cell reservation. -/
def rfLinkRecord (n event detail i : Nat) (l : Link) (s : State) : State :=
  let c := rfOf s n
  let rec_ := harvestRecord { type := 0x0A, vflags := 16 * b2n (timeUntrusted s), tb0 := tbVal s 0, port := 0x30 + n,
                              counter := c.linkCount } (rfLinkPayload n event detail i l s)
  let s := setRf n { c with linkCount := (c.linkCount + 1) % 2 ^ 32 } s
  match emitRecord (rfNetAt s n).hq rec_ s with
  | some s' => s'
  | none => logRf 0x70B n i (setRf n { rfOf s n with linkDropped := c.linkDropped + 1 } s)

/-! ### Host frames -/

/-- The payload of an RF_TX completion. -/
def rfTxReply (s : State) (result sent : Nat) : Reply := { payload := le8 result ++ le8 sent ++ le72 (tbVal s 0) }

/-! ### Keys and queues (R298, R299, R308) -/

/-- The link key of a link, and the group keys of a network. -/
def linkKey (s : State) (l : Link) : Option Bytes := gkFor s l.keySlot [1] 2
def rfKey (s : State) (k idx : Nat) : Option Bytes :=
  let net := rfNetOf s k
  if idx = 1 then gkFor s net.key1 [1] 1 else if idx = 2 then gkFor s net.key2 [1] 1 else none

/-- The link of a channel that a destination is the partner of. -/
def partnerLink (c : RfChannel) (short eui : Nat) : Option (Nat × Link) :=
  (linkList c).find? fun p => (eui != 0 && p.2.eui == eui) || (eui == 0 && p.2.short == short)

/-- Give a frame its sequence number and, where secured, its counter; nothing where it cannot be secured. -/
def stampRf (n : Nat) (f : RfTxFrame) (s : State) : Option (RfTxFrame × State) :=
  let k := (rfOf s n).net
  let net := rfNetOf s k
  let f := { f with seq := net.seq }
  let s := setRfNet k { net with seq := (net.seq + 1) % 256 } s
  if f.secure = false then some (f, s)
  else if f.keyMode = 0 then
    match partnerLink (rfOf s n) f.short f.eui with
    | some (i, l) =>
      if (linkKey s l).isSome ∧ l.txCounter ≠ 0xFFFFFFFF then
        some ({ f with counter := l.txCounter + 1 }, setLink n i (some { l with txCounter := l.txCounter + 1 }) s)
      else none
    | none => none
  else
    let net := rfNetOf s k
    let ctr := look 0 net.txCounters f.keyIndex
    if (rfKey s k f.keyIndex).isSome ∧ ctr ≠ 0xFFFFFFFF then
      some ({ f with counter := ctr + 1 }, setRfNet k { net with txCounters := put 0 net.txCounters f.keyIndex (ctr + 1) } s)
    else none

/-- Event downlinks waiting on a channel (R308). -/
def downlinkCount (c : RfChannel) : Nat := sumN ((linkList c).map fun p => p.2.downlinks.length)

/-- A random number below `m` (R453). -/
def drawBelow (m : Nat) (s : State) : Nat × State :=
  let (b, s) := draw 4 s
  (if m = 0 then 0 else leNat b % m, s)

/-- The Nulvo queue of a channel: held while an activation pauses the module (R471). -/
def rfNulvo (s : State) (c : RfChannel) : List RfTxFrame := if s.firm.stage = .pause then [] else c.nulvo

/-- Start channel access for the first frame of the reply, Nulvo and host queues (R291, R308). -/
def startAccess (n : Nat) (s : State) : State :=
  let c := rfOf s n
  if c.access.isSome || c.sent.isSome then s
  else
    let go (f : RfTxFrame) (c : RfChannel) : State :=
      let (b, s) := drawBelow (2 ^ c.minBe) s
      let (l, s) := drawBelow (c.lbtRand / 10 + 1) s
      setRf n { c with access := some { frame := f, be := c.minBe, backoff := b, listen := c.lbtMin + 10 * l } } s
    match c.reply, rfNulvo s c, c.host with
    | f :: r, _, _ => go f { c with reply := r }
    | [], f :: r, _ => go f { c with nulvo := r }
    | [], [], f :: r => go f { c with host := r }
    | [], [], [] => s

/-- Queue a frame of the module (R308): a frame for a link partner waits for that partner's events; nothing where its queue
cannot take it. -/
def enqueueRf (n : Nat) (f : RfTxFrame) (s : State) : Option State :=
  let c := rfOf s n
  match partnerLink c f.short f.eui with
  | some (i, l) =>
    if 4 ≤ l.downlinks.length ∨ 256 ≤ downlinkCount c then none
    else
      match stampRf n f s with
      | none => none
      | some (g, s) =>
        match linkOf (rfOf s n) i with
        | some l => some (setLink n i (some { l with downlinks := l.downlinks ++ [{ g with queue := 1 }] }) s)
        | none => none
  | none =>
    let depth := if f.queue = 2 then 16 else if f.queue = 3 then 32 else 64
    let len := if f.queue = 2 then c.reply.length else if f.queue = 3 then c.nulvo.length else c.host.length
    if depth ≤ len then none
    else
      match stampRf n f s with
      | none => none
      | some (g, s) =>
        let c := rfOf s n
        let c := if f.queue = 2 then { c with reply := c.reply ++ [g] }
          else if f.queue = 3 then { c with nulvo := c.nulvo ++ [g] } else { c with host := c.host ++ [g] }
        some (startAccess n (setRf n c s))

/-- The bytes of a frame on the air, in the model's own order: destination, sequence number, marks, counter, payload. A secured frame
goes out at security level 5, with the 4-byte MIC: the spec leaves the level of own frames open (DESIGN CHOICE, assumption log 79). -/
def rfFrameBytes (s : State) (n : Nat) (f : RfTxFrame) : Bytes :=
  let k := (rfOf s n).net
  let key := if f.keyMode = 0 then (match partnerLink (rfOf s n) f.short f.eui with
    | some (_, l) => linkKey s l
    | none => none) else rfKey s k f.keyIndex
  let body := match f.secure, key with
    | true, some key =>
      let x := Config.ccmSeal key (le64 (rfNetOf s k).eui ++ le32 f.counter ++ le8 5) f.payload
      x.1 ++ le32 x.2
    | _, _ => f.payload
  le16 f.short ++ le64 f.eui ++ le8 f.seq ++ le8 (ofBits [f.ack, f.secure] + 4 * f.keyMode + 16 * f.keyIndex) ++ le32 f.counter
    ++ body

/-- The key of a secured frame is gone: nothing is transmitted under it (R254, R299). -/
def rfKeyLost (s : State) (n : Nat) (f : RfTxFrame) : Bool :=
  f.secure && (if f.keyMode = 0 then (match partnerLink (rfOf s n) f.short f.eui with
    | some (_, l) => (linkKey s l).isNone
    | none => true) else (rfKey s (rfOf s n).net f.keyIndex).isNone)

/-- A transmission of `len` bytes that starts in `us` µs: the channel's previous transmission ends with it, and it counts in the
sliding window, from which what has left it is dropped (R292). -/
def rfOnAir (n us len : Nat) (s : State) : State :=
  let c := rfOf s n
  let air := Config.rfAirtimeUs c.phy c.rate len
  setRf n { c with
    txEnd := some (tbVal s 1 + BitVec.ofNat 72 ((us + air) * 2 ^ 36 / 1000000))
    duty := (c.duty.filter fun x => decide (tb1Us s < x.1 + x.2 + 3600000000)) ++ [(tb1Us s + us, air)] } s

/-- A transmission may not start yet: TX_OFF_MIN has not passed since the end of the previous one (R292). -/
def rfOffTime (s : State) (n : Nat) : Bool :=
  match (rfOf s n).txEnd with
  | some t => decide (nsBetween (tbVal s 1) t < ((rfOf s n).txOffMin : Int) * 1000000)
  | none => false

/-- A transmission is in progress, or an acknowledgement or a downlink due (R306, ranks 1 and 2). -/
def rfSending (s : State) (n : Nat) : Bool :=
  match (rfOf s n).txEnd with
  | some t => decide (nsBetween (tbVal s 1) t < 0)
  | none => false

/-- The time a CSMA frame takes with its acknowledgement wait and its turnaround, µs (R306): the turnaround is the longest of R290. -/
def csmaUs (c : RfChannel) (f : RfTxFrame) : Nat :=
  Config.rfAirtimeUs c.phy c.rate f.payload.length + (if f.ack then Config.rfAckWaitUs c.phy c.rate else 0) + 100

/-- A measure at RFn_RXI, 0.25 dBm, reaches a threshold at the antenna in dBm, with the receive gain FE_RX between them (R289). -/
def reachesDbm (c : RfChannel) (threshold e : Int) : Bool := decide (4 * threshold ≤ e - c.feRx)

/-- A measure at RFn_RXI in dBm at the antenna (R289, R296). -/
def antennaDbm (c : RfChannel) (e : Int) : Int := openDiv (e - c.feRx) 4

/-- The channel is busy: the energy has reached CCA_THRESH within the listen (R291). The LBT listen has the same threshold, the only one
that `RF_CFG` sets. -/
def rfBusy (c : RfChannel) (energy : List Int) : Bool := energy.any (reachesDbm c c.cca)

/-- A frame of queues 3 to 5 is complete (R293): counted, its host told, the next access started. -/
def completeRf (n : Nat) (f : RfTxFrame) (result : Nat) (s : State) : State :=
  let c := rfOf s n
  let s := setRf n { c with
    access := none, sent := none, delivered := if result = 0 then c.delivered + 1 else c.delivered,
    failed := if result = 0 then c.failed else c.failed + 1 } s
  startAccess n (finishHost f.host (rfTxReply s result f.sent) s)

/-- Draw the next backoff of an access (R291). -/
def nextBackoff (n : Nat) (a : Access) (s : State) : State :=
  let c := rfOf s n
  let (b, s) := drawBelow (2 ^ a.be) s
  let (l, s) := drawBelow (c.lbtRand / 10 + 1) s
  setRf n { c with access := some { a with backoff := b, listen := c.lbtMin + 10 * l } } s

/-- ns until the receiver must be tuned to the next window of a channel: 100 µs before it opens (R305). -/
def nextTune (s : State) (n : Nat) : Option Int :=
  (linkList (rfOf s n)).foldl (fun b p =>
    match p.2.state with
    | .reAcquire => b
    | _ =>
      let e := if p.2.hit then (p.2.e + 1) % 2 ^ 32 else p.2.e
      let t := predNs p.2 e - halfNs p.2 e - 100000 - nsBetween (rfNow s n) p.2.aLast
      match b with
      | some x => some (min x t)
      | none => some t) none

/-- The transceiver is free for a CSMA transmission of `us` (R292, R306). -/
def csmaMayStart (s : State) (n us : Nat) : Bool :=
  let c := rfOf s n
  !dataLimited s n && c.tuned.isNone && c.downlink.isNone && !rfSending s n && !rfOffTime s n &&
    match nextTune s n with
    | some t => decide ((us : Int) * 1000 + 200000 ≤ t)
    | none => true

/-- A backoff has ended and the listen has run (R291): a busy channel is tried again, or has failed after MAX_BACKOFFS busy
attempts; a free one carries the frame, once duty and windows allow it. -/
def backoffExpiry (n : Nat) (energy : List Int) (s : State) : State :=
  let c := rfOf s n
  match c.access with
  | none => s
  | some a =>
    if rfBusy c energy then
      let a := { a with be := min c.maxBe (a.be + 1), busy := a.busy + 1 }
      if c.maxBackoffs ≤ a.busy then completeRf n a.frame 2 s else nextBackoff n a s
    else if rfKeyLost s n a.frame then completeRf n a.frame 1 s
    else if csmaMayStart s n (csmaUs c a.frame) then
      let f := { a.frame with sent := a.frame.sent + 1 }
      let s := rfOnAir n 0 f.payload.length (emit (.frame (16 + n) (rfFrameBytes s n f)) s)
      let c := rfOf s n
      if f.ack then setRf n { c with tx := c.tx + 1, access := none, sent := some f } s
      else completeRf n f 0 (setRf n { c with tx := c.tx + 1 } s)
    else nextBackoff n a s

/-- The levels that decide an access (R291, step 2): those of the LBT listen with LBT = 1, else those of the CCA. -/
def accessLevels (c : RfChannel) (cca listen : List Int) : List Int := if c.lbt = 1 then listen else cca

/-- `RF_BACKOFF_EXPIRY` (R291): levels at RFn_RXI, 0.25 dBm. -/
def execRfBackoffExpiry (ch : Nat) (cca listen : List Int) (s : State) : Host.Outcome State Fault Refusal :=
  within "radio channel" ch 6 (if rfRuns s ch then backoffExpiry ch (accessLevels (rfOf s ch) cca listen) s else s)

/-! ### Event downlinks (R305) -/

/-- The first downlink of a link is complete: the window closes (R305), the frame is taken off its queue, its host told. -/
def endDownlink (n i result : Nat) (s : State) : State :=
  let s := setRf n { rfOf s n with downlink := none, tuned := none } s
  match linkOf (rfOf s n) i with
  | none => s
  | some l =>
    match l.downlinks with
    | [] => s
    | f :: r =>
      let s := setLink n i (some { l with downlinks := r }) s
      let c := rfOf s n
      let s := setRf n { c with
        delivered := if result = 0 then c.delivered + 1 else c.delivered,
        failed := if result = 0 then c.failed else c.failed + 1 } s
      finishHost f.host (rfTxReply s result f.sent) s

/-- Send the first downlink of a link after its anchor's acknowledgement (R305). With EVT_LBT, the listen before it may find
the channel busy, and the downlink waits. -/
def sendDownlink (n i : Nat) (listen : List Int) (s : State) : State :=
  let c := rfOf s n
  match linkOf c i with
  | none => s
  | some l =>
    match l.downlinks with
    | [] => s
    | f :: r =>
      if dataLimited s n || (c.evtLbt == 1 && rfBusy c listen) then s
      else if rfKeyLost s n f then endDownlink n i 1 s
      else
        let f := { f with sent := f.sent + 1 }
        let s := rfOnAir n 1000 f.payload.length (emit (.frame (16 + n) (rfFrameBytes s n f)) s)
        let s := setLink n i (some { l with downlinks := f :: r }) s
        let c := rfOf s n
        let s := setRf n { c with tx := c.tx + 1, downlink := some (i, f) } s
        if f.ack then s else endDownlink n i 0 s

/-- The acknowledgement of the frame on the air arrives: of a downlink, or of a CSMA frame (R293, R305). -/
def rfAcked (n : Nat) (s : State) : State :=
  let c := rfOf s n
  match c.downlink with
  | some (i, _) => endDownlink n i 0 s
  | none =>
    match c.sent with
    | some f => completeRf n f 0 s
    | none => s

/-- `RF_ACK_RECEIVE` (R293). -/
def execRfAckReceive (ch : Nat) (s : State) : Host.Outcome State Fault Refusal :=
  within "radio channel" ch 6 (if rfRuns s ch then rfAcked ch s else s)

/-- No acknowledgement (R293, R305): a downlink waits for the next event, a CSMA frame has a new channel access, until
MAX_RETRIES is used up. -/
def rfNotAcked (n : Nat) (s : State) : State :=
  let c := rfOf s n
  match c.downlink with
  | some (i, f) => if c.maxRetries < f.sent then endDownlink n i 1 s else setRf n { c with downlink := none, tuned := none } s
  | none =>
    match c.sent with
    | some f =>
      if c.maxRetries < f.sent then completeRf n f 1 s
      else nextBackoff n { frame := f, be := c.minBe } (setRf n { c with sent := none } s)
    | none => s

/-- `RF_ACK_TIMEOUT` (R293). -/
def execRfAckTimeout (ch : Nat) (s : State) : Host.Outcome State Fault Refusal :=
  within "radio channel" ch 6 (if rfRuns s ch then rfNotAcked ch s else s)

/-! ### Links: windows and states (R305–R307) -/

/-- Remove a link (R307): its downlinks complete with result 3, the device is unbound, record, notice and vector. -/
def removeLink (n i detail : Nat) (s : State) : State :=
  let c := rfOf s n
  match linkOf c i with
  | none => s
  | some l =>
    let s := noticeRf 0x708 n i (rfLinkRecord n 2 detail i l s)
    let s := setLink n i none s
    let c := rfOf s n
    let s := setRf n { c with
      tuned := if c.tuned = some i then none else c.tuned
      downlink := match c.downlink with
        | some (j, f) => if j = i then none else some (j, f)
        | none => none } s
    let s := match devOf (rfNetOf s c.net) l.eui with
      | some d => putDev c.net l.eui { d with link := none } s
      | none => s
    l.downlinks.foldl (fun s f => finishHost f.host (rfTxReply s 3 f.sent) s) s

/-- Enter RE_ACQUIRE (R307). -/
def enterReAcquire (n i : Nat) (l : Link) (s : State) : State :=
  let l := { l with state := .reAcquire }
  noticeRf 0x707 n i (rfLinkRecord n 5 0 i l (setLink n i (some l) s))

/-- `RF_WINDOW_TUNE` (R305, R306): the receiver goes to the window of a link, or the window is skipped while another window,
an exchange or a transmission holds it. -/
def windowTune (n i : Nat) (s : State) : State :=
  let c := rfOf s n
  match linkOf c i with
  | none => s
  | some l =>
    match l.state with
    | .reAcquire => s
    | _ =>
      if c.tuned.isSome || c.downlink.isSome || c.sent.isSome || rfSending s n then
        setRf n { rfOf (setLink n i (some { l with skipped := l.skipped + 1 }) s) n with skipped := c.skipped + 1 } s
      else setRf n { c with tuned := some i } s

def execRfWindowTune (ch link : Nat) (s : State) : Host.Outcome State Fault Refusal :=
  within "radio channel" ch 6 (if rfRuns s ch then windowTune ch link s else s)

/-- A miss of the current event (R307). -/
def missEvent (n i : Nat) (l : Link) (s : State) : State :=
  match l.state with
  | .synced =>
    let l := { l with misses := min 255 (l.misses + 1) }
    if l.missRv ≤ l.misses then
      let l := { l with state := .seeking }
      rfLinkRecord n 3 0 i l (setLink n i (some l) s)
    else setLink n i (some l) s
  | .seeking => setLink n i (some { l with misses := min 255 (l.misses + 1) }) s
  | .reAcquire => s

/-- The pending update takes effect at its event, also where a re-acquired partner's counter has gone past it (R303). -/
def applyUpdate (l : Link) : Link :=
  match l.update with
  | some u => if (l.e + 2 ^ 32 - u.at_) % 2 ^ 32 < 2 ^ 31 then { l with map := u.map, seed := u.seed, inc := u.inc, update := none } else l
  | none => l

/-- The links of a channel that was away resume in RE_ACQUIRE (R287), their event counters where one step per wake period has taken
them meanwhile (R307). -/
def resumeLinks (n : Nat) (s : State) : State :=
  (linkList (rfOf s n)).foldl (fun s p =>
    let l := p.2
    let e := if l.w = 0 then l.e else (l.eLast + 1 + (nsBetween (rfNow s n) l.aLast).toNat / (l.w * 1000000)) % 2 ^ 32
    let l := if (e + 2 ^ 32 - l.e) % 2 ^ 32 < 2 ^ 31 then { l with e := e, hit := false } else l
    enterReAcquire n p.1 (applyUpdate l) s) s

/-- A window ends (R300, R303, R307): a miss without an acknowledged anchor, the next event, and RE_ACQUIRE where its window
would be too wide. -/
def linkWindowEnd (n i : Nat) (s : State) : State :=
  let c := rfOf s n
  match linkOf c i with
  | none => s
  | some l =>
    let s := if c.tuned = some i then setRf n { c with tuned := none } s else s
    let s := if l.hit then s else missEvent n i l s
    match linkOf (rfOf s n) i with
    | none => s
    | some l =>
      let l := applyUpdate { l with e := (l.e + 1) % 2 ^ 32, hit := false }
      let s := setLink n i (some l) s
      match l.state with
      | .reAcquire => s
      | _ => if tooWide l then enterReAcquire n i l s else s

/-- `RF_WINDOW_END` (R307). -/
def execRfWindowEnd (ch link : Nat) (s : State) : Host.Outcome State Fault Refusal :=
  within "radio channel" ch 6 (if rfRuns s ch then startAccess ch (linkWindowEnd ch link s) else s)

/-- TB(8 + k) has reached a_last plus sup: the link is removed (R307). -/
def supervision (n i : Nat) (s : State) : State :=
  match linkOf (rfOf s n) i with
  | none => s
  | some l => if (l.sup : Int) * 1000000000 ≤ nsBetween (rfNow s n) l.aLast then removeLink n i 1 s else s

/-- `RF_SUPERVISION_TIMEOUT` (R307). -/
def execRfSupervisionTimeout (ch link : Nat) (s : State) : Host.Outcome State Fault Refusal :=
  within "radio channel" ch 6 (if rfRuns s ch then supervision ch link s else s)

/-! ### Duty (R292) -/

/-- One limit reached or left: LINK record event 8 with its detail, or 9, and 0x709. -/
def dutyEvent (n detail : Nat) (was now : Bool) (s : State) : State :=
  if was = now then s else logRf 0x709 n 0xFFFF (rfLinkRecord n (if now then 8 else 9) (if now then detail else 0) 0xFFFF {} s)

/-- The sliding transmit count has reached or left a limit, that of acknowledgements or that of data: the change is reported. -/
def dutyChange (n : Nat) (ack : Bool) (s : State) : State :=
  let c := rfOf s n
  if ack then dutyEvent n 2 c.ackHeld (ackLimited s n) (setRf n { c with ackHeld := ackLimited s n } s)
  else dutyEvent n 1 c.dataHeld (dataLimited s n) (setRf n { c with dataHeld := dataLimited s n } s)

/-- `RF_DUTY_LIMIT_CHANGE` (R292). -/
def execRfDutyLimitChange (ch : Nat) (ack : Bool) (s : State) : Host.Outcome State Fault Refusal :=
  within "radio channel" ch 6 (if rfRuns s ch then dutyChange ch ack s else s)

/-- A device not heard for 86,400 s is removed unless a link holds it (R272, R295). -/
def deviceAgeing (k eui : Nat) (s : State) : State :=
  let net := rfNetOf s k
  match devOf net eui with
  | none => s
  | some d =>
    if d.link.isNone ∧ d.heard + 86400 ≤ tb1Sec s then setRfNet k { net with devices := dropKey net.devices eui } s else s

/-- `RF_DEVICE_AGEING` (R295). -/
def execRfDeviceAgeing (net eui : Nat) (s : State) : Host.Outcome State Fault Refusal :=
  within "radio network" net 2 (if fabricUp s && active s 9 then deviceAgeing net eui s else s)

end Sys2Proof.Machine
end

