-- ==== Sys2Proof/Machine/RadioReceive.lean ====
section
/-! DEFINITION. Receiving a radio frame: security, devices, anchors and what they teach (spec/08_radio.md, R294–R299,
R304, R307). -/

namespace Sys2Proof.Machine

/-- What a frame is to the scheduled link of its sender (R304, R307). -/
inductive Anchor where
  /-- no anchor: an asynchronous frame -/
  | none
  /-- the anchor of link `i`'s current event -/
  | event (i : Nat)
  /-- a frame that re-acquires link `i`, with its counter -/
  | reAcquire (i c : Nat)
  /-- in the window of link `i`, with another counter: dropped -/
  | wrong (i : Nat)
  deriving DecidableEq, Repr

/-- The event counter of a scheduled-link header (R301). -/
def headerCounter (b : Bytes) : Option Nat :=
  if 6 ≤ b.length ∧ fieldU b 0 1 = 1 then some (fieldU b 1 4) else none

/-- o of an anchor: SFD end less pred(e), ns (R304). -/
def anchorOffset (l : Link) (a : Time) : Int := nsBetween a l.aLast - predNs l l.e

/-- Classify a secured frame of a device against its link (R304, R307): an anchor is a data frame to the module with a
scheduled-link header (R301). -/
def classify (s : State) (n : Nat) (d : Device) (f : RfFrame) (bytes : Bytes) : Anchor :=
  match d.link with
  | some (m, i) =>
    if m ≠ n ∨ f.isData = false ∨ f.broadcast = true ∨ headerCounter bytes = none then .none
    else
      match linkOf (rfOf s n) i with
      | none => .none
      | some l =>
        match l.state with
        | .reAcquire =>
          match headerCounter bytes with
          | some c => if f.channel = (rfOf s n).home ∧ l.eLast < c then .reAcquire i c else .none
          | none => .none
        | _ =>
          if (rfOf s n).tuned = some i ∧ f.channel = linkChannel s n l
              ∧ (anchorOffset l f.sfd).natAbs ≤ halfNs l l.e ∧ l.hit = false then
            if headerCounter bytes = some l.e then .event i else .wrong i
          else .none
  | none => .none

/-- Learning from an acknowledged anchor (R304). -/
def learnAnchor (l : Link) (a : Time) (rssi : Int) : Link :=
  let dt : Int := linkDt l l.e
  let o := anchorOffset l a
  let m := l.err + (if dt = 0 then 0 else Int.tdiv (o * 1000000000) dt)
  { l with
    err := l.err + Int.tdiv (m - l.err) (2 ^ l.alpha)
    var := ((l.var : Int) + Int.tdiv (o * o - l.var) (2 ^ l.alpha)).toNat
    aLast := a, eLast := l.e, learned := min 65535 (l.learned + 1), misses := 0, hit := true, rssi := rssi,
    anchors := l.anchors + 1, state := .synced }

/-- The window of a link closes once its anchor and the exchange are complete (R305). -/
def closeWindow (n i : Nat) (s : State) : State :=
  let c := rfOf s n
  if c.downlink = none ∧ c.tuned = some i then setRf n { c with tuned := none } s else s

/-- The link part of the commit: only when the frame is acknowledged. -/
def commitAnchor (n : Nat) (x : Anchor) (f : RfFrame) (s : State) : State :=
  match x with
  | .event i =>
    match linkOf (rfOf s n) i with
    | none => s
    | some l =>
      let t := learnAnchor l f.sfd (antennaDbm (rfOf s n) f.rssi)
      let s := setLink n i (some t) s
      let s := if l.state = .seeking then rfLinkRecord n 4 0 i t s else s
      closeWindow n i (sendDownlink n i f.listen s)
  | .reAcquire i c =>
    match linkOf (rfOf s n) i with
    | none => s
    | some l =>
      let t := applyUpdate { l with
        e := c, eLast := c, aLast := f.sfd, misses := 0, state := .synced, rssi := antennaDbm (rfOf s n) f.rssi, anchors := l.anchors + 1, hit := true }
      noticeRf 0x707 n i (rfLinkRecord n 6 0 i t (setLink n i (some t) s))
  | .none => s
  | .wrong _ => s

/-- The link index, event and offset that a descriptor reports (R296). -/
def anchorMeta (s : State) (n : Nat) (x : Anchor) (f : RfFrame) : Nat × Nat × Int :=
  match x with
  | .event i =>
    match linkOf (rfOf s n) i with
    | some l => (i, l.e, anchorOffset l f.sfd)
    | none => (0xFFFF, 0, 0)
  | .reAcquire i c => (i, c, 0)
  | .none => (0xFFFF, 0, 0)
  | .wrong _ => (0xFFFF, 0, 0)

/-- The descriptor of a frame delivered to the ingress queues (R296, R315). RX_TB0 is TB0 at the row's instant, less the time
that TB(8 + k) has run since the SFD. -/
def rfDesc (s : State) (n : Nat) (eui : Nat) (x : Anchor) (f : RfFrame) (bytes : Bytes) : IngDesc :=
  let k := (rfOf s n).net
  let (i, e, o) := anchorMeta s n x f
  let info := le8 f.channel ++ le8 ((rfOf s n).phy + 16 * f.phyRate) ++ leInt 1 (antennaDbm (rfOf s n) f.rssi) ++ le8 f.lqi ++ le16 i ++ le32 e
    ++ leInt 4 o ++ le16 f.source
  keyed { port := 0x30 + n, network := k, rxTb0 := tbVal s 0 - (rfNow s n - f.sfd), untrusted := timeUntrusted s, rxNet := f.sfd, srcMeta := info,
          srcAddr := eui, bytes := bytes } eui

/-- The key that a frame names under the settings of R298: none with the code 0x706 (`true`), or silently where its key slot is empty
(`false`, R254). -/
def rfOpenKey (s : State) (n : Nat) (d : Device) (f : RfFrame) : Except Bool Bytes :=
  let c := rfOf s n
  if f.keyIdMode = 0 then
    match d.link with
    | some (m, i) =>
      match linkOf c i with
      | some l => if m = n ∧ l.keySlot ≠ 0xFF then (match linkKey s l with
        | some k => .ok k
        | none => .error false) else .error true
      | none => .error true
    | none => .error true
  else if f.keyIdMode = 1 ∧ (f.keyIndex = 1 ∨ f.keyIndex = 2) then
    match rfKey s c.net f.keyIndex with
    | some k => .ok k
    | none => .error false
  else .error true

/-- The key slot that a secured frame names is empty: the frame is discarded before anything acknowledges it (R254, R299). -/
def rfKeyEmpty (s : State) (n : Nat) (d : Device) (f : RfFrame) : Bool :=
  f.securityLevel != 0 && match rfOpenKey s n d f with
    | .error false => true
    | _ => false

/-- The plaintext of a frame (R298). -/
def openRf (s : State) (n eui : Nat) (d : Device) (f : RfFrame) : Except Bool Bytes :=
  if f.securityLevel = 4 ∨ 7 < f.securityLevel then .error true
  else
    match rfOpenKey s n d f with
    | .error e => .error e
    | .ok k =>
      match Config.ccmOpen k (le64 eui ++ le32 f.counter ++ le8 f.securityLevel) f.payload f.mic with
      | some b => .ok b
      | none => .error true

/-- The stored counter of a frame's key, and its update (R299). -/
def devCounter (d : Device) (f : RfFrame) : Nat :=
  if f.keyIdMode = 0 then d.c0 else if f.keyIndex = 1 then d.c1 else d.c2
def setDevCounter (d : Device) (f : RfFrame) : Device :=
  if f.keyIdMode = 0 then { d with c0 := f.counter }
  else if f.keyIndex = 1 then { d with c1 := f.counter } else { d with c2 := f.counter }

/-- The device heard least recently that no link holds. -/
def displaceableDev (net : RfNet) : Option Nat :=
  (net.devices.foldl (fun (b : Option (Nat × Device)) p =>
    if p.2.link.isSome then b
    else
      match b with
      | some q => if p.2.heard < q.2.heard then some p else b
      | none => some p) none).map (·.1)

/-- Find or create a device entry (R295); nothing where the table is full of bound entries. -/
def ensureDev (k eui short : Nat) (s : State) : Option State :=
  let net := rfNetOf s k
  match devOf net eui with
  | some _ => some s
  | none =>
    let d : Device := { short := short, heard := tb1Sec s }
    if net.devices.length < 65536 then some (putDev k eui d s)
    else
      match displaceableDev net with
      | some x => some (putDev k eui d (setRfNet k { net with devices := dropKey net.devices x } s))
      | none => none

/-- What identifies a frame in the dedupe window of a device. -/
def rfDedupe (f : RfFrame) (at_ : Time) : Dedupe :=
  { seq := f.seq, secured := f.securityLevel != 0, counter := f.counter, check := if f.securityLevel ≠ 0 then f.mic else f.fcs,
    at_ := at_ }

/-- The acknowledgement of a frame: with the frame pending bit (256) for an anchor whose partner has a downlink waiting, and
the Enh-Ack mark (512). -/
def sendRfAck (n : Nat) (pending : Bool) (f : RfFrame) (s : State) : State :=
  let c := rfOf s n
  rfOnAir n 1000 0
    (emit (.linkAck (16 + n) (f.seq + 256 * b2n pending + 512 * b2n (f.version == 2))) (setRf n { c with acked := c.acked + 1 } s))

/-- The partner of a link has a downlink waiting. -/
def downlinkWaits (s : State) (n : Nat) (x : Anchor) : Bool :=
  match x with
  | .event i => (match linkOf (rfOf s n) i with
    | some l => !l.downlinks.isEmpty
    | none => false)
  | _ => false

/-- Acknowledge, when the frame asks for it and the duty limit allows it; 0x70C when it is not sent. The link learns only from
an acknowledged anchor. -/
def ackRf (n : Nat) (x : Anchor) (f : RfFrame) (s : State) : State :=
  if f.ackRequested = false then s
  else if ackLimited s n then logRf 0x70C n 0xFFFF s
  else commitAnchor n x f (sendRfAck n (downlinkWaits s n x) f s)

/-- Place a frame (R294, steps 8 and 9): data to ingest, everything else to the Nulvo queue. -/
def placeRf (n eui : Nat) (x : Anchor) (f : RfFrame) (bytes : Bytes) (s : State) : Option State :=
  let body := match x with
    | .event _ => bytes.drop 6
    | .reAcquire _ _ => bytes.drop 6
    | _ => bytes
  if f.securityLevel = 0 ∨ f.isData = false ∨ f.broadcast = true then some (toNulvo (0x30 + n) body s)
  else if nulvoFrame s (0x30 + n) f.udpPort body.length then some (toNulvo (0x30 + n) body s)
  else placeLink (rfDesc s n eui x f body) s

/-- Commit and acknowledge (R294, step 10). -/
def commitRf (n eui : Nat) (x : Anchor) (f : RfFrame) (s : State) : State :=
  let k := (rfOf s n).net
  let s := match devOf (rfNetOf s k) eui with
    | some d =>
      let d := { d with
        window := (rfDedupe f (tbVal s 1) :: d.window).take 4, heard := tb1Sec s,
        short := if f.source = 0xFFFF then d.short else f.source }
      putDev k eui (if f.securityLevel = 0 then d else setDevCounter d f) s
    | none => s
  ackRf n x f s

/-- Steps 7 to 10 for a frame whose plaintext is known. -/
def acceptRf (n eui : Nat) (x : Anchor) (f : RfFrame) (bytes : Bytes) (s : State) : State :=
  match ensureDev (rfOf s n).net eui f.source s with
  | none =>
    let c := rfOf s n
    rfLinkRecord n 7 0 0xFFFF {} (noticeRf 0x703 n 0xFFFF (setRf n { c with devFull := c.devFull + 1 } s))
  | some s1 =>
    match placeRf n eui x f bytes s1 with
    | none => s
    | some s2 => commitRf n eui x f s2

/-- Steps 4 to 10 for a frame to the module or broadcast, whose sender has an EUI-64. -/
def checkRf (n eui : Nat) (f : RfFrame) (s : State) : State :=
  let c := rfOf s n
  let d := (devOf (rfNetOf s c.net) eui).getD {}
  if rfKeyEmpty s n d f then s
  else if repeats s d.window (rfDedupe f (tbVal s 1)) then
    let s := setRf n { c with dup := c.dup + 1 } s
    ackRf n .none f s
  else if f.securityLevel = 0 then acceptRf n eui .none f f.payload s
  else
    match openRf s n eui d f with
    | .error true => logRf 0x706 n 0xFFFF (setRf n { c with secfail := c.secfail + 1 } s)
    | .error false => s
    | .ok bytes =>
      if f.counter ≤ devCounter d f then noticeRf 0x705 n 0xFFFF (setRf n { c with replay := c.replay + 1 } s)
      else
        match classify s n d f bytes with
        | .wrong i => logRf 0x70A n i s
        | x => acceptRf n eui x f bytes s

/-- Receive a radio frame (R294). -/
def receiveRf (n : Nat) (f : RfFrame) (s : State) : State :=
  let c := rfOf s n
  let net := rfNetOf s c.net
  if f.fcsOk = false ∨ f.pan ≠ net.pan then s
  else
    let s := setRf n { c with rx := c.rx + 1 } s
    if f.broadcast = false ∧ f.dest ≠ net.short then toNulvo (0x30 + n) f.payload s
    else
      match senderEui net f with
      | none => s
      | some eui => checkRf n eui f s

/-- `RF_FRAME_RECEIVE` (R294). -/
def execRfFrameReceive (ch : Nat) (f : RfFrame) (s : State) : Host.Outcome State Fault Refusal :=
  within "radio channel" ch 6 (if rfRuns s ch && active s 9 then receiveRf ch f s else s)

end Sys2Proof.Machine
end

