-- ==== Sys2Proof/Machine/Reply.lean ====
section
/-! DEFINITION. The reply engine: acknowledgements after delivery (spec/09_ingest_pipelines.md, R347–R350, R354). -/

namespace Sys2Proof.Machine

/-- The module's own system title: ID_UID bytes 0–7 (assumption log 24). -/
def ownTitle : Bytes := uidBytes.take 8

/-- An envelope header with its CRC (R352). -/
def envelopeHeader (s : State) (type seq frames len : Nat) : Bytes :=
  let body := le16 0x4458 ++ le8 1 ++ le8 type ++ ownTitle ++ le32 seq ++ le16 frames ++ le16 len ++ le72 (tbVal s 0)
    ++ le8 (b2n (!(tb s 0).valid))
  body ++ leBytes 2 (crc16 body).toNat

/-! ### Serial meter buses (R314, R513) -/

def smbOf (s : State) (n : Nat) : Smb := look {} s.ingest.smbs n
def setSmb (n : Nat) (b : Smb) (s : State) : State := { s with ingest := { s.ingest with smbs := put {} s.ingest.smbs n b } }

/-- SMBn_CD by the bus mode (R513): an output, high while an RS-485 bus sends; an input in M-Bus mode, where the module leaves it to the
carrier; low in mode off, and while PD7 does not drive it (R515). -/
def smbCdHigh (s : State) (n : Nat) (sends : Bool) : Bool := active s 7 && (smbOf s n).mode == 1 && sends

/-- Bit times for which the driver is enabled (R513): one before, the characters of 8N1 or 8E1, one after (R314). -/
def enableBits (x : Smb) (bytes : Nat) : Nat := bytes * (if x.parity = 0 then 10 else 11) + 2

/-- A request goes out on a bus: with the driver enabled around it on an RS-485 bus. -/
def smbSend (n : Nat) (b : Bytes) (s : State) : State :=
  let x := smbOf s n
  emit (.frame (48 + n) b) (if x.mode = 1 then emit (.driverEnable n (enableBits x b.length)) s else s)

/-- The port of an acknowledgement can send: its domain is on and its unit is not fenced (R484). -/
def ackPortUp (s : State) (p : Nat) : Bool :=
  if 0x40 ≤ p then active s 7 && !isFenced s (93 + (p - 0x40))
  else if 0x30 ≤ p then active s 9 && !isFenced s (119 + (p - 0x30))
  else if 0x20 ≤ p then active s 8 && !isFenced s (103 + (p - 0x20))
  else active s 7 && !isFenced s (99 + (p - 0x10)) && (smbOf s (p - 0x10)).mode != 0

/-- Queue the stored acknowledgement of an entry on its port (R348): the reply queue of a powerline or radio channel, a serial
bus, or an ACK envelope. A frame that the queue cannot take is not sent. -/
def queueAck (e : ReplyEntry) (s : State) : State :=
  let p := e.port
  if 0x40 ≤ p then if ackPortUp s p then emit (.frame (32 + (p - 0x40)) e.bytes) s else s
  else if !ackPortUp s p then s
  else if 0x30 ≤ p then
    let n := p - 0x30
    let f : RfTxFrame :=
      { eui := if 65536 ≤ e.addr then e.addr else 0, short := e.addr % 65536, payload := e.bytes,
        secure := (rfKey s (rfOf s n).net 1).isSome, queue := 2 }
    match enqueueRf n f s with
    | some s' => s'
    | none => s
  else if 0x20 ≤ p then
    let k := (plOf s (p - 0x20)).net
    match nextHop s k (e.addr % 65536) with
    | some h =>
      let f : PlTx := { dest := e.addr % 65536, payload := e.bytes, hopsLeft := Config.plHops,
                        secure := (plKeyIndex s k).isSome, queue := 0 }
      match routePl h f s with
      | some s' => s'
      | none => s
    | none => s
  else smbSend (p - 0x10) e.bytes s

/-- Send the acknowledgement of an entry: it is queued and the entry moves to SENT. -/
def sendReply (i : Nat) (s : State) : State :=
  match replyOf s i with
  | none => s
  | some e =>
    let e := match e.key with
      | .envelope _ seq => { e with bytes := envelopeHeader s 2 seq 0 0 }
      | _ => e
    let s := queueAck e s
    let s := setReply i (some { e with sent := true, order := s.ingest.sentCtr }) s
    { s with ingest := { s.ingest with sentCtr := s.ingest.sentCtr + 1 } }

/-- The entry answers once nothing of it is still in the pipelines and every record is delivered. -/
def settleReply (i : Nat) (s : State) : State :=
  match replyOf s i with
  | none => s
  | some e => if e.sent = false ∧ e.open_ = 0 ∧ e.records = 0 then sendReply i s else s

/-- A frame's records have been written, `n` of them: the entry of the frame, or of its envelope, waits for their delivery. -/
def replyWritten (i n : Nat) (s : State) : State :=
  match replyOf s i with
  | none => s
  | some e => settleReply i (setReply i (some { e with records := e.records + n, open_ := e.open_ - 1 }) s)

/-- Free an entry (R350). -/
def freeReply (i : Option Nat) (s : State) : State :=
  match i with
  | some k => setReply k none s
  | none => s

/-- A record of an entry has been delivered (R347). -/
def recordDone (i : Nat) (s : State) : State :=
  match replyOf s i with
  | none => s
  | some e => settleReply i (setReply i (some { e with records := e.records - 1 }) s)

/-- `RECORD_DELIVERED` (R347, R348): a delivered record of queue `hq` is counted off; with the last one the acknowledgement is
queued. -/
def recordDelivered (hq seq : Nat) (s : State) : State :=
  match s.host.delivered.find? fun x => x.1 == hq && x.2.1 == seq with
  | none => s
  | some x => recordDone x.2.2 { s with host := { s.host with delivered := s.host.delivered.filter fun y => y != x } }

def execRecordDelivered (hq seq : Nat) (s : State) : Host.Outcome State Fault Refusal :=
  within "harvest queue" hq 128 (if fabricUp s then recordDelivered hq seq s else s)

/-- `REPLY_ENTRY_EXPIRY` (R348): a SENT entry is freed after 600 s. -/
def replyExpiry (i : Nat) (s : State) : State :=
  match replyOf s i with
  | some e => if e.sent then setReply i none s else s
  | none => s

def execReplyEntryExpiry (entry : Nat) (s : State) : Host.Outcome State Fault Refusal :=
  .next (if fabricUp s then replyExpiry entry s else s)

end Sys2Proof.Machine
end

