-- ==== Sys2Proof/Machine/Ingest.lean ====
section
/-! DEFINITION. Pipelines up to the LANE stage: admission and reservation, junction lookup, directory, context, the checks
before any lane operation; and how a frame ends: its records, its discard (spec/09_ingest_pipelines.md, R321–R346;
spec/10_frame_security.md, R369, R371). -/

namespace Sys2Proof.Machine

/-! ### Contexts (R338) -/

def ctxOf (s : State) (i : Nat) : Ctx := look {} s.ingest.ctxs i
def setCtx (i : Nat) (c : Ctx) (s : State) : State :=
  { s with ingest := { s.ingest with ctxs := put {} s.ingest.ctxs i c } }

def ctxTitle (c : Ctx) : Nat := beNat (fieldB c.line0 0 8)
def ctxGen (c : Ctx) : Nat := fieldU c.line0 8 1
def ctxFlags (c : Ctx) : Nat := fieldU c.line0 9 1
def ctxValid (c : Ctx) : Bool := bitOf (ctxFlags c) 0
def ctxSuspended (c : Ctx) : Bool := bitOf (ctxFlags c) 1
def ctxLocal (c : Ctx) : Bool := bitOf (ctxFlags c) 2
def ctxUplink (c : Ctx) : Bool := bitOf (ctxFlags c) 3
def ctxWrapEk (c : Ctx) : Bytes := fieldB c.line0 16 24
def ctxWrapAk (c : Ctx) : Bytes := fieldB c.line0 40 24
/-- A field of line 3, by its byte number in the context. -/
def ctx3 (c : Ctx) (off n : Nat) : Nat := fieldU c.line3 (off - 192) n
def ctxSuite (c : Ctx) : Nat := ctx3 c 192 1
def ctxOmk (c : Ctx) : Nat := ctx3 c 193 1
def ctxKeyGen (c : Ctx) : Nat := ctx3 c 194 1
def ctxKeyMode (c : Ctx) : Nat := ctx3 c 195 1
def ctxOpTag (c : Ctx) : Nat := ctx3 c 196 2
def ctxAckTemplate (c : Ctx) : Nat := ctx3 c 198 1
def ctxParse (c : Ctx) : Nat := ctx3 c 199 1
def ctxGroup (c : Ctx) : Nat := ctx3 c 200 4

/-- VSTATE VFLAGS (R393). -/
def vflagsByte (c : Ctx) : Nat := ofBits [c.eValid, c.uValid, c.deltaValid, c.zeroOn, c.flatOn]

/-- The 256 bytes of a context (R338, R377, R393). -/
def ctxBytes (c : Ctx) : Bytes :=
  padTo 64 c.line0 ++ le32 c.seq1 ++ le32 c.frames ++ le16 c.dups ++ le16 c.replays ++ le32 c.lastRx ++ le32 c.ackIc
    ++ le32 c.icTop ++ le64 c.window.toNat ++ leBytes 32 c.fp.toNat
    ++ padTo 64 (le32 c.seq2 ++ leInt 9 c.eLast ++ leBytes 5 c.tLast ++ le32 c.eIc ++ leInt 4 c.delta ++ le32 c.rate
      ++ le32 c.zeroRun ++ le32 c.uLast ++ le8 c.flatCnt ++ le8 (vflagsByte c) ++ le16 c.wraps ++ le16 c.spikes ++ le16 c.gaps)
    ++ padTo 64 c.line3

/-! ### Junction entries (R330) -/

/-- Even parity over 15 bits: 1 when their sum is odd. -/
def parity15 (v : Nat) : Nat := popCount 15 v % 2

/-- The PAR field over bits 119:0. -/
def jtPar (v : Nat) : Nat := ofBits ((List.range 8).map fun k => parity15 (v / 2 ^ (15 * k) % 2 ^ 15) == 1)

def jtJoin (body : Nat) : BitVec 128 := BitVec.ofNat 128 (body % 2 ^ 120 + 2 ^ 120 * jtPar (body % 2 ^ 120))
def jtEntry (title ctx gen age : Nat) : BitVec 128 :=
  jtJoin (title % 2 ^ 64 + 2 ^ 64 * (ctx % 2 ^ 21) + 2 ^ 85 * (gen % 256) + 2 ^ 93 * (age % 256) + 2 ^ 101)
def jtTitle (e : BitVec 128) : Nat := e.toNat % 2 ^ 64
def jtCtx (e : BitVec 128) : Nat := e.toNat / 2 ^ 64 % 2 ^ 21
def jtGen (e : BitVec 128) : Nat := e.toNat / 2 ^ 85 % 256
def jtAge (e : BitVec 128) : Nat := e.toNat / 2 ^ 93 % 256
def jtValid (e : BitVec 128) : Bool := e.getLsbD 101
def jtParityOk (e : BitVec 128) : Bool := jtPar (e.toNat % 2 ^ 120) == e.toNat / 2 ^ 120

/-- Index of a slot in the junction tables. -/
def jtIndex (fip bucket slot : Nat) : Nat := 32768 * fip + 4 * bucket + slot
def jtAt (s : State) (i : Nat) : BitVec 128 := look 0 s.ingest.junction i
def setJt (i : Nat) (e : BitVec 128) (s : State) : State :=
  { s with ingest := { s.ingest with junction := put 0 s.ingest.junction i e } }

/-- The slots of a bucket. -/
def bucketSlots (fip b : Nat) : List Nat := [0, 1, 2, 3].map (jtIndex fip b)

/-- now8 (R333). -/
def now8 (s : State) : Nat := tb1Sec s / 16 % 256

/-! ### Records of a pipeline's events (R359, R496) -/

/-- The defaults of the 0x8xx subject: context index, ingest sequence number, port code. -/
def logIng (code n tag : Nat) (fl : Flight) (s : State) : State :=
  logEv code (8 + n) tag [snapN fl.ctx, snapN fl.seq, snapN fl.desc.port] s

/-- A parity error (R335, R480): the slot is cleared; 0x802; more than 64 of one table within 1 s are an F2 of the pipeline. -/
def parityError (n i : Nat) (s : State) : State :=
  let s := setJt i 0 s
  let f := fipOf s n
  let times := tb1Us s :: (f.parityTimes.filter fun t => decide (tb1Us s < t + 1000000))
  let s := setFip n { f with jtParity := f.jtParity + 1, parityTimes := times } s
  let s := countedFault (8 + n) 0x802 1 0xFFFF [0, 0, 0] s
  if times.length = 65 then raiseFault (8 + n) 0x803 2 0xFFFF [0, 0, 0] s else s

/-- Check the parity of the slots of a bucket and clear the bad ones. -/
def checkBucket (n b : Nat) (s : State) : State :=
  (bucketSlots n b).foldl (fun s i => if jtParityOk (jtAt s i) then s else parityError n i s) s

/-! ### In-flight frames -/

def flightOf (s : State) (n tag : Nat) : Option Flight := (fipOf s n).flights.find? fun f => f.tag == tag
def setFlight (n : Nat) (fl : Flight) (s : State) : State :=
  let f := fipOf s n
  setFip n { f with flights := f.flights.map fun x => if x.tag = fl.tag then fl else x } s
def dropFlight (n tag : Nat) (s : State) : State :=
  let f := fipOf s n
  setFip n { f with flights := f.flights.filter fun x => x.tag != tag } s

def placeCode : Place → Nat
  | .panA => 0
  | .panB => 1
  | .pond => 2
def placeOf (c : Nat) : Place := if c = 0 then .panA else if c = 1 then .panB else .pond

/-- Parts of a ciphered frame (R369): bytes after the system title and the A-XDR length. -/
def axdr (b : Bytes) : Option (Nat × Bytes) :=
  let l := fieldU b 10 1
  if l < 0x80 then some (l, b.drop 11)
  else if l = 0x81 then some (fieldU b 11 1, b.drop 12)
  else if l = 0x82 then some (beNat (fieldB b 11 2), b.drop 13)
  else none

/-- SC, IC, ciphertext and tag of a frame. -/
def bodyOf (b : Bytes) : Bytes := match axdr b with
  | some (_, r) => r
  | none => []
def scOf (b : Bytes) : Nat := fieldU (bodyOf b) 0 1
def icOf (b : Bytes) : Nat := beNat (fieldB (bodyOf b) 1 4)
def cipherOf (b : Bytes) : Bytes := let r := bodyOf b; (r.drop 5).take (r.length - 17)
def tagOf (b : Bytes) : Bytes := let r := bodyOf b; r.drop (r.length - 12)
def dedicated (b : Bytes) : Bool := fieldU b 0 1 == 0xDC

/-- The SC values that R369 accepts. -/
def scOk (sc : Nat) : Bool := decide (sc % 16 ≤ 1) && bitOf sc 4 && !bitOf sc 6 && !bitOf sc 7

/-- The session slot of kind 3 bound to a context (R374). -/
def dedicatedSlot (s : State) (ctx : Nat) : Option SessSlot :=
  match s.lanes.sessions.find? fun p => p.2.kind == 3 && p.2.owner % 2 ^ 21 == ctx with
  | some p => some p.2
  | none => none

/-- The checks made before any lane operation (R371): detail 3 to 7 of cause 2. A frame too short for SC is detail 7. -/
def preCheck (s : State) (ctx : Nat) (b : Bytes) : Option Nat :=
  let c := ctxOf s ctx
  match axdr b with
  | none => some 7
  | some (l, r) =>
    if r = [] then some 7
    else if !scOk (scOf b) then some 3
    else if scOf b % 16 ≠ ctxSuite c then some 4
    else if dedicated b && (dedicatedSlot s ctx).isNone then some 5
    else if (omkOf s (ctxOmk c)).current.isNone then some 6
    else if l ≠ r.length ∨ r.length < 17 then some 7
    else none

/-! ### Records (R341–R346) -/

/-- The header of a record of a frame. -/
def frameHeader (fl : Flight) (type hflags vflags : Nat) (hasCtx : Bool) : RecHeader :=
  { type := type, flags := hflags, ctx := if hasCtx then fl.ctx else 0, noContext := !hasCtx, seq := fl.seq,
    vflags := vflags + 16 * b2n fl.desc.untrusted, tb0 := fl.desc.rxTb0, port := fl.desc.port,
    counter := if hasCtx then icOf fl.desc.bytes else 0 }

/-- ENVELOPE and ACK_DUE of a frame's records. -/
def frameFlags (fl : Flight) (ackDue : Bool) : Nat :=
  b2n (decide (0x40 ≤ fl.desc.port ∧ fl.desc.port < 0x50)) + 4 * b2n (ackDue || fl.desc.env.isSome)

/-- A RAW payload (R346). -/
def rawPayload (d : IngDesc) : Bytes :=
  le16 d.bytes.length ++ [0, 0] ++ le72 d.rxTb0 ++ le72 d.rxNet ++ fieldB (padTo 16 d.srcMeta) 0 10 ++ d.bytes

/-- An ALARM payload (R346). -/
def alarmPayload (cause detail icTop : Nat) (b : Bytes) : Bytes :=
  le8 cause ++ le8 detail ++ [0, 0] ++ padTo 4 (tagOf b) ++ le32 icTop ++ List.replicate 12 0

/-- Write the records of a frame into their reservation, and release what they do not use (R324). -/
def writeRecords (q : Nat) (pl : Place) (k : Nat) (entry : Option Nat) : List Bytes → State → State
  | [], s => release q pl k s
  | [b], s => writePacket q pl k b entry s
  | b :: r, s =>
    let c := cellsOf b.length
    writeRecords q pl (k - c) entry r (writePacket q pl c b entry s)

/-- The reply-store entry that a frame's records settle: its own, or its envelope's. -/
def settles (fl : Flight) : Option Nat := match fl.entry with
  | some e => some e
  | none => fl.desc.env

/-- Tell the host of an ING_SUBMIT (R358). -/
def tellHost (fl : Flight) (rep : Reply) (s : State) : State := finishHost fl.desc.host rep s

/-- A frame is complete (R324, R343): its records go to HQ, its RAW copy to UHQ, the reservations are released, its reply-store
entry waits for delivery or is released, and an ING_SUBMIT completes with the row of R343. -/
def finishFrame (n : Nat) (fl : Flight) (records uplink : List Bytes) (acked : Bool) (outcome : Nat) (s : State) : State :=
  let entry := if acked || fl.entry.isNone then settles fl else none
  let s := writeRecords fl.hq (placeOf fl.place) fl.cells entry records s
  let s := match fl.up with
    | some (q, k, pl) => writeRecords q (placeOf pl) k entry uplink s
    | none => s
  let copies := match fl.up with
    | some _ => uplink.length
    | none => 0
  let s := match entry with
    | some e => replyWritten e (records.length + copies) s
    | none => freeReply fl.entry s
  let f := fipOf s n
  let s := dropFlight n fl.tag (setFip n { f with completed := f.completed + 1 } s)
  tellHost fl { payload := le32 fl.seq ++ le8 outcome } s

/-- A frame is discarded (R328, R350): no record, reservations released, its reply-store entry and its envelope's freed; an
ING_SUBMIT completes with the status given, or waits for the FENCE of a unit. -/
def discardFrame (n : Nat) (fl : Flight) (st : Status) (s : State) : State :=
  let s := release fl.hq (placeOf fl.place) fl.cells s
  let s := match fl.up with
    | some (q, k, pl) => release q (placeOf pl) k s
    | none => s
  let s := freeReply fl.desc.env (freeReply fl.entry s)
  let f := fipOf s n
  let s := dropFlight n fl.tag (setFip n { f with discarded := f.discarded + 1 } s)
  if st = .fenced then s else tellHost fl (fail st) s

/-- A frame without a usable context yields RAW (R343). -/
def finishRaw (n : Nat) (fl : Flight) (hasCtx : Bool) (s : State) : State :=
  let f := fipOf s n
  let s := setFip n { f with noContext := f.noContext + 1 } s
  let s := logIng 0x80B n fl.tag fl s
  let b := harvestRecord (frameHeader fl 9 (frameFlags fl false) 0 hasCtx) (rawPayload fl.desc)
  finishFrame n fl [b] (if f.uplinkUnknown = 1 then [b] else []) false 6 s

/-- A frame that yields only an ALARM (R343). -/
def finishAlarm (n : Nat) (fl : Flight) (cause detail vflags outcome : Nat) (s : State) : State :=
  let b := harvestRecord (frameHeader fl 4 (frameFlags fl false) vflags true)
    (alarmPayload cause detail (ctxOf s fl.ctx).icTop fl.desc.bytes)
  finishFrame n fl [b] [] false outcome s

/-- The defaults of the 0x9xx subject for a lane's events: generation, operations discarded, life-cycle state; the unit is the
lane, or none before any lane operation. -/
def logLane (code : Nat) (lane : Option Nat) (obj gen discarded : Nat) (named : List Time) (s : State) : State :=
  logEv code (match lane with
    | some l => 24 + l
    | none => 0xFFFF) obj (named ++ [snapN gen, snapN discarded, snapN (lcCode (lcState s))]) s

/-- Authentication has failed (R343, R371). -/
def authFailed (n : Nat) (fl : Flight) (detail : Nat) (lane : Option Nat) (s : State) : State :=
  let f := fipOf s n
  let s := setFip n { f with authFail := f.authFail + 1 } s
  let c := ctxOf s fl.ctx
  let s := logLane 0x928 lane (ctxOmk c) (omkOf s (ctxOmk c)).gen 0 [snapN detail] s
  finishAlarm n fl 2 detail 0 4 s

/-! ### Lane queue (R365) -/

def laneQueue (s : State) (n : Nat) : List LaneReq := look [] s.lanes.queues n
def setLaneQueue (n : Nat) (q : List LaneReq) (s : State) : State :=
  { s with lanes := { s.lanes with queues := put [] s.lanes.queues n q } }

/-- A lane queue without its head (R365): the operation that its LANE stage held behind 24 others enters now, and its wait starts. -/
def dequeue (s : State) (q : List LaneReq) : List LaneReq :=
  match q.drop 23 with
  | x :: r => q.take 23 ++ { x with since := tbVal s 1 } :: r
  | [] => q

/-- Queue a lane operation of a frame. -/
def queueLane (n : Nat) (k : LaneKind) (tag : Nat) (inst : Option Nat) (s : State) : State :=
  setLaneQueue n (laneQueue s n ++ [{ kind := k, tag := tag, inst := inst, since := tbVal s 1 }]) s

/-! ### Lookup (R331, R334, R336) -/

/-- The context passes the check of the CONTEXT stage. -/
def ctxPasses (s : State) (ctx gen key : Nat) : Bool :=
  let c := ctxOf s ctx
  ctxValid c && ctxTitle c == key && ctxGen c == gen

/-- The junction slot that hits a key. -/
def junctionHit (s : State) (n key : Nat) : Option Nat :=
  (bucketSlots n (hashH0 key) ++ bucketSlots n (hashH1 key)).find? fun i =>
    jtValid (jtAt s i) && jtTitle (jtAt s i) == key

/-- The directory entry of a slot, where it is VALID. -/
def dirSlot (s : State) (i : Nat) : Option DirEntry := look none s.ingest.directory i

def setDir (i : Nat) (e : Option DirEntry) (s : State) : State :=
  { s with ingest := { s.ingest with directory := put none s.ingest.directory i e } }

/-- The directory entry that holds a title: bucket d0, then d1 (R336). -/
def dirFind (s : State) (key : Nat) : Option (Nat × DirEntry) :=
  let at_ (b : Nat) : Option (Nat × DirEntry) :=
    ([0, 1, 2, 3].map fun k => 4 * b + k).findSome? fun i =>
      match dirSlot s i with
      | some e => if e.title = key then some (i, e) else none
      | none => none
  match at_ (hashD0 key) with
  | some x => some x
  | none => at_ (hashD1 key)

/-- Enter a title into the learn queue (R332); skipped and counted when it is full. -/
def learnLater (n key ctx gen : Nat) (s : State) : State :=
  let f := fipOf s n
  if f.learn.length < 16 then setFip n { f with learn := f.learn ++ [(key, ctx, gen)] } s
  else setFip n { f with learnSkipped := f.learnSkipped + 1 } s

/-- Stage DIRECTORY after a junction miss. -/
def viaDirectory (n key : Nat) (s : State) : Option Nat × State :=
  match dirFind s key with
  | some (_, e) =>
    if ctxPasses s e.ctx e.gen key then (some e.ctx, learnLater n key e.ctx e.gen s) else (none, s)
  | none => (none, s)

/-- Stages JUNCTION, DIRECTORY and CONTEXT: the context of a key. A hit sets AGE; a stale entry is cleared and the frame goes on
as a miss. -/
def findContext (n key : Nat) (s : State) : Option Nat × State :=
  let s := checkBucket n (hashH1 key) (checkBucket n (hashH0 key) s)
  match junctionHit s n key with
  | some i =>
    let e := jtAt s i
    if ctxPasses s (jtCtx e) (jtGen e) key then
      (some (jtCtx e), setJt i (jtEntry (jtTitle e) (jtCtx e) (jtGen e) (now8 s)) s)
    else viaDirectory n key (setJt i 0 s)
  | none => viaDirectory n key s

/-- Stages PARSE to CONTEXT of an admitted frame, up to the LANE stage. -/
def enterStages (n : Nat) (fl : Flight) (s : State) : State :=
  if fl.desc.kind = 1 then finishRaw n fl false s
  else
    match findContext n fl.desc.key s with
    | (none, s) => finishRaw n fl false s
    | (some i, s) =>
      let c := ctxOf s i
      let fl := { fl with ctx := i, seen := c }
      let s := setFlight n fl s
      let s := match fl.entry with
        | some e => (match replyOf s e with
          | some x => setReply e (some { x with key := .frame i (icOf fl.desc.bytes) }) s
          | none => s)
        | none => s
      if ctxSuspended c then finishAlarm n fl 3 0 0 5 s
      else
        match preCheck s i fl.desc.bytes with
        | some d => authFailed n fl d none s
        | none => queueLane n .verify fl.tag none s

/-! ### Admission (R321–R325) -/

/-- Cells of a frame's reservations (R322). -/
def mainCells (len : Nat) : Nat := min 128 ((64 + 6 * len + 55) / 56 + 1)
def uplinkCells (len : Nat) : Nat := min 128 ((64 + len + 55) / 56)

/-- Admission closes on a credit (R325): V235 and 0x801 when it is pond credit, 0x807 when it is the reply store. -/
def closeAdmission (n : Nat) (c : Credit) (fl : Flight) (s : State) : State :=
  let s := setFip n { fipOf s n with closed := some c } s
  match c with
  | .cells _ _ pond => if pond then logIng 0x801 n 0xFFFF fl (raiseV 235 s) else s
  | .reply =>
    if s.ingest.replyHeld then s
    else logEv 0x807 7 0xFFFF [0, 0, snapN fl.desc.port] { s with ingest := { s.ingest with replyHeld := true } }

/-- The lowest free in-flight tag. -/
def freeTag (f : Fip) : Option Nat := (List.range 64).find? fun t => f.flights.all fun x => x.tag != t

/-- The next ingest sequence number: 0 is skipped when it wraps (R321). -/
def nextIngestSeq (k : Nat) : Nat := if (k + 1) % 2 ^ 32 = 0 then 1 else (k + 1) % 2 ^ 32

/-- Reserve the cells and the reply-store entry of a frame, in the order of R321; what was reserved is released where a later
credit fails. -/
def reserveAll (n : Nat) (d : IngDesc) (s : State) : Except (Credit × State) (Flight × State) :=
  let f := fipOf s n
  let c := mainCells d.bytes.length
  let u := uplinkCells d.bytes.length
  match reserve f.hq c s with
  | (none, s) => .error (.cells f.hq c (hqOf s f.hq).en, s)
  | (some pl, s) =>
    let up : Except State (Option (Nat × Nat × Nat) × State) :=
      if f.uhq = 0xFF then .ok (none, s)
      else
        match reserve f.uhq u s with
        | (some p, s) => .ok (some (f.uhq, u, placeCode p), s)
        | (none, s) => .error s
    match up with
    | .error s => .error (.cells f.uhq u (hqOf s f.uhq).en, release f.hq pl c s)
    | .ok (up, s) =>
      let fl : Flight := { desc := d, hq := f.hq, cells := c, place := placeCode pl, up := up }
      if bearsAck s d.port then
        let addr := if 0x20 ≤ d.port ∧ d.port < 0x30 then fieldU d.srcMeta 10 2 else d.srcAddr
        match reserveReply { port := d.port, addr := addr, open_ := 1 } s with
        | some (e, s) => .ok ({ fl with entry := some e }, s)
        | none =>
          let s := match up with
            | some (q, k, p) => release q (placeOf p) k s
            | none => s
          .error (.reply, release f.hq pl c s)
      else .ok (fl, s)

/-- A pipeline may admit now: on, not fenced, admission open (R321, R325). -/
def mayAdmit (s : State) (n : Nat) : Bool :=
  fabricUp s && active s (fipDomain n) && !isFenced s (8 + n) && (fipOf s n).closed.isNone && admissionOpen s

/-- Admit the head frame of a pipeline (R321). -/
def admitFrame (n : Nat) (s : State) : State :=
  let f := fipOf s n
  if mayAdmit s n then
    match f.fifo, freeTag f with
    | d :: rest, some tag =>
      match reserveAll n d s with
      | .error (c, s) => closeAdmission n c { desc := d } s
      | .ok (fl, s) =>
        let fl := { fl with tag := tag, seq := s.ingest.nextSeq }
        let s := { s with ingest := { s.ingest with nextSeq := nextIngestSeq s.ingest.nextSeq } }
        let g := fipOf s n
        enterStages n fl (setFip n { g with fifo := rest, flights := g.flights ++ [fl], admitted := g.admitted + 1 } s)
    | _, _ => s
  else s

/-- `FRAME_ADMIT` (R321). -/
def execFrameAdmit (fip : Nat) (s : State) : Host.Outcome State Fault Refusal := within "pipeline" fip 16 (admitFrame fip s)

/-- The failed credit exceeds its need by ADMIT_HYST (R325). -/
def admitCreditBack (s : State) (c : Credit) : Bool :=
  match c with
  | .cells q need _ => (hqOf s q).en && decide (need + 4096 ≤ s.host.pondFree)
  | .reply => decide (pendingReplies s + 1 + 1024 ≤ 1048576)

/-- `ADMISSION_REOPEN` (R325): 0x801 again where pond credit had closed it. -/
def reopen (n : Nat) (s : State) : State :=
  let f := fipOf s n
  match f.closed with
  | none => s
  | some c =>
    if fabricUp s && active s (fipDomain n) && admitCreditBack s c then
      let s := setFip n { f with closed := none } s
      match c with
      | .cells _ _ pond => if pond then logIng 0x801 n 0xFFFF {} s else s
      | .reply => { s with ingest := { s.ingest with replyHeld := false } }
    else s

def execAdmissionReopen (fip : Nat) (s : State) : Host.Outcome State Fault Refusal := within "pipeline" fip 16 (reopen fip s)

/-! ### Learning and scrubbing (R332, R333, R335) -/

/-- The first free slot of a bucket. -/
def freeSlotIn (s : State) (n b : Nat) : Option Nat := (bucketSlots n b).find? fun i => !jtValid (jtAt s i)

/-- The victim of a bucket, other than the slot just written (R333): random, or the oldest entry, lowest slot first. -/
def victimOf (n b : Nat) (but : Option Nat) (s : State) : Nat × State :=
  let slots := (bucketSlots n b).filter fun i => but != some i
  if (fipOf s n).evict = 1 then
    let age (i : Nat) : Nat := (now8 s + 256 - jtAge (jtAt s i)) % 256
    (slots.foldl (fun v i => if age v < age i then i else v) (slots.headD 0), s)
  else
    let (k, s) := drawBelow slots.length s
    (slots.getD k (slots.headD 0), s)

/-- The other bucket of an entry. -/
def otherBucket (e : BitVec 128) (b : Nat) : Nat :=
  let k := jtTitle e
  if hashH0 k = b then hashH1 k else hashH0 k

/-- Cuckoo relocation: at most `fuel` steps, then the entry displaced last is dropped (R332). -/
def relocate (n : Nat) : Nat → BitVec 128 → Nat → Option Nat → State → State
  | 0, _, _, _, s => s
  | fuel + 1, e, b, but, s =>
    let (v, s) := victimOf n b but s
    let old := jtAt s v
    let s := setJt v e s
    let b' := otherBucket old b
    match freeSlotIn s n b' with
    | some i => setJt i old s
    | none => relocate n fuel old b' (some v) s

/-- Insert an entry into a junction table (R332). -/
def insertJt (n key ctx gen : Nat) (s : State) : State :=
  let e := jtEntry key ctx gen (now8 s)
  match junctionHit s n key with
  | some i => setJt i e s
  | none =>
    match freeSlotIn s n (hashH0 key) with
    | some i => setJt i e s
    | none =>
      match freeSlotIn s n (hashH1 key) with
      | some i => setJt i e s
      | none => relocate n 16 e (hashH0 key) none s

/-- `JUNCTION_LEARN` (R332): the oldest entry of the learn queue is inserted. -/
def junctionLearn (n : Nat) (s : State) : State :=
  let f := fipOf s n
  match f.learn with
  | [] => s
  | (key, ctx, gen) :: r => insertJt n key ctx gen (setFip n { f with learn := r } s)

/-- The pipeline serves the frames admitted to it, and its tables (R27). -/
def fipServes (s : State) (n : Nat) : Bool := fabricUp s && working s (fipDomain n) && !isFenced s (8 + n)

def execJunctionLearn (fip : Nat) (s : State) : Host.Outcome State Fault Refusal :=
  within "pipeline" fip 16 (if fipServes s fip then junctionLearn fip s else s)

/-- The bucket that the scrubber reads now (R335): 8,192 in ascending order, spread evenly over each second of TB1. -/
def scrubBucket (s : State) : Nat := (tbVal s 1).toNat % 2 ^ 36 / 2 ^ 23

/-- `JUNCTION_SCRUB` (R335): a bucket is read within its own span of the second. -/
def execJunctionScrub (fip bucket : Nat) (s : State) : Host.Outcome State Fault Refusal :=
  within "pipeline" fip 16 (if fipServes s fip ∧ bucket = scrubBucket s then checkBucket fip bucket s else s)

end Sys2Proof.Machine
end

