-- ==== Sys2Proof/Machine/Balance.lean ====
section
/-! DEFINITION. The balance engine: groups, shares of readings, feeder energy, the close of an interval, and the phase of a
meter (spec/11_validation_balance.md, R404–R420). -/

namespace Sys2Proof.Machine

/-! ### Groups (R407) -/

/-- The number of the group that a BGROUP value names: RBn at n, LBn at 65,536 + n; none with bit 31 set. -/
def groupKey (b : Nat) : Option Nat :=
  if bitOf b 31 then none else if bitOf b 16 then some (65536 + b % 32) else some (b % 65536)

def isLocal (k : Nat) : Bool := decide (65536 ≤ k)

def grpOf (s : State) (k : Nat) : BalGroup := look {} s.balance.groups k
def setGrp (k : Nat) (g : BalGroup) (s : State) : State :=
  { s with balance := { s.balance with groups := put {} s.balance.groups k g } }
def phaseOf (s : State) (i : Nat) : PhaseEntry := look {} s.balance.phases i
def setPhase (i : Nat) (p : PhaseEntry) (s : State) : State :=
  { s with balance := { s.balance with phases := put {} s.balance.phases i p } }

/-- Seconds of an interval. -/
def secsOf (g : BalGroup) : Nat := 60 * g.len

/-- The engine serves: PD2 is up and unit 5 is not fenced (R484). -/
def balServes (s : State) : Bool := fabricUp s && !isFenced s 5

/-- A quotient truncated toward zero. -/
def truncDiv (a : Int) (b : Nat) : Int := if b = 0 then 0 else Int.tdiv a b

/-- The defaults of the 0xAxx subject: s_i, context, residual (R496). -/
def logBal (code k start ctx : Nat) (res : Int) (s : State) : State :=
  logEv code 5 (k % 65536) [BitVec.ofNat 72 (start * 2 ^ 36), snapN ctx, snapI res] s

/-! ### Closing (R414–R416) -/

/-- The balance of an interval (R415). -/
structure BalResult where
  cu : Nat := 0
  fe : Nat := 0
  est : Int := 0
  res : Int := 0
  high : Bool := false
  alarm : Bool := false
  deriving DecidableEq, Repr

/-- FEED in whole µWh, and I2T in whole µA²h. -/
def feedOf (i : BalInterval) : Int := i.feed / 2 ^ 32
def i2tOf (i : BalInterval) : Nat := i.i2t / 2 ^ 32

def balResult (g : BalGroup) (i : BalInterval) : BalResult :=
  let l := secsOf g
  let cu := i2tOf i * g.rCu / 1000000
  let fe := g.pFe * l * 10 / 36
  let est := i.est + truncDiv ((max 0 (g.rateSum - i.rateIn) * l + i.pend) * 1000000) 3600
  let res := feedOf i - i.met - est - cu - fe
  let thr := max (g.floor * 1000000) ((feedOf i).natAbs * g.rel / 10000)
  let high := decide ((feedOf i).natAbs * g.estMax / 10000 < est.natAbs)
  { cu := cu, fe := fe, est := est, res := if i.feedSeen then res else 0, high := high,
    alarm := i.feedSeen && !high && decide (thr < res.natAbs) }

/-- The payload of a BALANCE record (R416). -/
def balPayload (k : Nat) (g : BalGroup) (i : BalInterval) (cause : Nat) (r : BalResult) : Bytes :=
  le32 k ++ le8 cause
    ++ le8 (ofBits [r.alarm, !i.feedSeen, r.high, i.powerFail, i.membership, decide (g.unplaced ≠ 0)])
    ++ le16 g.len ++ leBytes 9 (i.start * 2 ^ 36) ++ leInt 9 (if i.feedSeen then feedOf i else 0) ++ leInt 9 i.met
    ++ leInt 9 r.est ++ leBytes 6 r.cu ++ leBytes 6 r.fe ++ leInt 9 r.res ++ le32 g.members ++ le32 i.covered
    ++ leInt 6 (clampI (-(2 ^ 47)) (2 ^ 47 - 1) g.unplaced) ++ [0]

/-- The header of a BALANCE record (R416). -/
def balHeader (s : State) (k : Nat) (g : BalGroup) (i : BalInterval) (r : BalResult) : RecHeader :=
  { type := 5, ctx := k, vflags := 2 ^ 17 * b2n (decide (r.est ≠ 0)) + 32 * b2n i.clkStep + 16 * b2n (i.untrusted || timeUntrusted s),
    tb0 := tbVal s 0, port := if isLocal k then 0xFE else 0x50, counter := (g.count + 1) % 2 ^ 32 }

/-- Mean phase voltages of a closed interval, 0.1 V, where it has any (R408). -/
def balVolts (g : BalGroup) (i : BalInterval) : List BalVolts :=
  if i.feedSeen ∧ i.weight ≠ 0 then
    [{ end_ := i.start + secsOf g, u := i.volts.map fun (v : Nat) => (openDiv (v : Int) (100 * i.weight)).toNat }]
  else []

/-- A payload enters the closed ring; the oldest leaves it, dropped when it was not emitted (R416). -/
def pushClosed (k : Nat) (c : BalClosed) (start : Nat) (s : State) : State :=
  let g := grpOf s k
  if g.ring.length < 16 then setGrp k { g with ring := g.ring ++ [c] } s
  else
    let lost := match g.ring with
      | o :: _ => !o.emitted
      | [] => false
    let s := setGrp k { g with
      ring := g.ring.tail ++ [c], dropped := if lost then (g.dropped + 1) % 2 ^ 32 else g.dropped } s
    if lost then logBal 0xA04 k start 0 0 s else s

/-- Close one interval of a group (R415): the record is built, and the alarm or the failing is logged. An alarm closing for
reconfiguration is not raised (R409). -/
def closeBal (k : Nat) (i : BalInterval) (cause : Nat) (s : State) : State :=
  let g := grpOf s k
  let i := { i with untrusted := i.untrusted || !(tb s 2).valid }
  let r := balResult g i
  let r := if cause = 3 then { r with alarm := false } else r
  let payload := balPayload k g i cause r
  let c : BalClosed :=
    { payload := payload, header := (harvestRecord (balHeader s k g i r) payload).take 32, order := s.balance.closes }
  let s := { s with balance := { s.balance with closes := s.balance.closes + 1 } }
  let s := setGrp k { g with
    opens := g.opens.filter fun x => x.start != i.start, volts := (balVolts g i ++ g.volts).take 96, unplaced := 0,
    count := (g.count + 1) % 2 ^ 32 } s
  let s := pushClosed k c i.start s
  let s := if i.feedSeen then s else logBal 0xA02 k i.start 0 0 s
  let s := if r.high then logBal 0xA03 k i.start 0 r.res s else s
  if r.alarm then
    raiseV 230 (logNotice 0xA01 5 (k % 65536) [BitVec.ofNat 72 (i.start * 2 ^ 36), 0, snapI r.res] s)
  else s

/-- Close every open interval of a group, oldest first. -/
def closeAll (k cause : Nat) (s : State) : State :=
  (grpOf s k).opens.foldl (fun s i => closeBal k i cause s) s

/-- The condition of a coverage close (R414). -/
def coverDue (s : State) (g : BalGroup) (i : BalInterval) : Bool :=
  decide (i.start + secsOf g ≤ tb2Sec s) && i.feedSeen && decide (g.cover * g.members ≤ i.covered * 1000)

/-- Close what coverage closes (R414). -/
def coverClose (k : Nat) (s : State) : State :=
  ((grpOf s k).opens.filter fun i => coverDue s (grpOf s k) i).foldl (fun s i => closeBal k i 0 s) s

/-! ### Opening (R410) -/

/-- Open the interval that starts at `start`; a ninth closes the oldest first with cause 1. -/
def openInterval (k start : Nat) (s : State) : State :=
  let s := match (grpOf s k).opens with
    | o :: r => if 7 ≤ r.length then closeBal k o 1 s else s
    | [] => s
  let g := grpOf s k
  setGrp k { g with
    opens := g.opens ++ [{ start := start, untrusted := !(tb s 2).valid }], last := max g.last start } s

/-- A share may open the interval (R410). -/
def mayOpen (s : State) (g : BalGroup) (start : Nat) : Bool := decide (g.last < start ∧ start ≤ tb2Sec s + secsOf g)

/-- The open interval of a start. -/
def openAt (g : BalGroup) (start : Nat) : Option BalInterval := g.opens.find? fun i => i.start == start

/-- Replace an open interval. -/
def setOpen (k : Nat) (i : BalInterval) (s : State) : State :=
  let g := grpOf s k
  setGrp k { g with opens := g.opens.map fun x => if x.start = i.start then i else x } s

/-! ### Energy shares (R405, R411) -/

/-- An applied E message. -/
structure EMsg where
  prev : Nat := 0
  t : Nat := 0
  /-- advance or estimate, µWh -/
  amt : Int := 0
  excluded : Bool := false
  rOld : Int := 0
  rNew : Int := 0
  deriving DecidableEq, Repr

/-- The share of one interval: `part` µWh in the interval that starts at `si`. -/
def placeShare (k : Nat) (m : EMsg) (si : Nat) (part : Int) (s : State) : State :=
  let g := grpOf s k
  let ei := si + secsOf g
  let s := if (openAt g si).isNone && mayOpen s g si then openInterval k si s else s
  match openAt (grpOf s k) si with
  | none => let g := grpOf s k; setGrp k { g with unplaced := g.unplaced + part } s
  | some i =>
    setOpen k { i with
      est := if m.excluded then i.est + part else i.est
      met := if m.excluded then i.met else i.met + part
      rateIn := if m.prev < si then i.rateIn + m.rNew else i.rateIn
      pend := i.pend - (if m.prev < si then 0 else m.rOld * ((ei : Int) - m.prev))
        + (if ei ≤ m.t then 0 else m.rNew * ((ei : Int) - m.t))
      covered := if ei ≤ m.t then i.covered + 1 else i.covered } s

/-- Shares of the intervals that start at `si` and after, `left` µWh not yet placed; the interval that contains t − 1 takes the
rest. -/
def placeShares (k : Nat) (m : EMsg) : Nat → Nat → Int → State → State
  | 0, _, _, s => s
  | n + 1, si, left, s =>
    let l := secsOf (grpOf s k)
    let ei := si + l
    let part := if m.t ≤ ei then left else truncDiv (m.amt * ((min m.t ei : Int) - max m.prev si)) (m.t - m.prev)
    placeShares k m n ei (left - part) (placeShare k m si part s)

/-- An E message is applied to its group (R411); RATE_SUM stays the sum of the members' RATE (R408) in a group that is not
enabled too. -/
def applyE (k : Nat) (m : EMsg) (s : State) : State :=
  let g := grpOf s k
  if balServes s then
    let l := secsOf g
    let s := if g.enable ∧ m.prev < m.t then
        placeShares k m ((m.t - 1) / l - m.prev / l + 1) (m.prev / l * l) m.amt s
      else s
    let g := grpOf s k
    coverClose k (setGrp k { g with rateSum := g.rateSum + m.rNew - m.rOld } s)
  else s

/-! ### Feeder side (R412, R413) -/

/-- The local group that a metering point feeds. -/
def feeds (s : State) (mp : Nat) : Option Nat :=
  ((List.range 32).map fun i => 65536 + i).find? fun k => (grpOf s k).enable && (grpOf s k).mp == mp

/-- The start of the interval that holds a tick's end: its last sample lies 1/32,000 s before that, so a tick that a boundary ends
belongs to the interval before the boundary. -/
def tickStart (s : State) (g : BalGroup) : Nat := ((tbVal s 2).toNat - 2 ^ 36 / 32000) / 2 ^ 36 / secsOf g * secsOf g

/-- The open interval that holds a tick's end. -/
def tickInterval (s : State) (g : BalGroup) : Option BalInterval := openAt g (tickStart s g)

/-- The MT tick message of a metering point (R412), whose interval is open since TB2 has reached its start (R410): energy, I²·t of I0–I2, and the voltages of e0–e2 over `n` samples. -/
def balTick (mp : Nat) (dp : Int) (i2t : Nat) (volts : List Nat) (n : Nat) (s : State) : State :=
  match feeds s mp with
  | none => s
  | some k =>
    if balServes s then
      let g := grpOf s k
      let b := tickStart s g
      let s := if (openAt g b).isNone && mayOpen s g b then openInterval k b s else s
      match tickInterval s (grpOf s k) with
      | none => s
      | some i =>
        coverClose k (setOpen k { i with
          feed := i.feed + dp, feedSeen := true, i2t := i.i2t + i2t,
          volts := List.zipWith (· + ·) i.volts (volts.map fun v => v * n), weight := i.weight + n } s)
    else s

/-- Ticks are lost while the DSP or the tariff engine is isolated: the open interval carries POWER_FAIL (R412). -/
def balTickLost (mp : Nat) (s : State) : State :=
  match feeds s mp with
  | none => s
  | some k =>
    match tickInterval s (grpOf s k) with
    | none => s
    | some i => setOpen k { i with powerFail := true } s

/-- TB2 has been moved by a step: open intervals carry CLKSTEP (R414). -/
def balMoved (s : State) : State :=
  { s with balance := { s.balance with
      groups := s.balance.groups.map fun p => (p.1, { p.2 with opens := p.2.opens.map fun i => { i with clkStep := true } }) } }

/-! ### Phase identification (R417–R420) -/

/-- A sum kept as a signed or unsigned 64-bit value. -/
def wrapS (i : Int) : Int := signed 64 (unsigned 64 i)
def wrapU (i : Int) : Nat := unsigned 64 i

/-- One pair enters the sums of a phase. -/
def addPair (p : PhaseSums) (x y : Int) : PhaseSums :=
  { sy := wrapS (p.sy + y), syy := wrapU (p.syy + y * y), sxy := wrapS (p.sxy + x * y) }

/-- Halve the sums of a phase. -/
def halvePhase (p : PhaseSums) : PhaseSums := { sy := p.sy.tdiv 2, syy := p.syy / 2, sxy := p.sxy.tdiv 2 }

/-- A pair enters a phase entry (R417). -/
def pairIn (nHalf : Nat) (x : Int) (y : List Int) (p : PhaseEntry) : PhaseEntry :=
  let p := { p with
    n := p.n + 1, sx := wrapS (p.sx + x), sxx := wrapU (p.sxx + x * x), s1 := addPair p.s1 x (nthI y 0),
    s2 := addPair p.s2 x (nthI y 1), s3 := addPair p.s3 x (nthI y 2) }
  if p.n = nHalf then
    { p with n := p.n / 2, sx := p.sx.tdiv 2, sxx := p.sxx / 2, s1 := halvePhase p.s1, s2 := halvePhase p.s2,
             s3 := halvePhase p.s3 }
  else p

/-- The correlation of a phase in 2^-48, truncated toward zero (R417). -/
def correlation (p : PhaseEntry) (k : PhaseSums) : Int :=
  let n : Int := p.n
  let a := n * p.sxx - p.sx * p.sx
  let b := n * k.syy - k.sy * k.sy
  if a ≤ 0 ∨ b ≤ 0 then 0
  else
    let root := isqrt ((a * b).toNat * 2 ^ 96)
    if root = 0 then 0 else truncDiv ((n * k.sxy - p.sx * k.sy) * 2 ^ 96) root

def correlations (p : PhaseEntry) : List Int := [correlation p p.s1, correlation p p.s2, correlation p p.s3]

/-- The circular distance of two phases in 2^-16 cycle (R418). -/
def circular (a b : Nat) : Nat := min ((a + 65536 - b % 65536) % 65536) ((b + 65536 - a % 65536) % 65536)

/-- The place of the smallest entry, the first among equals. -/
def argMin (l : List Nat) : Nat :=
  ((List.range l.length).foldl (fun b i => if nthN l i < nthN l b then i else b) 0)

/-- The place of the largest entry, the first among equals. -/
def argMax (l : List Int) : Nat :=
  ((List.range l.length).foldl (fun b i => if nthI l b < nthI l i then i else b) 0)

/-- A zero-crossing vote (R418). -/
def voteIn (g : BalGroup) (off : Nat) (p : PhaseEntry) : PhaseEntry :=
  let d := g.phRef.map fun r => circular off r
  let k := argMin d
  let i := if nthN d k ≤ g.zcTol then k else 3
  let v := setAt p.votes i (nthN p.votes i + 1)
  { p with votes := if v.any (fun x => decide (256 ≤ x)) then v.map (· / 2) else v }

/-- What a phase entry decides (R419): phase, basis and topology cause; the phase and basis stay where no row applies. -/
def decidePhase (b : BalancePart) (p : PhaseEntry) : Nat × Nat × Nat :=
  let r := correlations p
  let k := argMax r
  let best := nthI r k
  let second := nthI r (argMax (setAt r k (-(2 ^ 62))))
  let z := sumN p.votes
  let thr (x : Nat) : Int := (x : Int) * 2 ^ 48
  let enough := decide (b.nMin ≤ p.n)
  let strong := enough && decide (thr b.rMin ≤ best * 1000) && decide (thr b.rMargin ≤ (best - second) * 1000)
  let voted := decide (b.zcMin ≤ z)
  let zc := [0, 1, 2].find? fun i => decide (z ≠ 0 ∧ 9 * z ≤ 10 * nthN p.votes i)
  if enough && decide (best * 1000 < thr b.rTopo) then (0, 0, 1)
  else if voted && decide (z ≤ 2 * nthN p.votes 3) then (0, 0, 2)
  else
    match strong, voted, zc with
    | true, true, some c => if c = k then (k + 1, 3, 0) else (0, 0, 3)
    | true, _, some c => (k + 1, if c = k then 3 else 1, 0)
    | true, _, none => (k + 1, 1, 0)
    | false, true, some c => (c + 1, 2, 0)
    | false, _, _ => (p.phase, p.basis, 0)

/-- A correlation in 2^-30, rounded. -/
def r30 (r : Int) : Int := roundDiv r (2 ^ 18)

/-- The payload of a PHASE record (R420). -/
def phasePayload (k assigned : Nat) (p : PhaseEntry) : Bytes :=
  le32 k ++ le8 p.phase ++ le8 p.previous ++ le8 assigned ++ le8 p.basis ++ le8 (ofBits [decide (p.topo ≠ 0), p.mismatch])
    ++ le8 p.topo ++ [0, 0] ++ le32 p.n ++ (correlations p).flatMap (fun r => leInt 4 (r30 r))
    ++ p.votes.flatMap le16 ++ List.replicate 12 0

/-- ASSIGNED of a context (R392). -/
def assignedOf (c : Ctx) : Nat := ctx3 c 235 1 % 4

/-- After a pair or a vote the phase is decided; a change is logged and makes a record due (R419, R420). -/
def decideAfter (k ctx : Nat) (fl : Flight) (s : State) : State :=
  let p := phaseOf s ctx
  let (ph, basis, topo) := decidePhase s.balance p
  let a := assignedOf (ctxOf s ctx)
  let mis := decide (a ≠ 0 ∧ ph ≠ 0 ∧ a ≠ ph)
  let moved := decide (ph ≠ p.phase)
  let suspect := decide ((topo ≠ 0) ≠ (p.topo ≠ 0))
  let start := match (grpOf s k).opens with
    | i :: _ => i.start
    | [] => 0
  let q := { p with
    phase := ph, previous := if moved then p.phase else p.previous, basis := basis, topo := topo, mismatch := mis,
    updated := p.updated || moved }
  let rec_ := harvestRecord
    { type := 6, ctx := ctx, vflags := 2 ^ 18 * b2n q.updated + 2 ^ 19 * b2n (decide (topo ≠ 0)) + 16 * b2n (timeUntrusted s),
      tb0 := tbVal s 0, port := fl.desc.port, counter := icOf fl.desc.bytes } (phasePayload k a q)
  let due := moved || decide (topo ≠ p.topo) || (mis != p.mismatch)
  let s := setPhase ctx (if due then { q with pending := some rec_ } else q) s
  let s := if suspect then
      raiseV 230 (logNotice 0xA06 5 (k % 65536) [BitVec.ofNat 72 (start * 2 ^ 36), snapN ctx, 0] s)
    else s
  if moved then logBal 0xA05 k start ctx 0 s else s

/-- The group forms pairs: a remote one always, a local one when its metering point is 3P4W (R417). -/
def formsPairs (s : State) (k : Nat) (g : BalGroup) : Bool :=
  !isLocal k || (look {} s.meter.points g.mp).bind.wiring == 4

/-- A U message (R417): a pair is formed when its time is the end of an interval in the voltage ring and PERIOD is LEN. -/
def applyU (k ctx : Nat) (period t dv : Nat) (fl : Flight) (s : State) : State :=
  let g := grpOf s k
  if g.enable && balServes s && formsPairs s k g && period == g.len then
    match g.volts.find? fun v => v.end_ == t with
    | none => s
    | some v =>
      let x := (dv : Int) - g.uNom
      let y := v.u.map fun (u : Nat) => (u : Int) - g.uNom
      decideAfter k ctx fl (setPhase ctx (pairIn s.balance.nHalf x y (phaseOf s ctx)) s)
  else s

/-- The zero-crossing vote of a frame from a powerline port (R418). -/
def applyVote (k ctx : Nat) (fl : Flight) (s : State) : State :=
  let g := grpOf s k
  let p := fl.desc.port
  if g.enable && balServes s && decide (0x20 ≤ p ∧ p < 0x30) && fieldU fl.desc.srcMeta 5 1 == 1 then
    decideAfter k ctx fl (setPhase ctx (voteIn g (fieldU fl.desc.srcMeta 3 2) (phaseOf s ctx)) s)
  else s

/-! ### Membership (R408) -/

/-- A context leaves or joins a group with its RATE; open intervals carry MEMBERSHIP. -/
def memberMove (k : Nat) (joins : Bool) (rate : Int) (s : State) : State :=
  let g := grpOf s k
  setGrp k { g with
    members := if joins then g.members + 1 else g.members - 1
    rateSum := if joins then g.rateSum + rate else g.rateSum - rate
    opens := g.opens.map fun i => { i with membership := true } } s

/-- The group of a VALID context, and the RATE it brings (negated for E_NEGATE, R405). -/
def memberOf (c : Ctx) : Option (Nat × Int) :=
  if ctxValid c then
    match groupKey (ctxGroup c) with
    | some k => some (k, if bitOf (ctx3 c 235 1) 2 then -(c.rate : Int) else c.rate)
    | none => none
  else none

/-- A context has been rewritten: the groups that it leaves and joins are updated; a change of BGROUP zeroes its phase entry. -/
def membersUpdate (i : Nat) (old new : Ctx) (s : State) : State :=
  let s :=
    if (memberOf old).map (·.1) = (memberOf new).map (·.1) ∧ (memberOf old).map (·.2) = (memberOf new).map (·.2) then s
    else
      let s := match memberOf old with
        | some (k, r) => memberMove k false r s
        | none => s
      match memberOf new with
      | some (k, r) => memberMove k true r s
      | none => s
  if groupKey (ctxGroup old) = groupKey (ctxGroup new) then s else setPhase i {} s

end Sys2Proof.Machine
end

