-- ==== Sys2Proof/Machine/Milestones.lean ====
section
/-! DEFINITION. The capture of milestones (spec/03_time_bases_milestones.md, R100–R102). -/

namespace Sys2Proof.Machine

/-- The VALID mask of a milestone (R101). -/
def validMask (s : State) : Nat := ofBits ((List.range 12).map fun n => (tb s n).valid)

/-- Capture a milestone (R100–R102): queued with V194, or counted in MS_LOST with OVERFLOW and logbook 0x206 when the FIFO
is full; while unit 4 is fenced it is not queued and counts as lost (R484). -/
def capture (code detail id offset : Nat) (s : State) : State :=
  let m : Milestone :=
    { code := code, detail := detail, validMask := validMask s, seq := s.clock.msSeq, id := id,
      values := (List.range 12).map (tbVal s), offset := offset % 2 ^ 32 }
  let s := { s with clock := { s.clock with msSeq := (s.clock.msSeq + 1) % 65536 } }
  if isFenced s 4 then { s with clock := { s.clock with msLost := s.clock.msLost + 1 } }
  else if s.clock.fifo.length < 64 then raiseV 194 { s with clock := { s.clock with fifo := s.clock.fifo ++ [m] } }
  else
    logEv 0x206 4 0xFFFF [] { s with clock := { s.clock with msLost := s.clock.msLost + 1, msOverflow := true } }

/-- The 128 bytes of a milestone entry (R101). -/
def milestoneBytes (m : Milestone) : Bytes :=
  le8 m.code ++ le8 m.detail ++ le16 m.validMask ++ le16 m.seq ++ le16 m.id ++ padTo 108 (m.values.flatMap le72)
    ++ le32 m.offset ++ List.replicate 8 0

end Sys2Proof.Machine
end

