-- ==== Sys2Proof/Machine/Calendar.lean ====
section
/-! DEFINITION. Civil dates, daylight saving and the billing schedule (spec/05_tariffs_billing_legal.md, R181–R184). -/

namespace Sys2Proof.Machine

/-- A civil date. -/
structure Date where
  year : Int
  month : Nat
  day : Nat
  deriving DecidableEq, Repr

/-- The civil date of a day number counted from 1970-01-01 (proleptic Gregorian calendar). -/
def dateOf (days : Int) : Date :=
  let z := days + 719468
  let era := z / 146097
  let doe := (z % 146097).toNat
  let yoe := (doe - doe / 1460 + doe / 36524 - doe / 146096) / 365
  let doy := doe - (365 * yoe + yoe / 4 - yoe / 100)
  let mp := (5 * doy + 2) / 153
  let m := if mp < 10 then mp + 3 else mp - 9
  { year := era * 400 + yoe + (if m ≤ 2 then 1 else 0), month := m, day := doy - (153 * mp + 2) / 5 + 1 }

/-- The day number of a civil date. -/
def daysOf (d : Date) : Int :=
  let y := if d.month ≤ 2 then d.year - 1 else d.year
  let era := y / 400
  let yoe := (y % 400).toNat
  let mp := (d.month + 9) % 12
  let doy := (153 * mp + 2) / 5 + d.day - 1
  era * 146097 + ((yoe * 365 + yoe / 4 - yoe / 100 + doy : Nat) : Int) - 719468

/-- Weekday of a day number: 0 Monday to 6 Sunday. 1970-01-01 was a Thursday. -/
def weekdayOf (days : Int) : Nat := ((days + 3) % 7).toNat

def isLeap (y : Int) : Bool := y % 4 == 0 && (y % 100 != 0 || y % 400 == 0)

def monthDays (y : Int) (m : Nat) : Nat :=
  if m = 2 then (if isLeap y then 29 else 28) else if m = 4 ∨ m = 6 ∨ m = 9 ∨ m = 11 then 30 else 31

/-- The instant of a DST rule in a year, in seconds of standard local time (R181): week 1–4, or 5 for the last. -/
def dstInstant (r : DstRule) (year : Int) : Int :=
  let first := daysOf { year := year, month := r.month, day := 1 }
  let off := (r.weekday + 6 - weekdayOf first) % 7
  let day := 1 + off + 7 * (r.week - 1)
  let day := if monthDays year r.month < day then day - 7 else day
  (first + (day - 1 : Nat)) * 86400 + r.minute * 60

/-- DST is in force at a standard local time (R183). -/
def inDst (c : TariffCopy) (std : Int) : Bool :=
  if c.dstStart.month = 0 then false
  else
    let y := (dateOf (std / 86400)).year
    let a := dstInstant c.dstStart y
    let b := dstInstant c.dstEnd y
    if a ≤ b then decide (a ≤ std ∧ std < b) else decide (a ≤ std ∨ std < b)

/-- Standard and local time of a TB2 second (R183). -/
def stdTime (c : TariffCopy) (tb2 : Nat) : Int := (tb2 : Int) + c.stdOffset * 60
def localTime (c : TariffCopy) (tb2 : Nat) : Int :=
  let std := stdTime c tb2
  if inDst c std then std + c.dstShift * 60 else std

/-- The special day of a date: the exact year before 0xFFFF, the lowest index first (R183). -/
def specialOf (c : TariffCopy) (d : Date) : Option SpecialDay :=
  let all := (List.range 64).filterMap fun k => look none c.specials k
  let hit := all.filter fun x => x.month == d.month && x.day == d.day
  match hit.find? fun x => x.year != 0xFFFF && (x.year : Int) == d.year with
  | some x => some x
  | none => hit.find? fun x => x.year == 0xFFFF

/-- Order of month and day. -/
def monthDay (m d : Nat) : Nat := 100 * m + d

/-- The season with the greatest (month, day), among those given. -/
def latestSeason : List Season → Option Season
  | [] => none
  | x :: r =>
    match latestSeason r with
    | some y => if monthDay y.month y.day ≤ monthDay x.month x.day then some x else some y
    | none => some x

/-- The season in force at a date (R183). -/
def seasonOf (c : TariffCopy) (d : Date) : Option Season :=
  let all := (List.range 8).filterMap fun k => look none c.seasons k
  match latestSeason (all.filter fun x => decide (monthDay x.month x.day ≤ monthDay d.month d.day)) with
  | some x => some x
  | none => latestSeason all

/-- The action with the greatest time not after `t` (R183). -/
def actionAt : List SwitchAction → Nat → Option SwitchAction
  | [], _ => none
  | a :: r, t =>
    match actionAt r t with
    | some b => if a.time ≤ t ∧ b.time ≤ a.time then some a else some b
    | none => if a.time ≤ t then some a else none

/-- The day profile of a date, where a special day or a season gives one (R183). -/
def profileOf (c : TariffCopy) (days : Int) : Option Nat :=
  let d := dateOf days
  match specialOf c d with
  | some x => some x.profile
  | none =>
    match seasonOf c d with
    | some s => some (nthN (look [] c.weeks s.week) (weekdayOf days))
    | none => none

/-- Rate and FRIENDLY in force (R183). -/
def rateAt (c : TariffCopy) (valid : Bool) (tb2 : Nat) : Nat × Bool :=
  if !valid then (c.defaultRate, false)
  else
    let loc := localTime c tb2
    match profileOf c (loc / 86400) with
    | none => (c.defaultRate, false)
    | some dp =>
      match actionAt (look [] c.days dp) (loc % 86400).toNat with
      | some a => (a.rate, a.friendly)
      | none => (c.defaultRate, false)

/-! ### The billing schedule -/

/-- The TB2 instant of the scheduled boundary in month number `k` (months since year 0): the first occurrence of its local
time; where DST skips that time, the instant of the change (R184). -/
def boundaryOf (c : TariffCopy) (k : Nat) : Int :=
  let y : Int := (k / 12 : Nat)
  let loc := daysOf { year := y, month := k % 12 + 1, day := c.billDay } * 86400 + c.billMinute * 60
  let early := loc - c.dstShift * 60
  let std :=
    if inDst c early then early
    else if !inDst c loc then loc
    else dstInstant c.dstStart y
  std - c.stdOffset * 60

/-- The month number of a TB2 second, in local time. -/
def monthNumber (c : TariffCopy) (tb2 : Nat) : Nat :=
  let d := dateOf (localTime c tb2 / 86400)
  (d.year * 12 + (d.month - 1 : Nat)).toNat

/-- The month number and instant of the latest scheduled boundary at or before a TB2 second; none without a schedule. -/
def latestBoundary (c : TariffCopy) (tb2 : Nat) : Option (Nat × Int) :=
  if c.billDay = 0 then none
  else
    let k := monthNumber c tb2
    if boundaryOf c k ≤ tb2 then some (k, boundaryOf c k) else some (k - 1, boundaryOf c (k - 1))

/-- How many scheduled boundaries lie after second `from_` and not after second `to_`. -/
def boundariesPassed (c : TariffCopy) (from_ to_ : Nat) : Nat :=
  match latestBoundary c from_, latestBoundary c to_ with
  | some (a, _), some (b, _) => b - a
  | _, _ => 0

end Sys2Proof.Machine
end

