-- ==== Sys2Proof/Machine/Spectrum.lean ====
section
/-! DEFINITION. Sines, discrete Fourier sums and windows, in whole numbers (spec/04_metrology.md, R146, R147, R176). The spec states
no precision: cosines carry 62 fractional bits (DESIGN CHOICE, assumption log 18). -/

namespace Sys2Proof.Machine

/-- 2π, in 2^-96. -/
def twoPi : Nat := 497805226624462170461043889244

/-- The rest of the power series of the cosine from term `k` on, 2^-96: `x2` is the square of the angle, `term` the last term. -/
def cosSeries : Nat → (x2 term : Nat) → (k : Nat) → Int
  | 0, _, _, _ => 0
  | fuel + 1, x2, term, k => (term : Int) - cosSeries fuel x2 (term * x2 / 2 ^ 96 / ((2 * k + 1) * (2 * k + 2))) (k + 1)

/-- The cosine of `num / den` turns, 2^-62. -/
def cosTurn (num : Int) (den : Nat) : Int :=
  let x := twoPi * (num % (den : Int)).toNat / den
  roundDiv (cosSeries 40 (x * x / 2 ^ 96) (2 ^ 96) 0) (2 ^ 34)

/-- The sine of `num / den` turns, 2^-62. -/
def sinTurn (num : Int) (den : Nat) : Int := cosTurn (4 * num - den) (4 * den)

/-- The angle of a vector, 2^-48 turn, found bit by bit from the half plane in which it lies. -/
def argFrom : Nat → (re im : Int) → (acc : Nat) → Nat
  | 0, _, _, acc => acc
  | b + 1, re, im, acc =>
    let t := acc + 2 ^ b
    argFrom b re im (if 0 ≤ cosTurn t (2 ^ 48) * im - sinTurn t (2 ^ 48) * re then t else acc)

def argTurn (re im : Int) : Nat := argFrom 47 re im (if 0 < im ∨ (im = 0 ∧ 0 ≤ re) then 0 else 2 ^ 47)

/-- The sum over points `k` of r[k] × exp(−j × 2π × `cycles` × k / m): real and imaginary part (R146). -/
def dft (cycles : Nat) (r : List Int) : Int × Int :=
  let m := r.length
  r.zipIdx.foldl (fun (re, im) (x, k) =>
    (re + x * cosTurn (cycles * k : Nat) m, im - x * sinTurn (cycles * k : Nat) m)) (0, 0)

/-- The square of a vector's length. -/
def normSq (z : Int × Int) : Nat := (z.1 * z.1 + z.2 * z.2).toNat

/-- The 128 points per cycle of a window, evenly over it (R146); none without samples. -/
def resampled (nc : Nat) (y : List Int) : List Int :=
  if y = [] then [] else (List.range (128 * nc)).map fun k => Config.resample y (128 * nc) k

/-- The Hann weight of sample `n` of `nw`, 2^-62 (R147). -/
def hannWeight (nw n : Nat) : Int :=
  let d := if Config.hannPeriodic then nw else nw - 1
  (2 ^ 62 - cosTurn n d) / 2

/-- The sum of w[n] × y[n] × exp(−j × 2π × f × (t_n − t_s)), and the sum of the weights (R147). -/
def hannSum (hz : Nat) (ts : BitVec 72) (times : List (BitVec 72)) (y : List Int) : (Int × Int) × Int :=
  let nw := y.length
  (y.zip times).zipIdx.foldl (fun (acc : (Int × Int) × Int) (p, n) =>
    let (x, t) := p
    let w := hannWeight nw n
    let a : Int := hz * (t - ts).toInt
    ((acc.1.1 + w * x * cosTurn a (2 ^ 36), acc.1.2 - w * x * sinTurn a (2 ^ 36)), acc.2 + w)) ((0, 0), 0)

/-- ±√(num / den), with the sign of `x`. -/
def signedSqrt (x : Int) (num den : Nat) : Int := if x < 0 then -(openSqrt num den : Int) else openSqrt num den

end Sys2Proof.Machine
end

