-- ==== Sys2Proof/Machine/Meter.lean ====
section
/-! DEFINITION. Metrology: from samples to quantities, the energy registers, the alarms, the rotating spare, the
metering intervals and the power-fail commit (spec/04_metrology.md, R124–R177). -/

namespace Sys2Proof.Machine

/-! ### Access -/

def chanOf (s : State) (a : Nat) : Channel := look {} s.meter.chans a
def setChan (a : Nat) (c : Channel) (s : State) : State :=
  { s with meter := { s.meter with chans := put {} s.meter.chans a c } }
def pointOf (s : State) (m : Nat) : MeteringPoint := look {} s.meter.points m
def setPoint (m : Nat) (p : MeteringPoint) (s : State) : State :=
  { s with meter := { s.meter with points := put {} s.meter.points m p } }
def regOf (p : MeteringPoint) (i : Nat) : EnergyReg := look {} p.regs i
def setReg (i : Nat) (r : EnergyReg) (p : MeteringPoint) : MeteringPoint := { p with regs := put {} p.regs i r }
def cfgOf (p : MeteringPoint) (i : Nat) : RegCfg := look (regCfgReset i) p.cfgs i
def setCfg (i : Nat) (c : RegCfg) (p : MeteringPoint) : MeteringPoint :=
  { p with cfgs := put (regCfgReset i) p.cfgs i c }
def bgOf (s : State) (path g : Nat) : Background := look {} s.meter.bgs (6 * path + g)
def setBg (path g : Nat) (b : Background) (s : State) : State :=
  { s with meter := { s.meter with bgs := put {} s.meter.bgs (6 * path + g) b } }

/-- The metering points by number. -/
def allPoints : List Nat := List.range 32

/-- The metering point runs (R158). -/
def runs (p : MeteringPoint) : Bool := p.bind.wiring != 0

/-- Channel of slot `k` of a binding; 255 for none (R139). -/
def slotAin (b : Binding) (k : Nat) : Nat := b.slots.getD k 255

/-- The number of elements of a wiring mode (R139). -/
def elementsOf (wiring : Nat) : Nat := if wiring = 1 then 1 else if wiring = 2 ∨ wiring = 3 then 2 else if wiring = 4 then 3 else 0

/-- PD10 is isolated from PD2 (R22, R484): its MT outputs and its notices do not pass. -/
def isolated (s : State) : Bool := !fabricUp s || isFenced s 125 || isFenced s 126

/-- A record of the 0x3xx subject (R496): the named values, then the alarm bits and TB3. For an input channel, or where no
point applies, the alarm bits are those of every point it concerns (assumption log 20). -/
def logMeter (code obj : Nat) (alarms : Nat) (named : List Time) (s : State) : State :=
  logEv code 125 obj (named ++ [snapN alarms, tbVal s 3]) s

/-- The alarm bits of the points that satisfy a condition, joined. -/
def joinAlarms (s : State) (f : MeteringPoint → Bool) : Nat :=
  allPoints.foldl (fun a m => if f (pointOf s m) then a ||| (pointOf s m).alarms else a) 0

/-- The point binds the channel. -/
def binds (a : Nat) (p : MeteringPoint) : Bool := p.bind.slots.contains a

/-! ### Alarms (R176, R177) -/

/-- The tamper class of an alarm bit (R176, R202). CAL_INVALID has class 17. -/
def alarmClass (bit : Nat) : Option Nat := if bit < 4 then some bit else none

/-- An alarm is set or cleared (R177): logbook 0x301 with the alarm bit, the metering point, the element and the measured
value, MB0 notice and V197 while PD2 is up, and on a set the tamper class. An element or value that the alarm does not
have reads 0 (assumption log 20). -/
def alarmChange (mp bit : Nat) (on : Bool) (element measured : Nat) (s : State) : State :=
  let p := pointOf s mp
  let p := { p with
    alarms := if on then bitSet p.alarms bit else bitClear p.alarms bit
    alarmSeen := p.alarmSeen || on
    alarmElem := put 0 p.alarmElem bit element }
  let s := setPoint mp p s
  let named := [snapN bit, snapN mp, snapN element, snapN measured]
  let s := logMeter 0x301 mp p.alarms named s
  let s :=
    if isolated s then s
    else raiseV 197 (notice 0x301 0 125 (snapBytes 5 (named ++ [snapN p.alarms])) s)
  match alarmClass bit with
  | some c => if on then tamperSet c s else s
  | none => s

/-- Set or clear an alarm of one point, if it is not already so. -/
def alarmTo (mp bit : Nat) (on : Bool) (element measured : Nat) (s : State) : State :=
  if bitOf (pointOf s mp).alarms bit = on then s else alarmChange mp bit on element measured s

/-- Set or clear an alarm of every point that satisfies a condition, with its measured value. -/
def alarmAllOf (bit : Nat) (on : Bool) (measured : Nat) (f : MeteringPoint → Bool) (s : State) : State :=
  allPoints.foldl (fun s m => if f (pointOf s m) then alarmTo m bit on 0 measured s else s) s

/-- Set or clear an alarm of every point that satisfies a condition. -/
def alarmAll (bit : Nat) (on : Bool) (f : MeteringPoint → Bool) (s : State) : State := alarmAllOf bit on 0 f s

/-! ### From code to corrected sample (R125, R134, R138) -/

/-- The path that delivers the samples of a channel: its own, or the spare (96) while it substitutes. -/
def pathOf (s : State) (a : Nat) : Nat := if s.meter.rot.substituting ∧ s.meter.rot.ain = a then 96 else a

/-- What is in force for the samples that a channel delivers now. -/
def termsNow (s : State) (a : Nat) : Terms :=
  let c := chanOf s a
  let p := pathOf s a
  { path := p, gainExp := c.gainExp, scale := c.scale, bg := bgOf s p c.gainExp, trim := c.trim, off := c.off, ph := c.ph }

/-- What was in force for sample number `i` of a channel: the terms before the first switch after it, so that no sample is corrected
with those of another time (R130). -/
def termsAt (s : State) (a i : Nat) : Terms :=
  match s.meter.switches.find? fun w => w.ain == a && decide (i < w.at_) with
  | some w => w.terms
  | none => termsNow s a

/-- A channel switches at sample number `at_`: the terms in force up to it are kept. -/
def noteSwitch (a at_ : Nat) (s : State) : State :=
  { s with meter := { s.meter with switches := s.meter.switches ++ [{ ain := a, at_ := at_, terms := termsNow s a }] } }

/-- A code held to 18 bits (R125). -/
def saturate (x : Int) : Int := clampI (-131072) 131071 x

/-- The corrected code before the delay, in 2^-99 code (R134). With a bad OTP the factory terms are 1 and 0 (R136). -/
def scaled (s : State) (a : Nat) (t : Terms) (x : Int) : Int :=
  let gf := if s.meter.otpOk then Config.gainFac a t.gainExp else 2 ^ 30
  let of_ := if s.meter.otpOk then Config.offFac a t.gainExp else 0
  (saturate x * 256 - t.bg.off) * t.bg.gain * gf * (2 ^ 31 + t.trim) + (of_ + t.off) * 2 ^ 91

/-- The delay of a sample of a channel, 2^-16 sample (R134). -/
def delayOf (s : State) (a : Nat) (t : Terms) : Int :=
  (if s.meter.otpOk then Config.phPath t.path t.gainExp + Config.phFac a t.gainExp else 0) + t.ph

/-- The corrected samples of a channel from sample number `first` on, 2^-8 code, each with its own terms (R134). Without a delay the
filter passes its input. -/
def correctedWith (terms : Nat → Terms) (s : State) (a first : Nat) (codes : List Int) : List Int :=
  let ys := codes.zipIdx.map fun (x, i) => scaled s a (terms (first + i)) x
  ys.zipIdx.map fun (y, i) =>
    let d := delayOf s a (terms (first + i))
    roundDiv (if d = 0 then y else Config.fracDelay first d ys i) (2 ^ 91)

def corrected (s : State) (a first : Nat) (codes : List Int) : List Int := correctedWith (termsAt s a) s a first codes

/-- The codes given for a channel. -/
def codesOf (samples : List ChannelSamples) (a : Nat) : List Int :=
  match samples.find? fun c => c.ain == a with
  | some c => c.codes
  | none => []

/-- The corrected samples of slot `k` of a binding, 2^-8 code; none where it is not bound. -/
def slotSamples (s : State) (b : Binding) (first : Nat) (samples : List ChannelSamples) (k : Nat) : List Int :=
  let a := slotAin b k
  if a = 255 then [] else corrected s a first (codesOf samples a)

/-- Corrected samples in primary units, 3 × 2^-56 V or A, each with the scale and gain in force at it (R138). -/
def primaryOf (s : State) (a first : Nat) (l : List Int) : List Int :=
  l.zipIdx.map fun (y, i) =>
    let t := termsAt s a (first + i)
    y * t.scale * 2 ^ (5 - t.gainExp)

/-- The samples of slot `k` of a binding in primary units. -/
def slotPrimary (s : State) (b : Binding) (first : Nat) (samples : List ChannelSamples) (k : Nat) : List Int :=
  primaryOf s (slotAin b k) first (slotSamples s b first samples k)

/-- Over-range codes (R125). -/
def overRange (codes : List Int) : Nat := codes.countP fun x => decide (110100 ≤ x.natAbs)

/-! ### Sums -/

def dotI : List Int → List Int → Int
  | x :: a, y :: b => x * y + dotI a b
  | _, _ => 0

def squares (l : List Int) : Nat := (dotI l l).toNat

/-- Numerator and denominator that turn a sum of products of primary samples into energy: 2^-32 µWh (R143). -/
def energyNum : Nat := 9 * 10 ^ 6 * 2 ^ 32
def energyDen : Nat := 2 ^ 112 * 115200000

/-- RMS of primary samples in 10^-3 primary units (R143, R145). -/
def rmsOf (l : List Int) : Nat := openSqrt (squares l * 3000 * 3000) (l.length * 2 ^ 112)

/-- Mean of primary samples in 10^-6 primary units; 0 for a slot that binds no input. -/
def meanOf (l : List Int) : Int := if l = [] then 0 else openDiv (sumI l * 3000000) (l.length * 2 ^ 56)

/-- The sign of the active energy (R143). The rule does not define the sign of 0: it is taken as +1 (DESIGN CHOICE, assumption
log 73). -/
def signOf (x : Int) : Int := if x < 0 then -1 else 1

/-! ### The starting gate (R173) -/

/-- The newest entries of a history whose counts stay within `left`. -/
def trimSecond : Nat → List (Nat × Nat) → List (Nat × Nat)
  | _, [] => []
  | left, (n, q) :: r => if left < n then [] else (n, q) :: trimSecond (left - n) r

/-- The squares of the samples of the last 1 s, newest first, after those of a tick. -/
def lastSecondOf (tick : List Int) (old : List Nat) : List Nat :=
  ((tick.map fun x => x.natAbs * x.natAbs).reverse ++ old).take 32000

/-- The gate of an element after a tick: it opens when the current's RMS over the last 1 s reaches the threshold, and closes
below 0.8 of it. The threshold of `start` × 10^-6 I_ref is start × 2^25 / (3 × 10^6) in 2^-8 code. -/
def gateAfter (open_ : Bool) (start : Nat) (hist : List Nat) : Bool :=
  let n := hist.length
  let q := sumN hist
  let lim := n * (start * 2 ^ 25) * (start * 2 ^ 25)
  if n = 0 then false
  else if open_ then decide (16 * lim ≤ 225 * 10 ^ 12 * q)
  else decide (lim ≤ 9 * 10 ^ 12 * q)

/-! ### One tick of one point (R143, R144, R173) -/

/-- The Hilbert-filtered samples (R143). -/
def quadrature (first : Nat) (v : List Int) : List Int := v.zipIdx.map fun (_, k) => Config.hilbert first v k

/-- Energies of element `e` of a point: active, reactive and apparent. -/
def elementEnergies (s : State) (b : Binding) (samples : List ChannelSamples) (e : Nat) : Int × Int × Int :=
  let first := s.meter.samples
  let v := slotPrimary s b first samples e
  let i := slotPrimary s b first samples (4 + e)
  let p := openDiv (dotI v i * energyNum) energyDen
  let q := openDiv (dotI (quadrature first v) i * energyNum) energyDen
  let a := openSqrt (squares v * squares i * energyNum * energyNum) (energyDen * energyDen)
  (p, q, signOf p * a)

/-- The quadrant of the totals (R144). -/
def quadrantOf (dp dq : Int) : Nat :=
  if 0 ≤ dp then (if 0 ≤ dq then 1 else 4) else (if 0 ≤ dq then 2 else 3)

/-- The gates and their history after this tick (R173). The spec does not say at which instant within a tick an element starts or stops
adding: the gate is judged at tick ends, and decides the whole tick (DESIGN CHOICE, assumption log 73). -/
def gatesAfter (s : State) (p : MeteringPoint) (samples : List ChannelSamples) : MeteringPoint :=
  (List.range (elementsOf p.bind.wiring)).foldl (fun p e =>
    let hist := lastSecondOf (slotSamples s p.bind s.meter.samples samples (4 + e)) (look [] p.lastSecond e)
    let g := gateAfter (bitOf p.gates e) p.start hist
    { p with
      lastSecond := put [] p.lastSecond e hist
      gates := if g then bitSet p.gates e else bitClear p.gates e }) p

/-- The quantities of one tick of a point whose gates are up to date. An element whose gate is closed adds nothing; the
I²·t of a slot follows the gate of its element, or of any element where it forms none (R173). -/
def tickOf (s : State) (p : MeteringPoint) (samples : List ChannelSamples) (n : Nat) : TickResult :=
  let ne := elementsOf p.bind.wiring
  let es := (List.range 3).map fun e =>
    if e < ne ∧ bitOf p.gates e then elementEnergies s p.bind samples e else (0, 0, 0)
  let dp := sumI (es.map fun x => x.1)
  let dq := sumI (es.map fun x => x.2.1)
  let ds :=
    if p.bind.wiring = 3 then signOf dp * openSqrt (dp * dp + dq * dq).toNat 1
    else signOf dp * (sumI (es.map fun x => x.2.2)).natAbs
  let first := s.meter.samples
  let rms := (List.range 9).map fun k => rmsOf (slotPrimary s p.bind first samples k)
  let any := (List.range ne).any fun e => bitOf p.gates e
  let i2t := (List.range 4).map fun k =>
    let i := slotPrimary s p.bind first samples (4 + k)
    if (if k < ne then bitOf p.gates k else any) then openDiv ((squares i : Int) * energyNum) energyDen else 0
  { n := n, tb3 := tbVal s 3, dp := dp, dq := dq, ds := ds, p := es.map fun x => x.1, q := es.map fun x => x.2.1,
    s := es.map fun x => x.2.2, i2t := i2t, rms := rms,
    irDc := meanOf (slotPrimary s p.bind first samples 8), quadrant := quadrantOf dp dq }

/-! ### Energy registers (R148–R154) -/

/-- The live value of a register (R153). -/
def liveValue (r : EnergyReg) : Int := r.stored + r.pending

/-- The whole part of a value, in least significant bits. -/
def wholePart (v : Int) : Int := v / 2 ^ 32

/-- The increment of a quantity in a tick (R149). -/
def quantityOf (t : TickResult) (qty : Nat) : Int :=
  if qty = 1 then t.dp
  else if 2 ≤ qty ∧ qty ≤ 4 then nthI t.p (qty - 2)
  else if qty = 5 then t.dq
  else if 6 ≤ qty ∧ qty ≤ 8 then nthI t.q (qty - 6)
  else if qty = 9 then t.ds
  else if 10 ≤ qty ∧ qty ≤ 12 then nthI t.s (qty - 10)
  else 0

/-- What a mode adds of an increment (R149). -/
def modeAdds (mode : Nat) (v : Int) : Int :=
  if mode = 0 then v else if mode = 1 then v.natAbs else if mode = 2 then (if 0 < v then v else 0)
  else if v < 0 then -v else 0

/-- What a register takes of a tick (R149). -/
def regIncrement (c : RegCfg) (t : TickResult) : Int :=
  if c.mask = 0 ∨ bitOf c.mask (t.quadrant - 1) then modeAdds c.mode (quantityOf t c.qty) else 0

/-- The limits of a register (R152). -/
def regMax : Int := (2 ^ 71 - 1) * 2 ^ 32
def regMin : Int := -(2 ^ 71) * 2 ^ 32

/-- The register stands at a limit and holds it (R152). -/
def regHeld (r : EnergyReg) : Bool := decide (regMax ≤ liveValue r) || decide (liveValue r ≤ regMin)

/-- A register advanced by an increment; at a limit it holds that value (R152). -/
def advance (r : EnergyReg) (d : Int) : EnergyReg :=
  if regHeld r then r else { r with pending := clampI regMin regMax (liveValue r + d) - r.stored }

/-- The increments of REG0–REG15 and I2T0–I2T3 of a point in a tick. -/
def increments (p : MeteringPoint) (t : TickResult) : List Int :=
  ((List.range 16).map fun i => regIncrement (cfgOf p i) t) ++ (List.range 4).map fun k => nthI t.i2t k

/-- The registers of a point after a tick. -/
def advanceAll (p : MeteringPoint) (incs : List Int) : MeteringPoint :=
  incs.zipIdx.foldl (fun p (d, i) => setReg i (advance (regOf p i) d) p) p

/-- A register has just reached a limit in this tick (R152). -/
def newlyHeld (before after : MeteringPoint) : Bool :=
  (List.range 20).any fun i => regHeld (regOf after i) && !regHeld (regOf before i)

/-- The write count of a record (R153). -/
def recCount (b : Bytes) : Nat := fieldU b 13 1

/-- The value with its fraction that a record holds (R153). -/
def recValue (b : Bytes) : Int := fieldS b 0 9 * 2 ^ 32 + fieldU b 9 4

/-- The record's CRC-16 is correct (R154). -/
def recValid (b : Bytes) : Bool := decide (b.length = 16) && decide (fieldU b 14 2 = (crc16 (b.take 14)).toNat)

/-- The write-through of one register (R153): the live value goes to the other record, and the pending advance is 0. -/
def writeReg (r : EnergyReg) : EnergyReg :=
  let v := liveValue r
  let rec_ := regRecord v (((if r.nextB then recCount r.recA else recCount r.recB) + 1) % 256)
  if r.nextB then { r with stored := v, pending := 0, recB := rec_, nextB := false }
  else { r with stored := v, pending := 0, recA := rec_, nextB := true }

/-- Write every register of every point through to MRAM (R153). -/
def writeThroughAll (s : State) : State :=
  allPoints.foldl (fun s m =>
    let p := pointOf s m
    setPoint m ((List.range 20).foldl (fun p i => setReg i (writeReg (regOf p i)) p) p) s) s

/-- Count `a` is later than count `b`: 1 to 127 ahead, modulo 256 (R154). -/
def later (a b : Nat) : Bool :=
  let d := (a + 256 - b) % 256
  decide (1 ≤ d ∧ d ≤ 127)

/-- The register after the restore of R154, and whether it had no valid record. -/
def restoreReg (r : EnergyReg) : EnergyReg × Bool :=
  let okA := recValid r.recA
  let okB := recValid r.recB
  if !okA && !okB then ({ r with stored := 0, pending := 0, nextB := false }, true)
  else if okB && (!okA || later (recCount r.recB) (recCount r.recA)) then
    ({ r with stored := recValue r.recB, pending := 0, nextB := false }, false)
  else ({ r with stored := recValue r.recA, pending := 0, nextB := true }, false)

/-! ### Test pulses (R172) -/

def tpoOf (s : State) (n : Nat) : Tpo := look {} s.meter.tpos n
def setTpo (n : Nat) (t : Tpo) (s : State) : State :=
  { s with meter := { s.meter with tpos := put {} s.meter.tpos n t } }

/-- The minimum period of a test pulse output, 1.25 µs (R172): twice the width, and at least 125 µs. -/
def pulsePeriod (t : Tpo) : Nat := max (80 * t.width) 100

/-- The sample boundary nearest to i × 10 ms / n (R172); of two that are equally near, which one the spec leaves open (assumption
log 18). -/
def edgeBoundary (i n : Nat) : Nat :=
  let r := 320 * i % n
  if 2 * r < n then 320 * i / n
  else if n < 2 * r then 320 * i / n + 1
  else 320 * i / n + b2n (Config.roundUp (320 * i : Nat) n)

/-- The edges that fit into the 10 ms after a tick's end (R172), in sample boundaries from it: edge `i` of `n` comes at its boundary,
or at the first one from `ready`, the end of the minimum period of the edge before it (1.25 µs, 25 to a sample). The answer is the edges
and the instant from which the next is allowed. -/
def pulseEdges : Nat → (period n i ready : Nat) → List Nat × Nat
  | 0, _, _, _, ready => ([], ready)
  | fuel + 1, period, n, i, ready =>
    let e := max (edgeBoundary i n) ((ready + 24) / 25)
    if i < n ∧ e < 320 then
      let (r, next) := pulseEdges fuel period n (i + 1) (25 * e + period)
      (e :: r, next)
    else ([], ready)

/-- One output takes its register's increment at sample number `now`: n = floor(residue / W) pulses join those carried, and the
pulses that fit leave the module (R172). -/
def pulseStep (now : Nat) (t : Tpo) (inc : Int) : Tpo × List Nat :=
  let total := t.residue + inc.toNat
  let w := t.weight * 2 ^ 32
  let n := total / w + t.carried
  let (out, next) := pulseEdges 80 (pulsePeriod t) n 0 (t.ready - 25 * now)
  ({ t with residue := total % w, carried := n - out.length, ready := 25 * now + next }, out)

/-- Every enabled output after the tick of its point. -/
def pulseAll (s : State) (incs : Nat → List Int) : State :=
  (List.range 8).foldl (fun s k =>
    let t := tpoOf s k
    if t.enable then
      let (t', edges) := pulseStep s.meter.samples t (nthI (incs t.mp) t.reg)
      let s := setTpo k t' s
      if edges = [] then s else emit (.pulses k edges) s
    else s) s

/-! ### The end of a tick (R142) -/

/-- A point takes the tick: gates, quantities, registers. -/
def pointTick (s : State) (samples : List ChannelSamples) (n : Nat) (p : MeteringPoint) : MeteringPoint × List Int :=
  let p := gatesAfter s p samples
  let t := tickOf s p samples n
  let incs := increments p t
  ({ advanceAll p incs with tick := t }, incs)

/-- Configuration that takes effect at this tick boundary (R133, R137, R138, R141, R151). -/
def applyChannel (a : Nat) (s : State) : State :=
  let c := chanOf s a
  let rot := s.meter.rot
  let changed : Bool := match c.pending with
    | some (k, g, _) => k != c.kind || g != c.gainExp
    | none => false
  let gainChanged : Bool := match c.pending with
    | some (_, g, _) => g != c.gainExp
    | none => false
  let c := match c.pending with
    | some (k, g, sc) => { c with kind := k, gainExp := g, scale := sc, pending := none, aged := c.aged || gainChanged }
    | none => c
  let c := match c.pendingCal with
    | some (t, o, f) => { c with trim := t, off := o, ph := f, pendingCal := none }
    | none => c
  let waits := (chanOf s a).pending.isSome || (chanOf s a).pendingCal.isSome
  let s := setChan a c (if waits then noteSwitch a s.meter.samples s else s)
  if changed ∧ rot.ain = a then
    { s with meter := { s.meter with rot := { rot with ended := true, substituting := false, fresh := none } } }
  else s

def applyRegCfg (p : MeteringPoint) (i : Nat) : MeteringPoint :=
  let r := regOf p i
  match r.pendingCfg with
  | some (c, clear) =>
    let r := { r with pendingCfg := none }
    setCfg i c (setReg i (if clear then { r with pending := -r.stored } else r) p)
  | none => p

/-- The gate of an element and its last 1 s go on through a new binding only where the element keeps its current channel (R173). -/
def keepGate (old b : Binding) (p : MeteringPoint) (e : Nat) : MeteringPoint :=
  if e < elementsOf old.wiring ∧ e < elementsOf b.wiring ∧ slotAin old (4 + e) = slotAin b (4 + e) then p
  else { p with gates := bitClear p.gates e, lastSecond := put [] p.lastSecond e [] }

def applyPoint (m : Nat) (s : State) : State :=
  let p := pointOf s m
  let p := match p.pendingBind with
    | some b =>
      (List.range 3).foldl (keepGate p.bind b) { p with bind := b, pendingBind := none, config := p.config || runs p }
    | none => p
  setPoint m ((List.range 16).foldl applyRegCfg p) s

def applyConfig (s : State) : State :=
  let s := (List.range 96).foldl (fun s a => applyChannel a s) s
  allPoints.foldl (fun s m => applyPoint m s) s

/-- The sample count of a tick row: that of its longest channel. -/
def tickSamples (samples : List ChannelSamples) : Nat := samples.foldl (fun n c => max n c.codes.length) 0

/-- Over-range counts of every channel after a tick (R176). -/
def countOver (samples : List ChannelSamples) (s : State) : State :=
  (List.range 96).foldl (fun s a =>
    let c := chanOf s a
    setChan a { c with ovr := overRange (codesOf samples a) } s) s

/-- The largest over-range count among the channels that a point binds. -/
def worstOver (s : State) (p : MeteringPoint) : Nat :=
  p.bind.slots.foldl (fun n a => max n (if a = 255 then 0 else (chanOf s a).ovr)) 0

/-- One running point takes the tick; it answers the register increments. CAL_INVALID on a register that reaches its
limit (R152); OVERRANGE on 32 over-range samples (R176). -/
def pointEnd (samples : List ChannelSamples) (n m : Nat) (s : State) : List Int × State :=
  let p := pointOf s m
  if runs p then
    let (p', incs) := pointTick s samples n p
    let s := setPoint m p' s
    let s := if newlyHeld p p' then tamperSet 17 (alarmTo m 7 true 0 0 s) else s
    let w := worstOver s p'
    (incs, if 32 ≤ w then alarmTo m 4 true 0 w s else s)
  else ([], s)

/-- Every point takes the tick. -/
def pointsEnd (samples : List ChannelSamples) (n : Nat) (s : State) : Tab (List Int) × State :=
  allPoints.foldl (fun (acc : Tab (List Int) × State) m =>
    let (incs, s) := pointEnd samples n m acc.2
    (put [] acc.1 m incs, s)) ([], s)

/-- Metrology at the end of a tick or partial tick (R142): quantities, registers, the sample counts, test pulses. -/
def meterTick (samples : List ChannelSamples) (s : State) : Tab (List Int) × State :=
  let n := min (tickSamples samples) (320 - s.meter.tickPos)
  let (incs, s) := pointsEnd samples n (countOver samples s)
  let pos := s.meter.tickPos + n
  let s := { s with meter := { s.meter with
    samples := s.meter.samples + n, tickPos := pos % 320, tickAge := if pos < 320 then s.meter.tickAge else 0
    switches := s.meter.switches.filter fun w => decide (s.meter.samples + n < w.at_ + 16384) } }
  (incs, pulseAll s fun m => look [] incs m)

/-! ### The rotating spare (R129–R133) -/

/-- |a/b − 1| exceeds `ppm`, for whole numbers. -/
def exceedsPpm (a b : Nat) (ppm : Nat) : Bool := decide (ppm * b < ((a : Int) - b).natAbs * 1000000)

/-- The codes of an injection that count: all but its first 2 ms (R130), held to 18 bits; their sum and number. -/
def injectedSum (codes : List Int) : Int × Nat :=
  let l := (codes.drop 64).map saturate
  (sumI l, l.length)

/-- gain_bg = ref_otp / (m_ref − m_zero), 2^-30, of the sums and counts of the two steps (R130). -/
def gainBg (g : Nat) (zero ref : Int × Nat) : Nat :=
  let span := ref.1 * zero.2 - zero.1 * ref.2
  (openDiv ((Config.refOtp g : Int) * 2 ^ 30 * ref.2 * zero.2 * span.sign) (256 * span.natAbs)).toNat

/-- The spare's own coefficients are out of range (R132). -/
def spareBad (b : Background) : Bool := exceedsPpm b.gain (2 ^ 30) 5000 || decide (2000 * 256 < b.off.natAbs)

/-- Fresh coefficients that are discarded for their distance from the ones in force (R131). -/
def freshBad (old new : Background) : Bool :=
  exceedsPpm new.gain old.gain 200 || decide (64 * 256 < (new.off - old.off).natAbs)

/-- The comparison of steps 3 and 7 fails (R131): samples of the spare and of the own path, corrected by R134, 2^-8 code. -/
def mismatchBad (spare own : List Int) : Bool :=
  let d := sumI spare - sumI own
  let a := max (sumN (own.map Int.natAbs)) (320 * 100 * 256)
  decide (50 * a < d.natAbs * 1000000)

/-- The samples of one path of a channel in a comparison, corrected with given background coefficients and the terms of the channel (R131,
R134). -/
def comparedPath (s : State) (a path : Nat) (bg : Background) (first : Nat) (codes : List Int) : List Int :=
  correctedWith (fun _ => { termsNow s a with path := path, bg := bg }) s a first codes

def setRot (r : Rotation) (s : State) : State := { s with meter := { s.meter with rot := r } }

/-- A channel record of the rotation: 0x303. -/
def logSpare (a : Nat) (s : State) : State := logMeter 0x303 a (joinAlarms s (binds a)) [] s

/-- A failed comparison of channel `a` (R131). -/
def spareFailed (a : Nat) (s : State) : State :=
  let c := chanOf s a
  let s := setChan a { c with fails := c.fails + 1 } s
  let s := { s with meter := { s.meter with rot := { s.meter.rot with failures := s.meter.rot.failures + 1 } } }
  let s := logSpare a s
  if 3 ≤ c.fails + 1 then alarmAll 5 true (binds a) s else s

/-- Suspend the rotation (R132): SPARE_FAULT and logbook 0x304. -/
def suspendRotation (s : State) : State :=
  let s := setRot { s.meter.rot with suspended := true, substituting := false, zero := none, fresh := none } s
  let s := alarmAll 6 true (fun _ => true) s
  logMeter 0x304 0xFFFF (joinAlarms s fun _ => true) [] s

/-- The coefficients that a path is compared with: the fresh ones, unless their distance from those in force discards them (R131). That
the comparison uses the fresh ones before they take effect is read from its purpose, to decide on them (DEDUCED, assumption log 74). -/
def candidate (old : Background) (fresh : Option Background) : Background :=
  match fresh with
  | some b => if freshBad old b then old else b
  | none => old

/-- Take coefficients of a path at a gain, or discard them with 0x303 (R130, R131). -/
def acceptBg (path g a : Nat) (fresh : Option Background) (s : State) : State :=
  match fresh with
  | some b => if freshBad (bgOf s path g) b then logSpare a s else setBg path g { b with since := s.meter.samples } s
  | none => s

/-- The end of step 3 (R129, step 4): the spare's fresh coefficients take effect and the spare path substitutes, or the
slot does not substitute. -/
def endStep3 (m : SpareMeasure) (s : State) : State :=
  let r := s.meter.rot
  let a := r.ain
  let g := (chanOf s a).gainExp
  let spare := comparedPath s a 96 (candidate (bgOf s 96 g) r.fresh) m.first m.spare
  if mismatchBad spare (comparedPath s a a (bgOf s a g) m.first m.own) then
    let s := spareFailed a s
    setRot { s.meter.rot with step := 5, ended := true, fresh := none } s
  else
    let s := acceptBg 96 g a r.fresh (noteSwitch a (r.start + 960) s)
    setRot { s.meter.rot with step := 5, substituting := true, fresh := none, zero := none } s

/-- The end of step 7 (R129, step 8): the channel's fresh coefficients take effect or are discarded, and the own path
delivers again. -/
def endStep7 (m : SpareMeasure) (s : State) : State :=
  let r := s.meter.rot
  let a := r.ain
  let g := (chanOf s a).gainExp
  let own := comparedPath s a a (candidate (bgOf s a g) r.fresh) m.first m.own
  let bad := mismatchBad (comparedPath s a 96 (bgOf s 96 g) m.first m.spare) own
  let accepted := !bad && r.fresh.any fun b => !freshBad (bgOf s a g) b
  let s := noteSwitch a (r.start + 3680) s
  let s := if bad then spareFailed a s else acceptBg a g a r.fresh s
  let s := if accepted then alarmAll 5 false (binds a) (setChan a { chanOf s a with fails := 0, aged := false } s) else s
  setRot { s.meter.rot with step := 9, substituting := false, fresh := none, zero := none } s

/-- The fresh coefficients of the sums of a zero and a reference step (R130). -/
def freshFrom (g : Nat) (zero ref : Int × Nat) : Background :=
  { off := openDiv (zero.1 * 256) zero.2, gain := gainBg g zero ref }

/-- The end of the slot: the next channel. -/
def endSlot (s : State) : State :=
  let r := s.meter.rot
  setRot { r with
    ain := (r.ain + 1) % 96, step := 1, ended := false, substituting := false, start := r.start + 4000, zero := none, fresh := none
    rotations := if r.ain = 95 then (r.rotations + 1) % 2 ^ 32 else r.rotations } s

/-- A step boundary of the slot (R129): the step in progress ends with what it measured. A slot that was ended, or that
does not substitute, runs out without effect (R131, R133). -/
def sparePhase (m : SpareMeasure) (s : State) : State :=
  let r := s.meter.rot
  let g := (chanOf s r.ain).gainExp
  if r.suspended then s
  else if r.step = 9 then endSlot s
  else if r.ended then
    setRot { r with step := if r.step = 3 then 5 else if r.step = 7 then 9 else r.step + 1 } s
  else if r.step = 1 ∨ r.step = 5 then setRot { r with step := r.step + 1, zero := some (injectedSum m.injected) } s
  else if r.step = 2 then
    let b := freshFrom g (r.zero.getD (0, 0)) (injectedSum m.injected)
    if spareBad b then suspendRotation s else setRot { r with step := 3, fresh := some b } s
  else if r.step = 6 then
    setRot { r with step := 7, fresh := some (freshFrom g (r.zero.getD (0, 0)) (injectedSum m.injected)) } s
  else if r.step = 3 then endStep3 m s
  else endStep7 m s

/-- `SPARE_SLOT_PHASE` (R129–R133). -/
def execSpareSlotPhase (m : SpareMeasure) (s : State) : Host.Outcome State Fault Refusal :=
  .next (if bitOf s.power.on 10 then sparePhase m s else s)

/-- The first slot start of the slot grid that is not past (R132): a slot has 4,000 samples. -/
def nextSlot (s : State) : Nat := s.meter.rot.start + (s.meter.samples - s.meter.rot.start + 3999) / 4000 * 4000

/-- The retry of a suspended rotation (R132): after the first pass, it resumes with the next channel at the next slot start. -/
def retrySpare (zero ref : List Int) (s : State) : State :=
  let r := s.meter.rot
  let g := (chanOf s r.ain).gainExp
  let b := freshFrom g (injectedSum zero) (injectedSum ref)
  if r.suspended ∧ !spareBad b then
    let s := endSlot (setRot { r with suspended := false } s)
    let s := alarmAll 6 false (fun _ => true) (setRot { s.meter.rot with start := nextSlot s } s)
    logMeter 0x304 0xFFFF (joinAlarms s fun _ => true) [] s
  else s

/-- `SPARE_RETRY` (R132): the raw codes of the spare's zero and reference steps. -/
def execSpareRetry (zero reference : List Int) (s : State) : Host.Outcome State Fault Refusal :=
  .next (if bitOf s.power.on 10 then retrySpare zero reference s else s)

/-! ### Measurement windows (R145, R146) -/

/-- Sums of element `e` over a window: active and reactive products, and the product of the sums of squares. -/
def elementSums (s : State) (b : Binding) (x : SampleBlock) (e : Nat) : Int × Int × Nat :=
  let v := slotPrimary s b x.first x.chans e
  let i := slotPrimary s b x.first x.chans (4 + e)
  (dotI v i, dotI (quadrature x.first v) i, squares v * squares i)

/-- A sum of products over `n` samples as power, W; `guard` is a factor that the sum carries (R145). -/
def powerOf (n guard : Nat) (sum : Int) : Int := if n = 0 then 0 else openDiv (sum * 9) (n * 2 ^ 112 * guard)

/-- The root of a sum of squares with 40 guard bits: a total of roots is rounded once (R145, assumption log 18). -/
def guardRoot (q : Nat) : Nat := isqrtFrom 512 (q * 2 ^ 80) 0

/-- Frequency from the crossings of V0 (R145): their count less 1, and the time they span; fewer than two give no value. -/
def freqOf (crossings : List Time) : Option (Nat × Nat) :=
  match crossings, crossings.getLast? with
  | t1 :: _ :: _, some tc => some (crossings.length - 1, (tc - t1).toNat)
  | _, _ => none

/-- A frequency in µHz; without a value it is a free one. -/
def freqValue (f : Option (Nat × Nat)) (s : State) : Nat × State :=
  match f with
  | some (c, d) => ((openDiv ((c : Int) * 1000000 * 2 ^ 36) d).toNat, s)
  | none => takeFree s

/-- Cycles of a measurement window (R145, R146). -/
def cyclesOf (hz : Nat) : Nat := if hz = 50 then 10 else 12

/-- The vectors x_h, h = 1 to 63, of primary samples (R146), 3 × 2^-150 primary unit. -/
def harmonicVectors (nc : Nat) (y : List Int) : List (Int × Int) :=
  let r := resampled nc y
  (List.range 63).map fun k => dft ((k + 1) * nc) r

/-- The magnitude of a harmonic, µV or µA (R146): √2 / m × |x_h|. -/
def harmonicMag (nc : Nat) (x : Int × Int) : Nat := openSqrt (2 * normSq x * 9 * 10 ^ 12) ((128 * nc) ^ 2 * 4 ^ 150)

/-- The angle of harmonic `h` relative to the fundamental of V0, 2^-15 half turn (R146). -/
def harmonicAngle (h : Nat) (x v : Int × Int) : Int :=
  signed 16 (unsigned 16 (openDiv ((argTurn x.1 x.2 : Int) - h * argTurn v.1 v.2) (2 ^ 32)))

/-- Total harmonic distortion, ppm, of the vectors x_1 to x_63 (R146); the spec states none without a fundamental. -/
def thdOf (xs : List (Int × Int)) : Nat :=
  let one := normSq (xs.getD 0 (0, 0))
  let rest := sumN ((xs.drop 1).map normSq)
  if one = 0 then (Config.divByZero rest).toNat else openSqrt (rest * 10 ^ 12) one

/-- Harmonics of the channels that a point binds (R146). -/
def windowHarmonics (b : Binding) (x : SampleBlock) (freq : Nat) (s : State) : State :=
  let nc := cyclesOf b.hz
  let v := (harmonicVectors nc (slotPrimary s b x.first x.chans 0)).getD 0 (0, 0)
  b.slots.foldl (fun s a =>
    if a = 255 then s
    else
      let xs := harmonicVectors nc (primaryOf s a x.first (corrected s a x.first (codesOf x.chans a)))
      setChan a { chanOf s a with
        freq := freq, thd := thdOf xs
        harmonics := xs.zipIdx.map fun (z, k) => (harmonicMag nc z, harmonicAngle (k + 1) z v)
        ovrWindow := decide (0 < overRange (codesOf x.chans a)) } s) s

/-- Sums of three lists, entry by entry. -/
def sumThree : List Int → List Int → List Int → List Int
  | a :: x, b :: y, c :: z => (a + b + c) :: sumThree x y z
  | _, _, _ => []

/-- RMS of the fundamental of (V0 + V1 + V2) / 3, mV (R146, R176). -/
def neutralFundamental (s : State) (b : Binding) (x : SampleBlock) : Nat :=
  let nc := cyclesOf b.hz
  let v := fun k => slotPrimary s b x.first x.chans k
  openSqrt (2 * normSq (dft nc (resampled nc (sumThree (v 0) (v 1) (v 2)))) * 10 ^ 6) ((128 * nc) ^ 2 * 4 ^ 150)

/-- The values of a window (R145). Totals and the power factor are formed from the unrounded sums. -/
def windowOf (s : State) (b : Binding) (x : SampleBlock) (freq : Nat) : WindowResult :=
  let ne := elementsOf b.wiring
  let n := (slotPrimary s b x.first x.chans 0).length
  let es := (List.range 3).map fun e => if e < ne then elementSums s b x e else (0, 0, 0)
  let pt := sumI (es.map fun e => e.1)
  let qt := sumI (es.map fun e => e.2.1)
  let st := if b.wiring = 3 then guardRoot (pt * pt + qt * qt).toNat else sumN (es.map fun e => guardRoot e.2.2)
  { rms := (List.range 9).map fun k => rmsOf (slotPrimary s b x.first x.chans k)
    p := es.map fun e => powerOf n 1 e.1, q := es.map fun e => powerOf n 1 e.2.1
    s := es.map fun e => powerOf n (2 ^ 40) (guardRoot e.2.2)
    pTotal := powerOf n 1 pt, qTotal := powerOf n 1 qt, sTotal := powerOf n (2 ^ 40) st, freq := freq
    pf := if st = 0 then 0 else openDiv (pt * 2 ^ 40 * 16384) st
    neutral := neutralFundamental s b x }

/-- The end of a measurement window of a running point (R145, R146). -/
def windowEnd (m : Nat) (x : SampleBlock) (crossings : List Time) (s : State) : State :=
  let p := pointOf s m
  if runs p then
    let w := windowOf s p.bind x
    let (freq, s) := freqValue (freqOf crossings) s
    windowHarmonics p.bind x freq (setPoint m { p with window := w freq } s)
  else s

/-- `MEASUREMENT_WINDOW_END` (R145, R146). -/
def execMeasurementWindowEnd (mp : Nat) (block : SampleBlock) (crossings : List Time) (s : State) :
    Host.Outcome State Fault Refusal :=
  within "metering point" mp 32 (if bitOf s.power.on 10 then windowEnd mp block crossings s else s)

/-! ### Alarm conditions (R176) -/

/-- Element voltages and currents of the last window. -/
def elementVolts (p : MeteringPoint) : List Nat :=
  (List.range (elementsOf p.bind.wiring)).map fun e => nthN p.window.rms e
def elementAmps (p : MeteringPoint) : List Nat :=
  (List.range (elementsOf p.bind.wiring)).map fun e => nthN p.window.rms (4 + e)

/-- V3 is bound. -/
def hasV3 (p : MeteringPoint) : Bool := slotAin p.bind 3 != 255

/-- The quantity of NEUTRAL_LOSS (R176): V3, or the fundamental of the sum of the phases of a 3P4W point. -/
def neutralOf (p : MeteringPoint) : Nat := if hasV3 p then nthN p.window.rms 3 else p.window.neutral

/-- An element whose current flows without its voltage. -/
def currentNoVoltage (p : MeteringPoint) : Option Nat :=
  (List.range (elementsOf p.bind.wiring)).find? fun e =>
    decide (5 * p.bind.iNom < 100 * nthN p.window.rms (4 + e) ∧ 10 * nthN p.window.rms e < p.bind.uNom)

/-- The first element whose voltage is below 60 % of U_nom. -/
def lostPhase (p : MeteringPoint) : Option Nat :=
  (List.range (elementsOf p.bind.wiring)).find? fun e => decide (10 * nthN p.window.rms e < 6 * p.bind.uNom)

/-- The set condition of an alarm, with its element and measured value (R176). -/
def alarmSets (s : State) (p : MeteringPoint) (bit : Nat) : Option (Nat × Nat) :=
  let u := p.bind.uNom
  if bit = 0 then
    match lostPhase p with
    | some e => if (elementVolts p).any fun v => decide (8 * u ≤ 10 * v) then some (e, nthN p.window.rms e) else none
    | none => none
  else if bit = 1 then
    let v := neutralOf p
    if hasV3 p then (if 20 * u < 100 * v then some (0, v) else none)
    else if p.bind.wiring = 4 ∧ 15 * u < 100 * v then some (0, v) else none
  else if bit = 2 then
    -- power in W against U_nom in mV times I_nom in mA
    if p.revAlarm ∧ p.window.pTotal * 100000000 < -((elementsOf p.bind.wiring * u * p.bind.iNom : Nat) : Int) then
      some (0, unsigned 72 p.window.pTotal)
    else none
  else if bit = 3 then (currentNoVoltage p).map fun e => (e, nthN p.window.rms (4 + e))
  else if bit = 4 then (if 32 ≤ worstOver s p then some (0, worstOver s p) else none)
  else none

/-- The clear condition of an alarm (R176). -/
def alarmClears (s : State) (p : MeteringPoint) (bit : Nat) : Bool :=
  let u := p.bind.uNom
  if bit = 0 then (elementVolts p).all fun v => decide (85 * u ≤ 100 * v)
  else if bit = 1 then decide (10 * neutralOf p < u)
  else if bit = 2 then decide (0 ≤ p.window.pTotal)
  else if bit = 3 then (currentNoVoltage p).isNone
  else if bit = 4 then worstOver s p == 0
  else false

/-- The measured value of an alarm that clears (R177): the quantity of its condition, for the element for which it was set. -/
def clearValue (s : State) (p : MeteringPoint) (bit : Nat) : Nat :=
  let e := look 0 p.alarmElem bit
  if bit = 0 then nthN p.window.rms e
  else if bit = 1 then neutralOf p
  else if bit = 2 then unsigned 72 p.window.pTotal
  else if bit = 3 then nthN p.window.rms (4 + e)
  else if bit = 4 then worstOver s p
  else 0

/-- The timer of an alarm (R176): its condition has held for its duration. -/
def alarmTimer (m bit : Nat) (s : State) : State :=
  let p := pointOf s m
  if runs p then
    if bitOf p.alarms bit then
      (if alarmClears s p bit then alarmTo m bit false (look 0 p.alarmElem bit) (clearValue s p bit) s else s)
    else
      match alarmSets s p bit with
      | some (e, v) => alarmTo m bit true e v s
      | none => s
  else s

/-- `METROLOGY_ALARM_TIMER` (R176, R177). -/
def execMetrologyAlarmTimer (mp bit : Nat) (s : State) : Host.Outcome State Fault Refusal :=
  within "metering point" mp 32 (if bitOf s.power.on 10 then alarmTimer mp bit s else s)

/-! ### Output records (R155–R161) -/

/-- Emit a metrology record to the output queue, or drop it, count it and log 0x30B (R159). -/
def meterRecord (m : Nat) (type vflags counter : Nat) (stamp : Time) (payload : Bytes) (s : State) : State :=
  let h : RecHeader := { type := type, ctx := m, vflags := vflags, tb0 := stamp, port := 0xFE, counter := counter }
  match (if isolated s then none else emitRecord s.meter.outHq (harvestRecord h payload) s) with
  | some s => s
  | none =>
    let s := { s with meter := { s.meter with dropped := s.meter.dropped + 1 } }
    logMeter 0x30B m (pointOf s m).alarms [] s

/-- A bound channel shows CAL_AGED (R133). -/
def pointAged (s : State) (p : MeteringPoint) : Bool :=
  p.bind.slots.any fun a => a != 255 && (chanOf s a).aged

/-- REG0–REG15 and I2T0–I2T3, whole parts. -/
def regValues (p : MeteringPoint) : List Int := (List.range 20).map fun i => wholePart (liveValue (regOf p i))

/-- The payload of an INTERVAL record (R160). -/
def intervalPayload (m : Nat) (s : State) : Bytes :=
  let p := pointOf s m
  let t := s.meter
  let flags := ofBits [t.short, t.long, t.powerFail, pointAged s p, p.alarmSeen || p.alarms != 0, p.config]
  let len := (openDiv ((t.samples - t.intervalStart : Nat) : Int) 32000).toNat
  le8 m ++ le8 flags ++ le16 (min 65535 len) ++ le72 (tbVal s 2) ++ le8 t.minutes ++ [0, 0] ++
    (regValues p).flatMap (leInt 9)

/-- Validation flags of an INTERVAL record: TIME_UNTRUSTED, CLKSTEP, LATE. -/
def intervalFlags (untrusted step late : Bool) : Nat := 16 * b2n untrusted + 32 * b2n step + 65536 * b2n late

/-- A record leaves for the phasor output, with its count (R159). -/
def sendInterval (u : UnsentRec) (s : State) : State :=
  let p := pointOf s u.mp
  let s := setPoint u.mp { p with intervals := (p.intervals + 1) % 2 ^ 32 } s
  meterRecord u.mp 2 u.vflags p.intervals u.stamp u.payload s

/-- One point at a boundary: snapshot, and its INTERVAL record when enabled (R155). A boundary decided after a power-fail
trigger keeps its record for the restart, with LATE; so does the interval that a restart closes, whose record is not late (`kept`,
R157). -/
def pointBoundary (kept late : Bool) (m : Nat) (s : State) : State :=
  if bitOf s.meter.intervalMask m then
    let u : UnsentRec :=
      { mp := m, payload := intervalPayload m s, stamp := tbVal s 0, vflags := intervalFlags (timeUntrusted s) s.meter.clkStep late }
    let s := setPoint m { pointOf s m with snapshot := regValues (pointOf s m) } s
    if kept then { s with meter := { s.meter with unsent := s.meter.unsent ++ [u] } } else sendInterval u s
  else s

/-- Close the open interval (R155): records, milestone code 5 when enabled, and the next interval opens. -/
def closeIntervalAs (kept late : Bool) (boundary offset : Nat) (s : State) : State :=
  let s := if bitOf s.clock.msEnable 3 ∧ fabricUp s then capture 5 0 0 offset s else s
  let s := allPoints.foldl (fun s m => pointBoundary kept late m s) s
  let s := allPoints.foldl (fun s m =>
    let p := pointOf s m
    setPoint m { p with alarmSeen := false, config := false } s) s
  { s with meter := { s.meter with
      lastBoundary := some boundary, intervalStart := s.meter.samples, short := false, long := false, clkStep := false
      powerFail := false, minutes := s.meter.minutesNext.getD s.meter.minutes, minutesNext := none } }

/-- A boundary (R155); after a power-fail trigger its records wait (R157). -/
def closeInterval (boundary offset : Nat) (s : State) : State := closeIntervalAs s.meter.pfail s.meter.pfail boundary offset s

/-- TB2 as the boundaries see it: in hold-up operation it stands at the sample boundary of the commit, and no boundary after that is
taken (R196). -/
def calTime (s : State) : Time :=
  if s.meter.pfail ∧ s.meter.commitTb2 ≤ tbVal s 2 then s.meter.commitTb2 else tbVal s 2

def calSec (s : State) : Nat := (calTime s).toNat / 2 ^ 36

/-- The latest second divisible by the interval length (R155). -/
def boundaryAt (s : State) (sec : Nat) : Nat := sec / (60 * s.meter.minutes) * (60 * s.meter.minutes)

/-- The interval boundary is due: TB2 has passed one later than the last one taken (R155, R156). -/
def boundaryDue (s : State) : Bool :=
  match s.meter.lastBoundary with
  | some b => decide (b < boundaryAt s (calSec s))
  | none => true

/-- `METERING_INTERVAL_BOUNDARY` (R155). -/
def intervalBoundary (offset : Nat) (s : State) : State :=
  if bitOf s.power.on 10 ∧ boundaryDue s then closeInterval (boundaryAt s (calSec s)) offset s else s

/-- The interval boundary, where it is due, before what comes after it at the same sample boundary (R195). -/
def dueInterval (s : State) : State :=
  intervalBoundary (calTime s - BitVec.ofNat 72 (boundaryAt s (calSec s) * 2 ^ 36)).toNat s

def execMeteringIntervalBoundary (offset : Word32) (s : State) : Host.Outcome State Fault Refusal :=
  .next (intervalBoundary offset.toNat s)

/-- TB2 has been moved (R156): a forward step over a boundary closes the open interval at once with CLKSTEP; after a
backward step, which lengthens the open interval, it carries LONG and CLKSTEP. -/
def intervalTb2Moved (old : Time) (s : State) : State :=
  if bitOf s.power.on 10 then
    let now := tbVal s 2
    if old.toNat ≤ now.toNat then
      if boundaryDue s ∧ s.meter.lastBoundary.isSome then
        closeInterval (boundaryAt s (tb2Sec s)) 0 { s with meter := { s.meter with clkStep := true } }
      else s
    else { s with meter := { s.meter with long := true, clkStep := true } }
  else s

/-- Send the records that wait in MRAM (R157), as soon as the output takes them. -/
def sendUnsent (s : State) : State :=
  if (hqOf s s.meter.outHq).en ∧ !isolated s then
    s.meter.unsent.foldl (fun s u => sendInterval u s) { s with meter := { s.meter with unsent := [] } }
  else s

/-- The reporting rates of a nominal frequency (R147). -/
def rateFits (hz rate : Nat) : Bool :=
  if hz = 60 then [10, 12, 15, 20, 30, 60].contains rate else [10, 25, 50].contains rate

/-- The reporting instant at or before TB0 (R147): k / r of the TB0 second. -/
def reportInstant (t : Time) (rate : Nat) : Time :=
  let sec := t.toNat / 2 ^ 36
  let k := t.toNat % 2 ^ 36 * rate / 2 ^ 36
  BitVec.ofNat 72 (sec * 2 ^ 36 + k * 2 ^ 36 / rate)

/-- Samples of a phasor window: two nominal cycles (R147). -/
def phasorSamples (hz : Nat) : Nat := if hz = 60 then 1067 else 1280

/-- The middle `nw` entries of a list: the window is centred on the instant. -/
def centred {α : Type} (nw : Nat) (l : List α) : List α := (l.drop ((l.length - nw) / 2)).take nw

/-- The reporting instant on which a block of samples is centred (R147). -/
def centreInstant (x : SampleBlock) (now : Time) (rate : Nat) : Time :=
  let mid := x.times.getD (x.times.length / 2) now
  reportInstant (mid + BitVec.ofNat 72 (2 ^ 35 / rate)) rate

/-- The phasor of a slot, real and imaginary part, mV or mA (R147): √2 / Σw times the weighted sum. -/
def phasorOf (s : State) (b : Binding) (x : SampleBlock) (at_ : Time) (k : Nat) : Int × Int :=
  let nw := phasorSamples b.hz
  let ts := BitVec.ofNat 72 (at_.toNat / 2 ^ 36 * 2 ^ 36)
  let (z, w) := hannSum b.hz ts (centred nw x.times) (centred nw (slotPrimary s b x.first x.chans k))
  let part := fun v : Int => signedSqrt v (2 * (v * v).toNat * 9 * 10 ^ 6) ((w * w).toNat * 4 ^ 118)
  (part z.1, part z.2)

/-- The frequency over the 200 ms that end at an instant (R145, R147), from the crossings of V0. -/
def freqEnding (s : State) (m : Nat) (t : Time) : Option (Nat × Nat) :=
  freqOf ((look [] s.meter.crossed (4 * m)).filter fun u => decide ((t - u).toNat ≤ 2 ^ 36 / 5)).reverse

/-- The rate of change of frequency, mHz/s, from the unrounded frequencies (R147); without one of them it is a free value. -/
def rocofOf (now before : Option (Nat × Nat)) (rate : Nat) (s : State) : Int × State :=
  match now, before with
  | some (c, d), some (c', d') => (openDiv (((c : Int) * d' - c' * d) * rate * 1000 * 2 ^ 36) (d * d'), s)
  | _, _ =>
    let (v, s) := takeFree s
    (v, s)

/-- The payload of a PHASOR record (R147, R161). -/
def phasorPayload (m : Nat) (x : SampleBlock) (at_ : Time) (s : State) : Bytes × State :=
  let b := (pointOf s m).bind
  let rate := s.meter.phasorRate
  let ph := (List.range 8).flatMap fun k =>
    if slotAin b k = 255 then List.replicate 8 0
    else
      let (re, im) := phasorOf s b x at_ k
      leInt 4 re ++ leInt 4 im
  let beyond := b.slots.any fun a => decide (0 < overRange (codesOf x.chans a))
  let bad := !(tb s 3).valid || s.power.bypass
  let f := freqEnding s m at_
  let (freq, s) := freqValue f s
  let (rocof, s) := rocofOf f (freqEnding s m (at_ - BitVec.ofNat 72 (2 ^ 36 / rate))) rate s
  let far := decide (5000000 < ((freq : Int) - b.hz * 1000000).natAbs)
  (ph ++ le32 freq ++ leInt 4 rocof ++ le8 m ++ le8 rate ++ le16 (ofBits [far, beyond, bad]) ++ [0, 0, 0, 0], s)

/-- A phasor reporting instant (R147, R159). -/
def phasorReport (x : SampleBlock) (s : State) : State :=
  if bitOf s.power.on 10 ∧ s.meter.phasorRate ≠ 0 then
    let at_ := centreInstant x (tbVal s 0) s.meter.phasorRate
    allPoints.foldl (fun s m =>
      let p := pointOf s m
      if bitOf s.meter.phasorMask m ∧ runs p ∧ rateFits p.bind.hz s.meter.phasorRate then
        let (payload, s) := phasorPayload m x at_ s
        let s := setPoint m { p with phasors := (p.phasors + 1) % 2 ^ 32 } s
        meterRecord m 8 (16 * b2n (timeUntrusted s)) p.phasors at_ payload s
      else s) s
  else s

/-- `PHASOR_REPORT` (R147, R161). -/
def execPhasorReport (block : SampleBlock) (s : State) : Host.Outcome State Fault Refusal := .next (phasorReport block s)

/-! ### The raw capture (R128) -/

/-- The capture word of sample number `i` of a channel (R128). -/
def captureWord (s : State) (a i : Nat) (x : Int) : Nat :=
  unsigned 18 (saturate x) + 2 ^ 18 * b2n ((termsAt s a i).path == 96) + 2 ^ 19 * b2n (decide (110100 ≤ x.natAbs)) + 2 ^ 20 * a

/-- Write the capture's words (R128): word s × k + i. -/
def captureWords (c : Capture) (first : Nat) (samples : List ChannelSamples) (s : State) : Tab Nat :=
  (List.range c.samples).foldl (fun t j =>
    c.ains.zipIdx.foldl (fun t (a, i) =>
      put 0 t (j * c.ains.length + i) (captureWord s a (first + j) (nthI (codesOf samples a) j))) t) s.meter.capture

/-- The capture is full: its command completes with OK (R128). -/
def captureDone (first : Nat) (samples : List ChannelSamples) (s : State) : State :=
  match s.meter.capturing with
  | some c =>
    if c.atCrossing ∨ (c.ains.any fun a => decide ((codesOf samples a).length < c.samples)) then s
    else
      let words := captureWords c first samples s
      finishMb c.mb .ok (le16 (c.samples * c.ains.length))
        { s with meter := { s.meter with capture := words, capturing := none } }
  | none => s

/-- `MET_CAPTURE_DONE` (R128). -/
def execMetCaptureDone (block : SampleBlock) (s : State) : Host.Outcome State Fault Refusal :=
  .next (captureDone block.first block.chans s)

/-- A zero crossing starts a capture that waits for one on its first listed voltage channel. -/
def captureCrossing (a : Nat) (s : State) : State :=
  match s.meter.capturing with
  | some c =>
    match c.ains.find? fun x => (chanOf s x).kind == 1 with
    | some v => if v = a then { s with meter := { s.meter with capturing := some { c with atCrossing := false } } } else s
    | none => s
  | none => s

/-! ### Power fail (R162–R166) -/

/-- The 32 bytes of an outage record (R166). The rule gives the polynomial of its CRC-8 and no initial value: it is 0, as in R78 (DESIGN
CHOICE, assumption log 73). -/
def outageBytes (o : Outage) : Bytes :=
  let b := le8 o.cause ++ le8 (ofBits [o.commitOk, o.degraded, o.brownout, o.tb2Bad]) ++ le16 o.commits ++ le72 o.trigger
    ++ le72 o.lastCommit ++ le72 o.restart
  b ++ leBytes 1 (crc8 b).toNat

/-- TB2 at the next sample boundary: a sample is 18,750 fabric ticks (R163, step 3). -/
def nextSampleTb2 (s : State) : Time :=
  tbVal s 2 + BitVec.ofNat 72 ((18750 - s.meter.tickAge % 18750) % 18750 * 2 ^ 36 / 600000000)

/-- Open an outage record at the trigger (R166). -/
def openOutage (cause : Nat) (s : State) : State :=
  let o : Outage :=
    { cause := cause % 4, degraded := s.meter.degraded || !s.meter.checkPassed, tb2Bad := !(tb s 2).valid,
      trigger := tbVal s 2 }
  { s with meter := { s.meter with outages := (o :: s.meter.outages).take 16, pfail := true, commitTb2 := nextSampleTb2 s, check := .none } }

/-- Change the newest outage record. -/
def newestOutage (f : Outage → Outage) (s : State) : State :=
  match s.meter.outages with
  | o :: r => { s with meter := { s.meter with outages := f o :: r } }
  | [] => s

/-! ### The hold-up check (R165) -/

/-- `HOLDUP_CHECK_START` (R165): the periodic or first check. -/
def execHoldupCheckStart (s : State) : Host.Outcome State Fault Refusal :=
  .next (if s.meter.check = .none ∧ s.power.main ∧ !s.meter.pfail then
    { s with meter := { s.meter with check := .periodic } }
  else s)

/-- The end of a hold-up check (R165): every prediction below 4 ms raises HOLDUP_DEGRADED, V198 and writes 0x308; a later pass clears
it. -/
def holdupEnd (us cap esr : Nat) (s : State) : State :=
  let by_ := s.meter.check
  if by_ = .none then s
  else
    let pass := decide (4000 ≤ us)
    let was := s.meter.degraded
    let s := { s with meter := { s.meter with
      check := .none, degraded := !pass, checkPassed := s.meter.checkPassed || pass } }
    let s :=
      if pass && !was then s
      else
        let s := alarmAllOf 8 (!pass) us (fun _ => true) s
        let s := logMeter 0x308 0xFFFF (joinAlarms s fun _ => true) [] s
        if pass then s else raiseV 198 s
    match by_ with
    | .test mb => finishMb mb .ok (le8 (b2n !pass) ++ le32 us ++ le32 cap ++ le16 esr) s
    | _ => s

/-- `HOLDUP_CHECK_END` (R165). -/
def execHoldupCheckEnd (predictedUs capacitanceUf esrMilliohm : Nat) (s : State) : Host.Outcome State Fault Refusal :=
  .next (holdupEnd predictedUs capacitanceUf esrMilliohm s)

/-! ### PD10 start (R136, R154, R157) -/

/-- A register restarts at 0 (R154): CAL_INVALID, logbook 0x309 and a legal log entry. -/
def registerLost (m i : Nat) (s : State) : State :=
  let s := tamperSet 17 (alarmTo m 7 true 0 0 s)
  legalAuto 0x309 (le8 m ++ le8 i) (logMeter 0x309 m (pointOf s m).alarms [] s)

/-- Restore every register of one point (R154). CAL_INVALID clears at a start with its cause gone (R176): the OTP, every register and the
legal code (R475). -/
def restorePoint (m : Nat) (s : State) : State :=
  let p := pointOf s m
  let rs := (List.range 20).map fun i => restoreReg (regOf p i)
  let p := rs.zipIdx.foldl (fun p (r, i) => setReg i r.1 p) p
  let held := (List.range 20).any fun i => regHeld (regOf p i)
  let bad := (List.range 20).filter fun i => (rs.getD i ({}, false)).2
  let s := setPoint m { p with lastSecond := [], gates := 0, tick := {}, window := {} } s
  let s := if s.meter.otpOk ∧ s.firm.legalRuns ∧ !held ∧ bad = [] then alarmTo m 7 false 0 0 s else s
  bad.foldl (fun s i => registerLost m i s) s

/-- The interval at a restart after a power-fail commit (R157): with a boundary passed, the one that was open at the commit closes with
its committed values, and its record is sent from MRAM. -/
def restartInterval (s : State) : State :=
  let passed := match s.meter.lastBoundary with
    | some b => decide (b < boundaryAt s (tb2Sec s))
    | none => false
  let s := { s with meter := { s.meter with powerFail := true } }
  if passed then
    let s := closeIntervalAs true false (boundaryAt s (tb2Sec s)) 0 { s with meter := { s.meter with short := true } }
    { s with meter := { s.meter with short := true } }
  else s

/-- PD10 starts: the OTP check, the registers, the restart of the interval (R136, R154, R157, R166). The spec does not say how the tick
grid and the slot grid lie at a start: both begin with the first sample (DESIGN CHOICE, assumption log 73). -/
def meterStart (s : State) : State :=
  let k := s.meter.starts
  let ok := Config.otpCrcOk k
  let s := { s with meter := { s.meter with
    starts := k + 1, otpOk := ok, pfail := false, capturing := none, switches := [], tickPos := 0, tickAge := 0,
    rot := { s.meter.rot with start := s.meter.samples, step := 1, ended := false, substituting := false, zero := none, fresh := none } } }
  let s := allPoints.foldl (fun s m => restorePoint m s) s
  let s :=
    if ok then s
    else
      let s := tamperSet 17 (alarmAll 7 true (fun _ => true) s)
      legalAuto 0x30C [] (logMeter 0x30C 0xFFFF (joinAlarms s fun _ => true) [] s)
  let afterCommit := match s.meter.outages with
    | o :: _ => o.restart == 0#72
    | [] => false
  let s := newestOutage (fun o => if o.restart = 0#72 then { o with restart := tbVal s 2 } else o) s
  let s := if afterCommit then restartInterval s else s
  let s := if s.meter.lastBoundary = none then
      { s with meter := { s.meter with lastBoundary := some (boundaryAt s (tb2Sec s)), intervalStart := s.meter.samples } }
    else s
  sendUnsent s

end Sys2Proof.Machine
end

