-- ==== Sys2Proof/Machine/Tariff.lean ====
section
/-! DEFINITION. The tariff engine: rates in force, billing registers and periods, demand, prepayment
(spec/05_tariffs_billing_legal.md, R181–R201). -/

namespace Sys2Proof.Machine

/-! ### Access -/

def tableOf (s : State) (t : Nat) : TariffTable := look {} s.tariff.tables t
def setTable (t : Nat) (x : TariffTable) (s : State) : State :=
  { s with tariff := { s.tariff with tables := put {} s.tariff.tables t x } }
def assignOf (s : State) (m : Nat) : Nat := look 0 s.tariff.assign m
def slotOf (s : State) (m k : Nat) : BillSlot := look (billSlotReset k) s.tariff.slots (4 * m + k)
def setSlotOf (m k : Nat) (x : BillSlot) (s : State) : State :=
  { s with tariff := { s.tariff with slots := put (billSlotReset k) s.tariff.slots (4 * m + k) x } }
def rateReg (s : State) (m k r : Nat) : EnergyReg := look {} s.tariff.rates (64 * m + 16 * k + (r - 1))
def setRateReg (m k r : Nat) (x : EnergyReg) (s : State) : State :=
  { s with tariff := { s.tariff with rates := put {} s.tariff.rates (64 * m + 16 * k + (r - 1)) x } }
def demandOf (s : State) (m : Nat) : Demand := look {} s.tariff.demand m
def setDemand (m : Nat) (d : Demand) (s : State) : State :=
  { s with tariff := { s.tariff with demand := put {} s.tariff.demand m d } }
def prepayOf (s : State) (m : Nat) : Prepay := look {} s.tariff.prepay m
def setPrepay (m : Nat) (p : Prepay) (s : State) : State :=
  { s with tariff := { s.tariff with prepay := put {} s.tariff.prepay m p } }
def epochOf (s : State) (t : Nat) : Nat := look 0 s.legal.epochs t

def allTables : List Nat := List.range 8

/-- The metering points of a table. -/
def pointsOf (s : State) (t : Nat) : List Nat := allPoints.filter fun m => assignOf s m == t

/-- The rate in force of a metering point. -/
def rateOf (s : State) (m : Nat) : Nat := (tableOf s (assignOf s m)).rate

/-- A record of the 0x4xx subject of unit 126 (R496): the named values, then opcode, AUTH_COUNTER, the epoch and the rate in
force of the table. -/
def logTariff (code obj table opcode counter : Nat) (named : List Time) (s : State) : State :=
  logEv code 126 obj
    (named ++ [snapN opcode, snapN counter, snapN (epochOf s table), snapN (tableOf s table).rate]) s

/-- An MB0 notice with V234, while PD10 is not isolated from PD2 (R22). -/
def notice234 (code obj : Nat) (detail : List Time) (s : State) : State :=
  if isolated s then s else raiseV 234 (notice code (codeSeverity code) 126 (snapBytes 5 (snapN obj :: detail)) s)

/-! ### Contactor drives (R198, R226) -/

def driveOn (s : State) (k : Nat) : Bool := look 0 s.drives.duty k != 0

/-- Set the duty of a drive; a change leaves the module. -/
def setDuty (k d : Nat) (s : State) : State :=
  if look 0 s.drives.duty k = d then s
  else emit (.drive k d) { s with drives := { s.drives with duty := put 0 s.drives.duty k d } }

def isClosed (s : State) (k : Nat) : Bool := look false s.drives.closed k
def setClosed (k : Nat) (c : Bool) (s : State) : State :=
  { s with drives := { s.drives with closed := put false s.drives.closed k c } }

/-- The drive of a prepayment point works: prepayment is enabled, PD11 is on, and the sequencer that holds the drive is not fenced. Drives 2n and
2n + 1 belong to CPn (assumption log 22). -/
def driveWorks (s : State) (p : Prepay) : Bool :=
  p.enable && active s 11 && !isFenced s (128 + p.ctd / 2) && s.power.removal.isNone

/-! ### Prepayment (R199–R201) -/

/-- The code of a prepayment state (assumption log 22). -/
def prepayCode : PrepayState → Nat
  | .connected => 0
  | .lowCredit => 1
  | .deferred => 2
  | .opening => 3
  | .disconnected => 4
  | .reconnectReady => 5
  | .closing => 6
  | .fault => 7

/-- A prepayment record: object metering point; state and cause are the values named. -/
def logPrepay (code m opcode counter : Nat) (s : State) : State :=
  let p := prepayOf s m
  logTariff code m (assignOf s m) opcode counter [snapN (prepayCode p.state), snapN p.cause] s

/-- Credit in whole 10^-6 currency units. -/
def creditWhole (p : Prepay) : Int := wholePart p.credit

/-- Credit short: credit < −EMERGENCY (R200). -/
def creditShort (p : Prepay) : Bool := decide (p.credit < -(p.emergency * 2 ^ 32))
def creditLow (p : Prepay) : Bool := decide (p.credit < p.low * 2 ^ 32)
def creditBack (p : Prepay) : Bool := decide (p.reconnect * 2 ^ 32 ≤ p.credit)

/-- Enter DISCONNECTED: logbook 0x40B. -/
def enterDisconnected (m cause : Nat) (s : State) : State :=
  let p := prepayOf s m
  logPrepay 0x40B m 0 0 (setPrepay m { p with state := .disconnected, cause := cause } s)

/-- Enter OPENING: the drive is de-energised and t_fb starts; a feedback that already reads open ends it. -/
def enterOpening (m : Nat) (s : State) : State :=
  let p := prepayOf s m
  if driveWorks s p then
    let s := setDuty p.ctd 0 s
    if isClosed s p.cfb then setPrepay m { p with state := .opening } s else enterDisconnected m 0 s
  else s

/-- Enter CLOSING: the drive is energised and t_fb starts; a feedback that already reads closed ends it. -/
def enterClosing (m : Nat) (s : State) : State :=
  let p := prepayOf s m
  if driveWorks s p then
    let s := setDuty p.ctd 100 s
    if isClosed s p.cfb then logPrepay 0x40B m 0 0 (setPrepay m { p with state := .connected, cause := 0 } s)
    else setPrepay m { p with state := .closing } s
  else s

/-- Enter FAULT with a cause: the drive is de-energised, logbook 0x40C. -/
def enterFault (m cause : Nat) (s : State) : State :=
  let p := prepayOf s m
  logPrepay 0x40C m 0 0 (setPrepay m { p with state := .fault, cause := cause } (setDuty p.ctd 0 s))

/-- The transitions that the credit and the action in force select (R200). -/
def prepayEval (m : Nat) (s : State) : State :=
  let p := prepayOf s m
  let friendly := (tableOf s (assignOf s m)).friendly
  if !p.enable then s
  else
    match p.state with
    | .connected =>
      if creditLow p then
        notice234 0x40A m [snapN 1] (logPrepay 0x40A m 0 0 (setPrepay m { p with state := .lowCredit } s))
      else s
    | .lowCredit =>
      if !creditLow p then setPrepay m { p with state := .connected } s
      else if creditShort p then
        if friendly then logPrepay 0x40A m 0 0 (setPrepay m { p with state := .deferred } s) else enterOpening m s
      else s
    | .deferred =>
      if !creditLow p then setPrepay m { p with state := .connected } s
      else if !friendly ∧ creditShort p then enterOpening m s
      else s
    | .disconnected =>
      if creditBack p ∧ !p.forced then
        if p.auto then enterClosing m s
        else if driveWorks s p then
          notice234 0x40B m [snapN 5] (setPrepay m { p with state := .reconnectReady } s)
        else s
      else s
    | _ => s

/-- The drives of the points that `hit` selects have become unavailable (R200): DISCONNECTED with cause DOMAIN. -/
def prepayDropIf (hit : Prepay → Bool) (s : State) : State :=
  allPoints.foldl (fun s m =>
    let p := prepayOf s m
    if p.enable ∧ hit p then setPrepay m { p with state := .disconnected, cause := 4 } (setDuty p.ctd 0 s) else s) s

/-- PD11 goes off (R200). -/
def prepayDomainOff (s : State) : State := prepayDropIf (fun _ => true) s

/-- The unit of charge point `n` is fenced (R200, R485): the points on its drives. -/
def prepayFenced (n : Nat) (s : State) : State := prepayDropIf (fun p => p.ctd / 2 == n) s

/-- The charge of a tick (R199): increment × price / 10^9. -/
def chargeTick (m : Nat) (inc : Int) (s : State) : State :=
  let p := prepayOf s m
  if p.enable then
    let price := nthN p.prices (rateOf s m - 1)
    prepayEval m (setPrepay m { p with credit := p.credit - openDiv (inc * price) (10 ^ 9) } s)
  else s

/-- A debounced feedback change of a prepayment point (R200). -/
def prepayFeedback (m : Nat) (closed : Bool) (s : State) : State :=
  let p := prepayOf s m
  if !p.enable ∨ isClosed s p.cfb = closed then s
  else
    let s := setClosed p.cfb closed s
    match p.state with
    | .opening => if closed then s else enterDisconnected m 0 s
    | .closing =>
      if closed then logPrepay 0x40B m 0 0 (setPrepay m { p with state := .connected, cause := 0 } s) else s
    | .connected => if closed then s else enterFault m 3 s
    | .lowCredit => if closed then s else enterFault m 3 s
    | .deferred => if closed then s else enterFault m 3 s
    | .disconnected => if closed then tamperSet 22 (enterFault m 3 s) else s
    | _ => s

/-- `PREPAY_FEEDBACK_CHANGE` (R200). -/
def execPrepayFeedbackChange (mp : Nat) (closed : Bool) (s : State) : Host.Outcome State Fault Refusal :=
  within "metering point" mp 32 (prepayFeedback mp closed s)

/-- t_fb expires (R200). -/
def prepayTimeout (m : Nat) (s : State) : State :=
  let p := prepayOf s m
  if !p.enable then s
  else
    match p.state with
    | .opening =>
      if isClosed s p.cfb then notice234 0x40C m [snapN 1] (tamperSet 22 (enterFault m 1 s)) else s
    | .closing => if isClosed s p.cfb then s else enterFault m 2 s
    | _ => s

/-- `PREPAY_FEEDBACK_TIMEOUT` (R200). -/
def execPrepayFeedbackTimeout (mp : Nat) (s : State) : Host.Outcome State Fault Refusal :=
  within "metering point" mp 32 (prepayTimeout mp s)

/-- Current has flowed for 2 s while DISCONNECTED (R200): an element is above the starting threshold. -/
def prepayBypass (m : Nat) (s : State) : State :=
  let p := prepayOf s m
  if p.enable ∧ p.state = .disconnected ∧ (pointOf s m).gates ≠ 0 then logPrepay 0x40C m 0 0 (tamperSet 23 s) else s

/-- `PREPAY_BYPASS_DETECT` (R200). -/
def execPrepayBypassDetect (mp : Nat) (s : State) : Host.Outcome State Fault Refusal :=
  within "metering point" mp 32 (prepayBypass mp s)

/-! ### Rate registers (R186, R187) -/

/-- A source change that takes effect at a tick boundary (R187): a legal log entry. -/
def applySlot (m k : Nat) (s : State) : State :=
  let b := slotOf s m k
  match b.regNext with
  | some g => setSlotOf m k { b with reg := g, regNext := none } s
  | none => s

/-- A tick of one point in the tariff engine (R186, R193, R199): each slot's increment goes to the rate register of the rate
in force and to the open subinterval. -/
def tariffPoint (m n : Nat) (incs : List Int) (s : State) : State :=
  let rate := rateOf s m
  let inc (k : Nat) : Int := nthI incs (slotOf s m k).reg
  let s := (List.range 4).foldl (fun s k =>
    setRateReg m k rate (advance (rateReg s m k rate) (nthI incs (slotOf s m k).reg)) s) s
  let d := demandOf s m
  let o := d.open_
  let o := { o with
    energy := (List.range 4).map fun k => nthI o.energy k + inc k
    samples := o.samples + n
    parts := match o.parts.getLast? with
      | some (r, q) => if r = rate then o.parts.dropLast ++ [(r, q + n)] else o.parts ++ [(rate, n)]
      | none => [(rate, n)]
    flags := if (tb s 2).valid then o.flags else bitSet o.flags 4 }
  chargeTick m (inc 0) (setDemand m { d with open_ := o } s)

/-- The tariff engine takes a tick: the increments of every point (R158, R186). -/
def tariffTick (n : Nat) (incs : Tab (List Int)) (s : State) : State :=
  allPoints.foldl (fun s m => tariffPoint m n (look [] incs m) s) s

/-- Slot changes at a regular tick boundary. -/
def applySlots (s : State) : State :=
  allPoints.foldl (fun s m => (List.range 4).foldl (fun s k => applySlot m k s) s) s

/-! ### Rates in force (R183, R184, R192) -/

/-- Evaluate the rate in force of a table afresh; logbook 0x407 when the default rate is entered or left because TB2 is not
VALID; the end of a FRIENDLY action is seen by prepayment. -/
def evalTable (t : Nat) (s : State) : State :=
  let x := tableOf s t
  let valid := (tb s 2).valid
  let (rate, friendly) := rateAt x.active valid (calSec s)
  let dst := valid && inDst x.active (stdTime x.active (calSec s))
  let s := setTable t { x with rate := rate, friendly := friendly, dst := dst, defaulting := !valid } s
  let s := if x.defaulting = valid then logTariff 0x407 t t 0 0 [] s else s
  if x.friendly = friendly then s else (pointsOf s t).foldl (fun s m => prepayEval m s) s

/-! ### Billing periods (R189–R192) -/

/-- Why a period closes (R190). -/
inductive CloseCause where
  | schedule
  | command
  | clockStep
  | outage
  | decommission
  deriving DecidableEq, Repr

def closeCode : CloseCause → Nat
  | .schedule => 0
  | .command => 1
  | .clockStep => 2
  | .outage => 3
  | .decommission => 4

/-- The register values of a history record: T1–T16 and the source, for each slot. -/
def historyRegs (s : State) (m : Nat) : List Int :=
  (List.range 4).flatMap fun k =>
    ((List.range 16).map fun r => wholePart (liveValue (rateReg s m k (r + 1)))) ++
      [wholePart (liveValue (regOf (pointOf s m) (slotOf s m k).reg))]

/-- The maxima of a history record. -/
def historyMaxima (d : Demand) : List (Nat × Time) := (List.range 68).map fun i => look (0, 0#72) d.maxima i

/-- Flags of a history record. -/
def historyFlags (s : State) (x : TariffTable) (c : CloseCause) : Nat :=
  ofBits [decide (c = .clockStep), !(tb s 2).valid, decide (c = .outage), decide (c = .decommission), x.clockBack]

/-- The number of the sample boundary at which something takes effect now: the first at or after this instant (R142). -/
def sampleNow (s : State) : Nat := s.meter.samples - s.meter.tickPos + (s.meter.tickAge + 18749) / 18750

/-- Close the open period of a table (R190) at an instant, for a close that is the first at its sample boundary. -/
def closeFirst (t : Nat) (c : CloseCause) (skipped : Nat) (instant : Time) (s : State) : State :=
  let x := tableOf s t
  let s := (pointsOf s t).foldl (fun s m =>
    let h : History :=
      { epoch := epochOf s t + 1, cause := closeCode c, flags := historyFlags s x c, skipped := min 65535 skipped,
        opened := x.opened, closed := instant, regs := historyRegs s m, maxima := historyMaxima (demandOf s m) }
    let s := { s with tariff := { s.tariff with
      history := put [] s.tariff.history m ((h :: look [] s.tariff.history m).take 12) } }
    setDemand m { demandOf s m with maxima := [] } s) s
  let s := { s with legal := { s.legal with epochs := put 0 s.legal.epochs t ((epochOf s t + 1) % 2 ^ 32) } }
  let s := setTable t { x with
    lastClosed := if (tb s 2).valid then instant else x.lastClosed, closedAt := some (sampleNow s), opened := instant, clockBack := false } s
  let s := logTariff 0x401 t t 0 0 [] s
  notice234 0x401 t [snapN (epochOf s t)] s

/-- Close the open period of a table; closes at one sample boundary count as one (R189). -/
def closePeriod (t : Nat) (c : CloseCause) (skipped : Nat) (instant : Time) (s : State) : State :=
  if (tableOf s t).closedAt = some (sampleNow s) then s else closeFirst t c skipped instant s

/-- The TB2 second after which a scheduled boundary closes the period: LAST_CLOSED, or the opening of the first period (DESIGN CHOICE,
assumption log 75). -/
def closedRef (x : TariffTable) : Nat := (if x.lastClosed = 0#72 then x.opened else x.lastClosed).toNat / 2 ^ 36

/-- The TB2 value of a whole second. -/
def timeOfSec (sec : Int) : Time := BitVec.ofNat 72 (sec.toNat * 2 ^ 36)

/-- The scheduled boundary that is due (R189): TB2 is VALID and has reached b > LAST_CLOSED. -/
def closeDue (s : State) (t : Nat) : Option Int :=
  let x := tableOf s t
  if (tb s 2).valid then
    match latestBoundary x.active (calSec s) with
    | some (_, b) => if (closedRef x : Int) < b then some b else none
    | none => none
  else none

/-- `BILLING_PERIOD_CLOSE` (R189, R190). -/
def scheduledClose (t : Nat) (s : State) : State :=
  match closeDue s t with
  | some b => closePeriod t .schedule 0 (timeOfSec b) s
  | none => s

/-! ### Demand (R193, R194) -/

/-- The rate with the greatest part of a window; between equal parts the earlier one (R193). -/
def greatestPart : List (Nat × Nat) → Option (Nat × Nat)
  | [] => none
  | x :: r =>
    match greatestPart r with
    | some y => if x.2 < y.2 then some y else some x
    | none => some x

/-- The parts of each rate, joined, in order of first appearance. -/
def joinParts : List (Nat × Nat) → List (Nat × Nat) → List (Nat × Nat)
  | acc, [] => acc
  | acc, (r, n) :: rest =>
    if acc.any fun x => x.1 == r then joinParts (acc.map fun x => if x.1 = r then (r, x.2 + n) else x) rest
    else joinParts (acc ++ [(r, n)]) rest

/-- The demand of an energy over a number of samples, mW (R193): e in whole µWh, t_el in whole µs, 31.25 µs a sample. -/
def demandValue (e : Int) (samples : Nat) : Nat := (roundDiv (wholePart e * 3600000) (samples * 125 / 4)).toNat

/-- Raise the maxima of slot `k` for a rate and for all rates. -/
def raiseMaxima (d : Demand) (k rate v : Nat) (at_ : Time) : Demand :=
  let up (t : Tab (Nat × Time)) (i : Nat) : Tab (Nat × Time) :=
    if (look (0, 0#72) t i).1 < v then put (0, 0#72) t i (v, at_) else t
  { d with maxima := up (up d.maxima (17 * k + (rate - 1))) (17 * k + 16) }

/-- Form the window that ends now from its subintervals, newest first (R193, R194). -/
def formWindow (d : Demand) (win : List SubInterval) (at_ : Time) : Demand :=
  let n := sumN (win.map SubInterval.samples)
  let flags := win.foldl (fun f w => f ||| w.flags) 0
  let rate := match greatestPart (joinParts [] (win.reverse.flatMap SubInterval.parts)) with
    | some (r, _) => r
    | none => 1
  let vals := (List.range 4).map fun k => demandValue (sumI (win.map fun w => nthI w.energy k)) n
  let d := { d with last := vals, lastFlags := flags, lastTb2 := at_ }
  let kept := (!bitOf flags 0 || bitOf d.cfg.include_ 0) && (!bitOf flags 4 || bitOf d.cfg.include_ 1)
  if kept then (List.range 4).foldl (fun d k => raiseMaxima d k rate (nthN vals k) at_) d else d

/-- Close the open subinterval (R193, R194): SHORT and LONG against its nominal length, the window, and a waiting
configuration. -/
def closeSub (m sec : Nat) (extra : Nat) (s : State) : State :=
  let d := demandOf s m
  let nominal := d.cfg.minutes * 60 * 32000
  let o := d.open_
  let o := { o with flags := o.flags ||| extra ||| ofBits [decide (o.samples < nominal), decide (nominal < o.samples)] }
  let bad := if (tb s 2).valid then 0 else 16
  let o := { o with flags := o.flags ||| bad }
  let d := { d with held := (o :: d.held).take 15, open_ := { flags := bad }, lastEnd := some sec }
  let d := if d.cfg.count ≤ d.held.length then formWindow d (d.held.take d.cfg.count) (tbVal s 2) else d
  let d := match d.cfgNext with
    | some c => { d with cfg := c, cfgNext := none, held := [] }
    | none => d
  setDemand m d s

/-- The latest second divisible by the subinterval length (R193). -/
def subAt (d : Demand) (sec : Nat) : Nat := sec / (60 * d.cfg.minutes) * (60 * d.cfg.minutes)

/-- A subinterval boundary later than the last one has been reached. -/
def subDue (s : State) (m : Nat) : Bool :=
  let d := demandOf s m
  match d.lastEnd with
  | some e => decide (e < subAt d (calSec s))
  | none => true

/-- `DEMAND_SUBINTERVAL_END` (R193). -/
def subintervalEnd (m : Nat) (s : State) : State :=
  if bitOf s.power.on 10 ∧ subDue s m then closeSub m (subAt (demandOf s m) (calSec s)) 0 s else s

def execDemandSubintervalEnd (mp : Nat) (s : State) : Host.Outcome State Fault Refusal :=
  within "metering point" mp 32 (subintervalEnd mp (dueInterval s))

/-! ### What comes first at one sample boundary (R195) -/

/-- Before a billing period closes, the metering interval and the demand subintervals that are due end. -/
def beforeClose (s : State) : State := allPoints.foldl (fun s m => subintervalEnd m s) (dueInterval s)

/-- Before the rate in force changes, the billing periods that are due close as well. -/
def beforeSwitch (s : State) : State :=
  let s := beforeClose s
  if bitOf s.power.on 10 then allTables.foldl (fun s t => scheduledClose t s) s else s

/-- `BILLING_PERIOD_CLOSE` (R189, R190). -/
def execBillingPeriodClose (table : Nat) (s : State) : Host.Outcome State Fault Refusal :=
  within "tariff table" table 8 (if bitOf s.power.on 10 then scheduledClose table (beforeClose s) else s)

/-- A switch action or a DST change of the active copy takes effect (R184). -/
def rateChange (t : Nat) (s : State) : State :=
  if bitOf s.power.on 10 ∧ (tb s 2).valid then evalTable t (beforeSwitch s) else s

/-- `RATE_SWITCH` (R184). -/
def execRateSwitch (table : Nat) (s : State) : Host.Outcome State Fault Refusal :=
  within "tariff table" table 8 (rateChange table s)

/-- `DST_CHANGE` (R184). -/
def execDstChange (table : Nat) (s : State) : Host.Outcome State Fault Refusal :=
  within "tariff table" table 8 (rateChange table s)

/-- Activate the passive copy (R185): logbook 0x403; the rate is evaluated afresh. -/
def activateTable (t : Nat) (s : State) : State :=
  let x := tableOf s t
  let s := setTable t { x with active := x.passive, activation := none } s
  logTariff 0x403 t t 0 0 [] (evalTable t s)

/-- An activation whose instant TB2 has reached, TB2 being VALID (R185). -/
def activationReached (s : State) (t : Nat) : Bool :=
  (tb s 2).valid && (tableOf s t).activation.any fun a => decide (a.toNat ≤ (calTime s).toNat)

/-- `TARIFF_ACTIVATION_DUE` (R185). -/
def activationDue (t : Nat) (s : State) : State :=
  if activationReached s t then activateTable t (beforeSwitch s) else s

def execTariffActivationDue (table : Nat) (s : State) : Host.Outcome State Fault Refusal :=
  within "tariff table" table 8 (if bitOf s.power.on 10 then activationDue table s else s)

/-- Before a power-fail commit, every boundary that is due at its sample boundary takes effect (R163, step 3; R195). -/
def beforeCommit (s : State) : State :=
  let s := beforeSwitch s
  if bitOf s.power.on 10 ∧ (tb s 2).valid then
    allTables.foldl (fun s t => if activationReached s t then activateTable t s else evalTable t s) s
  else s

/-! ### TB2 is moved or lost (R156, R191, R192, R194) -/

/-- TB2 lies before LAST_CLOSED of a table (R191). -/
def beforeClosed (s : State) (t : Nat) : Bool := decide ((tbVal s 2).toNat < (tableOf s t).lastClosed.toNat)

/-- CLOCK_BACK (R191): one record, one legal log entry and one update of class 19 for a move, with PD10 on or off (R204). The object is the
first table that it concerns (DESIGN CHOICE, assumption log 75). -/
def clockBack (old : Time) (s : State) : State :=
  match allTables.find? (beforeClosed s) with
  | some t0 =>
    let named := [old, tbVal s 2]
    let s := allTables.foldl (fun s t => if beforeClosed s t then setTable t { tableOf s t with clockBack := true } s else s) s
    tamperSet 19 (legalAuto 0x402 (named.flatMap le72) (logTariff 0x402 t0 t0 0 0 named s))
  | none => s

/-- One table when TB2 has been moved (R191): one close for the boundaries passed. -/
def tableTb2Moved (t : Nat) (s : State) : State :=
  let x := tableOf s t
  match closeDue s t with
  | some _ => closePeriod t .clockStep (boundariesPassed x.active (closedRef x) (tb2Sec s) - 1) (tbVal s 2) s
  | none => s

/-- The tariff engine when TB2 has been moved (R191, R194, R195 for the order). -/
def tariffTb2Moved (old : Time) (s : State) : State :=
  if bitOf s.power.on 10 then
    let s := allPoints.foldl (fun s m =>
      let d := demandOf s m
      let s := setDemand m { d with open_ := { d.open_ with flags := bitSet d.open_.flags 2 } } s
      if d.lastEnd.isSome ∧ subDue s m then closeSub m (subAt d (tb2Sec s)) 4 s else s) (intervalTb2Moved old s)
    let s := allTables.foldl (fun s t => tableTb2Moved t s) (clockBack old s)
    allTables.foldl (fun s t => evalTable t s) s
  else clockBack old s

/-- TB2 has lost its validity (R192): the default rates, and UNTRUSTED for every open subinterval. -/
def tariffTb2Lost (s : State) : State :=
  if bitOf s.power.on 10 then
    let s := allPoints.foldl (fun s m =>
      let d := demandOf s m
      setDemand m { d with open_ := { d.open_ with flags := bitSet d.open_.flags 4 } } s) s
    allTables.foldl (fun s t => evalTable t s) s
  else s

/-! ### Write-through, commit and restart (R153, R163, R186, R197, R199) -/

/-- Write the registers of metrology and tariffs through, with the credit (R153, R186, R199). -/
def writeAll (s : State) : State :=
  let s := writeThroughAll s
  let s := { s with tariff := { s.tariff with rates := s.tariff.rates.map fun (i, r) => (i, writeReg r) } }
  allPoints.foldl (fun s m => let p := prepayOf s m; setPrepay m { p with creditStored := p.credit } s) s

/-- `WRITE_THROUGH` (R153). -/
def execWriteThrough (s : State) : Host.Outcome State Fault Refusal :=
  .next (if bitOf s.power.on 10 then writeAll s else s)

/-- A power-fail commit (R163, step 4): every register, the billing registers and the residues of the outputs. -/
def commitAll (s : State) : State :=
  let s := writeAll s
  (List.range 8).foldl (fun s k => let t := tpoOf s k; setTpo k { t with residueStored := t.residue } s) s

/-- A power-fail commit falls in every open subinterval (R194). -/
def markCommit (s : State) : State :=
  allPoints.foldl (fun s m =>
    let d := demandOf s m
    setDemand m { d with open_ := { d.open_ with flags := bitSet d.open_.flags 3 } } s) s

/-- The tariff engine at PD10 start after a commit (R197); without validity of TB2, R192 applies. -/
def tariffRestart (s : State) : State :=
  let s := allPoints.foldl (fun s m =>
    let d := demandOf s m
    let s := if d.lastEnd.isSome then closeSub m (subAt d (tb2Sec s)) 9 s else s
    let d := demandOf s m
    setDemand m { d with open_ := { d.open_ with flags := bitSet d.open_.flags 0 } } s) s
  allTables.foldl (fun s t =>
    match closeDue s t with
    | some _ =>
      let x := tableOf s t
      closePeriod t .outage (boundariesPassed x.active (closedRef x) (tb2Sec s) - 1) (tbVal s 2) s
    | none => s) s

/-- Sample boundaries are counted afresh at a start: no close has fallen at one of them (R189). -/
def forgetCloses (s : State) : State := allTables.foldl (fun s t => setTable t { tableOf s t with closedAt := none } s) s

/-- Restore the rate registers, credit and residues (R154, R172, R186). Pulses that were carried stay pending over the cut, as they stood at
cutoff: the spec does not say what becomes of them (DESIGN CHOICE, assumption log 73). -/
def tariffRestore (s : State) : State :=
  let bad := s.tariff.rates.any fun (_, r) => (restoreReg r).2
  let s := { s with tariff := { s.tariff with
    rates := (s.tariff.rates.map fun (i, r) => (i, (restoreReg r).1)).filter fun x => decide (x.2 ≠ {}) } }
  let s := allPoints.foldl (fun s m => let p := prepayOf s m; setPrepay m { p with credit := p.creditStored } s) s
  let s := (List.range 8).foldl (fun s k => let t := tpoOf s k; setTpo k { t with residue := t.residueStored } s) s
  if bad then
    let s := tamperSet 17 (alarmAll 7 true (fun _ => true) s)
    legalAuto 0x309 [] (logMeter 0x309 0xFFFF 0 [] s)
  else s

/-- The tariff engine starts with PD10 (R189, R197). `commit` says that the start follows a power-fail commit. -/
def tariffStart (commit : Bool) (s : State) : State :=
  let s := forgetCloses (tariffRestore s)
  let s := if commit then tariffRestart s else s
  let s := allPoints.foldl (fun s m =>
    let d := demandOf s m
    if d.lastEnd = none then setDemand m { d with lastEnd := some (subAt d (tb2Sec s)) } s else s) s
  let s := allTables.foldl (fun s t =>
    let x := tableOf s t
    let s := if x.opened = 0#72 then setTable t { x with opened := tbVal s 2 } s else s
    evalTable t s) s
  { s with tariff := { s.tariff with cvShown := true } }

end Sys2Proof.Machine
end

