-- ==== Sys2Proof/Machine/TimeHooks.lean ====
section
/-! DEFINITION. What other units do when a time base is moved or declared lost: the tariff engine, the metering
intervals and the balance engine follow TB2 (R156, R191, R192, R414), and the links of a radio network keep their distance to its
time base (R288). -/

namespace Sys2Proof.Machine

/-- A step of TB(8 + k) moves the last-anchor time of every link of network RNk by the same step (R288). -/
def anchorsMove (k : Nat) (d : Time) (s : State) : State :=
  (List.range 6).foldl (fun s n =>
    let c := rfOf s n
    if c.net = k then setRf n { c with links := c.links.map fun p => (p.1, p.2.map fun l => { l with aLast := l.aLast + d }) } s
    else s) s

/-- A time base has been moved by a step, or by an initial set, from the value `old`. -/
def timeMoved (n : Nat) (old : Time) (s : State) : State :=
  if n = 2 then balMoved (tariffTb2Moved old s)
  else if n = 8 ∨ n = 9 then anchorsMove (n - 8) (tbVal s n - old) s
  else s

/-- The mains slots of a powerline network follow its time base (R256). -/
def slotsFollow (n : Nat) (s : State) : State := if 4 ≤ n ∧ n ≤ 7 then syncSlots (n - 4) s else s

/-- A time base has been declared lost, or has lost its validity: for TB2 the default tariff applies from that instant (R96,
R192) and tamper class 20 sets (R202). -/
def timeLost (n : Nat) (s : State) : State := if n = 2 then tariffTb2Lost (tamperSet 20 s) else s

end Sys2Proof.Machine
end

