-- ==== Sys2Proof/Machine/Time.lean ====
section
/-! DEFINITION. Time bases, milestones, PTP and Aetheno (spec/03_time_bases_milestones.md, R82–R123). -/

namespace Sys2Proof.Machine

/-! ### Values and steps -/

/-- The domain of a time base (R86). TB2 lies in PD0. -/
def tbDomain (n : Nat) : Nat :=
  if n = 2 then 0 else if n = 3 then 10 else if 4 ≤ n ∧ n ≤ 7 then 8 else if n = 8 ∨ n = 9 then 9 else if n = 10 then 11
  else 2

/-- The fault unit of a time base (R478, R496). -/
def tbUnit (n : Nat) : Nat := if n = 3 then 125 else if n = 2 then 136 else 4

/-- The domain of the time base is off (R4, R89). -/
def tbOff (s : State) (n : Nat) : Bool := !active s (tbDomain n)

/-- An accumulator that shows a value: the low 36 bits are 0 (R83). -/
def accOf (v : Time) : BitVec 108 := (v.zeroExtend 108) <<< 36

/-- A signed time difference, s72 (R82). -/
def timeDiff (a b : Time) : Int := (a - b).toInt

/-- The accumulator moved by `d` in units of 2^-36 s: `d` × 2^36 is added (R92). -/
def moveAcc (acc : BitVec 108) (d : Int) : BitVec 108 := acc + BitVec.ofInt 108 (d * 2 ^ 36)

/-- TB0, TB3 and TB11 keep their validity together (R114, R556): when TB0 becomes VALID, a running TB3 aligns with one
hardware step and TB11 of a module that is no chain member follows; when TB0 leaves VALID, they follow. TB3 keeps its state in
PD10 bypass and while PD2 is unavailable. -/
def followTb0 (s : State) : State :=
  let v := (tb s 0).valid
  let s :=
    if (tb s 11).source = 5 then setTb 11 { tb s 11 with valid := v, acc := (tb s 0).acc } s else s
  if active s 10 && !s.power.bypass then
    let t := tb s 3
    if v && !t.valid then
      let s := setTb 3 { t with acc := (tb s 0).acc, valid := true, stepped := true } s
      logTb 0x20B 3 [] s
    else if !v && t.valid && fabricUp s then setTb 3 { t with valid := false } s
    else s
  else s

/-- Tell the other units that a time base has moved. -/
def moved (n : Nat) (old : Time) (s : State) : State :=
  timeMoved n old (if n = 0 then followTb0 s else s)

/-- Apply a step (R92): the accumulator moves and STEPPED is set. -/
def applyStep (n : Nat) (d : Int) (s : State) : State :=
  let t := tb s n
  moved n (tbTime t) (setTb n { t with acc := moveAcc t.acc d, stepped := true } s)

/-- A hardware phase step (R95, item 5): not subject to STEP_LIMIT; logbook 0x20B. -/
def hardwareStep (n : Nat) (d : Int) (s : State) : State := logTb 0x20B n [] (applyStep n d s)

/-- Refuse a step (R92): STEP_REFUSED, TBn_REFUSED, V195, logbook 0x201 with the value and the step. -/
def refuseStep (n : Nat) (d : Int) (s : State) : State :=
  let t := tb s n
  let s := setTb n { t with stepRefused := true, refused := (t.refused + 1) % 2 ^ 32 } s
  logTb 0x201 n [tbTime t, snapI d] (raiseV 195 s)

/-- The size of a step is within STEP_LIMIT (R92). -/
def withinLimit (t : TimeBase) (d : Int) : Bool := decide (d.natAbs ≤ t.limit.toNat)

/-- A host step (R92, R93): applied, or refused with TIME_REFUSED or TIME_LOST. -/
def hostStep (n : Nat) (d : Int) (s : State) : Status × State :=
  let t := tb s n
  if t.lost || !t.valid then (.timeLost, refuseStep n d s)
  else if withinLimit t d then (.ok, applyStep n d s)
  else (.timeRefused, refuseStep n d s)

/-- An initial set (R96): the value is written, LOST clears, VALID and STEPPED are set, logbook 0x204 with the old and the
new value. -/
def initialSet (n : Nat) (v : Time) (s : State) : State :=
  let t := tb s n
  let old := tbTime t
  let s := setTb n { t with acc := accOf v, lost := false, valid := true, stepped := true } s
  let s := logTb 0x204 n [old, v] s
  moved n old s

/-- A TB_SET (R96, R97): an initial set on a base that is not VALID, else a step to the new value. The answer is the
status, the kind (0 step, 1 initial set) and the state. -/
def setBase (n : Nat) (v : Time) (s : State) : Status × Nat × State :=
  let t := tb s n
  if t.valid then
    let (st, s) := hostStep n (timeDiff v (tbTime t)) s
    (st, 0, s)
  else (.ok, 1, initialSet n v s)

/-! ### Steps that wait for an edge (R92, R95) -/

/-- A step is written: it waits for the next fabric edge, summed with the steps that already wait (R95, item 3). -/
def addPend (n : Nat) (d : Int) (mb : Option Nat) (s : State) : State :=
  let t := tb s n
  let p := t.pend.getD {}
  setTb n { t with pend := some { sum := p.sum + d, mbs := p.mbs ++ mb.toList } } s

/-- What a `TB_STEP` or `TB_SET` among the steps answers: `applied`, or the value applied and the kind. -/
def stepPayload (n op : Nat) (s : State) : Bytes := if op = 0x0203 then le8 1 else le72 (tbVal s n) ++ le8 0

/-- A command among the steps completes with the status of their sum; an accepted one of MB1 writes its legal log entry (R209). -/
def endStep (n : Nat) (st : Status) (m : Nat) (s : State) : State :=
  match (mbOf s m).taken with
  | some r => if st = .ok then finishMb m st (stepPayload n r.opcode s) (mb1Entry (.mb m) r 0 s) else finishMb m st [] s
  | none => s

/-- The edge at which the steps written to a base take effect (R92, R95): their sum is judged as one step. -/
def settleStep (n : Nat) (s : State) : State :=
  match (tb s n).pend with
  | some p =>
    let (st, s) := hostStep n p.sum (setTb n { tb s n with pend := none } s)
    p.mbs.foldl (fun s m => endStep n st m s) s
  | none => s

/-- A step that waits is discarded (R95, item 4). Its commands complete with TIME_LOST, a `TB_SET`, which has no such status, with
TIME_REFUSED (assumption log 49). -/
def dropStep (n : Nat) (s : State) : State :=
  match (tb s n).pend with
  | some p =>
    p.mbs.foldl (fun s m =>
      match (mbOf s m).taken with
      | some r => finishMb m (if r.opcode = 0x0202 then .timeRefused else .timeLost) [] s
      | none => s) (setTb n { tb s n with pend := none } s)
  | none => s

/-- TBn_AUX (R91). -/
def tbAux (s : State) (n : Nat) : Nat :=
  if n = 0 then unsigned 16 s.clock.utcOffset + 65536 * b2n s.clock.utcPending.isSome
  else if n = 2 then unsigned 32 s.clock.comp
  else if 4 ≤ n ∧ n ≤ 7 then (tb s n).fMeas
  else if n = 11 then s.clock.position
  else 0

/-! ### Running -/

/-- The limits of a host-written increment, nominal ± 500 ppm (R85). -/
def incLow : Nat := 7866675499381
def incHigh : Nat := 7874546110185

def clampInc (v : Nat) : Nat := if v < incLow then incLow else if incHigh < v then incHigh else v

/-- The increment that TB3 adds: that of TB0, corrected towards TB0 by at most 500 ppm (R114). -/
def tb3Inc (s : State) : Nat :=
  let off : Int := ((tb s 0).acc - (tb s 3).acc).toInt
  let c := clampI (-3935305402) 3935305402 off
  (((tb s 0).inc : Int) + c).toNat

/-- The increment that a base adds at a fabric tick (R84, R87, R114). TB3 holds its last one while PD2 is unavailable and in
bypass. -/
def tickInc (s : State) (n : Nat) : Nat :=
  let t := tb s n
  if n = 3 then (if fabricUp s && !s.power.bypass then tb3Inc s else t.inc)
  else if t.source = 4 then (tb s 0).inc
  else t.inc

/-- The base runs: PD2 is up for TB0, TB1 and TB11; the domain is on for the others (R86, R89). -/
def tbRuns (s : State) (n : Nat) : Bool := if n = 3 then active s 10 else active s (tbDomain n) && fabricUp s

/-- Fabric ticks that pass in one tick of the module's clock: in PD10 bypass that clock is the 40 MHz reference (R21). -/
def tickSpan (s : State) : Nat := if s.power.bypass then 15 else 1

/-- One tick of one base (R84): TB3 keeps the increment it adds, and in bypass adds it 15 times (R21, R114). -/
def tickBase (n : Nat) (s : State) : State :=
  if tbRuns s n then
    let t := tb s n
    let k := tickInc s n
    setTb n { t with acc := t.acc + BitVec.ofNat 108 (if n = 3 then tickSpan s * k else k), inc := if n = 3 then k else t.inc } s
  else s

/-- One tick of TB2: its increment once a crystal period, interpolated to the fabric edge (R115). -/
def tickTb2 (s : State) : State :=
  let t := tb s 2
  let sum := tickSpan s * t.inc * 32768 + s.clock.crystalPhase
  let s := setTb 2 { t with acc := t.acc + BitVec.ofNat 108 (sum / 600000000) } s
  { s with clock := { s.clock with crystalPhase := sum % 600000000 } }

/-- Copies between TB0 and TB11 (R118): a master's TB11 equals TB0; a TB0 under AETHENO equals TB11. -/
def tieTb11 (s : State) : State :=
  if (tb s 11).source = 5 then setTb 11 { tb s 11 with acc := (tb s 0).acc } s
  else if (tb s 0).source = 2 then setTb 0 { tb s 0 with acc := (tb s 11).acc } s
  else s

/-- The age of the metrology tick in progress (R137, R142). -/
def tickMeter (s : State) : State :=
  if bitOf s.power.on 10 then { s with meter := { s.meter with tickAge := s.meter.tickAge + tickSpan s } } else s

/-- One tick of every time base (R84): TB3 compares itself with TB0 as both stood before the tick (R114). -/
def tickAll (s : State) : State :=
  tickMeter <| tieTb11 (tickTb2 ([3, 0, 1, 4, 5, 6, 7, 8, 9, 10, 11].foldl (fun s n => tickBase n s) s))

/-! ### Registers -/

/-- The host may write the base by register: SOURCE is HOST, and the base is not TB1, TB2, TB3 or TB11 (R87). -/
def hostOwns (s : State) (n : Nat) : Bool :=
  (tb s n).source == 0 && n != 1 && n != 2 && n != 3 && n != 11

/-- A register write to the base is taken: its domain is on and unit 4 is not fenced (R89, R484). -/
def tbWritable (s : State) (n : Nat) : Bool := fabricUp s && !tbOff s n && !isFenced s 4

/-- Write of TBn_INC (R85, R87). -/
def writeInc (n : Nat) (v : Nat) (s : State) : State :=
  if !tbWritable s n then s
  else if !hostOwns s n then setTb n { tb s n with ownerErr := true } s
  else
    let v := v % 2 ^ 54
    let c := clampInc v
    let t := tb s n
    if c = v then setTb n { t with inc := c } s
    else logTb 0x202 n [] (setTb n { t with inc := c, incClamped := true } s)

/-- `TB_INC_WRITE` (R85). -/
def execTbIncWrite (n : Nat) (value : Word64) (s : State) : Host.Outcome State Fault Refusal :=
  within "time base" n 12 (writeInc n value.toNat s)

/-- The base takes steps: it is VALID and not LOST (R93). -/
def stepsTaken (s : State) (n : Nat) : Bool := (tb s n).valid && !(tb s n).lost

/-- Write of TBn_STEP_HI (R91–R93): the step with the held TBn_STEP_LO waits for the next fabric edge; on a base that is not VALID
it is refused at once. -/
def writeStepHi (n : Nat) (v : Nat) (s : State) : State :=
  if !tbWritable s n then s
  else if !hostOwns s n then setTb n { tb s n with ownerErr := true } s
  else
    let d := signed 72 ((tb s n).stepLo.toNat + 2 ^ 64 * (v % 256))
    if stepsTaken s n then addPend n d none s else refuseStep n d s

/-- `TB_STEP_HI_WRITE` (R92). -/
def execTbStepHiWrite (n : Nat) (value : Word32) (s : State) : Host.Outcome State Fault Refusal :=
  within "time base" n 12 (writeStepHi n value.toNat s)

/-- A read of TBn_NOW_LO latches the whole value (R91); the read returns its low 64 or 32 bits. -/
def latchNow (n width : Nat) (s : State) : State :=
  if fabricUp s then
    let v := tbVal s n
    let s := setTb n { tb s n with latched := v } s
    emit (.readData 0 (leBytes (if width = 8 then 8 else 4) v.toNat)) s
  else s

/-- `TB_NOW_READ_LATCH` (R91). -/
def execTbNowReadLatch (n width : Nat) (s : State) : Host.Outcome State Fault Refusal :=
  within "time base" n 12 (latchNow n width s)

/-! ### Milestones -/

/-- Write of MS_POP (R102). -/
def popMilestone (v : Nat) (s : State) : State :=
  if bitOf v 0 ∧ fabricUp s then { s with clock := { s.clock with fifo := s.clock.fifo.tail } } else s

/-- `MS_POP_WRITE` (R102). -/
def execMsPopWrite (value : Word32) (s : State) : Host.Outcome State Fault Refusal := .next (popMilestone value.toNat s)

/-- A free milestone slot (R103). -/
def freeSlot (s : State) : Option Nat := (List.range 4).find? fun k => look none s.clock.slots k == none

def setSlot (k : Nat) (m : Option Scheduled) (s : State) : State :=
  { s with clock := { s.clock with slots := put none s.clock.slots k m } }

/-- A TRIGGER frame on sync out (R118). -/
def triggerFrame (target : Time) (id : Nat) (activate : Bool) : Bytes :=
  let b := le72 target ++ le16 id ++ le8 (b2n activate)
  b ++ leBytes 2 (crc16 b).toNat

/-- `MS_CAPTURE` (R100). -/
def msCaptureRun (_ : Src) (r : Req) (s : State) : Reply × State :=
  let seq := s.clock.msSeq
  ({ payload := le16 seq }, capture 4 0 (arg r 0 2) 0 s)

def execMsCapture (src : Src) (s : State) : Host.Outcome State Fault Refusal := runCmd 0x020A noCheck msCaptureRun src s

/-- 1 ms in units of 2^-36 s. -/
def oneMs : Nat := 68719477

/-- `MS_SCHEDULE` (R121, R122): TIME_LOST, BADARG, NORES in this order; DENIED off a chain master comes before (`permitted`). -/
def msScheduleCheck (_ : Src) (r : Req) (s : State) : Option Status :=
  let chain := arg r 11 1
  firstFail [(isFenced s 4, .fenced), (!(tb s 0).valid, .timeLost),
    (decide (1 < chain) || (chain == 1 && decide (timeDiff (argT r 0) (tbVal s 0) < (oneMs : Int))), .badarg),
    ((freeSlot s).isNone, .nores)]

/-- A chain master emits its TRIGGER frame. Where PD7 is off or unit 98 fenced, which the spec does not decide, the command is accepted and
the frame is emitted all the same (DESIGN CHOICE, assumption log 72). -/
def msScheduleRun (_ : Src) (r : Req) (s : State) : Reply × State :=
  match freeSlot s with
  | some k =>
    let m : Scheduled := { target := argT r 0, id := arg r 9 2 }
    let s := setSlot k (some m) s
    ({ payload := le8 k }, if arg r 11 1 = 1 then emit (.frame 64 (triggerFrame m.target m.id false)) s else s)
  | none => (fail .nores, s)

def execMsSchedule (src : Src) (s : State) : Host.Outcome State Fault Refusal :=
  runCmd 0x020B msScheduleCheck msScheduleRun src s

/-- `MS_TRIGGER_SET` (R100, R122). -/
def msTriggerSetCheck (_ : Src) (r : Req) (s : State) : Option Status :=
  let en := arg r 0 1
  firstFail [((bitOf en 0 || bitOf en 3) && !active s 10, .nores), (isFenced s 4, .fenced),
    (decide (16 ≤ en) || (bitOf en 0 && decide (32 ≤ arg r 1 1 ∨ 4 ≤ arg r 2 1 ∨ arg r 3 2 = 0)), .badarg)]

def msTriggerSetRun (_ : Src) (r : Req) (s : State) : Reply × State :=
  let c := s.clock
  let c := { c with msEnable := arg r 0 1 }
  let c := if bitOf (arg r 0 1) 0 then { c with zcMp := arg r 1 1, zcCh := arg r 2 1, zcEvery := arg r 3 2, zcCount := 0 }
    else c
  ({ payload := le8 c.msEnable }, { s with clock := c })

def execMsTriggerSet (src : Src) (s : State) : Host.Outcome State Fault Refusal :=
  runCmd 0x0209 msTriggerSetCheck msTriggerSetRun src s

/-! ### Time-base commands -/

/-- `TB_INFO` (R91). -/
def tbInfoCheck (_ : Src) (r : Req) (s : State) : Option Status :=
  let n := arg r 0 1
  firstFail [(decide (n < 12) && tbOff s n, .nores), (decide (12 ≤ n), .badarg)]

def tbInfoRun (_ : Src) (r : Req) (s : State) : Reply × State :=
  let n := arg r 0 1
  let t := tb s n
  ({ payload := le32 (tbStatus t) ++ le32 (tbCtrl t) ++ le72 (tbTime t) ++ le64 t.inc ++ le72 t.limit
      ++ le64 (tbAux s n) }, s)

def execTbInfo (src : Src) (s : State) : Host.Outcome State Fault Refusal := runCmd 0x0201 tbInfoCheck tbInfoRun src s

/-- The bases that TB_SET and TB_STEP, TB_LIMIT_SET and TB_DECLARE_LOST name (R86, R96, R122). -/
def settable (n : Nat) : Bool := n == 0 || n == 2 || (decide (4 ≤ n) && decide (n ≤ 10))

/-- A base is under a source that leaves no host step: PTP, AETHENO, MAINS (R98). -/
def sourceDenies (s : State) (n : Nat) : Bool :=
  let src := (tb s n).source
  settable n && (src == 1 || src == 2 || src == 3)

/-- A TB_SET for the next PPS_IN edge waits on the base (R97). -/
def ppsWaits (s : State) (n : Nat) : Bool := s.clock.pps.any fun p => p.base == n

/-- `TB_SET` (R96–R98): on a VALID base a step to the new value, applied at the next fabric edge; else an initial set. -/
def tbSetCheck (_ : Src) (r : Req) (s : State) : Option Status :=
  let n := arg r 0 1
  firstFail [(settable n && tbOff s n, .nores), (settable n && isFenced s (tbUnit n), .fenced),
    (sourceDenies s n, .denied), (!settable n || decide (1 < arg r 10 1), .badarg), (ppsWaits s n, .busy)]

def tbSetRun (src : Src) (r : Req) (s : State) : Reply × State :=
  let n := arg r 0 1
  match src with
  | .mb m =>
    if arg r 10 1 = 1 then
      ({ status := .accepted }, { s with clock := { s.clock with
          pps := s.clock.pps ++ [{ base := n, value := argT r 1, mb := m }] } })
    else
      let v := argT r 1
      if (tb s n).valid then ({ later := true }, addPend n (timeDiff v (tbVal s n)) (some m) s)
      else ({ payload := le72 v ++ le8 1, legal := 0x204 }, initialSet n v s)
  | .sq _ _ => (fail .denied, s)

def execTbSet (src : Src) (s : State) : Host.Outcome State Fault Refusal := runCmd 0x0202 tbSetCheck tbSetRun src s

/-- `TB_STEP` (R92, R93). A base that is not VALID answers TIME_LOST with the actions of a refusal, before BADARG and
BUSY. -/
def tbStepCheck (_ : Src) (r : Req) (s : State) : Option Status :=
  let n := arg r 0 1
  firstFail [(settable n && tbOff s n, .nores), (settable n && isFenced s (tbUnit n), .fenced),
    (sourceDenies s n, .denied), (!settable n, .badarg), ((tb s n).valid && ppsWaits s n, .busy)]

def tbStepRun (src : Src) (r : Req) (s : State) : Reply × State :=
  let n := arg r 0 1
  let d := argS r 1 9
  match src with
  | .mb m => if stepsTaken s n then ({ later := true }, addPend n d (some m) s) else (fail .timeLost, refuseStep n d s)
  | .sq _ _ => (fail .denied, s)

def execTbStep (src : Src) (s : State) : Host.Outcome State Fault Refusal := runCmd 0x0203 tbStepCheck tbStepRun src s

/-- `TB_LIMIT_SET` (R94, R98): bit 71 clear. -/
def tbLimitSetCheck (_ : Src) (r : Req) (s : State) : Option Status :=
  let n := arg r 0 1
  firstFail [(settable n && tbOff s n, .nores), (settable n && isFenced s (tbUnit n), .fenced),
    (!settable n || (argT r 1).getLsbD 71, .badarg)]

def tbLimitSetRun (_ : Src) (r : Req) (s : State) : Reply × State :=
  let n := arg r 0 1
  ({ payload := le72 (argT r 1) }, setTb n { tb s n with limit := argT r 1 } s)

def execTbLimitSet (src : Src) (s : State) : Host.Outcome State Fault Refusal :=
  runCmd 0x0204 tbLimitSetCheck tbLimitSetRun src s

/-- A base leaves VALID: what depends on it follows. -/
def leaveValid (n : Nat) (s : State) : State :=
  let s := setTb n { tb s n with valid := false } s
  timeLost n (if n = 0 then followTb0 s else s)

/-- Validity of TB11 of a chain member, and of a TB0 that follows it (R118, R556). The chain performs the initial set of a TB0 that
is not VALID (R98). -/
def followTb11 (s : State) : State :=
  let t := tb s 11
  let s := if t.source = 5 then s else setTb 11 { t with valid := if t.holdover then t.valid else t.locked && s.clock.masterValid } s
  if (tb s 0).source = 2 then
    let t0 := tb s 0
    let now := t.locked && s.clock.masterValid
    let s := setTb 0 { t0 with locked := t.locked, holdover := t.holdover } s
    let s := if now && !t0.valid then initialSet 0 (tbTime t) s else if !now && t0.valid then leaveValid 0 s else s
    setTb 0 { tb s 0 with acc := t.acc } s
  else s

/-- The sources of a base (R86). -/
def sourceAllowed (n src : Nat) : Bool :=
  if n = 0 then src == 0 || src == 1 || src == 2
  else if 4 ≤ n ∧ n ≤ 7 then src == 0 || src == 4 || src == 3
  else if 8 ≤ n ∧ n ≤ 10 then src == 0 || src == 4
  else false

/-- `TB_SOURCE_SET` (R87). -/
def tbSourceSetCheck (_ : Src) (r : Req) (s : State) : Option Status :=
  let n := arg r 0 1
  let src := arg r 1 1
  let mains := src == 3
  let known := decide (n < 12)
  firstFail [(known && tbOff s n, .nores), (mains && known && !active s 10, .nores),
    (known && isFenced s (tbUnit n), .fenced),
    (!sourceAllowed n src || (mains && (decide (32 ≤ arg r 2 1 ∨ 4 ≤ arg r 3 1) || !(arg r 4 1 == 50 || arg r 4 1 == 60))),
      .badarg),
    (ppsWaits s n, .busy)]

/-- The base leaves its source: mains lock lost, PTP holdover left (R123). -/
def leaveSource (n : Nat) (s : State) : State :=
  let t := tb s n
  if t.source = 3 ∧ t.locked then logTb 0x207 n [] s
  else if t.source = 1 ∧ t.holdover then logTb 0x209 n [] s
  else s

def tbSourceSetRun (_ : Src) (r : Req) (s : State) : Reply × State :=
  let n := arg r 0 1
  let src := arg r 1 1
  let s := leaveSource n s
  let t := tb s n
  let t := { t with
    source := src, locked := src == 4, holdover := false, crossings := 0
    zcMp := if src = 3 then arg r 2 1 else t.zcMp
    zcCh := if src = 3 then arg r 3 1 else t.zcCh
    hz60 := if src = 3 then arg r 4 1 == 60 else t.hz60 }
  let s := slotsFollow n (setTb n t s)
  ({ payload := le32 (tbCtrl t) }, if src = 2 then followTb11 s else s)

def execTbSourceSet (src : Src) (s : State) : Host.Outcome State Fault Refusal :=
  runCmd 0x0205 tbSourceSetCheck tbSourceSetRun src s

/-- Put a UTC offset into force (R110). -/
def applyUtc (o : Int) (s : State) : State :=
  logTb 0x20A 0 [] { s with clock := { s.clock with utcOffset := o, utcPending := none } }

/-- `TB_UTC_OFFSET_SET` (R110). -/
def tbUtcOffsetSetRun (_ : Src) (r : Req) (s : State) : Reply × State :=
  let o := argS r 0 2
  let s := if argT r 2 = 0#72 then applyUtc o s
    else { s with clock := { s.clock with utcPending := some (o, argT r 2) } }
  ({ payload := leInt 2 s.clock.utcOffset ++ le8 (b2n s.clock.utcPending.isSome) }, s)

def execTbUtcOffsetSet (src : Src) (s : State) : Host.Outcome State Fault Refusal :=
  runCmd 0x0206 noCheck tbUtcOffsetSetRun src s

/-- `UTC_OFFSET_EFFECTIVE` (R110): TB0 has reached the instant of the pending change. -/
def utcEffective (s : State) : State :=
  match s.clock.utcPending with
  | some (o, at_) => if at_.toNat ≤ (tbVal s 0).toNat then applyUtc o s else s
  | none => s

def execUtcOffsetEffective (s : State) : Host.Outcome State Fault Refusal := .next (utcEffective s)

/-- `TB_DECLARE_LOST` (R96). -/
def tbDeclareLostCheck (_ : Src) (r : Req) (s : State) : Option Status :=
  let n := arg r 0 1
  firstFail [(settable n && tbOff s n, .nores), (settable n && isFenced s (tbUnit n), .fenced), (!settable n, .badarg)]

/-- Declare a base lost (R96): a step that waits is discarded, LOST set, VALID clear, logbook 0x203 with the value; the base keeps
running. A `TB_SET` that waits for PPS_IN is judged at its edge (R97), where it is then an initial set. -/
def declareLost (n : Nat) (s : State) : State :=
  let s := dropStep n s
  let t := tb s n
  let s := setTb n { t with lost := true, valid := false } s
  let s := logTb 0x203 n [tbTime t] s
  timeLost n (if n = 0 then followTb0 s else s)

def tbDeclareLostRun (_ : Src) (r : Req) (s : State) : Reply × State :=
  let n := arg r 0 1
  let v := tbVal s n
  ({ payload := le72 v }, declareLost n s)

def execTbDeclareLost (src : Src) (s : State) : Host.Outcome State Fault Refusal :=
  runCmd 0x0207 tbDeclareLostCheck tbDeclareLostRun src s

/-- TB2_INC and the compensation for the held temperature and trims (R116). -/
def compensate (s : State) : State :=
  let dt := s.clock.temp - Config.crystalT0
  let num : Int := ((Config.crystalK : Int) + s.clock.quad) * (dt * dt) + s.clock.trim * 1000000
  let inc := (incNominalTb2 : Int) + roundDiv ((2 : Int) ^ 57 * num) (10 ^ 15)
  let s := setTb 2 { tb s 2 with inc := inc.toNat } s
  { s with clock := { s.clock with comp := roundDiv num 1000000 } }

/-- `TB2_TRIM_SET` (R116). -/
def tb2TrimSetCheck (_ : Src) (r : Req) (_ : State) : Option Status :=
  firstFail [(decide (50000 < (argS r 0 4).natAbs ∨ 1000 < (argS r 4 2).natAbs), .badarg)]

def tb2TrimSetRun (_ : Src) (r : Req) (s : State) : Reply × State :=
  let s := compensate { s with clock := { s.clock with trim := argS r 0 4, quad := argS r 4 2 } }
  ({ payload := leInt 2 Config.crystalT0 ++ le16 Config.crystalK ++ leInt 4 s.clock.trim ++ leInt 2 s.clock.quad }, s)

def execTb2TrimSet (src : Src) (s : State) : Host.Outcome State Fault Refusal :=
  runCmd 0x0208 tb2TrimSetCheck tb2TrimSetRun src s

/-- `TB2_TEMPERATURE_SAMPLE` (R116). -/
def execTb2TemperatureSample (centi : Int) (s : State) : Host.Outcome State Fault Refusal :=
  .next (compensate { s with clock := { s.clock with temp := centi } })

/-- `VBAT_LOW_DETECT` (R117): only while main power is absent; found at the next start. -/
def execVbatLowDetect (s : State) : Host.Outcome State Fault Refusal :=
  .next (if s.power.main ∨ s.clock.backupFail then s
    else { s with
      clock := { s.clock with backupFail := true }
      keys := { s.keys with sleepTrips := s.keys.sleepTrips ++ [(18, tbVal s 2)] } })

/-! ### PPS -/

/-- Apply one waiting TB_SET at a PPS edge and write its final response (R97); a register step that waits on the base takes effect
at the same edge, before it. -/
def applyPps (p : PpsSet) (s : State) : State :=
  let (st, kind, s) := setBase p.base p.value (settleStep p.base s)
  finishMb p.mb st (if st = .ok then le72 (tbVal s p.base) ++ le8 kind else []) s

/-- `TB_SET_PPS_TIMEOUT` (R97): the waiting TB_SET of a mailbox completes with BADARG and changes nothing. -/
def ppsTimeout (mb : Nat) (s : State) : State :=
  if s.clock.pps.any fun p => p.mb == mb then
    finishMb mb .badarg [] { s with clock := { s.clock with pps := s.clock.pps.filter fun p => p.mb != mb } }
  else s

def execTbSetPpsTimeout (mb : Nat) (s : State) : Host.Outcome State Fault Refusal :=
  within "mailbox" mb 64 (ppsTimeout mb s)

/-! ### Mains -/

def nominalHz (t : TimeBase) : Nat := if t.hz60 then 60 else 50

/-- The phase error e of a base at a crossing, in 2^-36 cycle (R112). -/
def mainsError (t : TimeBase) : Int :=
  let ph : Nat := ((tbTime t).toNat % 2 ^ 36 * nominalHz t) % 2 ^ 36
  if 2 ^ 35 ≤ ph then (ph : Int) - 2 ^ 36 else (ph : Int)

/-- f_meas from the last crossing interval, in µHz (R112): an interval above 1.5 nominal periods has a missing crossing in it
(R111), and the frequency in hand stays. -/
def mainsFreq (t : TimeBase) (gap : Option Nat) : Nat :=
  let held := if t.fMeas = 0 then nominalHz t * 1000000 else t.fMeas * 1000
  match gap with
  | some g => if 0 < g ∧ 2 * g * nominalHz t ≤ 3 * 2 ^ 36 then 1000000 * 2 ^ 36 / g else held
  | none => held

/-- inc_f of R112, for a measured frequency in µHz. -/
def mainsIncF (s : State) (t : TimeBase) (freq : Nat) : Nat := (tb s 0).inc * freq / (nominalHz t * 1000000)

/-- The new increment of the mains loop for a phase error e (R112), within ±2.5 % of nominal. -/
def mainsInc (s : State) (t : TimeBase) (freq : Nat) (e : Int) : Nat :=
  let raw := (mainsIncF s t freq : Int) - (((tb s 0).inc : Int) * e).tdiv (2 ^ 40)
  (clampI ((incNominal : Int) * 975 / 1000) ((incNominal : Int) * 1025 / 1000) raw).toNat

/-- The value of a base `late` units of 2^-36 s ago. -/
def valueAgo (t : TimeBase) (late : Nat) : TimeBase := { t with acc := moveAcc t.acc (-(late : Int)) }

/-- One crossing under SOURCE = MAINS, `late` before this edge and `gap` after the last (R98, R112, R113): the initial set of a base
that is not VALID; at the first crossing after holdover with |e| above 1/12 cycle a phase step to e = 0; then the loop, and LOCKED
after 16 crossings. Logbook 0x207 is written at a first lock as at one regained (DESIGN CHOICE: R123 names lost and regained alone;
assumption log 72). -/
def mainsCrossing (n late : Nat) (gap : Option Nat) (s : State) : State :=
  let t := tb s n
  let e := mainsError (valueAgo t late)
  let d := -(e.tdiv (nominalHz t))
  let sets := !t.valid || (t.holdover && t.crossings == 0 && decide (2 ^ 36 < 12 * e.natAbs))
  let s :=
    if !t.valid then initialSet n (tbTime { t with acc := moveAcc t.acc d }) s
    else if sets then hardwareStep n d s
    else s
  let t := tb s n
  let freq := mainsFreq t gap
  let crossings := min 16 (t.crossings + 1)
  let locks := crossings == 16 && !t.locked
  let t := { t with
    inc := mainsInc s t freq (if sets then 0 else e), incF := mainsIncF s t freq, fMeas := freq / 1000, crossings := crossings,
    locked := t.locked || crossings == 16, holdover := t.holdover && crossings != 16 }
  let s := slotsFollow n (setTb n t s)
  if locks then logTb 0x207 n [] s else s

/-- The bases among TB4–TB7 that this crossing disciplines. -/
def mainsBases (s : State) (mp ch : Nat) : List Nat :=
  [4, 5, 6, 7].filter fun n => (tb s n).source == 3 && (tb s n).zcMp == mp && (tb s n).zcCh == ch && active s 8

/-- `MAINS_CROSSING_MISSING` (R113): HOLDOVER on the last inc_f, LOCKED clear, logbook 0x207; VALID is unchanged. A loss among the 16
crossings after a return is a loss again. -/
def mainsMissing (n : Nat) (s : State) : State :=
  let t := tb s n
  if t.source = 3 ∧ (!t.holdover ∨ t.crossings ≠ 0) ∧ active s (tbDomain n) then
    logTb 0x207 n [] (slotsFollow n (setTb n { t with holdover := true, locked := false, inc := t.incF, crossings := 0 } s))
  else s

def execMainsCrossingMissing (n : Nat) (s : State) : Host.Outcome State Fault Refusal :=
  within "time base" n 12 (mainsMissing n s)

/-! ### PTP -/

def ptpOf (s : State) (p : Nat) : PtpPort := look {} s.clock.ptp p

/-- `PTP_PORT_CFG` (R104): one client port at most. -/
def ptpPortCfgCheck (_ : Src) (r : Req) (s : State) : Option Status :=
  let p := arg r 0 1
  firstFail [(!active s 7, .nores), (decide (p < 4) && isFenced s (93 + p), .fenced),
    (decide (4 ≤ p ∨ 2 < arg r 1 1 ∨ 1 < arg r 2 1) || !(arg r 3 1 == 1 || arg r 3 1 == 2), .badarg),
    (arg r 1 1 == 1 && (List.range 4).any fun q => q != p && (ptpOf s q).role == 1, .busy)]

def ptpPortCfgRun (_ : Src) (r : Req) (s : State) : Reply × State :=
  let c : PtpPort :=
    { role := arg r 1 1, profile := arg r 2 1, steps := arg r 3 1, ingress := argS r 4 4, egress := argS r 8 4 }
  ({ payload := r.payload }, { s with clock := { s.clock with ptp := put {} s.clock.ptp (arg r 0 1) c } })

def execPtpPortCfg (src : Src) (s : State) : Host.Outcome State Fault Refusal :=
  runCmd 0x020C ptpPortCfgCheck ptpPortCfgRun src s

/-- The servo's new increment: not stated by the spec, a free value within the limits of R85 (assumption log 16). -/
def servoInc (n : Nat) (s : State) : State :=
  let (v, s) := takeFree s
  setTb n { tb s n with inc := clampInc (incLow + v % 7870610805) } s

/-- A valid Sync at the client port while TB0 is under PTP (R98, R104, R108): the initial set of a TB0 that is not VALID,
otherwise the servo; the end of holdover. -/
def ptpSync (offset : Int) (s : State) : State :=
  let t := tb s 0
  let was := t.holdover
  let s := if t.valid then servoInc 0 s else initialSet 0 (tbTime { t with acc := moveAcc t.acc offset }) s
  let s := setTb 0 { tb s 0 with locked := true, holdover := false } s
  if was then logTb 0x209 0 [] s else s

/-- Picoseconds, and units of 2^-16 ns, as units of 2^-36 s. -/
def psTime (ps : Int) : Int := (ps * 2 ^ 36).tdiv (10 ^ 12)
def corrTime (c : Int) : Int := (c * 2 ^ 20).tdiv (10 ^ 9)

/-- A time difference in units of 2^-16 ns, the unit of correctionField. -/
def timeCorr (d : Int) : Int := (d * 10 ^ 9).tdiv (2 ^ 20)

/-- The instant at which a message received now passed the reference plane, and at which one sent now passes it: the port offsets
correct the carrier's latency (R105). -/
def rxStamp (s : State) (p : Nat) : Time := tbVal s 0 - BitVec.ofInt 72 (psTime (ptpOf s p).ingress)
def txStamp (s : State) (p : Nat) : Time := tbVal s 0 + BitVec.ofInt 72 (psTime (ptpOf s p).egress)

/-- A received time stamp: 36 bits of seconds, and nanoseconds. -/
def ptpTime (seconds nanos : Nat) : Time := BitVec.ofNat 72 (seconds * 2 ^ 36 + nanos * 2 ^ 36 / 10 ^ 9)

/-- A time stamp of IEEE 1588: the 48-bit secondsField with the seconds in its low 36 bits and 0 in the upper 12 (R105), and the
nanosecondsField; big-endian. -/
def ptpStamp (t : Time) : Bytes := beBytes 6 (t.toNat / 2 ^ 36) ++ beBytes 4 (t.toNat % 2 ^ 36 * 10 ^ 9 / 2 ^ 36)

/-- An event message as it leaves a port: type, sequence, correctionField and the time stamp of its body (assumption log 65). -/
def ptpFrame (p type seq : Nat) (corr : Int) (stamp : Bytes) (s : State) : State :=
  emit (.frame (32 + p) (le8 type ++ beBytes 2 seq ++ beBytes 8 (unsigned 64 corr) ++ stamp)) s

/-- Some port has the client role. -/
def ptpClient (s : State) : Bool := (List.range 4).any fun q => (ptpOf s q).role == 1

/-- A master port gives time: with a client port the module is a boundary clock, without one a grandmaster, whose TB0 is VALID and
under HOST or AETHENO (R104). -/
def ptpGives (s : State) (p : Nat) : Bool :=
  (ptpOf s p).role == 2 && (ptpClient s || ((tb s 0).valid && ((tb s 0).source == 0 || (tb s 0).source == 2)))

/-- A master port sends Sync (R104). One step: originTimestamp is written on transmission. Two steps: Follow_Up (type 8) carries
the time stamp of the Sync. -/
def ptpSendSync (p seq : Nat) (s : State) : State :=
  let t := ptpStamp (txStamp s p)
  if (ptpOf s p).steps = 1 then ptpFrame p 0 seq 0 t s
  else ptpFrame p 8 seq 0 t (ptpFrame p 0 seq 0 (ptpStamp 0) s)

/-- A Pdelay_Req is answered (R104). One step: correctionField of the Pdelay_Resp carries the turnaround time. Two steps: the
response carries the receive time, and Pdelay_Resp_Follow_Up (type 10) its own. -/
def ptpPdelay (m : PtpMessage) (s : State) : State :=
  let p := m.port
  let rx := rxStamp s p
  if (ptpOf s p).steps = 1 then
    ptpFrame p 3 m.seq (m.correction + timeCorr (timeDiff (txStamp s p) rx)) (ptpStamp 0) s
  else ptpFrame p 10 m.seq m.correction (ptpStamp (txStamp s p)) (ptpFrame p 3 m.seq 0 (ptpStamp rx) s)

/-- The time of the master minus TB0 at the arrival of a Sync: its origin time, its correction and the path delay, which a port of
the peer-delay profile has measured (R104). -/
def ptpOffset (m : PtpMessage) (s : State) : Int :=
  let c := ptpOf s m.port
  timeDiff (ptpTime m.seconds m.nanos) (rxStamp s m.port) + corrTime m.correction
    + (if c.profile = 1 then c.pathDelay else m.pathDelay)

/-- A Pdelay_Resp at a port of the peer-delay profile (R104): half of the round trip without the turnaround is the path delay. -/
def ptpPeer (m : PtpMessage) (s : State) : State :=
  let c := ptpOf s m.port
  if c.profile = 1 then
    let d := timeDiff (rxStamp s m.port) m.sent - corrTime m.correction - m.turnaround
    { s with clock := { s.clock with ptp := put {} s.clock.ptp m.port { c with pathDelay := d.tdiv 2 } } }
  else s

/-- `PTP_EVENT_MESSAGE` (R104, R105): a message is time-stamped at the reference plane. A Sync of a client port drives the servo, a
master port sends Sync and answers delay requests with their receive time, and the peer-delay messages measure the path. A time
stamp above 36 bits of seconds is discarded. -/
def ptpMessage (m : PtpMessage) (s : State) : State :=
  let c := ptpOf s m.port
  if !fabricUp s ∨ !active s 7 ∨ isFenced s (93 + m.port) ∨ c.role = 0 then s
  else if m.kind = 0 then
    if c.role = 1 ∧ (tb s 0).source = 1 ∧ m.valid ∧ m.secondsHigh = 0 then ptpSync (ptpOffset m s) s else s
  else if m.kind = 1 then
    if ptpGives s m.port && c.profile == 0 then ptpFrame m.port 9 m.seq m.correction (ptpStamp (rxStamp s m.port)) s else s
  else if m.kind = 2 then ptpPdelay m s
  else if m.kind = 3 then (if m.valid ∧ m.secondsHigh = 0 then ptpPeer m s else s)
  else if ptpGives s m.port then ptpSendSync m.port m.seq s
  else s

def execPtpEventMessage (m : PtpMessage) (s : State) : Host.Outcome State Fault Refusal :=
  within "ETH port" m.port 4 (ptpMessage m s)

/-- `PTP_SYNC_TIMEOUT` (R108): TB0 enters HOLDOVER; VALID is unchanged; logbook 0x209. -/
def ptpTimeout (s : State) : State :=
  let t := tb s 0
  if t.source = 1 ∧ !t.holdover then logTb 0x209 0 [] (setTb 0 { t with holdover := true, locked := false } s) else s

def execPtpSyncTimeout (s : State) : Host.Outcome State Fault Refusal := .next (ptpTimeout s)

/-! ### Aetheno -/

/-- `AETHENO_CFG` (R118). -/
def aethenoCfgCheck (_ : Src) (r : Req) (s : State) : Option Status :=
  firstFail [(!active s 7, .nores), (isFenced s 98, .fenced), (decide (1 < arg r 0 1), .badarg)]

def aethenoCfgRun (_ : Src) (r : Req) (s : State) : Reply × State :=
  let on := arg r 0 1 == 1
  let c := { s.clock with aetheno := on, asymIn := argS r 1 2, asymOut := argS r 3 2 }
  let s :=
    if on then { s with clock := c }
    else
      -- disabled: in no chain, and TB11 equals TB0
      let s := { s with clock := { c with syncIn := false, position := 0, goodFrames := 0, masterValid := false,
                                          delaySent := none } }
      let s := if (tb s 11).locked then logTb 0x208 11 [] s else s
      followTb11 (followTb0 (setTb 11 { tb s 11 with source := 5, locked := false, holdover := false, inc := incNominal } s))
  ({ payload := le8 s.clock.position ++ le8 (b2n (tb s 11).locked) ++ le32 s.clock.roundTrip }, s)

def execAethenoCfg (src : Src) (s : State) : Host.Outcome State Fault Refusal :=
  runCmd 0x020D aethenoCfgCheck aethenoCfgRun src s

/-- The Aetheno ports work: enabled, PD7 on, unit 98 not fenced. -/
def aethenoUp (s : State) : Bool := s.clock.aetheno && active s 7 && !isFenced s 98

/-- A TIME frame (R118): TB11 as it leaves sync out, corrected by the asymmetry of that port (assumption log 65), the hop count of the
receiver, master TB0 VALID, CRC-16. -/
def timeFrame (s : State) : Bytes :=
  let mv := if chainMaster s then (tb s 0).valid else s.clock.masterValid
  let b := le72 (tbVal s 11 + BitVec.ofInt 72 (psTime s.clock.asymOut)) ++ le8 (s.clock.position + 1) ++ le8 (b2n mv)
  b ++ leBytes 2 (crc16 b).toNat

/-- `AETHENO_TIME_SEND` (R118). -/
def execAethenoTimeSend (s : State) : Host.Outcome State Fault Refusal :=
  .next (if aethenoUp s then emit (.frame 64 (timeFrame s)) s else s)

/-- The acquisition of TB11 (R118): the received time plus half the round trip and the asymmetry correction, in one
hardware step. Times in ps become units of 2^-36 s. -/
def acquireTb11 (value : Time) (s : State) : State :=
  let v := value + BitVec.ofInt 72 (psTime ((s.clock.roundTrip : Int) / 2 + s.clock.asymIn))
  logTb 0x20B 11 [] (setTb 11 { tb s 11 with acc := accOf v, stepped := true, source := 2 } s)

/-- `AETHENO_TIME_RECEIVE` (R118, R119). A frame with a wrong CRC breaks the run of good frames. Logbook 0x208 is written at a first lock as
at one regained (DESIGN CHOICE, assumption log 72). -/
def timeReceive (f : AethTime) (s : State) : State :=
  if !aethenoUp s then s
  else if !f.crcOk then { s with clock := { s.clock with goodFrames := 0 } }
  else
    let first := !s.clock.syncIn
    let s := { s with clock := { s.clock with syncIn := true, position := f.hop % 64, masterValid := f.masterValid } }
    let s := if first then acquireTb11 f.value s else servoInc 11 s
    let good := if f.offsetPs.natAbs < 10000 ∧ f.hop < 32 then min 16 (s.clock.goodFrames + 1) else 0
    let s := { s with clock := { s.clock with goodFrames := good } }
    let locks := good == 16 && !(tb s 11).locked
    let s := if locks then logTb 0x208 11 [] (setTb 11 { tb s 11 with locked := true, holdover := false } s) else s
    followTb11 s

def execAethenoTimeReceive (f : AethTime) (s : State) : Host.Outcome State Fault Refusal := .next (timeReceive f s)

/-- `AETHENO_TIME_MISSED` (R119): HOLDOVER and logbook 0x208; VALID keeps its state (R556). -/
def timeMissed (s : State) : State :=
  if aethenoUp s ∧ s.clock.syncIn ∧ !(tb s 11).holdover then
    let s := { s with clock := { s.clock with goodFrames := 0 } }
    logTb 0x208 11 [] (setTb 11 { tb s 11 with holdover := true, locked := false } s)
  else s

def execAethenoTimeMissed (s : State) : Host.Outcome State Fault Refusal := .next (followTb11 (timeMissed s))

/-- `AETHENO_DELAY_EXCHANGE` (R118): a DELAY_REQ leaves sync in with its departure time. -/
def execAethenoDelayExchange (s : State) : Host.Outcome State Fault Refusal :=
  .next (if aethenoUp s then
    emit (.frame 65 (le8 0 ++ le72 (tbVal s 11))) { s with clock := { s.clock with delaySent := some (tbVal s 11) } }
  else s)

/-- `AETHENO_DELAY_RECEIVE` (R118): a request is answered on its port; a response completes the round trip
(t4 − t1) − (t3 − t2). -/
def delayReceive (f : AethDelay) (s : State) : State :=
  if !aethenoUp s then s
  else if !f.response then
    emit (.frame (if f.syncIn then 65 else 64) (le8 1 ++ le64 f.t1 ++ le64 f.t2 ++ le72 (tbVal s 11))) s
  else if f.syncIn ∧ s.clock.delaySent.isSome then
    { s with clock := { s.clock with
        roundTrip := unsigned 32 (((f.t4 : Int) - f.t1) - ((f.t3 : Int) - f.t2)), delaySent := none } }
  else s

def execAethenoDelayReceive (f : AethDelay) (s : State) : Host.Outcome State Fault Refusal := .next (delayReceive f s)

end Sys2Proof.Machine
end

