-- ==== Sys2Proof/Machine/MeterCommands.lean ====
section
/-! DEFINITION. The commands of metrology (spec/04_metrology.md, R126–R180). -/

namespace Sys2Proof.Machine

/-- PD10 is off (R4, R178). -/
def metOff (s : State) : Bool := !active s 10

/-- The TB3 time of the next regular tick boundary (R137): a tick is 320 samples of 18,750 fabric ticks, and TB3 goes on with the
increment that it adds now (DESIGN CHOICE, assumption log 73). -/
def nextTickTb3 (s : State) : Time :=
  tbTime { tb s 3 with acc := (tb s 3).acc + BitVec.ofNat 108 ((6000000 - s.meter.tickAge) * tickInc s 3) }

/-! ### `MET_INFO` (R178) -/

def metInfoCheck (_ : Src) (r : Req) (s : State) : Option Status :=
  firstFail [(metOff s, .nores), (decide (32 ≤ arg r 0 1), .badarg)]

def metInfoRun (_ : Src) (r : Req) (s : State) : Reply × State :=
  let p := pointOf s (arg r 0 1)
  ({ payload := le8 p.bind.wiring ++ le8 (b2n (runs p)) ++ le16 p.alarms ++ le8 (b2n (pointAged s p)) ++ le8 p.gates }, s)

def execMetInfo (src : Src) (s : State) : Host.Outcome State Fault Refusal := runCmd 0x0301 metInfoCheck metInfoRun src s

/-! ### `MET_CHAN_CFG` (R126, R133, R138) -/

/-- The kind that a channel has at the next tick boundary. -/
def kindNext (s : State) (a : Nat) : Nat :=
  match (chanOf s a).pending with
  | some (k, _, _) => k
  | none => (chanOf s a).kind

/-- The binding that a point has at the next tick boundary. -/
def bindNext (p : MeteringPoint) : Binding := p.pendingBind.getD p.bind

/-- A point binds the channel, now or at the next tick boundary. -/
def chanBound (s : State) (a : Nat) : Bool :=
  allPoints.any fun m => binds a (pointOf s m) || (bindNext (pointOf s m)).slots.contains a

def metChanCfgCheck (_ : Src) (r : Req) (s : State) : Option Status :=
  let a := arg r 0 1
  let k := arg r 1 1
  let g := arg r 2 1
  firstFail [(metOff s, .nores), (isFenced s 125, .fenced),
    (decide (96 ≤ a ∨ 3 < k ∨ 5 < g) || (k == 1 && g != 0), .badarg), (k != kindNext s a && chanBound s a, .busy)]

def metChanCfgRun (_ : Src) (r : Req) (s : State) : Reply × State :=
  let a := arg r 0 1
  let s := setChan a { chanOf s a with pending := some (arg r 1 1, arg r 2 1, arg r 3 6) } s
  let s := logMeter 0x302 0xFFFF (joinAlarms s (binds a)) [] s
  ({ payload := r.payload ++ le72 (nextTickTb3 s) }, s)

def execMetChanCfg (src : Src) (s : State) : Host.Outcome State Fault Refusal :=
  runCmd 0x0302 metChanCfgCheck metChanCfgRun src s

/-! ### `MET_BIND` (R139–R141) -/

/-- The binding that a request names: wiring, nine slots, U_nom, I_nom, frequency. -/
def bindingOf (r : Req) : Binding :=
  { wiring := arg r 1 1, slots := (List.range 9).map fun k => arg r (2 + k) 1, uNom := arg r 11 4, iNom := arg r 15 4,
    hz := arg r 19 1 }

/-- The kind that slot `k` takes (R139). -/
def slotKind (k : Nat) : Nat := if k < 4 then 1 else if k < 8 then 2 else 3

/-- The slots that a wiring mode requires (R139). -/
def requiredSlots (wiring : Nat) : List Nat :=
  if wiring = 1 then [0, 4] else if wiring = 2 ∨ wiring = 3 then [0, 1, 4, 5] else if wiring = 4 then [0, 1, 2, 4, 5, 6]
  else []

/-- Another point binds the channel. -/
def boundElsewhere (s : State) (m a : Nat) : Bool :=
  allPoints.any fun o => o != m && (bindNext (pointOf s o)).slots.contains a

/-- A slot that breaks a rule of R140. -/
def slotBad (s : State) (m : Nat) (b : Binding) (k : Nat) : Bool :=
  let a := slotAin b k
  if a = 255 then (requiredSlots b.wiring).contains k
  else decide (96 ≤ a) || kindNext s a != slotKind k || (decide (4 ≤ k) && boundElsewhere s m a)

def bindBad (s : State) (m : Nat) (b : Binding) : Bool :=
  decide (32 ≤ m ∨ 4 < b.wiring) || !(b.hz == 50 || b.hz == 60) || (List.range 9).any (slotBad s m b)

def metBindCheck (_ : Src) (r : Req) (s : State) : Option Status :=
  firstFail [(metOff s, .nores), (isFenced s 125, .fenced), (bindBad s (arg r 0 1) (bindingOf r), .badarg)]

def metBindRun (_ : Src) (r : Req) (s : State) : Reply × State :=
  let m := arg r 0 1
  let s := setPoint m { pointOf s m with pendingBind := some (bindingOf r) } s
  let s := logMeter 0x302 m (pointOf s m).alarms [] s
  ({ payload := r.payload ++ le72 (nextTickTb3 s) }, s)

def execMetBind (src : Src) (s : State) : Host.Outcome State Fault Refusal := runCmd 0x0303 metBindCheck metBindRun src s

/-! ### Calibration (R135, R137) -/

/-- The user terms are in range: trim ±0.05, offset ±256 codes, phase ±2 samples. -/
def calBad (r : Req) : Bool :=
  decide (96 ≤ arg r 0 1 ∨ 107374182 < (argS r 1 4).natAbs ∨ 65536 < (argS r 5 4).natAbs ∨ 131072 < (argS r 9 4).natAbs)

def metCalSetCheck (_ : Src) (r : Req) (s : State) : Option Status :=
  firstFail [(metOff s, .nores), (isFenced s 125, .fenced), (calBad r, .badarg)]

def metCalSetRun (_ : Src) (r : Req) (s : State) : Reply × State :=
  let a := arg r 0 1
  let s := setChan a { chanOf s a with pendingCal := some (argS r 1 4, argS r 5 4, argS r 9 4) } s
  let s := logMeter 0x305 a (joinAlarms s (binds a)) [] s
  ({ payload := r.payload ++ le72 (nextTickTb3 s) }, s)

def execMetCalSet (src : Src) (s : State) : Host.Outcome State Fault Refusal :=
  runCmd 0x0304 metCalSetCheck metCalSetRun src s

def metCalGetCheck (_ : Src) (r : Req) (s : State) : Option Status :=
  firstFail [(metOff s, .nores), (decide (96 ≤ arg r 0 1 ∨ 5 < arg r 1 1), .badarg)]

def metCalGetRun (_ : Src) (r : Req) (s : State) : Reply × State :=
  let a := arg r 0 1
  let g := arg r 1 1
  let c := chanOf s a
  let b := bgOf s a g
  ({ payload := le32 (Config.gainFac a g) ++ leInt 4 (Config.offFac a g) ++ leInt 4 (Config.phFac a g)
      ++ leInt 4 (Config.phPath a g) ++ leInt 4 c.trim ++ leInt 4 c.off ++ leInt 4 c.ph ++ leInt 4 b.off ++ le32 b.gain
      ++ le32 ((s.meter.samples - b.since) / 32) ++ le8 (b2n s.meter.otpOk) }, s)

def execMetCalGet (src : Src) (s : State) : Host.Outcome State Fault Refusal :=
  runCmd 0x0305 metCalGetCheck metCalGetRun src s

/-! ### `MET_REG_CFG` (R149, R151) -/

/-- Register `i` of a point is a tariffed source or is followed by a test pulse output, now or at the next tick boundary (R171, R186). -/
def absoluteNeeded (s : State) (m i : Nat) : Bool :=
  ((List.range 4).any fun k => (slotOf s m k).reg == i || (slotOf s m k).regNext == some i)
    || (List.range 8).any fun k => (tpoOf s k).enable && (tpoOf s k).mp == m && (tpoOf s k).reg == i

/-- A SIGNED register cannot be a tariffed source, nor that of a test pulse output: the change that would make one of them SIGNED completes
with BADARG (R171, R186; DESIGN CHOICE, assumption log 75). -/
def metRegCfgCheck (_ : Src) (r : Req) (s : State) : Option Status :=
  firstFail [(metOff s, .nores), (isFenced s 125, .fenced),
    (decide (32 ≤ arg r 0 1 ∨ 16 ≤ arg r 1 1 ∨ 12 < arg r 2 1 ∨ 3 < arg r 3 1 ∨ 16 ≤ arg r 4 1 ∨ 1 < arg r 5 1)
      || (arg r 3 1 == 0 && absoluteNeeded s (arg r 0 1) (arg r 1 1)), .badarg)]

def metRegCfgRun (_ : Src) (r : Req) (s : State) : Reply × State :=
  let m := arg r 0 1
  let i := arg r 1 1
  let p := pointOf s m
  let c : RegCfg := { qty := arg r 2 1, mode := arg r 3 1, mask := arg r 4 1 }
  let s := setPoint m (setReg i { regOf p i with pendingCfg := some (c, arg r 5 1 == 1) } p) s
  ({ payload := r.payload }, logMeter 0x306 m (pointOf s m).alarms [] s)

def execMetRegCfg (src : Src) (s : State) : Host.Outcome State Fault Refusal :=
  runCmd 0x0306 metRegCfgCheck metRegCfgRun src s

/-! ### Reading (R145, R146, R148) -/

def metReadRun (_ : Src) (r : Req) (s : State) : Reply × State :=
  let p := pointOf s (arg r 0 1)
  ({ payload := (regValues p).flatMap (leInt 9) ++ le72 (tbVal s 3) }, s)

def execMetRead (src : Src) (s : State) : Host.Outcome State Fault Refusal := runCmd 0x0307 metInfoCheck metReadRun src s

/-- The payload of `MET_INSTANT`: each element, the neutral and residual currents, the totals, frequency, power factor. -/
def instantPayload (p : MeteringPoint) : Bytes :=
  let w := p.window
  let element (e : Nat) : Bytes :=
    le32 (nthN w.rms e) ++ le32 (nthN w.rms (4 + e)) ++ leInt 4 (nthI w.p e) ++ leInt 4 (nthI w.q e) ++ leInt 4 (nthI w.s e)
  (List.range 3).flatMap element ++ le32 (nthN w.rms 7) ++ le32 (nthN w.rms 8) ++ leInt 4 (openDiv p.tick.irDc 1000)
    ++ leInt 4 w.pTotal ++ leInt 4 w.qTotal ++ leInt 4 w.sTotal ++ le32 w.freq ++ leInt 2 w.pf

def metInstantRun (_ : Src) (r : Req) (s : State) : Reply × State :=
  ({ payload := instantPayload (pointOf s (arg r 0 1)) }, s)

def execMetInstant (src : Src) (s : State) : Host.Outcome State Fault Refusal :=
  runCmd 0x0308 metInfoCheck metInstantRun src s

def metHarmonicsCheck (_ : Src) (r : Req) (s : State) : Option Status :=
  firstFail [(metOff s, .nores), (decide (96 ≤ arg r 0 1), .badarg)]

def metHarmonicsRun (_ : Src) (r : Req) (s : State) : Reply × State :=
  let c := chanOf s (arg r 0 1)
  ({ payload := le32 c.freq ++ le32 c.thd ++ padTo 378 (c.harmonics.flatMap fun (m, a) => le32 m ++ leInt 2 a) }, s)

def execMetHarmonics (src : Src) (s : State) : Host.Outcome State Fault Refusal :=
  runCmd 0x0309 metHarmonicsCheck metHarmonicsRun src s

/-! ### `MET_OUTPUT_CFG` (R159) -/

/-- The rate is 0 or one that every running point of the mask may have (R147). -/
def outputBad (s : State) (mask rate : Nat) : Bool :=
  rate != 0 && (!(rateFits 50 rate || rateFits 60 rate) ||
    allPoints.any fun m => bitOf mask m && runs (pointOf s m) && !rateFits (pointOf s m).bind.hz rate)

def metOutputCfgCheck (_ : Src) (r : Req) (s : State) : Option Status :=
  firstFail [(metOff s, .nores), (isFenced s 125, .fenced),
    (decide (128 ≤ arg r 0 1) || outputBad s (arg r 5 4) (arg r 9 1), .badarg)]

def metOutputCfgRun (_ : Src) (r : Req) (s : State) : Reply × State :=
  let s := { s with meter := { s.meter with
    outHq := arg r 0 1, intervalMask := arg r 1 4, phasorMask := arg r 5 4, phasorRate := arg r 9 1 } }
  ({ payload := r.payload }, sendUnsent s)

def execMetOutputCfg (src : Src) (s : State) : Host.Outcome State Fault Refusal :=
  runCmd 0x030A metOutputCfgCheck metOutputCfgRun src s

/-! ### `MET_TPO_CFG` (R171) -/

/-- The mode that a register has at the next tick boundary. -/
def modeNext (s : State) (m i : Nat) : Nat :=
  let p := pointOf s m
  match (regOf p i).pendingCfg with
  | some (c, _) => c.mode
  | none => (cfgOf p i).mode

def tpoBad (s : State) (r : Req) : Bool :=
  decide (8 ≤ arg r 0 1 ∨ 32 ≤ arg r 1 1 ∨ 16 ≤ arg r 2 1 ∨ arg r 3 6 = 0 ∨ arg r 9 2 = 0 ∨ 1600 < arg r 9 2 ∨ 1 < arg r 11 1
    ∨ 1 < arg r 12 1) || modeNext s (arg r 1 1) (arg r 2 1) == 0

def metTpoCfgCheck (_ : Src) (r : Req) (s : State) : Option Status :=
  firstFail [(metOff s, .nores), (isFenced s 126, .fenced), (tpoBad s r, .badarg)]

/-- The residue and the carried pulses of an output stay with it under another register or weight, which the spec does not decide (DESIGN
CHOICE, assumption log 73). -/
def metTpoCfgRun (_ : Src) (r : Req) (s : State) : Reply × State :=
  let k := arg r 0 1
  let t := { tpoOf s k with
    mp := arg r 1 1, reg := arg r 2 1, weight := arg r 3 6, width := arg r 9 2, polarity := arg r 11 1,
    enable := arg r 12 1 == 1 }
  ({ payload := r.payload }, setTpo k t s)

def execMetTpoCfg (src : Src) (s : State) : Host.Outcome State Fault Refusal :=
  runCmd 0x030C metTpoCfgCheck metTpoCfgRun src s

/-! ### `MET_THRESH_SET` (R173, R176) -/

def metThreshSetCheck (_ : Src) (r : Req) (s : State) : Option Status :=
  firstFail [(metOff s, .nores), (isFenced s 125, .fenced),
    (decide (32 ≤ arg r 0 1 ∨ arg r 1 2 < 20 ∨ 80 < arg r 1 2 ∨ 1 < arg r 3 1), .badarg)]

def metThreshSetRun (_ : Src) (r : Req) (s : State) : Reply × State :=
  let m := arg r 0 1
  ({ payload := r.payload }, setPoint m { pointOf s m with start := arg r 1 2, revAlarm := arg r 3 1 == 1 } s)

def execMetThreshSet (src : Src) (s : State) : Host.Outcome State Fault Refusal :=
  runCmd 0x030D metThreshSetCheck metThreshSetRun src s

/-! ### Capture (R128) -/

/-- The channels that a capture lists. -/
def captureAins (r : Req) : List Nat := ((List.range 8).map fun k => arg r k 1).filter fun a => a != 255

def captureBad (s : State) (r : Req) : Bool :=
  let ains := captureAins r
  ains.isEmpty || (ains.any fun a => decide (96 ≤ a)) || decide (arg r 8 2 = 0 ∨ 2048 < arg r 8 2 ∨ 1 < arg r 10 1)
    || (arg r 10 1 == 1 && !ains.any fun a => (chanOf s a).kind == 1)

def metCaptureCheck (_ : Src) (r : Req) (s : State) : Option Status :=
  firstFail [(metOff s, .nores), (isFenced s 125, .fenced), (captureBad s r, .badarg), (s.meter.capturing.isSome, .busy)]

def metCaptureRun (src : Src) (r : Req) (s : State) : Reply × State :=
  match src with
  | .mb n =>
    let c : Capture := { ains := captureAins r, samples := arg r 8 2, atCrossing := arg r 10 1 == 1, mb := n }
    ({ status := .accepted }, { s with meter := { s.meter with capturing := some c } })
  | .sq _ _ => (fail .denied, s)

def execMetCapture (src : Src) (s : State) : Host.Outcome State Fault Refusal :=
  runCmd 0x030E metCaptureCheck metCaptureRun src s

def metCaptureReadCheck (_ : Src) (r : Req) (s : State) : Option Status :=
  firstFail [(metOff s, .nores), (decide (16384 < arg r 0 2 + 120), .badarg), (s.meter.capturing.isSome, .busy)]

def metCaptureReadRun (_ : Src) (r : Req) (s : State) : Reply × State :=
  ({ payload := (List.range 120).flatMap fun i => le32 (look 0 s.meter.capture (arg r 0 2 + i)) }, s)

def execMetCaptureRead (src : Src) (s : State) : Host.Outcome State Fault Refusal :=
  runCmd 0x030F metCaptureReadCheck metCaptureReadRun src s

/-! ### Hold-up and outages (R165, R166) -/

/-- `HOLDUP_TEST` serves PD0, whether or not PD10 is on (R178). -/
def holdupTestCheck (_ : Src) (_ : Req) (s : State) : Option Status :=
  firstFail [(s.meter.check != .none, .busy)]

def holdupTestRun (src : Src) (_ : Req) (s : State) : Reply × State :=
  match src with
  | .mb n => ({ status := .accepted }, { s with meter := { s.meter with check := .test n } })
  | .sq _ _ => (fail .denied, s)

def execHoldupTest (src : Src) (s : State) : Host.Outcome State Fault Refusal :=
  runCmd 0x0310 holdupTestCheck holdupTestRun src s

def metOutageReadCheck (_ : Src) (r : Req) (s : State) : Option Status :=
  firstFail [(metOff s, .nores), (decide (16 ≤ arg r 0 1), .badarg)]

/-- A record that does not exist yet reads as one of zeros. -/
def metOutageReadRun (_ : Src) (r : Req) (s : State) : Reply × State :=
  ({ payload := outageBytes (s.meter.outages.getD (arg r 0 1) {}) }, s)

def execMetOutageRead (src : Src) (s : State) : Host.Outcome State Fault Refusal :=
  runCmd 0x0311 metOutageReadCheck metOutageReadRun src s

/-! ### `MET_ROTATION` (R129) -/

def metRotationCheck (_ : Src) (_ : Req) (s : State) : Option Status := firstFail [(metOff s, .nores)]

def metRotationRun (_ : Src) (_ : Req) (s : State) : Reply × State :=
  let r := s.meter.rot
  ({ payload := le8 (b2n r.suspended) ++ le8 r.ain ++ le32 r.rotations ++ le32 r.failures }, s)

def execMetRotation (src : Src) (s : State) : Host.Outcome State Fault Refusal :=
  runCmd 0x0312 metRotationCheck metRotationRun src s

end Sys2Proof.Machine
end

