-- ==== Sys2Proof/Machine/BalanceCommands.lean ====
section
/-! DEFINITION. Events and commands of the balance engine (spec/11_validation_balance.md, R407–R421), and
`MET_INTERVAL_SET` (spec/04_metrology.md, R155, R178), which must not break the interval length of a local group. -/

namespace Sys2Proof.Machine

/-- The group names that exist: RB0–RB65535, LB0–LB31 (R407). -/
def groupExists (g : Nat) : Bool := decide (g < 65568)

/-- The engine keeps this group's record in service: a remote one lies in DRAM. -/
def groupServes (s : State) (k : Nat) : Bool := balServes s && (isLocal k || active s 6)

/-! ### Events -/

/-- The latest boundary of a group at or before TB2 (R410). -/
def groupBoundary (s : State) (g : BalGroup) : Nat := tb2Sec s / secsOf g * secsOf g

/-- `BAL_INTERVAL_OPEN` (R410): TB2 has reached a boundary whose interval has not been opened. -/
def balOpen (k : Nat) (s : State) : State :=
  let g := grpOf s k
  let b := groupBoundary s g
  if groupServes s k && g.enable && decide (g.last < b) then openInterval k b s else s

def execBalIntervalOpen (group : Nat) (s : State) : Host.Outcome State Fault Refusal :=
  within "balance group" group 65568 (balOpen group s)

/-- `BAL_DEADLINE` (R414): the oldest open interval past its deadline closes with cause 1. -/
def balDeadline (k : Nat) (s : State) : State :=
  let g := grpOf s k
  match g.opens.find? fun i => decide (i.start + secsOf g + g.deadline ≤ tb2Sec s) with
  | some i => if groupServes s k then closeBal k i 1 s else s
  | none => s

def execBalDeadline (group : Nat) (s : State) : Host.Outcome State Fault Refusal :=
  within "balance group" group 65568 (balDeadline group s)

/-- The first payload of a group that waits for emission. -/
def waitingClosed (g : BalGroup) : Option BalClosed := g.ring.find? fun c => !c.emitted

/-- No other group holds a payload that was closed earlier and waits (R416: in order of close). -/
def firstClosed (s : State) (c : BalClosed) : Bool :=
  s.balance.groups.all fun p => match waitingClosed p.2 with
    | some d => decide (c.order ≤ d.order)
    | none => true

/-- `BAL_RECORD_EMIT` (R416): the payload is emitted once its reservation is granted. -/
def balEmit (k : Nat) (s : State) : State :=
  let g := grpOf s k
  match waitingClosed g, s.balance.outHq with
  | some c, some q =>
    if groupServes s k && firstClosed s c then
      match emitRecord q (c.header ++ c.payload) s with
      | some s =>
        let g := grpOf s k
        setGrp k { g with ring := g.ring.map fun x => if x.order = c.order then { x with emitted := true } else x } s
      | none => { s with host := (reserve q 2 s).2.host }
    else s
  | _, _ => s

def execBalRecordEmit (group : Nat) (s : State) : Host.Outcome State Fault Refusal :=
  within "balance group" group 65568 (balEmit group s)

/-- `PHASE_RECORD_EMIT` (R420). -/
def phaseEmit (i : Nat) (s : State) : State :=
  match (phaseOf s i).pending, s.balance.outHq with
  | some b, some q =>
    if balServes s && active s 6 then
      match emitRecord q b s with
      | some s => setPhase i { phaseOf s i with pending := none, updated := false } s
      | none => { s with host := (reserve q 2 s).2.host }
    else s
  | _, _ => s

def execPhaseRecordEmit (ctx : Nat) (s : State) : Host.Outcome State Fault Refusal :=
  within "context" ctx 2097152 (phaseEmit ctx s)

/-! ### `BAL_GROUP_CFG` (R409, R421) -/

/-- PD6 is off (R421), or the balance engine is fenced (R483). -/
def balGate (s : State) : List (Bool × Status) := [(!active s 6, .nores), (isFenced s 5, .fenced)]

/-- The fields of a request as a group. -/
def groupAsked (r : Req) (g : BalGroup) : BalGroup :=
  { g with
    enable := arg r 4 1 == 1, mp := arg r 5 1, len := arg r 6 2, deadline := arg r 8 4, cover := arg r 12 2, rCu := arg r 14 4,
    pFe := arg r 18 4, floor := arg r 22 4, rel := arg r 26 2, estMax := arg r 28 2, uNom := arg r 30 2,
    phRef := [arg r 32 2, arg r 34 2, arg r 36 2], zcTol := arg r 38 2 }

/-- The configuration of a group as a response. -/
def groupBytes (k : Nat) (g : BalGroup) : Bytes :=
  le32 k ++ le8 (b2n g.enable) ++ le8 g.mp ++ le16 g.len ++ le32 g.deadline ++ le16 g.cover ++ le32 g.rCu ++ le32 g.pFe
    ++ le32 g.floor ++ le16 g.rel ++ le16 g.estMax ++ le16 g.uNom ++ g.phRef.flatMap le16 ++ le16 g.zcTol

/-- The metering point already feeds another local group. -/
def feedsOther (s : State) (k mp : Nat) : Bool :=
  ((List.range 32).map fun i => 65536 + i).any fun j => j != k && (grpOf s j).enable && (grpOf s j).mp == mp

/-- The request breaks R409 for a local group. -/
def localBad (s : State) (k : Nat) (g : BalGroup) : Bool :=
  decide (32 ≤ g.mp) || !([1, 2, 4].contains (pointOf s g.mp).bind.wiring) || decide (g.len % s.meter.minutes ≠ 0)
    || (g.enable && feedsOther s k g.mp)

/-- The ranges of R409. -/
def groupBad (r : Req) : Bool :=
  let g := groupAsked r {}
  !groupExists (arg r 0 4) || decide (1 < arg r 4 1) || !([15, 30, 60, 240, 1440].contains g.len) || decide (g.deadline < 60)
    || decide (7 * secsOf g < g.deadline) || decide (1000 < g.cover) || decide (10000 < g.rel) || decide (10000 < g.estMax)

def balGroupCfgCheck (_ : Src) (r : Req) (s : State) : Option Status :=
  let k := arg r 0 4
  firstFail [(!active s 6 || (isLocal k && groupExists k && !active s 10), .nores), (isFenced s 5, .fenced),
    (groupBad r || (isLocal k && localBad s k (groupAsked r {})), .badarg)]

def balGroupCfgRun (_ : Src) (r : Req) (s : State) : Reply × State :=
  let k := arg r 0 4
  let was := (grpOf s k).enable
  let s := if was then closeAll k 3 s else s
  let g := groupAsked r (grpOf s k)
  let b := groupBoundary s g
  let s := setGrp k { g with last := if was then max g.last b else b } s
  ({ payload := groupBytes k g }, s)

def execBalGroupCfg (src : Src) (s : State) : Host.Outcome State Fault Refusal :=
  runCmd 0x0A01 balGroupCfgCheck balGroupCfgRun src s

/-! ### `BAL_FEED` (R413, R421) -/

def balFeedCheck (_ : Src) (r : Req) (s : State) : Option Status :=
  let k := arg r 0 4
  let g := grpOf s k
  let t := arg r 4 9
  let start := t / 2 ^ 36
  firstFail (balGate s ++ [(!groupExists k || isLocal k || !g.enable || decide (t % 2 ^ 36 ≠ 0)
    || decide (start % secsOf g ≠ 0) || decide (tb2Sec s + secsOf g < start), .badarg)])

/-- The feeder side of a remote interval: it replaces an earlier one; a closed interval completes with STALE and 0xA07. -/
def balFeedRun (_ : Src) (r : Req) (s : State) : Reply × State :=
  let k := arg r 0 4
  let start := arg r 4 9 / 2 ^ 36
  let g := grpOf s k
  let s' := if (openAt g start).isNone && mayOpen s g start then openInterval k start s else s
  match openAt (grpOf s' k) start with
  | none => (fail .stale, logBal 0xA07 k start 0 0 s)
  | some i =>
    let i := { i with
      feed := signed 72 (arg r 13 9) * 2 ^ 32, feedSeen := true, i2t := arg r 22 9 * 2 ^ 32, volts := [arg r 31 4, arg r 35 4, arg r 39 4],
      weight := 1 }
    let s := coverClose k (setOpen k i s')
    ({ payload := le8 (b2n (openAt (grpOf s k) start).isNone) }, s)

def execBalFeed (src : Src) (s : State) : Host.Outcome State Fault Refusal := runCmd 0x0A02 balFeedCheck balFeedRun src s

/-! ### Reading and closing (R408, R414) -/

def balStatusCheck (_ : Src) (r : Req) (s : State) : Option Status :=
  firstFail [(!active s 6, .nores), (!groupExists (arg r 0 4), .badarg)]

def balStatusRun (_ : Src) (r : Req) (s : State) : Reply × State :=
  let g := grpOf s (arg r 0 4)
  ({ payload := le32 g.members ++ leInt 8 g.rateSum ++ le8 g.opens.length
      ++ g.opens.flatMap (fun i => leBytes 9 (i.start * 2 ^ 36) ++ le32 i.covered ++ le8 (b2n i.feedSeen))
      ++ leInt 6 g.unplaced ++ le32 g.dropped }, s)

def execBalStatus (src : Src) (s : State) : Host.Outcome State Fault Refusal := runCmd 0x0A03 balStatusCheck balStatusRun src s

def balCloseCheck (_ : Src) (r : Req) (s : State) : Option Status :=
  let k := arg r 0 4
  firstFail (balGate s ++ [(!groupExists k, .badarg), ((grpOf s k).opens.isEmpty, .busy)])

def balCloseRun (_ : Src) (r : Req) (s : State) : Reply × State :=
  let k := arg r 0 4
  match (grpOf s k).opens with
  | i :: _ => ({ payload := leBytes 9 (i.start * 2 ^ 36) }, closeBal k i 2 s)
  | [] => (fail .busy, s)

def execBalClose (src : Src) (s : State) : Host.Outcome State Fault Refusal := runCmd 0x0A04 balCloseCheck balCloseRun src s

/-- `BAL_HISTORY_READ` (R408): sixteen payloads, oldest first, then a bit for each that says it was emitted. -/
def balHistoryReadRun (_ : Src) (r : Req) (s : State) : Reply × State :=
  let g := grpOf s (arg r 0 4)
  ({ payload := padTo 1280 (g.ring.flatMap fun c => padTo 80 c.payload) ++ le16 (ofBits (g.ring.map fun c => c.emitted)) }, s)

def execBalHistoryRead (src : Src) (s : State) : Host.Outcome State Fault Refusal :=
  runCmd 0x0A05 balStatusCheck balHistoryReadRun src s

/-! ### Phase commands (R419–R421) -/

/-- The parameters of PHASE_CFG in force. -/
def phaseCfgBytes (b : BalancePart) : Bytes :=
  le16 b.nMin ++ le16 b.nHalf ++ le16 b.rMin ++ le16 b.rMargin ++ le16 b.rTopo ++ le8 b.zcMin

def phaseCfgBad (r : Req) : Bool :=
  let n := arg r 0 2
  let m := arg r 4 2
  decide (n < 16 ∨ 4096 < n) || decide (arg r 2 2 < 2 * n) || decide (m < 500 ∨ 999 < m)
    || decide (arg r 6 2 < 10 ∨ 500 < arg r 6 2) || decide (m < arg r 8 2) || decide (arg r 10 1 < 4)

def phaseCfgCheck (_ : Src) (r : Req) (s : State) : Option Status := firstFail (balGate s ++ [(phaseCfgBad r, .badarg)])

def phaseCfgRun (_ : Src) (r : Req) (s : State) : Reply × State :=
  let s := { s with balance := { s.balance with
    nMin := arg r 0 2, nHalf := arg r 2 2, rMin := arg r 4 2, rMargin := arg r 6 2, rTopo := arg r 8 2, zcMin := arg r 10 1 } }
  ({ payload := phaseCfgBytes s.balance }, s)

def execPhaseCfg (src : Src) (s : State) : Host.Outcome State Fault Refusal := runCmd 0x0A06 phaseCfgCheck phaseCfgRun src s

def phaseReadCheck (_ : Src) (r : Req) (s : State) : Option Status :=
  firstFail [(!active s 6, .nores), (decide (2097152 ≤ arg r 0 4), .badarg)]

/-- `PHASE_READ` (R420): the PHASE payload, then sx, sxx, and sy, syy, sxy of L1, L2, L3, 8 bytes each. -/
def phaseReadRun (_ : Src) (r : Req) (s : State) : Reply × State :=
  let i := arg r 0 4
  let p := phaseOf s i
  let c := ctxOf s i
  ({ payload := phasePayload (ctxGroup c) (assignedOf c) p ++ leInt 8 p.sx ++ le64 p.sxx
      ++ [p.s1, p.s2, p.s3].flatMap (fun k => leInt 8 k.sy ++ le64 k.syy ++ leInt 8 k.sxy) }, s)

def execPhaseRead (src : Src) (s : State) : Host.Outcome State Fault Refusal := runCmd 0x0A07 phaseReadCheck phaseReadRun src s

def phaseResetCheck (_ : Src) (r : Req) (s : State) : Option Status :=
  firstFail (balGate s ++ [(decide (2097152 ≤ arg r 0 4), .badarg)])

/-- `PHASE_RESET` (R421): sums and votes are zeroed and the decided phase is unknown, without a record. -/
def phaseResetRun (_ : Src) (r : Req) (s : State) : Reply × State :=
  let i := arg r 0 4
  let p := phaseOf s i
  ({}, setPhase i { p with
    n := 0, sx := 0, sxx := 0, s1 := {}, s2 := {}, s3 := {}, votes := [0, 0, 0, 0], phase := 0, mismatch := false } s)

def execPhaseReset (src : Src) (s : State) : Host.Outcome State Fault Refusal :=
  runCmd 0x0A08 phaseResetCheck phaseResetRun src s

def balOutputCfgCheck (_ : Src) (r : Req) (s : State) : Option Status :=
  firstFail (balGate s ++ [(decide (128 ≤ arg r 0 1), .badarg)])

def balOutputCfgRun (_ : Src) (r : Req) (s : State) : Reply × State :=
  ({ payload := le8 (arg r 0 1) }, { s with balance := { s.balance with outHq := some (arg r 0 1) } })

def execBalOutputCfg (src : Src) (s : State) : Host.Outcome State Fault Refusal :=
  runCmd 0x0A09 balOutputCfgCheck balOutputCfgRun src s

/-! ### `MET_INTERVAL_SET` (R155, R178) -/

/-- The length would break R409 for an enabled local group. -/
def breaksGroup (s : State) (minutes : Nat) : Bool :=
  ((List.range 32).map fun i => 65536 + i).any fun k => (grpOf s k).enable && decide ((grpOf s k).len % minutes ≠ 0)

def metIntervalSetCheck (_ : Src) (r : Req) (s : State) : Option Status :=
  let m := arg r 0 1
  firstFail [(metOff s, .nores), (isFenced s 125, .fenced), (!([1, 5, 10, 15, 30, 60].contains m), .badarg),
    (breaksGroup s m, .busy)]

/-- A new length takes effect at the next boundary of the old one; the response gives the length in force and that boundary. -/
def metIntervalSetRun (_ : Src) (r : Req) (s : State) : Reply × State :=
  let l := 60 * s.meter.minutes
  ({ payload := le8 s.meter.minutes ++ leBytes 9 ((tb2Sec s / l + 1) * l * 2 ^ 36) },
    { s with meter := { s.meter with minutesNext := some (arg r 0 1) } })

def execMetIntervalSet (src : Src) (s : State) : Host.Outcome State Fault Refusal :=
  runCmd 0x030B metIntervalSetCheck metIntervalSetRun src s

end Sys2Proof.Machine
end

