-- ==== Sys2Proof/Machine/DxReceive.lean ====
section
/-! DEFINITION. DX envelopes as they are received: their checks, the ingress buffer of the ETH ports, acknowledgements
(spec/09_ingest_pipelines.md, R316, R347, R351–R355). -/

namespace Sys2Proof.Machine

def setUplink (u : Uplink) (s : State) : State := { s with ingest := { s.ingest with uplink := u } }

/-! ### Receiving envelopes (R351–R355) -/

/-- The header of an envelope of a type is good: magic, version, type and CRC (R352). -/
def headerOk (b : Bytes) (type : Nat) : Bool :=
  decide (32 ≤ b.length) && fieldU b 0 2 == 0x4458 && fieldU b 2 1 == 1 && fieldU b 3 1 == type
    && fieldU b 30 2 == (crc16 (b.take 30)).toNat && fieldU b 18 2 == b.length - 32

/-- An envelope is rejected (R355). -/
def rejectEnvelope (eth : Nat) (s : State) : State := logEv 0x808 (93 + eth) 0xFFFF [0, 0, snapN (0x40 + eth)] s

/-- Mark the records of an acknowledged envelope delivered (R347). -/
def deliverRecords (l : List (Nat × Nat × Option Nat)) (s : State) : State :=
  { s with host := { s.host with delivered := s.host.delivered ++ l.filterMap fun x => match x.2.2 with
      | some e => some (x.1, x.2.1, e)
      | none => none } }

/-- The DX port of an ETH receives. -/
def ethRuns (s : State) (n : Nat) : Bool := fabricUp s && active s 7 && !isFenced s (93 + n)

/-- An ACK envelope (R354): the envelope is released and its records are delivered. -/
def ackReceive (eth : Nat) (b : Bytes) (s : State) : State :=
  if ethRuns s eth then
    if headerOk b 2 && b.length == 32 && fieldU b 16 2 == 0 then
      let u := s.ingest.uplink
      let seq := fieldU b 12 4
      match u.unacked.find? fun e => e.seq == seq with
      | none => s
      | some e =>
        if u.eth = eth then
          deliverRecords e.records (setUplink { u with unacked := u.unacked.filter fun x => x.seq != seq } s)
        else s
    else rejectEnvelope eth s
  else s

/-- The inner frames of a DATA envelope (R353): header bytes and frame of each; nothing where the sizes do not fit. -/
def innerFrames : Nat → Bytes → Option (List (Bytes × Bytes))
  | 0, [] => some []
  | 0, _ :: _ => none
  | n + 1, b =>
    let l := fieldU b 0 2
    let size := 24 + (l + 3) / 4 * 4
    if l < 1 ∨ 2048 < l ∨ b.length < size then none
    else
      match innerFrames n (b.drop size) with
      | some r => some ((b.take 24, fieldB b 24 l) :: r)
      | none => none

/-- The peer of an envelope: system title and source address (R355). -/
def peerOf (s : State) (title : Nat) (addr : Bytes) : Option (Nat × Peer) :=
  s.ingest.peers.find? fun p => p.2.enable && p.2.title == title && p.2.addr == padTo 16 addr

/-- The descriptor of an inner frame (R315). -/
def innerDesc (e : EthWait) (entry k : Nat) (p : Bytes × Bytes) : IngDesc :=
  keyed
    { port := 0x40 + e.eth, rxTb0 := e.rx, untrusted := e.untrusted, rxNet := BitVec.ofNat 72 (fieldU p.1 4 9),
      srcMeta := padTo 16 (fieldB p.1 13 8 ++ fieldB p.1 2 2), env := some entry, inner := k, bytes := p.2 } 0

def innerDescs (e : EthWait) (entry : Nat) : Nat → List (Bytes × Bytes) → List IngDesc
  | _, [] => []
  | k, p :: r => innerDesc e entry k p :: innerDescs e entry (k + 1) r

/-- The DTLS protection that a peer requires is there (R355): the slot under which the envelope was opened. -/
def dtlsFits (p : Peer) (slot : Option Nat) : Bool := if p.dtls = 0xFFFF then slot.isNone else slot == some p.dtls

/-- Bytes that stand in the ingress buffer of the ETH ports. -/
def ingressUsed (s : State) : Nat := sumN (s.ingest.ingress.map fun e => e.size)

/-- PFC pause: asserted above 75 % of 1 MiB, released below 50 % (R316). -/
def setPause (s : State) : State :=
  let u := ingressUsed s
  { s with ingest := { s.ingest with
      pause := decide (3 * 1048576 < 4 * u) || (s.ingest.pause && !decide (2 * u < 1048576)) } }

/-- The priority on which an ETH port asserts PFC pause, while it does (R313, R316). -/
def pfcPause (s : State) (eth : Nat) : Option Nat :=
  if ethRuns s eth && s.ingest.pause then some (portOf s (0x40 + eth)).pfc else none

/-- A DATA envelope that has passed its checks: a repeat is answered by its entry; a new one is placed whole. None: there is no room. -/
def enterEnvelope (e : EthWait) (s : State) : Option State :=
  match findReply s (.envelope e.peer e.seq) none with
  | some (_, r) => some (if r.sent then queueAck r s else s)
  | none =>
    match reserveReply { key := .envelope e.peer e.seq, port := 0x40 + e.eth, addr := e.peer, open_ := e.frames.length } s with
    | none => none
    | some (i, s') => placeAll (innerDescs e i 0 e.frames) s'

/-- An envelope without room waits in the ingress buffer behind those that wait already, or is dropped where the buffer cannot take it
(R316). -/
def takeEnvelope (e : EthWait) (s : State) : State :=
  match if s.ingest.ingress.isEmpty then enterEnvelope e s else none with
  | some t => t
  | none =>
    if ingressUsed s + e.size ≤ 1048576 then setPause { s with ingest := { s.ingest with ingress := s.ingest.ingress ++ [e] } }
    else s

/-- The oldest envelope of the ingress buffer is taken once there is room for it. -/
def drainIngress (s : State) : State :=
  match s.ingest.ingress with
  | e :: r =>
    match enterEnvelope e { s with ingest := { s.ingest with ingress := r } } with
    | some t => setPause t
    | none => s
  | [] => s

/-- A DATA envelope (R355), as it came or as the OPEN of `slot` gave it. -/
def envelopeReceive (slot : Option Nat) (d : DxFrom) (b : Bytes) (s : State) : State :=
  let peer := peerOf s (beNat (fieldB b 4 8)) d.addr
  let frames := innerFrames (fieldU b 16 2) (b.drop 32)
  let sized := decide (60 ≤ b.length ∧ b.length ≤ 8960) && decide (1 ≤ fieldU b 16 2 ∧ fieldU b 16 2 ≤ 255)
  match peer, frames with
  | some (p, x), some l =>
    if headerOk b 1 && sized && dtlsFits x slot then
      takeEnvelope
        { eth := d.eth, peer := p, seq := fieldU b 12 4, frames := l, size := b.length, rx := d.rx, untrusted := d.untrusted } s
    else rejectEnvelope d.eth s
  | _, _ => rejectEnvelope d.eth s

/-- An envelope that the OPEN of slot `i` has given (R351, R389): an ACK or a DATA envelope. -/
def envelopeOpened (i : Nat) (d : DxFrom) (b : Bytes) (s : State) : State :=
  if ethRuns s d.eth then
    if headerOk b 2 then ackReceive d.eth b s else envelopeReceive (some i) d b s
  else s

/-- The first byte of a DTLS 1.3 record's unified header is 001xxxxx; an envelope begins with 0x58 (R351, R352, R388). -/
def dtlsRecord (b : Bytes) : Bool := decide (0 < b.length) && fieldU b 0 1 / 32 == 1

/-- The session slot of the peer at a source address (R355): the first enabled peer there that has one. -/
def dtlsSlotOf (s : State) (addr : Bytes) : Option Nat :=
  match s.ingest.peers.find? fun p => p.2.enable && p.2.addr == padTo 16 addr && p.2.dtls != 0xFFFF with
  | some p => some p.2.dtls
  | none => none

end Sys2Proof.Machine
end

