-- ==== Sys2Proof/Machine/Lane.lean ====
section
/-! DEFINITION. Cipher lanes: grants, keys derived for one operation, what an operation gives, and the replay decision that
follows it (spec/10_frame_security.md, R360–R382, R386; spec/09_ingest_pipelines.md, R327, R328, R349). -/

namespace Sys2Proof.Machine

/-! ### Keys of an operation (R372–R374) -/

/-- The operator key of an instance, unmasked from the lane key RAM (R435); nothing where the RAM holds none. -/
def laneOmk (s : State) (slot inst : Nat) : Option Bytes :=
  match look ([], []) s.keys.laneRam (3 * slot + inst) with
  | ([], _) => none
  | (a, b) => some (xorBytes a b)

/-- The fixed input of block `i` for a purpose, 1 EK or 2 AK (R372). -/
def keyInput (c : Ctx) (i purpose : Nat) : Bytes :=
  le8 i ++ le8 purpose ++ [0] ++ fieldB c.line0 0 8 ++ le8 (ctxKeyGen c) ++ (le16 (ctxOpTag c)).reverse
    ++ (if ctxSuite c = 0 then [0x00, 0x80] else [0x01, 0x00])

/-- A meter key derived from the operator key (R372). -/
def derivedKey (omk : Bytes) (c : Ctx) (purpose : Nat) : Bytes :=
  if ctxSuite c = 0 then Config.cmac256 omk (keyInput c 1 purpose)
  else Config.cmac256 omk (keyInput c 1 purpose) ++ Config.cmac256 omk (keyInput c 2 purpose)

/-- EK and AK of a context under an operator key; nothing when an unwrap gives a wrong integrity value (R373). -/
def meterKeys (omk : Bytes) (c : Ctx) : Option (Bytes × Bytes) :=
  if ctxKeyMode c = 1 then
    match Config.unwrap omk (ctxWrapEk c), Config.unwrap omk (ctxWrapAk c) with
    | some ek, some ak => some (ek, ak)
    | _, _ => none
  else some (derivedKey omk c 1, derivedKey omk c 2)

/-- The dedicated key of a slot, of the suite's length (R374, R387). -/
def dedicatedKey (c : Ctx) (d : SessSlot) : Bytes := padTo (if ctxSuite c = 0 then 16 else 32) d.secret

/-! ### Session slots (R387–R389) -/

def sessSlot (s : State) (i : Nat) : SessSlot := look {} s.lanes.sessions i
def setSession (i : Nat) (x : SessSlot) (s : State) : State :=
  { s with lanes := { s.lanes with sessions := put {} s.lanes.sessions i x } }

/-- Write key, write IV and record number key of a slot (R388). -/
def recordKeys (x : SessSlot) : Bytes × Bytes × Bytes :=
  if x.kind = 1 then (Config.hkdfLabel x.secret "tls13 key" 16, Config.hkdfLabel x.secret "tls13 iv" 12, [])
  else (Config.hkdfLabel x.secret "dtls13key" 16, Config.hkdfLabel x.secret "dtls13iv" 12,
    Config.hkdfLabel x.secret "dtls13sn" 16)

/-- The nonce of record `seq`: the write IV exclusive-or the sequence number, padded on the left (R388). -/
def recordNonce (iv : Bytes) (seq : Nat) : Bytes := xorBytes iv ((leBytes 12 (seq % 2 ^ 64)).reverse)

/-- A change of STATE to failed or exhausted, or a clearing, writes 0x929 (R389, R390). -/
def logSession (i : Nat) (s : State) : State := logLane 0x929 none i 0 0 [] s

/-- One record has been processed: at 2^24 the slot is exhausted (R389). -/
def countRecord (i : Nat) (x : SessSlot) (s : State) : State :=
  let n := x.records + 1
  if 2 ^ 24 ≤ n ∧ x.state = 1 then logSession i (setSession i { x with records := n, state := 3 } s)
  else setSession i { x with records := n } s

/-- The window of R378 without fingerprints: the new highest number and window, or nothing for a repeat or an older one. -/
def slideWindow (top win n : Nat) : Option (Nat × Nat) :=
  if top < n then some (n, if 64 ≤ n - top then 1 else (win * 2 ^ (n - top)) % 2 ^ 64 + 1)
  else if 64 ≤ top - n then none
  else if bitOf win (top - n) then none
  else some (top, bitSet win (top - n))

/-- SEAL of a plaintext (R388, R389): the record, and the slot after it. -/
def sealRecord (x : SessSlot) (key iv sn plain : Bytes) : Bytes × SessSlot :=
  let len := plain.length + 17
  let aad := if x.kind = 1 then [0x17, 0x03, 0x03] ++ (le16 len).reverse else Config.dtlsHeader sn x.epoch x.seq len []
  let (c, t) := Config.gcmSeal key (recordNonce iv x.seq) aad (plain ++ [0x17])
  let header := if x.kind = 1 then aad else Config.dtlsHeader sn x.epoch x.seq len (c ++ t)
  (header ++ c ++ t, { x with seq := (x.seq + 1) % 2 ^ 64 })

/-- OPEN of a record (R389): the plaintext where it is good, and the slot after it; a DTLS record that is not is dropped and
counted. -/
def openRecord (x : SessSlot) (key iv sn record : Bytes) : Option Bytes × SessSlot :=
  let h := if x.kind = 1 then 5 else Config.dtlsHeaderLen record
  let body := record.drop h
  let n := body.length - 16
  let seq := if x.kind = 1 then x.seq else Config.dtlsSeq sn x.seq record
  match Config.gcmOpen key (recordNonce iv seq) (record.take h) (body.take n) (body.drop n) with
  | none => (none, if x.kind = 1 then { x with state := 2 } else { x with dropped := (x.dropped + 1) % 2 ^ 32 })
  | some p =>
    if x.kind = 1 then (some p, { x with seq := (x.seq + 1) % 2 ^ 64 })
    else
      match slideWindow x.seq x.win seq with
      | some (top, win) => (some p, { x with seq := top, win := win })
      | none => (none, { x with dropped := (x.dropped + 1) % 2 ^ 32 })

/-- UPDATE (R389). -/
def updateSecret (x : SessSlot) : SessSlot :=
  { x with
    secret := Config.hkdfLabel x.secret (if x.kind = 1 then "tls13 traffic upd" else "dtls13traffic upd") 32
    updates := (x.updates + 1) % 65536, records := 0, state := if x.state = 3 then 1 else x.state }

/-- A slot that can run an operation: ready, or exhausted for an UPDATE. -/
def slotReady (x : SessSlot) (update : Bool) : Bool :=
  (x.kind == 1 || x.kind == 2) && (x.state == 1 || (update && x.state == 3))

/-- The slot that a session operation works on. -/
def sessionOf : LaneKind → Option Nat
  | .verify => none
  | .protect => none
  | .seal i _ _ => some i
  | .openRec i _ _ => some i
  | .update i => some i

/-- A session operation fails at its submitter (R387, R389): Nulvo is told; the envelope of a DX record is rejected (R355). -/
def sessionFails (i : Nat) (k : LaneKind) (s : State) : State :=
  match k with
  | .openRec _ _ (some d) => rejectEnvelope d.eth s
  | _ => emit (.session i false []) s

/-- A session operation is queued at the pipeline its slot names; one whose pipeline's domain is off fails at its submitter
(R365, R387). -/
def queueSession (i : Nat) (k : LaneKind) (s : State) : State :=
  let n := (sessSlot s i).homeFip
  if active s (fipDomain n) then setLaneQueue n (laneQueue s n ++ [{ kind := k, since := tbVal s 1 }]) s
  else sessionFails i k s

/-! ### Grants (R364–R366) -/

/-- A lane in service and idle; that of a pipeline whose domain leaves serves the frames admitted to it (R27). -/
def laneIdle (s : State) (l : Nat) : Bool :=
  fabricUp s && working s 5 && !isFenced s (24 + l) && (laneOf s l).state == .idle && working s (fipDomain (l / 4))

/-- The lanes that pipeline `n` holds on loan. -/
def borrowed (s : State) (n : Nat) : Nat :=
  (s.lanes.lanes.filter fun p => p.2.state == .lent && match p.2.op with
    | some o => o.fip == n
    | none => false).length

/-- BORROW_MAX of a pipeline; an unlisted entry is the default 2 (R366). -/
def borrowMax (s : State) (n : Nat) : Nat := look 2 s.lanes.borrowMax n

/-- The pipeline may borrow a lane, and the age of its head request; the queue of a pipeline being fenced is not served (R485). -/
def mayBorrow (s : State) (n : Nat) : Option Time :=
  match laneQueue s n with
  | [] => none
  | r :: _ =>
    let taken := (homeLanes n).all fun l =>
      let st := (laneOf s l).state
      st == .busy || st == .lent || st == .fenced || isFenced s (24 + l)
    if (sessionOf r.kind).isNone && !isFenced s (8 + n) && taken && decide (borrowed s n < borrowMax s n) then some r.since else none

/-- Whom an idle lane goes to: its owner's queue, or the older head of the two neighbours (R366). The queue of a pipeline being fenced
is no longer served (R485), and a pipeline whose domain is off lends none (R39). -/
def laneTarget (s : State) (l : Nat) : Option Nat :=
  let n := l / 4
  if laneIdle s l then
    if laneQueue s n ≠ [] ∧ isFenced s (8 + n) = false then some n
    else if !active s (fipDomain n) then none
    else
      let a := min ((n + 15) % 16) ((n + 1) % 16)
      let b := max ((n + 15) % 16) ((n + 1) % 16)
      match mayBorrow s a, mayBorrow s b with
      | some x, some y => some (if y < x then b else a)
      | some _, none => some a
      | none, some _ => some b
      | none, none => none
  else none

/-- A lane of lower index would be lent to the same pipeline at this instant (R366). -/
def lowerLender (s : State) (l n : Nat) : Bool :=
  (List.range l).any fun k => decide (k / 4 ≠ n) && laneTarget s k == some n

/-! ### Dispatch (R363, R381) -/

/-- The lane after its operation: R361 clears WKR and AAD buffer. -/
def clearLane (x : Lane) : Lane := { x with state := .idle, wkr := [], aad := [], op := none }

/-- Count an operation that unmasked instance `inst` of an OMK slot (R553). -/
def countUnmask (slot inst : Nat) (s : State) : State :=
  let o := omkOf s slot
  if o.current = some inst then setOmk slot { o with opsCurrent := (o.opsCurrent + 1) % 2 ^ 32 } s
  else setOmk slot { o with opsGrace := (o.opsGrace + 1) % 2 ^ 32 } s

/-- The instance that a request runs under: the one that is current, or the named one while it is usable (R381, R383). -/
def pickInst (o : OmkSlot) (inst : Option Nat) : Option Nat :=
  match inst with
  | none => o.current
  | some i => if o.current = some i ∨ o.grace = some i then some i else none

/-- Load a lane for an operation of a frame: operator key unmasked, EK into WKR, AK into the AAD buffer (R372–R374). -/
def loadFrameOp (l n : Nat) (k : LaneKind) (fl : Flight) (inst : Nat) (ek : Option Bytes) (omk : Bytes) (s : State) : State :=
  let c := fl.seen
  let o := omkOf s (ctxOmk c)
  let gen := if o.current = some inst then o.gen else o.graceGen
  let keys := meterKeys omk c
  let (e, a) := keys.getD ([], [])
  let x := laneOf s l
  let lent := decide (l / 4 ≠ n)
  let s := setLane l { x with
    state := if lent then .lent else .busy, wkr := ek.getD e, aad := a, ops := (x.ops + 1) % 2 ^ 32,
    lentOps := if lent then (x.lentOps + 1) % 2 ^ 32 else x.lentOps,
    op := some { kind := k, fip := n, tag := fl.tag, omk := ctxOmk c, inst := inst, gen := gen,
                 unwrapBad := keys.isNone } } s
  setFlight n { fl with inLane := true, lane := l } (countUnmask (ctxOmk c) inst s)

/-- Load a lane for a session operation (R388). -/
def loadSessionOp (l n i : Nat) (k : LaneKind) (s : State) : State :=
  let x := laneOf s l
  let y := sessSlot s i
  setLane l { x with
    state := .busy, wkr := (recordKeys y).1, aad := [], ops := (x.ops + 1) % 2 ^ 32,
    op := some { kind := k, fip := n, sess := y } } s

/-! ### The replay decision (R377–R380) -/

/-- The fingerprint of a frame (R377). -/
def fingerprint (b : Bytes) : Nat := fieldU (tagOf b) 0 1 % 16

/-- Fingerprint `d` of a context. -/
def fpAt (c : Ctx) (d : Nat) : Nat := (c.fp >>> (4 * d)).toNat % 16

/-- The context with fingerprint `d` replaced. -/
def fpSet (fp : BitVec 256) (d f : Nat) : BitVec 256 :=
  (fp &&& ~~~(15#256 <<< (4 * d))) ||| (BitVec.ofNat 256 (f % 16) <<< (4 * d))

/-- The decision of R378: the verdict, and the replay field of line 1. -/
def replayDecide (c : Ctx) (ic f : Nat) : Verdict × Ctx :=
  if c.icTop < ic then
    let n := ic - c.icTop
    let w : BitVec 64 := if 64 ≤ n then 0 else c.window <<< n
    let p : BitVec 256 := if 64 ≤ n then 0 else c.fp <<< (4 * n)
    (.accept, { c with icTop := ic, window := w ||| 1, fp := fpSet p 0 f })
  else
    let d := c.icTop - ic
    if 64 ≤ d then (.old, c)
    else if c.window.getLsbD d then (if fpAt c d = f % 16 then (.dup, c) else (.reuse, c))
    else (.accept, { c with window := c.window ||| (1#64 <<< d), fp := fpSet c.fp d f })

/-- Line 1 as the CAS of the REPLAY stage writes it (R379). -/
def line1After (s : State) (v : Verdict) (acked : Bool) (c : Ctx) : Ctx :=
  let c := { c with seq1 := (c.seq1 + 1) % 2 ^ 32, ackIc := if acked then c.ackIc + 1 else c.ackIc }
  match v with
  | .accept => { c with frames := (c.frames + 1) % 2 ^ 32, lastRx := tb1Sec s % 2 ^ 32 }
  | .dup => { c with dups := satAdd 65535 c.dups 1 }
  | .reuse => { c with replays := satAdd 65535 c.replays 1 }
  | .old => { c with replays := satAdd 65535 c.replays 1 }

/-! ### Protected acknowledgements (R375, R376) -/

/-- The acknowledgement template of a context: protected mark and bytes, where the context enables one (R338, R348). -/
def ackTemplate (s : State) (c : Ctx) : Option (Bool × Bytes) :=
  if bitOf (ctxAckTemplate c) 7 then
    match s.ingest.ackTemplates.find? fun p => p.1 == ctxAckTemplate c % 16 with
    | some p => some p.2
    | none => none
  else none

/-- The frame is to have a protected acknowledgement. -/
def wantsProtect (s : State) (fl : Flight) : Bool :=
  fl.entry.isSome && match ackTemplate s fl.seen with
    | some (p, _) => p
    | none => false

/-- The ciphered acknowledgement: the template under EK and AK, with the module's title and ACK_IC (R369, R370, R375). -/
def protectedAck (s : State) (c : Ctx) (ek ak : Bytes) : Bytes :=
  let plain := match ackTemplate s c with
    | some (_, b) => b
    | none => []
  let ic := (le32 c.ackIc).reverse
  let sc := le8 (0x30 + ctxSuite c)
  let (ct, tag) := Config.gcmSeal ek (ownTitle ++ ic) (sc ++ ak) plain
  let body := sc ++ ic ++ ct ++ tag.take 12
  [0xDB, 0x08] ++ ownTitle ++ (if body.length < 128 then le8 body.length else [0x81] ++ le8 body.length) ++ body

/-! ### After the lane: REPLAY (R327, R328, R349, R378, R379) -/

/-- What a duplicate meets in the reply store (R349): it is processed as new, or it yields no record. -/
def dupOutcome (n : Nat) (fl : Flight) (s : State) : Option State :=
  match findReply s (.frame fl.ctx (icOf fl.desc.bytes)) fl.entry with
  | some (_, e) =>
    let s := if e.sent then queueAck e s else s
    some (finishFrame n fl [] [] false 2 s)
  | none => if fl.entry.isSome ∨ fl.desc.env.isSome then none else some (finishFrame n fl [] [] false 2 s)

/-- Act on the verdict, once the CAS has succeeded. -/
def afterReplay (n : Nat) (fl : Flight) (v : Verdict) (s : State) : State :=
  let f := fipOf s n
  let slot := ctxOmk fl.seen
  match v with
  | .accept => setFlight n { fl with verdict := some .accept, inLane := false } s
  | .dup =>
    let s := setFip n { f with dup := f.dup + 1 } s
    match dupOutcome n fl s with
    | some s' => s'
    | none => setFlight n { fl with verdict := some .dup, inLane := false } s
  | .reuse =>
    let s := logLane 0x926 (some fl.lane) slot (omkOf s slot).gen 0 [] (setFip n { f with replay := f.replay + 1 } s)
    finishAlarm n fl 1 2 4 3 s
  | .old =>
    let s := logLane 0x927 (some fl.lane) slot (omkOf s slot).gen 0 [] (setFip n { f with replay := f.replay + 1 } s)
    finishAlarm n fl 1 1 4 3 s

/-- A duplicate will be answered from the reply store, or not at all. -/
def dupAnswered (s : State) (fl : Flight) : Bool :=
  (findReply s (.frame fl.ctx (icOf fl.desc.bytes)) fl.entry).isSome || (fl.entry.isNone && fl.desc.env.isNone)

/-- The verdict lets a frame have its acknowledgement built. -/
def verdictAcks (s : State) (fl : Flight) (v : Verdict) : Bool :=
  match v with
  | .accept => true
  | .dup => !dupAnswered s fl
  | .reuse => false
  | .old => false

/-- Decide from line 1 and write it. -/
def replayCommit (n : Nat) (fl : Flight) (s : State) : State :=
  let (v, c) := replayDecide (ctxOf s fl.ctx) (icOf fl.desc.bytes) (fingerprint fl.desc.bytes)
  let acked := fl.ack.isSome && verdictAcks s fl v
  afterReplay n fl v (setCtx fl.ctx (line1After s v acked c) s)

/-- The REPLAY stage of a frame that a lane has verified: a CAS that fails on GEN discards the frame; one that fails on SEQ
re-reads the line and repeats the decision, with the acknowledgement ciphered again in a new lane visit where one is still
wanted; the eighth failure is an F1 (R327, R328, R375). -/
def replayStage (n : Nat) (fl : Flight) (s : State) : State :=
  let c := ctxOf s fl.ctx
  if ctxGen c ≠ ctxGen fl.seen then discardFrame n fl .discarded (logIng 0x805 n fl.tag fl s)
  else if c.seq1 = fl.seen.seq1 then replayCommit n fl s
  else if 8 ≤ fl.tries + 1 then
    let s := raiseFault (8 + n) 0x806 1 fl.tag [snapN fl.ctx, snapN fl.seq, snapN fl.desc.port] s
    discardFrame n fl .discarded s
  else
    let fl := { fl with tries := fl.tries + 1, seen := { fl.seen with seq1 := c.seq1, ackIc := c.ackIc } }
    let (v, _) := replayDecide c (icOf fl.desc.bytes) (fingerprint fl.desc.bytes)
    if fl.ack.isSome && verdictAcks s fl v then
      if c.ackIc = 0xFFFFFFFF then
        replayCommit n { fl with ack := none } (logLane 0x92A (some fl.lane) (ctxOmk fl.seen) 0 0 [] s)
      else
        let fl := { fl with ack := none, inLane := false }
        queueLane n .protect fl.tag (some fl.inst) (setFlight n fl s)
    else replayCommit n { fl with ack := none } s

/-! ### Starting and ending an operation -/

/-- Start an operation of a frame on lane `l`: without a usable operator key, or without the dedicated key, the frame fails, or
goes on without a protected acknowledgement. -/
def startFrameOp (l n : Nat) (r : LaneReq) (fl : Flight) (s : State) : State :=
  let c := fl.seen
  let o := omkOf s (ctxOmk c)
  let inst := pickInst o r.inst
  let omk := match inst with
    | some i => laneOmk s (ctxOmk c) i
    | none => none
  let ded := dedicated fl.desc.bytes
  let slot := dedicatedSlot s fl.ctx
  let bad (d : Nat) : State :=
    match r.kind with
    | .protect => replayStage n { fl with ack := none } s
    | _ => authFailed n fl (if fl.retried then fl.firstDetail else d) (some l) s
  match inst, omk with
  | some i, some k =>
    match ded, slot with
    | true, some d => loadFrameOp l n r.kind fl i (some (dedicatedKey c d)) k s
    | true, none => bad 5
    | false, _ => loadFrameOp l n r.kind fl i none k s
  | _, _ => bad 6

/-- Start the head operation of pipeline `n` on lane `l` (R364). -/
def startOp (l n : Nat) (s : State) : State :=
  match laneQueue s n with
  | [] => s
  | r :: q =>
    let s := setLaneQueue n (dequeue s q) s
    match sessionOf r.kind with
    | some i =>
      let upd := match r.kind with
        | .update _ => true
        | _ => false
      if slotReady (sessSlot s i) upd then loadSessionOp l n i r.kind s else sessionFails i r.kind s
    | none =>
      match flightOf s n r.tag with
      | none => s
      | some fl => startFrameOp l n r fl s

/-- `LANE_GRANT` (R364–R366). -/
def laneGrant (l : Nat) (s : State) : State :=
  match laneTarget s l with
  | none => s
  | some n => if l / 4 ≠ n ∧ lowerLender s l n then s else startOp l n s

def execLaneGrant (lane : Nat) (s : State) : Host.Outcome State Fault Refusal := within "cipher lane" lane 64 (laneGrant lane s)

/-- The result of a VERIFY (R369–R371): the plaintext, or the detail of the failure. -/
def verifyResult (x : Lane) (o : LaneOp) (b : Bytes) : Except Nat Bytes :=
  if o.unwrapBad then .error 2
  else
    let sc := le8 (scOf b)
    let iv := fieldB b 2 8 ++ fieldB (bodyOf b) 1 4
    if bitOf (scOf b) 5 then
      match Config.gcmOpen x.wkr iv (sc ++ x.aad) (cipherOf b) (tagOf b) with
      | some p => .ok p
      | none => .error 1
    else
      match Config.gcmOpen x.wkr iv (sc ++ x.aad ++ cipherOf b) [] (tagOf b) with
      | some _ => .ok (cipherOf b)
      | none => .error 1

/-- The other instance under which a failed VERIFY is retried (R382). -/
def retryInst (s : State) (o : LaneOp) : Option Nat :=
  let k := omkOf s o.omk
  if k.current = some o.inst ∧ k.gen = o.gen then k.grace else k.current

/-- A VERIFY has failed with detail `d`: one retry under the other generation, or the ALARM of the first failure (R382). -/
def verifyFailed (l : Nat) (o : LaneOp) (fl : Flight) (d : Nat) (s : State) : State :=
  let first := if fl.retried then fl.firstDetail else d
  match (if fl.retried then none else retryInst s o) with
  | some i =>
    let s := setFlight o.fip { fl with retried := true, firstDetail := d, inLane := false } s
    queueLane o.fip .verify fl.tag (some i) s
  | none => authFailed o.fip fl first (some l) s

/-- A VERIFY has succeeded: the acknowledgement is ciphered in the same lane visit, then the frame goes to REPLAY (R375, R376). -/
def verifyDone (l : Nat) (o : LaneOp) (fl : Flight) (plain : Bytes) (s : State) : State :=
  let fl := { fl with plain := some plain, stale := fl.retried, inst := o.inst, lane := l }
  let s :=
    if fl.retried then
      let k := omkOf s o.omk
      logLane 0x925 (some l) o.omk o.gen 0 [] (setOmk o.omk { k with staleRetries := (k.staleRetries + 1) % 2 ^ 32 } s)
    else s
  if wantsProtect s fl then
    if fl.seen.ackIc = 0xFFFFFFFF then replayStage o.fip fl (logLane 0x92A (some l) o.omk o.gen 0 [] s)
    else startFrameOp l o.fip { kind := .protect, tag := fl.tag, inst := some o.inst } fl (setFlight o.fip fl s)
  else replayStage o.fip fl s

/-- The slot that a session operation ends on: as it stands, or as it was at dispatch when it has been cleared since (R390). -/
def sessLive (s : State) (i : Nat) (o : LaneOp) : Bool := (sessSlot s i).secret == o.sess.secret

/-- A session operation ends (R389); a slot cleared since its dispatch stays cleared. -/
def sessionDone (x : Lane) (o : LaneOp) (i : Nat) (s : State) : State :=
  let live := sessLive s i o
  let y := if live then sessSlot s i else o.sess
  let (_, iv, sn) := recordKeys o.sess
  match o.kind with
  | .seal _ plain eth =>
    let (rec, y') := sealRecord y x.wkr iv sn plain
    let s := if live then countRecord i y' s else s
    match eth with
    | some p => emit (.frame (32 + p) rec) s
    | none => emit (.session i true rec) s
  | .openRec _ record dx =>
    match openRecord y x.wkr iv sn record with
    | (some p, y') =>
      let s := if live then countRecord i y' s else s
      (match dx with
       | some d => envelopeOpened i d p s
       | none => emit (.session i true p) s)
    | (none, y') =>
      let s := if live then setSession i y' s else s
      sessionFails i o.kind (if live && y'.state == 2 then logSession i s else s)
  | .update _ => emit (.session i true []) (if live then setSession i (updateSecret y) s else s)
  | .verify => s
  | .protect => s

/-- Mark the queue entry behind a frame as work of unit `u`, which a fence makes void (R485). -/
def claimEntry (host : Option (Nat × Nat)) (u : Nat) (s : State) : State :=
  match host with
  | none => s
  | some (sq, idx) =>
    setSq sq { sqOf s sq with
      running := (sqOf s sq).running.map fun e => if e.idx = idx then { e with unit := some u } else e } s

/-- Main and shadow disagree, or a WKR parity error (R364, R386): output suppressed, keys cleared, the operation and its frame
discarded, and the lane fenced. -/
def laneMismatch (l : Nat) (o : LaneOp) (s : State) : State :=
  let x := laneOf s l
  let s := setLane l { clearLane x with
    state := .fenced, faults := (x.faults + 1) % 2 ^ 32, discarded := (x.discarded + 1) % 2 ^ 32 } s
  let s := raiseFault (24 + l) 0x920 2 o.omk [snapN o.gen, snapN 1, snapN (lcCode (lcState s))] s
  let s := countWork (24 + l) 1 s
  match sessionOf o.kind with
  | some i => sessionFails i o.kind s
  | none =>
    match flightOf s o.fip o.tag with
    | some fl => discardFrame o.fip fl .fenced (claimEntry fl.desc.host (24 + l) s)
    | none => s

/-- An operation ends on lane `l` (R361, R364): key material is cleared whatever the outcome, and the result is released. -/
def laneEnd (l : Nat) (mismatch : Bool) (s : State) : State :=
  let x := laneOf s l
  match x.op with
  | none => s
  | some o =>
    if mismatch then laneMismatch l o s
    else
      let s := setLane l (clearLane x) s
      match sessionOf o.kind with
      | some i => sessionDone x o i s
      | none =>
        match flightOf s o.fip o.tag with
        | none => s
        | some fl =>
          match o.kind with
          | .protect => replayStage o.fip { fl with ack := some (protectedAck s fl.seen x.wkr x.aad) } s
          | _ =>
            match verifyResult x o fl.desc.bytes with
            | .ok p => verifyDone l o fl p s
            | .error d => verifyFailed l o fl d s

/-- `LANE_OPERATION_END` (R364). -/
def execLaneOperationEnd (lane : Nat) (mismatch : Bool) (s : State) : Host.Outcome State Fault Refusal :=
  within "cipher lane" lane 64 (if fabricUp s && working s 5 then laneEnd lane mismatch s else s)

/-- `LANE_QUEUE_TIMEOUT` (R367): the head operation of a lane queue has waited 10 ms; it and its frame are discarded. -/
def laneTimeout (n : Nat) (s : State) : State :=
  match laneQueue s n with
  | [] => s
  | r :: q =>
    if (r.since.toNat * 1000000 / 2 ^ 36) + 10000 ≤ tb1Us s then
      let s := setLaneQueue n (dequeue s q) s
      match sessionOf r.kind with
      | some i => sessionFails i r.kind (logLane 0x92B (some (4 * n)) i 0 1 [] s)
      | none =>
        match flightOf s n r.tag with
        | none => s
        | some fl =>
          let k := ctxOmk fl.seen
          discardFrame n fl .discarded (logLane 0x92B (some (4 * n)) k (omkOf s k).gen 1 [] s)
    else s

def execLaneQueueTimeout (fip : Nat) (s : State) : Host.Outcome State Fault Refusal :=
  within "pipeline" fip 16 (if fabricUp s then laneTimeout fip s else s)

end Sys2Proof.Machine
end

