-- ==== Sys2Proof/Machine/LaneCommands.lean ====
section
/-! DEFINITION. Revocation, and the commands on lanes and session slots (spec/10_frame_security.md, R364, R366, R384, R385,
R387, R390). -/

namespace Sys2Proof.Machine

/-! ### Revocation (R384, R385) -/

/-- The operation in a lane is revoked: it runs under the revoked slot; every operation is when every root is. -/
def revoked (omk : Option Nat) (o : LaneOp) : Bool :=
  match omk with
  | none => true
  | some k => (sessionOf o.kind).isNone && o.omk == k

/-- Discard the operation of a lane, with its frame (R385). -/
def discardOp (l : Nat) (o : LaneOp) (s : State) : State :=
  let x := laneOf s l
  let s := setLane l { clearLane x with discarded := (x.discarded + 1) % 2 ^ 32 } s
  match sessionOf o.kind with
  | some i => sessionFails i o.kind s
  | none =>
    match flightOf s o.fip o.tag with
    | some fl => discardFrame o.fip fl .discarded s
    | none => s

/-- Restart the operation of a lane from dispatch (R385). -/
def restartOp (l : Nat) (o : LaneOp) (s : State) : State :=
  let x := laneOf s l
  let s := setLane l { clearLane x with
    ops := x.ops - 1, lentOps := if x.state = .lent then x.lentOps - 1 else x.lentOps } s
  match sessionOf o.kind with
  | some i =>
    let upd := match o.kind with
      | .update _ => true
      | _ => false
    if slotReady (sessSlot s i) upd then loadSessionOp l o.fip i o.kind s else sessionFails i o.kind s
  | none =>
    match flightOf s o.fip o.tag with
    | some fl =>
      let inst := match o.kind with
        | .protect => some o.inst
        | _ => if fl.retried then some o.inst else none
      startFrameOp l o.fip { kind := o.kind, tag := o.tag, inst := inst } fl s
    | none => s

/-- One lane under a revocation; the count is of the operations discarded. -/
def revokeLane (omk : Option Nat) (l : Nat) (p : Nat × State) : Nat × State :=
  match (laneOf p.2 l).op with
  | none => p
  | some o => if revoked omk o then (p.1 + 1, discardOp l o p.2) else (p.1, restartOp l o p.2)

/-- A revocation reaches PD5. -/
def revoke (omk : Option Nat) (s : State) : State :=
  let s := { s with keys := { s.keys with revocations := s.keys.revocations.filter fun x => x != omk } }
  if active s 5 then
    let (n, s) := (List.range 64).foldl (fun p l => revokeLane omk l p) (0, s)
    let s := if omk = none then { s with lanes := { s.lanes with sessions := [] } } else s
    let gen := match omk with
      | some k => (omkOf s k).gen
      | none => 0
    raiseV 232 (logNotice 0x922 0xFFFF (omk.getD 0xFFFF) [snapN n, snapN gen, snapN n, snapN (lcCode (lcState s))] s)
  else s

/-- `REVOCATION` (R384): it happens while such a revocation is on its way; until it has, a repeat is merged into it (R385). -/
def execRevocation (omk : Option Nat) (s : State) : Host.Outcome State Fault Refusal :=
  .next (if fabricUp s && s.keys.revocations.contains omk then revoke omk s else s)

/-! ### Lane commands (R364, R366, R390) -/

/-- Every command of the chapter but KEY_GRACE_SET needs PD5 (R390). -/
def pd5Check (s : State) : Bool × Status := (!active s 5, .nores)

/-- The state code of a lane (CL_STATUS). -/
def laneCode (s : State) (l : Nat) : Nat :=
  if !active s 5 then 0
  else
    match (laneOf s l).state with
    | .test => 5
    | .fenced => 4
    | .idle => if isFenced s (24 + l) then 4 else 1
    | .busy => 2
    | .lent => 3

def clStatusCheck (_ : Src) (r : Req) (s : State) : Option Status := firstFail [pd5Check s, (decide (64 ≤ arg r 0 1), .badarg)]

def clStatusRun (_ : Src) (r : Req) (s : State) : Reply × State :=
  let l := arg r 0 1
  let x := laneOf s l
  let borrower := match x.op with
    | some o => if x.state = .lent then o.fip else 0xFF
    | none => 0xFF
  ({ payload := le8 (laneCode s l) ++ le8 (l / 4) ++ le8 borrower ++ le32 x.ops ++ le32 x.lentOps ++ le32 x.faults
      ++ le32 x.discarded }, s)

def execClStatus (src : Src) (s : State) : Host.Outcome State Fault Refusal := runCmd 0x0920 clStatusCheck clStatusRun src s

/-- The lane can be tested: IDLE, or FENCED with its fence complete (R364). -/
def testable (s : State) (l : Nat) : Bool :=
  (laneOf s l).op.isNone && (laneOf s l).state != .test
    && match (unitOf s (24 + l)).state with
       | .ready => true
       | .handlingF1 => true
       | .fenced => true
       | _ => false

def clTestCheck (_ : Src) (r : Req) (s : State) : Option Status :=
  let l := arg r 0 1
  firstFail [pd5Check s, (decide (l < 64) && (unitOf s (24 + l)).retired, .fenced), (decide (64 ≤ l), .badarg),
    (!testable s l, .busy)]

/-- `CL_TEST` (R364): the lane leaves service for the test. -/
def clTestRun (src : Src) (r : Req) (s : State) : Reply × State :=
  let l := arg r 0 1
  let mb := match src with
    | .mb n => some n
    | .sq _ _ => none
  (fail .accepted, setLane l { laneOf s l with state := .test, testMb := mb } s)

def execClTest (src : Src) (s : State) : Host.Outcome State Fault Refusal := runCmd 0x0921 clTestCheck clTestRun src s

/-- The tests end (R364): with no failing test the lane is IDLE and in service again; otherwise it is FENCED. -/
def clTestEnd (l failing : Nat) (s : State) : State :=
  let x := laneOf s l
  if x.state = .test then
    let pass := decide (failing = 0)
    let u := unitOf s (24 + l)
    let s := setLane l { x with state := if pass then .idle else .fenced, testMb := none } s
    let s := setUnit (24 + l) { u with
      state := if pass then (if u.state = .fenced then .ready else u.state) else .fenced } s
    let s := logLane 0x921 (some l) 0xFFFF 0 0 [] s
    match x.testMb with
    | some m => finishMb m .ok (le8 (b2n (!pass)) ++ le8 failing) s
    | none => s
  else s

/-- `CL_TEST_END` (R364); test 0 means that none failed. -/
def execClTestEnd (lane failing : Nat) (s : State) : Host.Outcome State Fault Refusal :=
  within "cipher lane" lane 64 (if fabricUp s && working s 5 then clTestEnd lane failing s else s)

def clBorrowCfgCheck (_ : Src) (r : Req) (s : State) : Option Status :=
  let f := arg r 0 1
  firstFail [pd5Check s, ((decide (16 ≤ f) && f != 0xFF) || decide (4 < arg r 1 1), .badarg)]

/-- `CL_BORROW_CFG` (R366). -/
def clBorrowCfgRun (_ : Src) (r : Req) (s : State) : Reply × State :=
  let f := arg r 0 1
  let m := arg r 1 1
  let s := ((List.range 16).filter fun i => f == 0xFF || i == f).foldl
    (fun s i => { s with lanes := { s.lanes with borrowMax := put 2 s.lanes.borrowMax i m } }) s
  ({ payload := (List.range 16).flatMap fun i => le8 (borrowMax s i) }, s)

def execClBorrowCfg (src : Src) (s : State) : Host.Outcome State Fault Refusal :=
  runCmd 0x0922 clBorrowCfgCheck clBorrowCfgRun src s

/-! ### Session slots (R387, R390) -/

/-- Bytes 0–7 and 40–71 of a slot (R387): never the secret. -/
def sessBytes (x : SessSlot) : Bytes :=
  le8 x.kind ++ le8 x.dir ++ le8 x.homeFip ++ le8 x.state ++ le32 x.owner ++ le16 x.epoch ++ List.replicate 6 0
    ++ le64 x.seq ++ le64 x.win ++ le16 x.updates ++ le32 x.records ++ [0, 0]

def sessCheck (_ : Src) (_ : Req) (s : State) : Option Status := firstFail [pd5Check s]

def sessStatusRun (_ : Src) (r : Req) (s : State) : Reply × State := ({ payload := sessBytes (sessSlot s (arg r 0 1)) }, s)

def execSessStatus (src : Src) (s : State) : Host.Outcome State Fault Refusal := runCmd 0x0925 sessCheck sessStatusRun src s

/-- `SESS_CLEAR` (R390): an operation in a lane completes on what it took at its dispatch. -/
def sessClearRun (_ : Src) (r : Req) (s : State) : Reply × State :=
  let i := arg r 0 1
  ({ payload := le8 (sessSlot s i).kind }, logSession i (setSession i {} s))

def execSessClear (src : Src) (s : State) : Host.Outcome State Fault Refusal := runCmd 0x0926 sessCheck sessClearRun src s

end Sys2Proof.Machine
end

