-- ==== Sys2Proof/Machine/Keys.lean ====
section
/-! DEFINITION. The key store: unwrapping and keeping keys, operator keys and their generations, general keys, authority keys,
the public-key engines, random numbers and re-masking (spec/12_keys_life_cycle_tamper.md, R432–R447, R451–R454;
spec/10_frame_security.md, R381–R383, R553). -/

namespace Sys2Proof.Machine

/-! ### Device identity key (R432, R433) -/

/-- The order n of P-384. -/
def orderP384 : Nat :=
  0xFFFFFFFFFFFFFFFFFFFFFFFFFFFFFFFFFFFFFFFFFFFFFFFFC7634D81F4372DDF581A0DB248B0A77AECEC196ACCC52973

/-- The private key of a root: (seed mod (n − 1)) + 1, 48 bytes, most significant byte first. -/
def dikOf (root : Bytes) : Bytes := (leBytes 48 (beNat (dikSeed root) % (orderP384 - 1) + 1)).reverse

def dikPublic (root : Bytes) : Bytes := Config.ecPublic 4 (dikOf root)

/-- The statement that the outgoing key signs: UID, new state, new public key (R433). -/
def statementBytes (lc : LifeCycle) (pub : Bytes) : Bytes := uidBytes ++ le8 (lcCode lc) ++ pub

/-- The key-encryption key of an import (R431, R436): the label is followed by the slot number where there is one. -/
def importKek (z : Bytes) (label : String) (slot : Bytes) : Bytes :=
  Config.sha256 ([0, 0, 0, 1] ++ z ++ (label.toUTF8.toList.map fun c => BitVec.ofNat 8 c.toNat) ++ slot ++ uidBytes)

/-- A key wrapped for the device identity key of a root (R431, R436). -/
def unwrapFor (root : Bytes) (label : String) (slot eph wrapped : Bytes) : Option Bytes :=
  match Config.ecdh (dikOf root) eph with
  | some z => Config.unwrap (importKek z label slot) wrapped
  | none => none

/-- A key import in mode 0 or 1 (R440, R445). -/
def importKey (s : State) (label : String) (slot mode tslot : Nat) (eph wrapped : Bytes) : Option Bytes :=
  if mode = 0 then
    match activeRoot s with
    | some r => unwrapFor r label (le8 slot) eph wrapped
    | none => none
  else
    match gkFor s tslot [2] 4 with
    | some k => Config.unwrap k wrapped
    | none => none

/-! ### Public-key engines (R451, R452) -/

def pkeRunning (s : State) (n : Nat) : Option PkeReq := look none s.keys.pkeRun n

/-- A PKE that can serve: PD5 is on and unit 88 + n is not fenced. -/
def pkeServes (s : State) (n : Nat) : Bool := active s 5 && !isFenced s (88 + n)

/-- Every engine is fenced. -/
def pkeAllFenced (s : State) : Bool := (List.range 4).all fun n => isFenced s (88 + n)

/-- The first free engine. -/
def pkeFree (s : State) : Option Nat := (List.range 4).find? fun n => pkeServes s n && (pkeRunning s n).isNone

def setPke (n : Nat) (r : Option PkeReq) (s : State) : State :=
  { s with keys := { s.keys with pkeRun := put none s.keys.pkeRun n r } }

/-- A request for an engine: it runs on a free one, or waits (R452). -/
def pkeAsk (r : PkeReq) (s : State) : State :=
  let r := { r with since := tbVal s 1 }
  match pkeFree s with
  | some n => setPke n (some r) s
  | none => { s with keys := { s.keys with pkeQueue := s.keys.pkeQueue ++ [r] } }

/-- The request of the lowest class, the oldest among equals. -/
def pkeNext : List PkeReq → Option PkeReq
  | [] => none
  | r :: rest =>
    match pkeNext rest with
    | some x => if x.cls < r.cls then some x else some r
    | none => some r

/-- Drop the first occurrence of a request. -/
def dropReq (r : PkeReq) : List PkeReq → List PkeReq
  | [] => []
  | x :: l => if x = r then l else x :: dropReq r l

/-- Serve the queue while an engine is free. -/
def pkeServe (s : State) : State :=
  match pkeFree s, pkeNext s.keys.pkeQueue with
  | some n, some r =>
    setPke n (some r) { s with keys := { s.keys with pkeQueue := dropReq r s.keys.pkeQueue } }
  | _, _ => s

/-- SESSION records for which a signature is no longer being made: it will be asked for again (R242). -/
def unsign (l : List SessionRec) : List SessionRec := l.map fun r => { r with signing := false }

/-- The operation of a request comes to nothing: its command completes with DISCARDED (R448, R484); a SESSION record waits in the ring and is
signed anew (R242). -/
def pkeDrop (r : PkeReq) (s : State) : State :=
  match r.job with
  | .command m _ => finishMb m .discarded [] s
  | .session _ => { s with charge := { s.charge with records := unsign s.charge.records } }
  | .other => s

/-- Every operation and every waiting request comes to nothing (R27, R448). -/
def pkeDropAll (s : State) : State :=
  let held := (s.keys.pkeRun.filterMap fun p => p.2) ++ s.keys.pkeQueue
  held.foldl (fun s r => pkeDrop r s) { s with keys := { s.keys with pkeRun := [], pkeQueue := [] } }

/-- A command that asks for a public-key operation completes when it has ended (R451, R452). -/
def pkeCommand (cls : Nat) (src : Src) (r : Req) (s : State) : Reply × State :=
  match src with
  | .mb m => ({ later := true }, pkeAsk { cls := cls, job := .command m r } s)
  | .sq _ _ => (fail .denied, s)

/-- 100 ms of TB1. -/
def pkeWait : Time := BitVec.ofNat 72 (2 ^ 36 / 10)

/-- `PKE_QUEUE_AGEING` (R452): a request that has waited 100 ms rises one class; it rises once (DESIGN CHOICE, assumption log 81). -/
def pkeAge (i : Nat) (s : State) : State :=
  match s.keys.pkeQueue[i]? with
  | some r =>
    if !r.risen ∧ pkeWait ≤ tbVal s 1 - r.since then
      { s with keys := { s.keys with pkeQueue := setAt s.keys.pkeQueue i { r with cls := max 1 (r.cls - 1), risen := true } } }
    else s
  | none => s

def execPkeQueueAgeing (index : Nat) (s : State) : Host.Outcome State Fault Refusal :=
  .next (if fabricUp s && working s 5 then pkeAge index s else s)

/-! ### Keeping keys (R434, R435, R443) -/

/-- A record of a key under a fresh mask. -/
def keepKey (idx typ usage : Nat) (key : Bytes) (s : State) : KeyRec × State :=
  let (m, s) := draw key.length s
  (maskKey s idx typ usage key m, s)

/-- An erased record: random A copies, share B zero, and no type (R443). -/
def erasedRec (r : KeyRec) (s : State) : KeyRec × State :=
  if r = {} then ({}, s)
  else
    let (x, s) := draw r.b.length s
    let (y, s) := draw r.b.length s
    (sealRec { a0 := x, a1 := y, b := List.replicate r.b.length 0 }, s)

/-- Load the lane key RAM with an instance under fresh shares (R435). -/
def loadRam (slot inst : Nat) (s : State) : State :=
  match keyOf s (omkIndex slot inst) (omkRec s slot inst) with
  | some k =>
    let (m, s) := draw k.length s
    { s with keys := { s.keys with laneRam := put ([], []) s.keys.laneRam (3 * slot + inst) (xorBytes k m, m) } }
  | none => { s with keys := { s.keys with laneRam := dropKey s.keys.laneRam (3 * slot + inst) } }

/-- The lane key RAM is loaded with every committed instance: at PD5 switch-on (R435). -/
def loadAllRam (s : State) : State :=
  (List.range 64).foldl (fun s slot =>
    let o := omkOf s slot
    [o.current, o.grace].foldl (fun s i => match i with
      | some k => loadRam slot k s
      | none => s) s) s

/-- Erase an instance of an OMK slot (R443). -/
def eraseInst (slot inst : Nat) (s : State) : State :=
  let (r, s) := erasedRec (omkRec s slot inst) s
  let s := setOmkRec slot inst r s
  { s with keys := { s.keys with laneRam := dropKey s.keys.laneRam (3 * slot + inst) } }

/-- Erase an instance where there is one. -/
def eraseOpt (slot : Nat) (inst : Option Nat) (s : State) : State :=
  match inst with
  | some i => eraseInst slot i s
  | none => s

/-- The key check value of an AES key (R441). -/
def kcvOf (key : Bytes) : Nat :=
  let z := List.replicate 16 0
  beNat ((if key.length = 16 then Config.cmac128 key z else Config.cmac256 key z).take 3)

/-! ### Operator keys (R440–R443) -/

/-- The checks that open every key store command: PD5 where an engine is needed, the key store's fence, the engines' fence. -/
def storeGate (s : State) (pke : Bool) : List (Bool × Status) :=
  [(pke && !active s 5, .nores), (isFenced s 137 || (pke && pkeAllFenced s), .fenced)]

/-- Secret uses of random numbers are stopped (R453). -/
def rngStopped (s : State) : Bool := !s.keys.rngHealthy

/-- The free instance of a slot. -/
def spareInst (o : OmkSlot) : Nat :=
  ([0, 1, 2].find? fun i => o.current != some i && o.grace != some i).getD 0

def omkImport (s : State) (r : Req) : Option Bytes :=
  importKey s "DX1872 omk" (arg r 0 1) (arg r 1 1) (arg r 2 1) (fieldB r.payload 3 97) (fieldB r.payload 100 40)

def omkLoadCheck (_ : Src) (r : Req) (s : State) : Option Status :=
  let mode := arg r 1 1
  firstFail (storeGate s (mode == 0) ++ [(decide (64 ≤ arg r 0 1 ∨ 1 < mode), .badarg), (rngStopped s, .busy),
    (s.keys.revocations.contains (some (arg r 0 1)), .busy), (mode == 1 && !gkFits s (arg r 2 1) [2] 4, .nokey),
    ((omkImport s r).isNone, .badarg)])

/-- `OMK_LOAD` (R440): the key becomes the slot's candidate, unverified. -/
def omkLoadEffect (_ : Src) (r : Req) (s : State) : Reply × State :=
  let slot := arg r 0 1
  let key := (omkImport s r).getD []
  let o := omkOf s slot
  let s := eraseOpt slot o.candidate s
  let i := match o.candidate with
    | some i => i
    | none => spareInst o
  let (rec_, s) := keepKey (omkIndex slot i) 2 0 key s
  let s := setOmk slot { o with candidate := some i, verified := false } (setOmkRec slot i rec_ s)
  ({}, logKey 0x906 slot o.gen 0 [] s)

/-- In mode 0 an engine unwraps the key first (R440, R454). -/
def omkLoadRun (src : Src) (r : Req) (s : State) : Reply × State :=
  if arg r 1 1 = 0 then pkeCommand 2 src r s else omkLoadEffect src r s

def execOmkLoad (src : Src) (s : State) : Host.Outcome State Fault Refusal := runCmd 0x0901 omkLoadCheck omkLoadRun src s

/-- The candidate's key. -/
def candidateKey (s : State) (slot : Nat) : Option Bytes :=
  match (omkOf s slot).candidate with
  | some i => keyOf s (omkIndex slot i) (omkRec s slot i)
  | none => none

def omkVerifyCheck (_ : Src) (r : Req) (s : State) : Option Status :=
  let slot := arg r 0 1
  firstFail (storeGate s false ++ [(decide (64 ≤ slot), .badarg), (s.keys.revocations.contains (some slot), .busy),
    ((candidateKey s slot).isNone, .nokey)])

/-- `OMK_VERIFY` (R441): a match verifies the candidate, a mismatch erases it. -/
def omkVerifyRun (_ : Src) (r : Req) (s : State) : Reply × State :=
  let slot := arg r 0 1
  let o := omkOf s slot
  if kcvOf ((candidateKey s slot).getD []) = arg r 1 3 then
    ({ payload := le8 1 }, logKey 0x907 slot o.gen 0 [] (setOmk slot { o with verified := true } s))
  else
    let s := eraseOpt slot o.candidate s
    (fail .kcvMismatch, logKey 0x907 slot o.gen 0 [] (setOmk slot { o with candidate := none, verified := false } s))

def execOmkVerify (src : Src) (s : State) : Host.Outcome State Fault Refusal :=
  runCmd 0x0902 omkVerifyCheck omkVerifyRun src s

def omkCommitCheck (_ : Src) (r : Req) (s : State) : Option Status :=
  let slot := arg r 0 1
  let o := omkOf s slot
  firstFail (storeGate s false ++ [(decide (64 ≤ slot), .badarg), (s.keys.revocations.contains (some slot), .busy),
    (o.candidate.isNone || !o.verified, .nokey)])

/-- `OMK_COMMIT` (R442): candidate to current, current to grace, the generation advances; the former grace instance is erased.
With GRACE 0 the grace window has no length (R383). -/
def omkCommitRun (_ : Src) (r : Req) (s : State) : Reply × State :=
  let slot := arg r 0 1
  let o := omkOf s slot
  let gen := if o.current.isNone then 0 else (o.gen + 1) % 256
  let s := eraseOpt slot o.grace s
  let s := if o.graceSecs = 0 then eraseOpt slot o.current s else s
  let s := setOmk slot { o with
    current := o.candidate, grace := if o.graceSecs = 0 then none else o.current, candidate := none, verified := false,
    gen := gen, graceGen := o.gen, commitTb2 := tbVal s 2, commitTb1 := tbVal s 1, opsCurrent := 0, opsGrace := 0,
    staleRetries := 0 } s
  let s := match o.candidate with
    | some i => if active s 5 then loadRam slot i s else s
    | none => s
  let s := logKey 0x923 slot gen 0 [] s
  ({ payload := le8 gen }, if o.graceSecs = 0 ∧ o.current.isSome then logKey 0x924 slot o.gen 0 [] s else s)

def execOmkCommit (src : Src) (s : State) : Host.Outcome State Fault Refusal :=
  runCmd 0x0903 omkCommitCheck omkCommitRun src s

/-- Nothing is held in a slot. -/
def omkBlank (o : OmkSlot) : Bool := o.current.isNone && o.grace.isNone && o.candidate.isNone

def omkRevokeCheck (_ : Src) (r : Req) (s : State) : Option Status :=
  let slot := arg r 0 1
  firstFail (storeGate s false ++ [(decide (64 ≤ slot), .badarg), (s.keys.revocations.contains (some slot), .busy),
    (omkBlank (omkOf s slot), .nokey)])

/-- Lane operations under a slot. -/
def opsUnder (s : State) (slot : Nat) : Nat :=
  (s.lanes.lanes.filter fun p => match p.2.op with
    | some o => revoked (some slot) o
    | none => false).length

/-- `OMK_REVOKE` (R443): the three instances are erased and the revocation reaches PD5 before the response is written. -/
def omkRevokeRun (_ : Src) (r : Req) (s : State) : Reply × State :=
  let slot := arg r 0 1
  let o := omkOf s slot
  let n := if active s 5 then opsUnder s slot else 0
  let s := eraseOpt slot o.candidate (eraseOpt slot o.grace (eraseOpt slot o.current s))
  let s := setOmk slot { o with current := none, grace := none, candidate := none, verified := false } s
  let s := revoke (some slot) s
  ({ payload := le32 n }, raiseV 232 (logKey 0x908 slot o.gen n [] s))

def execOmkRevoke (src : Src) (s : State) : Host.Outcome State Fault Refusal :=
  runCmd 0x0904 omkRevokeCheck omkRevokeRun src s

/-! ### Generations and grace (R383, R553) -/

/-- Seconds that a grace instance still has. -/
def graceLeft (s : State) (o : OmkSlot) : Nat :=
  if o.grace.isNone then 0 else o.graceSecs - ((tbVal s 1 - o.commitTb1).toNat / 2 ^ 36)

/-- The grace window of a slot ends: the instance is erased (R383). -/
def endGrace (slot : Nat) (s : State) : State :=
  let o := omkOf s slot
  let s := eraseOpt slot o.grace s
  logKey 0x924 slot o.graceGen 0 [] (setOmk slot { omkOf s slot with grace := none } s)

/-- `GRACE_WINDOW_END` (R383). -/
def graceEnd (slot : Nat) (s : State) : State :=
  let o := omkOf s slot
  if o.grace.isSome && decide (graceLeft s o = 0) then endGrace slot s else s

def execGraceWindowEnd (omk : Nat) (s : State) : Host.Outcome State Fault Refusal :=
  within "OMK slot" omk 64 (if fabricUp s then graceEnd omk s else s)

def keygenStatusCheck (_ : Src) (r : Req) (s : State) : Option Status :=
  firstFail [pd5Check s, (decide (64 ≤ arg r 0 1), .badarg), ((omkOf s (arg r 0 1)).current.isNone, .nokey)]

def keygenStatusRun (_ : Src) (r : Req) (s : State) : Reply × State :=
  let o := omkOf s (arg r 0 1)
  ({ payload := le8 o.gen ++ le8 (if o.grace.isSome then o.graceGen else 0xFF) ++ le32 (graceLeft s o) ++ le32 o.opsCurrent
      ++ le32 o.opsGrace ++ le32 o.staleRetries }, s)

def execKeygenStatus (src : Src) (s : State) : Host.Outcome State Fault Refusal :=
  runCmd 0x0923 keygenStatusCheck keygenStatusRun src s

def keyGraceSetCheck (_ : Src) (r : Req) (s : State) : Option Status :=
  let slot := arg r 0 1
  firstFail [(isFenced s 137, .fenced), (decide (64 ≤ slot ∨ 604800 < arg r 1 4), .badarg), ((omkOf s slot).current.isNone, .nokey)]

/-- `KEY_GRACE_SET` (R383): the new GRACE applies to the grace generation held; one that it leaves no time ends at once. -/
def keyGraceSetRun (_ : Src) (r : Req) (s : State) : Reply × State :=
  let slot := arg r 0 1
  let s := setOmk slot { omkOf s slot with graceSecs := arg r 1 4 } s
  let s := graceEnd slot s
  ({ payload := le32 (arg r 1 4) ++ le32 (graceLeft s (omkOf s slot)) }, s)

def execKeyGraceSet (src : Src) (s : State) : Host.Outcome State Fault Refusal :=
  runCmd 0x0924 keyGraceSetCheck keyGraceSetRun src s

/-! ### General keys (R444, R445) -/

/-- Bytes of a wrapped key of a type, and the usage bits the type allows. -/
def wrappedLen (typ : Nat) : Nat := if typ = 1 then 24 else if typ = 4 then 56 else 40
def usageOk (typ usage : Nat) : Bool :=
  let allowed := if typ = 1 then 7 else if typ = 2 then 16 else 40
  (usage &&& allowed) == usage

/-- The general slot holds a key that reads as one. -/
def gkHeld (s : State) (k : Nat) : Option Bytes := if k < 255 then keyOf s (gkIndex k) (gkRec s k) else none

/-- KCV or public key of a key (R445). -/
def keyFace (typ : Nat) (key : Bytes) : Bytes := if typ ≤ 2 then leBytes 3 (kcvOf key) else Config.ecPublic typ key

def gkImport (s : State) (r : Req) : Option Bytes :=
  importKey s "DX1872 key" (arg r 0 1) (arg r 3 1) (arg r 4 1) (fieldB r.payload 5 97) (r.payload.drop 102)

def keyImportCheck (_ : Src) (r : Req) (s : State) : Option Status :=
  let typ := arg r 1 1
  let mode := arg r 3 1
  firstFail (storeGate s (mode == 0) ++ [(decide (arg r 0 1 = 255 ∨ typ < 1 ∨ 4 < typ ∨ 1 < mode) || !usageOk typ (arg r 2 1)
      || decide (r.payload.length ≠ 102 + wrappedLen typ), .badarg),
    (rngStopped s || decide ((gkRec s (arg r 0 1)).typ ≠ 0), .busy), (mode == 1 && !gkFits s (arg r 4 1) [2] 4, .nokey),
    ((gkImport s r).isNone, .badarg)])

/-- Put a key into a general slot. -/
def storeGk (slot typ usage : Nat) (key : Bytes) (s : State) : State :=
  let (rec_, s) := keepKey (gkIndex slot) typ usage key s
  logKey 0x909 slot 0 0 [] (setGk slot rec_ s)

/-- `KEY_IMPORT` (R445). -/
def keyImportEffect (_ : Src) (r : Req) (s : State) : Reply × State :=
  let key := (gkImport s r).getD []
  let s := storeGk (arg r 0 1) (arg r 1 1) (arg r 2 1) key s
  ({ payload := keyFace (arg r 1 1) key }, s)

/-- In mode 0 an engine unwraps the key first (R445, R454). -/
def keyImportRun (src : Src) (r : Req) (s : State) : Reply × State :=
  if arg r 3 1 = 0 then pkeCommand 2 src r s else keyImportEffect src r s

def execKeyImport (src : Src) (s : State) : Host.Outcome State Fault Refusal :=
  runCmd 0x0906 keyImportCheck keyImportRun src s

def keyGenerateCheck (_ : Src) (r : Req) (s : State) : Option Status :=
  let typ := arg r 1 1
  firstFail (storeGate s true ++ [(decide (arg r 0 1 = 255 ∨ typ < 3 ∨ 4 < typ) || !usageOk typ (arg r 2 1), .badarg),
    (rngStopped s || decide ((gkRec s (arg r 0 1)).typ ≠ 0), .busy)])

/-- `KEY_GENERATE` (R445): the private key is drawn; its public key is the response. -/
def keyGenerateEffect (_ : Src) (r : Req) (s : State) : Reply × State :=
  let typ := arg r 1 1
  let (key, s) := draw (if typ = 3 then 32 else 48) s
  ({ payload := Config.ecPublic typ key }, storeGk (arg r 0 1) typ (arg r 2 1) key s)

def keyGenerateRun (src : Src) (r : Req) (s : State) : Reply × State := pkeCommand 2 src r s

def execKeyGenerate (src : Src) (s : State) : Host.Outcome State Fault Refusal :=
  runCmd 0x0907 keyGenerateCheck keyGenerateRun src s

def keyEraseCheck (_ : Src) (r : Req) (s : State) : Option Status :=
  firstFail (storeGate s false ++ [(decide ((gkRec s (arg r 0 1)).typ = 0), .nokey)])

/-- `KEY_ERASE` (R445). -/
def keyEraseRun (_ : Src) (r : Req) (s : State) : Reply × State :=
  let k := arg r 0 1
  let (rec_, s) := erasedRec (gkRec s k) s
  ({}, logKey 0x909 k 0 0 [] (setGk k rec_ s))

def execKeyErase (src : Src) (s : State) : Host.Outcome State Fault Refusal := runCmd 0x0908 keyEraseCheck keyEraseRun src s

def keyInfoCheck (_ : Src) (r : Req) (s : State) : Option Status := firstFail [((gkHeld s (arg r 0 1)).isNone, .nokey)]

def keyInfoRun (_ : Src) (r : Req) (s : State) : Reply × State :=
  let k := gkRec s (arg r 0 1)
  ({ payload := le8 k.typ ++ le8 k.usage ++ keyFace k.typ ((gkHeld s (arg r 0 1)).getD []) }, s)

def execKeyInfo (src : Src) (s : State) : Host.Outcome State Fault Refusal := runCmd 0x0909 keyInfoCheck keyInfoRun src s

def dikReadCheck (_ : Src) (_ : Req) (s : State) : Option Status :=
  firstFail (storeGate s true ++ [((activeRoot s).isNone, .lifecycle)])

/-- `DIK_READ` (R433): the public key and the statements since MFG. -/
def dikReadEffect (_ : Src) (_ : Req) (s : State) : Reply × State :=
  ({ payload := dikPublic ((activeRoot s).getD []) ++ s.keys.statements.flatMap fun x => le8 x.1 ++ x.2 }, s)

def dikReadRun (src : Src) (r : Req) (s : State) : Reply × State := pkeCommand 2 src r s

def execDikRead (src : Src) (s : State) : Host.Outcome State Fault Refusal := runCmd 0x090A dikReadCheck dikReadRun src s

/-! ### Authority keys (R436–R438) -/

/-- Clear versions, counters, failures and lockout of a mailbox (R436). -/
def clearSessions (m : Nat) (s : State) : State :=
  let s := (List.range 16).foldl (fun s k => setSess m k {} s) s
  { s with host := { s.host with lockout := put none s.host.lockout m none } }

/-- Install an authority key (R436). -/
def setAuk (m : Nat) (key : Bytes) (s : State) : State :=
  let (rec_, s) := keepKey (aukIndex m) 2 0 key s
  clearSessions m { s with keys := { s.keys with auks := put {} s.keys.auks m rec_ } }

def aukImport (s : State) (r : Req) : Option Bytes :=
  match activeRoot s with
  | some root => unwrapFor root "DX1872 auth" [] (fieldB r.payload 1 97) (fieldB r.payload 98 40)
  | none => none

def keyAuthSetCheck (src : Src) (r : Req) (s : State) : Option Status :=
  let general := match src with
    | .mb n => decide (4 ≤ n)
    | .sq _ _ => false
  let m := arg r 0 1
  firstFail (storeGate s true ++ [(decide (m < 1 ∨ 3 < m), .badarg), (general && lcState s != .provision, .lifecycle),
    (rngStopped s, .busy), ((aukImport s r).isNone, .badarg)])

/-- `KEY_AUTH_SET` (R436): AUK_1 set in MB3 also writes a legal log entry. -/
def keyAuthSetEffect (src : Src) (r : Req) (s : State) : Reply × State :=
  let m := arg r 0 1
  let s := setAuk m ((aukImport s r).getD []) s
  let s := logKey 0x90A m 0 0 [] s
  let s := if m = 1 ∧ src = .mb 3 then legalEntry 0x90A r.opcode r.session r.counter r.payload s else s
  ({}, s)

def keyAuthSetRun (src : Src) (r : Req) (s : State) : Reply × State := pkeCommand 2 src r s

def execKeyAuthSet (src : Src) (s : State) : Host.Outcome State Fault Refusal :=
  runCmd 0x090B keyAuthSetCheck keyAuthSetRun src s

def keyAuthRotateCheck (_ : Src) (r : Req) (s : State) : Option Status :=
  firstFail [(isFenced s 137, .fenced), (decide (15 < arg r 0 1), .badarg)]

/-- `KEY_AUTH_ROTATE` (R438). -/
def keyAuthRotateRun (src : Src) (r : Req) (s : State) : Reply × State :=
  let m := match src with
    | .mb n => n
    | .sq _ _ => 0
  let k := arg r 0 1
  let v := ((sessOf s m k).kver + 1) % 256
  let s := setSess m k { kver := v } s
  let s := { s with host := { s.host with lockout := put none s.host.lockout m none } }
  ({ payload := le8 v }, logKey 0x90A m 0 0 [] s)

def execKeyAuthRotate (src : Src) (s : State) : Host.Outcome State Fault Refusal :=
  runCmd 0x090C keyAuthRotateCheck keyAuthRotateRun src s

/-- `MAILBOX_LOCKOUT_END` (R59): ten seconds after the eighth failure the mailbox is served again; logbook 0x90F,
notice and V232. -/
def lockoutEnd (m : Nat) (s : State) : State :=
  match look none s.host.lockout m with
  | none => s
  | some k =>
    let s := { s with host := { s.host with lockout := put none s.host.lockout m none } }
    let s := setSess m k { sessOf s m k with fails := 0 } s
    raiseV 232 (logNotice 0x90F 137 m [snapN m, snapN k, 0, 0, 0, snapN (lcCode (lcState s))] s)

def execMailboxLockoutEnd (mb : Nat) (s : State) : Host.Outcome State Fault Refusal :=
  within "mailbox" mb 64 (if fabricUp s then lockoutEnd mb s else s)

/-! ### Tamper configuration and status (R447, R448) -/

/-- A change that FIELD and RMA allow: an input is enabled, or RECORD becomes ALARM (R447). -/
def tightens (s : State) (modes actions : List Nat) : Bool :=
  (List.range 8).all (fun i => nthN s.keys.modes i == nthN modes i || (nthN s.keys.modes i == 0 && nthN modes i != 0))
    && (List.range 13).all fun i => nthN s.keys.actions i == nthN actions i || nthN actions i == 1

def cfgModes (r : Req) : List Nat := (List.range 8).map fun i => arg r i 1
def cfgActions (r : Req) : List Nat := (List.range 13).map fun i => arg r (8 + i) 1

def tmpCfgCheck (_ : Src) (r : Req) (s : State) : Option Status :=
  let m := cfgModes r
  let a := cfgActions r
  firstFail [(isFenced s 137, .fenced), (m.any (fun x => decide (2 < x)) || a.any (fun x => decide (1 < x)), .badarg),
    ((lcState s == .field || lcState s == .rma) && !tightens s m a, .lifecycle)]

def tmpCfgRun (_ : Src) (r : Req) (s : State) : Reply × State :=
  let changed := decide (cfgModes r ≠ s.keys.modes ∨ cfgActions r ≠ s.keys.actions)
  let s := { s with keys := { s.keys with modes := cfgModes r, actions := cfgActions r } }
  ({ payload := r.payload }, if changed then logKey 0x90B 0xFFFF 0 0 [] s else s)

def execTmpCfg (src : Src) (s : State) : Host.Outcome State Fault Refusal := runCmd 0x090D tmpCfgCheck tmpCfgRun src s

/-- `TMP_STATUS` (R446, R448): the latch, ALARM_SEQ, the states of the inputs at their last samples and the classes that trip. -/
def tmpStatusRun (_ : Src) (_ : Req) (s : State) : Reply × State :=
  ({ payload := le8 (b2n s.keys.latch) ++ le32 s.keys.alarmSeq ++ le8 s.keys.inputs ++ le16 s.keys.tripping }, s)

def execTmpStatus (src : Src) (s : State) : Host.Outcome State Fault Refusal := runCmd 0x090E noCheck tmpStatusRun src s

/-- The state code of an engine: 0 idle, 1 busy, 2 fenced, 3 off. -/
def pkeCode (s : State) (n : Nat) : Nat :=
  if !active s 5 then 3 else if isFenced s (88 + n) then 2 else if (pkeRunning s n).isSome then 1 else 0

def secStatusRun (_ : Src) (_ : Req) (s : State) : Reply × State :=
  ({ payload := (List.range 4).flatMap (fun n =>
      le8 (pkeCode s n) ++ le16 s.keys.pkeQueue.length ++ le32 (look 0 s.keys.pkeOps n))
      ++ le8 (b2n s.keys.rngHealthy) ++ le32 s.keys.remaskSkips }, s)

def execSecStatus (src : Src) (s : State) : Host.Outcome State Fault Refusal := runCmd 0x090F noCheck secStatusRun src s

/-! ### Random numbers and re-masking (R435, R453) -/

/-- `RNG_RESEED` (R453). -/
def execRngReseed (s : State) : Host.Outcome State Fault Refusal :=
  .next (if s.power.aux && s.keys.rngHealthy then { s with keys := { s.keys with reseeds := s.keys.reseeds + 1 } } else s)

/-- `RNG_HEALTH_FAIL` (R453): a test fails, or the tests pass again. -/
def rngHealth (passing : Bool) (s : State) : State :=
  if passing = s.keys.rngHealthy then s
  else
    let s := logKey 0x90D 0xFFFF 0 0 [] { s with keys := { s.keys with rngHealthy := passing } }
    if passing then s else raiseV 232 s

def execRngHealthFail (passing : Bool) (s : State) : Host.Outcome State Fault Refusal :=
  .next (if s.power.aux then rngHealth passing s else s)

/-- Re-mask every record of a table (R435). -/
def remaskTab : Tab KeyRec → State → Tab KeyRec × State
  | [], s => ([], s)
  | (i, r) :: t, s =>
    let (m, s) := draw r.b.length s
    let (t', s) := remaskTab t s
    ((i, remaskRec r m) :: t', s)

/-- Re-mask the lane key RAM (R435). -/
def remaskRam : Tab (Bytes × Bytes) → State → Tab (Bytes × Bytes) × State
  | [], s => ([], s)
  | (i, a, b) :: t, s =>
    let (m, s) := draw a.length s
    let (t', s) := remaskRam t s
    ((i, xorBytes a m, xorBytes b m) :: t', s)

/-- One re-masking pass; one that cannot draw is skipped (R435). -/
def remask (s : State) : State :=
  if s.keys.rngHealthy then
    let (a, s) := remaskTab s.keys.auks s
    let (o, s) := remaskTab s.keys.omkRecs s
    let (g, s) := remaskTab s.keys.gks s
    let (l, s) := remaskRam s.keys.laneRam s
    { s with keys := { s.keys with auks := a, omkRecs := o, gks := g, laneRam := l } }
  else
    logKey 0x905 0xFFFF 0 0 [] { s with keys := { s.keys with remaskSkips := (s.keys.remaskSkips + 1) % 2 ^ 32 } }

/-- `REMASK_PERIOD` (R435). -/
def execRemaskPeriod (s : State) : Host.Outcome State Fault Refusal :=
  .next (if s.power.aux && s.power.main then remask s else s)

end Sys2Proof.Machine
end

