-- ==== Sys2Proof/Machine/Charge.lean ====
section
/-! DEFINITION. The charge-point sequencer: pilot, proximity, contactors, residual current, insulation, sessions
(spec/06_charge_points.md, R217–R244). -/

namespace Sys2Proof.Machine

def cpOf (s : State) (n : Nat) : ChargePoint := look {} s.charge.cps n
def setCp (n : Nat) (c : ChargePoint) (s : State) : State :=
  { s with charge := { s.charge with cps := put {} s.charge.cps n c } }

/-- The code of a sequencer state, in the order of R223 (assumption log 23). -/
def cpCode : CpState → Nat
  | .off => 0
  | .idle => 1
  | .plugged => 2
  | .offered => 3
  | .closing => 4
  | .energised => 5
  | .stopping => 6
  | .opening => 7
  | .fault => 8
  | .unavailable => 9

def pilotCode : Pilot → Nat
  | .a => 0
  | .b => 1
  | .c => 2
  | .d => 3
  | .e => 4
  | .diode => 5
  | .invalid => 6

/-- Fault causes (assumption log 23); 0x80 is added where a WELD joins another cause (R224). -/
def causeWeld : Nat := 1
def causeFailToClose : Nat := 2
def causeUncommanded : Nat := 3
def causePilot : Nat := 4
def causePp : Nat := 5
def causeRcd : Nat := 6
def causeRcdTest : Nat := 7
def causeImdFault : Nat := 8
def causeImdInvalid : Nat := 9
def causeRemoval : Nat := 10

/-- The id of the open session; 0 without one. -/
def sessionId (c : ChargePoint) : Nat := match c.session with
  | some x => x.id
  | none => 0

/-- A record of the 0x5xx subject (R496): the named values, then state before, state after, cause, session id. -/
def logCp (code n : Nat) (before : CpState) (named : List Time) (s : State) : State :=
  let c := cpOf s n
  logEv code (128 + n) 0xFFFF (named ++ [snapN (cpCode before), snapN (cpCode c.state), snapN c.cause, snapN (sessionId c)]) s

/-- An MB0 notice of a charge point with its vector (R214, R223). -/
def noticeCp (code n : Nat) (before : CpState) (s : State) : State :=
  let c := cpOf s n
  raiseV (200 + n) (notice code 0 (128 + n)
    (snapBytes 5 [snapN (cpCode before), snapN (cpCode c.state), snapN c.cause, snapN (sessionId c)]) s)

/-! ### Limits and duty (R220, R221) -/

/-- The cable limit, 0.1 A (R220): of the decode of a socket, or of the configuration. -/
def cableAmps (c : ChargePoint) : Nat :=
  if c.cfg.socket then
    match c.cable with
    | .r100 => 630
    | .r220 => 320
    | .r680 => 200
    | .r1500 => 130
    | _ => 0
  else c.cfg.cableLimit

/-- The offered limit, 0.1 A (R221). -/
def offered (c : ChargePoint) : Nat := min c.limit (min (cableAmps c) c.cfg.hwLimit)

/-- The duty of an offer, 0.1 % (R221). -/
def offerDuty (digital : Bool) (lim : Nat) : Nat :=
  if digital then 50
  else if lim < 60 then 1000
  else if lim ≤ 525 then min (lim * 10 / 6) 850
  else lim * 4 / 10 + 640

/-- PWM runs in OFFERED, CLOSING and ENERGISED (R223). -/
def pwmRuns (st : CpState) : Bool :=
  match st with
  | .offered => true
  | .closing => true
  | .energised => true
  | _ => false

/-- The drive is constant low, state F (R223). -/
def driveLow (st : CpState) : Bool :=
  match st with
  | .off => true
  | .fault => true
  | .unavailable => true
  | _ => false

/-- The pilot duty that a charge point's state asks for, 0.1 %; it is in force from the next period start (R217). -/
def pilotDuty (c : ChargePoint) : Nat :=
  if driveLow c.state then 0 else if pwmRuns c.state then offerDuty c.cfg.digital (offered c) else 1000

/-- PWM runs at the pin: the duty in force is neither constant low nor constant high (R217). -/
def pwmNow (c : ChargePoint) : Bool := decide (0 < c.duty ∧ c.duty < 1000)

/-! ### Contactors (R226–R228) -/

/-- The assigned drives and feedback inputs. -/
def cpDrives (c : ChargePoint) : List Nat := [c.cfg.ctdA, c.cfg.ctdB].filter fun k => decide (k < 16)
def cpFeedbacks (c : ChargePoint) : List Nat := [c.cfg.cfbA, c.cfg.cfbB].filter fun k => decide (k < 16)

/-- Every assigned feedback reads open, or closed. -/
def allOpen (s : State) (c : ChargePoint) : Bool := (cpFeedbacks c).all fun k => !isClosed s k
def allClosed (s : State) (c : ChargePoint) : Bool := (cpFeedbacks c).all fun k => isClosed s k

/-- Some drive is energised. -/
def anyDriven (s : State) (c : ChargePoint) : Bool := (cpDrives c).any (driveOn s)

/-- Energise every drive on one edge (R226): fully on for PULL_IN. -/
def energise (n : Nat) (s : State) : State := (cpDrives (cpOf s n)).foldl (fun s k => setDuty k 100 s) s

/-- Some element of the metering point carries at least 10 % of I_nom (R228). -/
def underLoad (s : State) (c : ChargePoint) : Bool :=
  let p := pointOf s c.cfg.mp
  (List.range (elementsOf p.bind.wiring)).any fun e => decide (p.bind.iNom ≤ 10 * nthN p.tick.rms (4 + e) ∧ p.bind.iNom ≠ 0)

/-- De-energise every drive (R226), counting operations (R228). -/
def deEnergise (n : Nat) (s : State) : State :=
  let c := cpOf s n
  let load := underLoad s c
  (cpDrives c).foldl (fun s k =>
    if driveOn s k then
      let s := { s with drives := { s.drives with
        operations := put 0 s.drives.operations k ((look 0 s.drives.operations k + 1) % 2 ^ 32)
        loaded := put 0 s.drives.loaded k ((look 0 s.drives.loaded k + b2n load) % 2 ^ 32) } }
      setDuty k 0 s
    else s) s

/-! ### Sessions (R240–R242) -/

/-- The value of the charge point's register (R240). -/
def cpRegister (s : State) (c : ChargePoint) : Int := wholePart (liveValue (regOf (pointOf s c.cfg.mp) c.cfg.reg))

/-- Which session and which plug (R241). -/
def sessionWho (r : SessionRec) : Bytes :=
  le8 r.cp ++ le8 r.endCause ++ le16 r.flags ++ le32 r.session.id ++ le8 r.mp ++ le8 r.reg ++ le8 (min 255 r.session.closures)
    ++ le8 r.session.method ++ padTo 24 r.session.identifier ++ le72 r.session.plugTb2 ++ le72 r.session.firstTb2

/-- The 92 signed bytes of a SESSION payload (R241). -/
def sessionHead (r : SessionRec) : Bytes :=
  sessionWho r ++ le72 r.endTb2 ++ leInt 9 (r.session.start.getD 0) ++ leInt 9 (r.session.stop.getD 0) ++ le32 r.cv ++ le32 r.epoch
    ++ le8 r.keySlot ++ le8 r.curve ++ le8 r.cause

/-- The 192 bytes of a SESSION payload (R241). -/
def sessionPayload (r : SessionRec) : Bytes := sessionHead r ++ padTo 96 r.signature ++ List.replicate 4 0

/-- A session record marked UNSIGNED (R242). -/
def unsigned_ (r : SessionRec) : SessionRec :=
  { r with flags := bitSet r.flags 5, curve := 0, signature := [] }

/-- The whole SESSION record (R241), with the header of the session's end (R99). -/
def sessionBytes (r : SessionRec) : Bytes :=
  harvestRecord { type := 7, ctx := r.cp, vflags := 16 * b2n r.timeBad, tb0 := r.tb0, port := 0xFD, counter := r.session.id }
    (sessionPayload r)

/-- Emit a session record; nothing without a reservation. -/
def emitSession (r : SessionRec) (s : State) : Option State := emitRecord s.charge.recHq (sessionBytes r) s

/-- Put a record into the ring of 64 (R241, R242): a waiting record that would be overwritten is emitted first, unsigned;
where no reservation can be granted it stays. -/
def fileSession (r : SessionRec) (s : State) : State :=
  let put_ (l : List SessionRec) (s : State) : State := { s with charge := { s.charge with records := r :: l } }
  let l := s.charge.records
  if l.length < 64 then put_ l s
  else
    match l.getLast? with
    | some old =>
      if old.emitted then put_ l.dropLast s
      else
        match emitSession (unsigned_ old) s with
        | some s => put_ l.dropLast (logCp 0x50B old.cp (cpOf s old.cp).state [] s)
        | none => put_ l s
    | none => put_ l s

/-- Some element of the metering point raises CAL_STALE or CAL_INVALID. -/
def calibrationAlarm (p : MeteringPoint) : Bool := bitOf p.alarms 5 || bitOf p.alarms 7

/-- A session ends (R240, R241): missing snapshots are taken now; the record is built; logbook 0x502, notice, vector. Where PD11 leaves, or
the session never energised, the value is that of the last tick end (DESIGN CHOICE, assumption log 76). -/
def endSession (n endCause : Nat) (s : State) : State :=
  let c := cpOf s n
  match c.session with
  | none => s
  | some x =>
    let endCause := x.ending.getD endCause
    let v := cpRegister s c
    let x := { x with start := some (x.start.getD v), stop := some (x.stop.getD v) }
    let bad := x.untrusted || timeUntrusted s
    let held := match s.meter.outages with
      | o :: _ => o.degraded && (endCause == 6)
      | [] => false
    let r : SessionRec :=
      { cp := n, endCause := endCause
        flags := ofBits [c.cfg.digital, decide (x.method = 2), bad, held, x.calAlarm, false]
        session := x, tb0 := tbVal s 0, timeBad := timeUntrusted s, mp := c.cfg.mp, reg := c.cfg.reg, endTb2 := tbVal s 2, cv := cvOf s.legal.digest
        epoch := epochOf s (assignOf s c.cfg.mp), cause := c.cause, keySlot := s.charge.recSlot
        curve := s.charge.recCurve }
    let s := logCp 0x502 n c.state [snapN endCause] s
    let s := noticeCp 0x502 n c.state s
    let s := setCp n { c with
      session := none, authorised := false, authPending := false, requested := false, selfTest := .none
      stopPending := false } s
    fileSession r s

/-! ### State changes (R223) -/

/-- The states whose entry writes a notice. -/
def noticed (st : CpState) : Bool :=
  match st with
  | .plugged => true
  | .offered => true
  | .energised => true
  | .fault => true
  | .unavailable => true
  | _ => false

/-- Enter a state: logbook 0x501, and the notice of the states that have one. -/
def cpGo (n : Nat) (dest : CpState) (s : State) : State :=
  let c := cpOf s n
  let s := setCp n { c with state := dest } s
  let s := logCp 0x501 n c.state [] s
  if noticed dest then noticeCp 0x501 n c.state s else s

/-- A WELD cause (R227): tamper class CONTACTOR_WELD and logbook 0x504. -/
def weldFound (n : Nat) (s : State) : State := tamperSet 22 (logCp 0x504 n (cpOf s n).state [] s)

/-- The logbook code of a fault cause besides 0x503. -/
def causeLog (n cause : Nat) (s : State) : State :=
  if cause = causeWeld then weldFound n s
  else if cause = causeFailToClose ∨ cause = causeUncommanded then logCp 0x505 n (cpOf s n).state [] s
  else if cause = causeRcd ∨ cause = causeRcdTest then logCp 0x508 n (cpOf s n).state [] s
  else if cause = causeImdFault ∨ cause = causeImdInvalid then logCp 0x509 n (cpOf s n).state [] s
  else s

/-- Enter FAULT (R223, R224): every drive is de-energised and checked, the pilot is constant low. -/
def cpFault (n cause : Nat) (s : State) : State :=
  let c := cpOf s n
  match c.state with
  | .off => s
  | .fault => s
  | _ =>
    let onA := driveOn s c.cfg.ctdA
    let onB := driveOn s c.cfg.ctdB
    let s := deEnergise n s
    let s := setCp n { cpOf s n with
      cause := cause, faultAt := tb1Us s, checkA := onA, checkB := onB, closePending := false } s
    let s := cpGo n .fault s
    causeLog n cause (logCp 0x503 n c.state [] s)

/-- Open a session (R223, R238, R240): a new id and the TB2 time of the plug-in; authorisation is granted by AUTH_MODE 1 or requested (0x50A).
While the Nulvo heartbeat is absent no new authorisation is accepted (R243). Kind AC starts the residual self-test (R230). -/
def openSession (n : Nat) (s : State) : State :=
  let c := cpOf s n
  let x : Session := { id := s.charge.nextId, plugTb2 := tbVal s 2, untrusted := timeUntrusted s }
  let auto := c.cfg.authAuto && !c.nulvoLost
  let s := { s with charge := { s.charge with nextId := (s.charge.nextId + 1) % 2 ^ 32 } }
  let s := setCp n { c with
    session := some x, authorised := auto, authPending := !auto, requested := false
    selfTest := if c.cfg.dc then .none else .running, imd := [] } s
  logCp 0x50A n c.state [] (logCp 0x502 n c.state [] s)

/-- The proximity decode is a cable (R220). -/
def cableOk (c : ChargePoint) : Bool :=
  !c.cfg.socket || match c.cable with
    | .r100 => true
    | .r220 => true
    | .r680 => true
    | .r1500 => true
    | _ => false

/-- The offer conditions (R222). -/
def offerOk (c : ChargePoint) : Bool :=
  c.state != .unavailable && !c.unavail && (c.cfg.digital || (c.authorised && decide (60 ≤ offered c))) && cableOk c
    && (c.cfg.dc || c.selfTest == .passed)

/-- Pilot C, or D with VENT_OK = 1. -/
def pilotWants (c : ChargePoint) : Bool :=
  match c.pilot with
  | .c => true
  | .d => c.cfg.ventOk
  | _ => false

/-- The close conditions (R222). Digital delivery that the absent heartbeat would stop at once (R243) does not begin (DEDUCED, assumption
log 76). -/
def closeOk (s : State) (c : ChargePoint) : Bool :=
  offerOk c && pilotWants c && c.authorised && (!c.cfg.digital || (c.requested && !c.nulvoLost)) && allOpen s c

/-- Pilot A; pilot A or B; pilot B, or D without ventilation. -/
def pilotA (c : ChargePoint) : Bool := c.pilot == .a
def pilotAB (c : ChargePoint) : Bool := c.pilot == .a || c.pilot == .b
def pilotStops (c : ChargePoint) : Bool := c.pilot == .b || (c.pilot == .d && !c.cfg.ventOk)

/-- Delivery is to stop (R223): limit 0, authorisation withdrawn, unavailability, or the end from Nulvo. In digital mode, where an
offer needs no host limit (R222), CP_LIMIT 0 stops it as an event. -/
def deliveryEnds (c : ChargePoint) : Bool :=
  (!c.cfg.digital && c.limit == 0) || !c.authorised || c.unavail || (c.cfg.digital && !c.requested)

/-- Digital delivery stops while the Nulvo heartbeat is absent (R243). -/
def heartbeatStops (c : ChargePoint) : Bool := c.cfg.digital && c.nulvoLost

/-- Start the opening (R223): de-energise and start t_fb. -/
def startOpening (n : Nat) (s : State) : State :=
  let s := deEnergise n s
  let s := setCp n { cpOf s n with closePending := false } s
  cpGo n .opening s

/-- The end cause of a session that ends by unplugging or unavailability. -/
def unplugCause (c : ChargePoint) : Nat :=
  if c.unavail then 3 else if c.session.any fun x => x.stopped then 1 else 0

/-- The session ends with a state change (R223, R240): at the end of the tick while the stop snapshot is due, else at once. -/
def leaveSession (n endCause : Nat) (dest : CpState) (s : State) : State :=
  let c := cpOf s n
  if c.stopPending then
    cpGo n dest (setCp n { c with session := c.session.map fun x => { x with ending := some (x.ending.getD endCause) } } s)
  else cpGo n dest (endSession n endCause s)

/-- The end of OPENING (R223): every feedback reads open; the stop snapshot is due at the end of the tick. -/
def endOpening (n : Nat) (s : State) : State :=
  let c := cpOf s n
  let s := setCp n { c with stopPending := true } s
  if pilotA c then leaveSession n (unplugCause c) .idle s
  else if c.unavail then leaveSession n 3 .unavailable s
  else cpGo n .plugged s

/-- Decoding of the pilot begins afresh (R219): nothing is accepted yet. -/
def freshPilot (c : ChargePoint) : ChargePoint := { c with pilot := .a, agreed := 0 }

/-- Decoding of the cable begins afresh too (R220), as a charge point is enabled or disabled. -/
def freshDecode (c : ChargePoint) : ChargePoint :=
  { freshPilot c with cable := .none, cableSeen := .none, cableCount := 0 }

/-- One transition of R223, from the conditions as they stand; nothing where none applies. -/
def cpStep (n : Nat) (s : State) : State :=
  let c := cpOf s n
  match c.state with
  | .idle =>
    if (cpFeedbacks c).any (isClosed s) then cpFault n causeWeld s
    else if c.unavail then cpGo n .unavailable s
    else if c.stopPending then s
    else if c.pilot = .b ∨ c.pilot = .c ∨ c.pilot = .d then cpGo n .plugged (openSession n s) else s
  | .plugged =>
    if c.unavail then leaveSession n 3 .unavailable s
    else if pilotA c then leaveSession n (unplugCause c) .idle s
    else if offerOk c then cpGo n .offered s
    else s
  | .offered =>
    if c.unavail then leaveSession n 3 .unavailable s
    else if pilotA c then leaveSession n (unplugCause c) .idle s
    else if !offerOk c then cpGo n .plugged s
    else if closeOk s c then
      cpGo n .closing (setCp n { c with closePending := true, imd := [], imdStart := tb1Us s } s)
    else s
  | .closing =>
    if pilotA c ∨ pilotStops c then startOpening n s
    else if !c.closePending ∧ anyDriven s c ∧ allClosed s c then
      let x := c.session.getD {}
      let x := { x with
        closures := x.closures + 1, stopped := false
        firstTb2 := if x.closures = 0 then tbVal s 2 else x.firstTb2, untrusted := x.untrusted || timeUntrusted s }
      cpGo n .energised (setCp n { c with session := some x } s)
    else s
  | .energised =>
    if pilotA c ∨ pilotStops c then startOpening n s
    else if deliveryEnds c ∨ heartbeatStops c then
      let x := c.session.getD {}
      cpGo n .stopping (setCp n { c with session := some { x with stopped := deliveryEnds c } } s)
    else s
  | .stopping => if pilotAB c then startOpening n s else s
  | .opening => if allOpen s c then endOpening n s else s
  | .unavailable => if c.unavail then s else cpGo n .idle (setCp n (freshPilot c) s)
  | _ => s

/-- Let the sequencer run until no transition applies; at most six follow from one event. -/
def cpRunN : Nat → Nat → State → State
  | 0, _, s => s
  | k + 1, n, s =>
    let s' := cpStep n s
    if (cpOf s' n).state = (cpOf s n).state then s' else cpRunN k n s'

def cpRun (n : Nat) (s : State) : State := cpRunN 6 n s

/-- The sequencer works: PD11 on and unit not fenced. -/
def cpWorks (s : State) (n : Nat) : Bool := active s 11 && !isFenced s (128 + n)

/-! ### Pilot (R218, R219) -/

/-- A plateau in µV (R218): the mean of its codes × PILOT_GAIN + PILOT_OFFSET. -/
def pilotVolts (c : ChargePoint) (codes : List Nat) : Int :=
  openDiv ((sumN codes : Nat) * c.cfg.pilotGain) codes.length + c.cfg.pilotOffset * 1000

/-- The codes of a period whose instants lie from `lo` to `hi` µs after its start (R218). Sample i of the 250 lies 4 × i µs after it: the spec
aligns the samples to the period (R215) and names no offset (DEDUCED, assumption log 76). -/
def plateauCodes (codes : List Nat) (lo hi : Nat) : List Nat :=
  ((List.range 250).filter fun i => decide (lo ≤ 4 * i ∧ 4 * i ≤ hi)).map fun i => nthN codes i % 4096

/-- V_h and V_l of a period, µV (R218): while PWM runs, from 10 µs after an edge to 5 µs before the next; else the mean of all samples, and no
V_l. -/
def pilotPlateaus (c : ChargePoint) (codes : List Nat) : Int × Int :=
  if pwmNow c then
    (pilotVolts c (plateauCodes codes 10 (c.duty - 5)), pilotVolts c (plateauCodes codes (c.duty + 10) 995))
  else (pilotVolts c (plateauCodes codes 0 1000), 0)

/-- The lower and upper bound of a pilot state's high plateau, µV (R219). -/
def pilotBounds : Pilot → Option (Int × Int)
  | .a => some (10500000, 1000000000)
  | .b => some (7500000, 10500000)
  | .c => some (4500000, 7500000)
  | .d => some (1500000, 4500000)
  | .e => some (-1499999, 1500000)
  | _ => none

/-- The accepted state still holds within its boundaries widened by 0.2 V (R219). -/
def pilotHolds (p : Pilot) (pwm : Bool) (vh vl : Int) : Bool :=
  match p with
  | .diode => pwm && decide (1300000 ≤ vh ∧ vh < 10700000 ∧ -10700000 < vl)
  | .a => decide (10300000 ≤ vh)
  | .e => decide (-1700000 < vh ∧ vh < 1700000)
  | .invalid => decide (vh ≤ -1300000)
  | _ =>
    match pilotBounds p with
    | some (lo, hi) => decide (lo - 200000 ≤ vh ∧ vh < hi + 200000) && (!pwm || decide (vl ≤ -10300000))
    | none => false

/-- The pilot state of the plateaus (R219). -/
def pilotDecode (pwm : Bool) (vh vl : Int) : Pilot :=
  if 10500000 ≤ vh then .a
  else if 1500000 ≤ vh then
    if pwm ∧ -10500000 < vl then .diode
    else if 7500000 ≤ vh then .b
    else if 4500000 ≤ vh then .c
    else .d
  else if -1500000 < vh then .e
  else .invalid

/-- A pilot state that trips while PWM runs or a drive is energised (R222). -/
def pilotTrips (p : Pilot) : Bool := p == .e || p == .diode || p == .invalid

/-- A new pilot state is accepted (R219): trips, then the transitions. -/
def pilotAccept (n : Nat) (p : Pilot) (s : State) : State :=
  let c := cpOf s n
  let s := setCp n { c with pilot := p } s
  if pilotTrips p ∧ (pwmNow c ∨ anyDriven s c) then cpFault n causePilot s else cpRun n s

/-- One measurement period (R218, R219), under the duty that was in force: four consecutive periods that agree are accepted. In state F the
module only checks the level; before a `CP_CFG` has given a gain no voltage is formed (DESIGN CHOICE, assumption log 76). -/
def pilotDecision (n : Nat) (codes : List Nat) (s : State) : State :=
  let c := cpOf s n
  let (vh, vl) := pilotPlateaus c codes
  let pwm := pwmNow c
  let c := { c with plateaus := ((vh.tdiv 1000, vl.tdiv 1000) :: c.plateaus).take 16 }
  if c.duty = 0 then
    let s := setCp n c s
    if c.cfg.pilotGain = 0 ∨ vh ≤ -10500000 then s else logCp 0x501 n c.state [] s
  else if driveLow c.state then setCp n c s
  else
    let p := if pilotHolds c.pilot pwm vh vl then c.pilot else pilotDecode pwm vh vl
    let agreed := if p = c.candidate then min 4 (c.agreed + 1) else 1
    let s := setCp n { c with candidate := p, agreed := agreed } s
    if agreed = 4 ∧ p ≠ c.pilot then pilotAccept n p s
    else if agreed = 4 ∧ pilotTrips p ∧ (pwm ∨ anyDriven s c) then cpFault n causePilot s
    else s

/-- The duty that the state asks for takes effect, as a period starts (R217). -/
def newDuty (n : Nat) (s : State) : State := setCp n { cpOf s n with duty := pilotDuty (cpOf s n) } s

/-- A period ends and the next one starts (R217, R218). -/
def pilotPeriod (n : Nat) (codes : List Nat) (s : State) : State := newDuty n (pilotDecision n codes s)

/-- `PILOT_MEASUREMENT` (R218). -/
def execPilotMeasurement (cp : Nat) (high low : List Nat) (s : State) : Host.Outcome State Fault Refusal :=
  within "charge point" cp 8 (if cpWorks s cp then pilotPeriod cp (high ++ low) s else s)

/-! ### Proximity (R220) -/

/-- The band of a proximity resistance (R220). -/
def cableBand (rp : Nat) : Cable :=
  if rp < 60 then .short
  else if rp < 150 then .r100
  else if rp < 450 then .r220
  else if rp < 1100 then .r680
  else if rp < 2700 then .r1500
  else if rp ≤ 10000 then .invalid
  else .none

/-- rp of a code; a node at or above the reference has no resistor to ground. -/
def proximityOhms (c : ChargePoint) (code : Nat) : Option Nat :=
  let v := code * c.cfg.ppGain
  let ref := c.cfg.ppVref * 1000
  if v < ref then some (c.cfg.ppRpu * v / (ref - v)) else none

/-- A decode is accepted (R220): 0x506; a fault band, or a change of the limit while offering or delivering, trips. -/
def cableAccept (n : Nat) (k : Cable) (s : State) : State :=
  let c := cpOf s n
  let s := setCp n { c with cable := k } s
  let s := logCp 0x506 n c.state [] s
  let live := pwmRuns c.state || c.state == .stopping
  if k = .short ∨ k = .invalid ∨ (live ∧ cableAmps (cpOf s n) ≠ cableAmps c) then cpFault n causePp s else cpRun n s

/-- One 10 ms window of a socket (R220): ten consecutive windows in one band are accepted. -/
def proximity (n code : Nat) (s : State) : State :=
  let c := cpOf s n
  if c.cfg.socket ∧ c.state ≠ .off then
    let rp := proximityOhms c code
    let k := match rp with
      | some v => cableBand v
      | none => .none
    let count := if k = c.cableSeen then min 10 (c.cableCount + 1) else 1
    let s := setCp n { c with
      rp := match rp with
        | some v => min v 4294967295
        | none => 4294967295
      cableSeen := k, cableCount := count } s
    if count = 10 ∧ k ≠ c.cable then cableAccept n k s else s
  else s

/-- `PROXIMITY_WINDOW` (R220). -/
def execProximityWindow (cp code : Nat) (s : State) : Host.Outcome State Fault Refusal :=
  within "charge point" cp 8 (if cpWorks s cp then proximity cp code s else s)

/-! ### Feedback and timers (R223, R224) -/

/-- A debounced feedback has changed (R223): the feedback wins. -/
def cpFeedback (n : Nat) (second closed : Bool) (s : State) : State :=
  let c := cpOf s n
  let fb := if second then c.cfg.cfbB else c.cfg.cfbA
  let drv := if second then c.cfg.ctdB else c.cfg.ctdA
  if 16 ≤ fb ∨ isClosed s fb = closed then s
  else
    let s := setClosed fb closed s
    match c.state with
    | .off => s
    | .unavailable => s
    | .opening => cpRun n s
    | .fault =>
      let c := cpOf s n
      if closed then s
      else setCp n (if second then { c with checkB := false } else { c with checkA := false }) s
    | .energised => if !closed ∧ driveOn s drv then cpFault n causeUncommanded s else cpRun n s
    | _ => if closed ∧ !driveOn s drv then cpFault n causeWeld s else cpRun n s

/-- The feedback pin of a charge point whose sequencer does not run: its level is what a restart judges (R244). -/
def cpFeedbackPin (n : Nat) (second closed : Bool) (s : State) : State :=
  let fb := if second then (cpOf s n).cfg.cfbB else (cpOf s n).cfg.cfbA
  if 16 ≤ fb then s else setClosed fb closed s

/-- `CP_FEEDBACK_CHANGE` (R223). -/
def execCpFeedbackChange (cp : Nat) (second closed : Bool) (s : State) : Host.Outcome State Fault Refusal :=
  within "charge point" cp 8 (if cpWorks s cp then cpFeedback cp second closed s else cpFeedbackPin cp second closed s)

/-- t_fb expires (R223, R224). -/
def cpTimeout (n : Nat) (s : State) : State :=
  let c := cpOf s n
  match c.state with
  | .closing => if c.closePending ∨ allClosed s c then s else cpFault n causeFailToClose s
  | .opening => if allOpen s c then s else cpFault n causeWeld s
  | .fault =>
    let bad := (c.checkA && isClosed s c.cfg.cfbA) || (c.checkB && isClosed s c.cfg.cfbB)
    let s := setCp n { c with checkA := false, checkB := false, cause := if bad then bitSet c.cause 7 else c.cause } s
    if bad then weldFound n (logCp 0x503 n .fault [] s) else s
  | _ => s

/-- `CP_FEEDBACK_TIMEOUT` (R223). -/
def execCpFeedbackTimeout (cp : Nat) (s : State) : Host.Outcome State Fault Refusal :=
  within "charge point" cp 8 (if cpWorks s cp then cpTimeout cp s else s)

/-- PULL_IN ends (R226): every energised drive holds at HOLD_DUTY. -/
def pullInEnd (n : Nat) (s : State) : State :=
  let c := cpOf s n
  (cpDrives c).foldl (fun s k => if driveOn s k then setDuty k c.cfg.hold s else s) s

/-- `CP_PULL_IN_END` (R226). -/
def execCpPullInEnd (cp : Nat) (s : State) : Host.Outcome State Fault Refusal :=
  within "charge point" cp 8 (if cpWorks s cp then pullInEnd cp s else s)

/-- 6 s in STOPPING (R223): the contactor opens under load, logbook 0x507. -/
def stoppingTimeout (n : Nat) (s : State) : State :=
  if (cpOf s n).state = .stopping then cpRun n (startOpening n (logCp 0x507 n .stopping [] s)) else s

/-- `CP_STOPPING_TIMEOUT` (R223). -/
def execCpStoppingTimeout (cp : Nat) (s : State) : Host.Outcome State Fault Refusal :=
  within "charge point" cp 8 (if cpWorks s cp then stoppingTimeout cp s else s)

/-! ### Residual current (R229, R230) -/

/-- The sum of a value of each tick over the newest `left` samples, each tick weighted by its length (R229). -/
def windowSum (f : Int → Int) : Nat → List (Nat × Int) → Int
  | _, [] => 0
  | left, (n, v) :: r => (min n left : Nat) * f v + (if left ≤ n then 0 else windowSum f (left - n) r)

/-- The ticks of the newest `left` samples, the one that straddles the edge included. -/
def keepTicks : Nat → List (Nat × Int) → List (Nat × Int)
  | _, [] => []
  | left, (n, v) :: r => if left = 0 then [] else (n, v) :: keepTicks (left - n) r

/-- A window of `samples` samples reaches its threshold, µA (R229). -/
def tierTrips (hist : List (Nat × Int)) (samples threshold : Nat) : Bool :=
  decide (((threshold * samples : Nat) : Int) ≤ windowSum (fun v => v.natAbs) samples hist)

/-- Some tier trips (R229): 50 ms, 200 ms and 5 s. -/
def residualTrips (c : ChargePoint) : Bool :=
  tierTrips c.residual 1600 c.tier1 || tierTrips c.residual 6400 c.tier2 || tierTrips c.residual 160000 c.tier3

/-- The sequencer takes the tick message (R158, R223, R229): snapshots that are due, the energising of CLOSING, and the
residual current. -/
def cpTick (n samples : Nat) (s : State) : State :=
  let c := cpOf s n
  let s :=
    if c.stopPending then
      let x := c.session.getD {}
      setCp n { c with stopPending := false, session := c.session.map fun _ => { x with stop := some (cpRegister s c) } } s
    else s
  let c := cpOf s n
  let s := match c.session with
    | some x => setCp n { c with session := some { x with calAlarm := x.calAlarm || calibrationAlarm (pointOf s c.cfg.mp) } } s
    | none => s
  let s := match (cpOf s n).session.bind fun x => x.ending with
    | some cause => cpRun n (endSession n cause s)
    | none => s
  let c := cpOf s n
  let s :=
    if c.closePending ∧ c.state = .closing then
      let x := c.session.getD {}
      let x := { x with start := some (x.start.getD (cpRegister s c)), stop := none }
      energise n (setCp n { c with closePending := false, session := some x, imd := [] } s)
    else s
  let c := cpOf s n
  if c.cfg.dc then s
  else
    let dc := (pointOf s c.cfg.mp).tick.irDc
    let s := setCp n { c with residual := keepTicks 160000 ((samples, dc) :: c.residual) } s
    if c.cfg.rcdEn ∧ c.selfTest ≠ .running ∧ residualTrips (cpOf s n) then cpFault n causeRcd s else s

/-- The tick message reaches every sequencer, unless PD10 is isolated (R22, R36). -/
def cpTicks (samples : Nat) (s : State) : State :=
  if isolated s then s else (List.range 8).foldl (fun s n => if cpWorks s n then cpTick n samples s else s) s

/-- IR DC up to now, newest first: the mean of the samples since the last tick end, and those of the ticks (R230). -/
def residualNow (s : State) (c : ChargePoint) (recent : List ChannelSamples) : List (Nat × Int) :=
  let l := slotPrimary s (pointOf s c.cfg.mp).bind s.meter.samples recent 8
  (l.length, meanOf l) :: c.residual

/-- The mean of IR DC over the last 200 ms, 6,400 samples, lies within TEST_NOM ± 30 % (R230). -/
def selfTestOk (c : ChargePoint) (residual : List (Nat × Int)) : Bool :=
  decide (10 * (windowSum id 6400 residual - (6400 * c.testNom : Nat)).natAbs ≤ 3 * 6400 * c.testNom)

/-- The residual self-test ends (R230): it passes, or is a trip with cause RCD_TEST. -/
def selfTestEnd (n : Nat) (recent : List ChannelSamples) (s : State) : State :=
  let c := cpOf s n
  if c.selfTest = .running then
    if selfTestOk c (residualNow s c recent) then cpRun n (setCp n { c with selfTest := .passed } s)
    else cpFault n causeRcdTest (setCp n { c with selfTest := .none } s)
  else s

/-- `RCD_SELF_TEST_END` (R230). -/
def execRcdSelfTestEnd (cp : Nat) (recent : List ChannelSamples) (s : State) : Host.Outcome State Fault Refusal :=
  within "charge point" cp 8 (if cpWorks s cp then selfTestEnd cp recent s else s)

/-! ### Messages to the vehicle (R237) -/

/-- MeterInfo (R237): the live value of the charge point's register, in whole Wh. -/
def meterInfo (s : State) (c : ChargePoint) : Int := cpRegister s c / 1000000

/-- The session slot under which records to the vehicle are sealed (R237): of the two that `CP_V2G_CFG` names, one that holds a traffic secret
of this charge point for sending. -/
def v2gSlot (s : State) (n : Nat) : Option Nat :=
  let c := cpOf s n
  [c.slotA, c.slotB].find? fun i =>
    let x := sessSlot s i
    decide (i < 256) && x.kind == 1 && x.dir == 1 && x.owner % 8 == n && slotReady x false

/-- Nulvo answers the vehicle (R234, R237): with MeterInfo and the time of TB10. Of ISO 15118-20 the record is sealed in a cipher lane; of
ISO 15118-2 record protection runs in Nulvo. -/
def v2gSend (n kind : Nat) (finished : Bool) (s : State) : State :=
  let wh := meterInfo s (cpOf s n)
  let s' := emit (.v2g n kind finished wh (tbVal s 10)) s
  match v2gSlot s n with
  | some i => queueSession i (.seal i (Config.v2gText kind finished wh (tbVal s 10)) none) s'
  | none => s'

/-! ### Insulation (R232, R233) -/

/-- Insulation monitoring runs in these states (R234). -/
def imdRuns (c : ChargePoint) : Bool :=
  c.cfg.dc && match c.state with
    | .closing => true
    | .energised => true
    | .stopping => true
    | .opening => true
    | _ => false

/-- The current of a half-period, nA (R232): the mean of the codes of its last 25 %, × IMD_GAIN. -/
def halfCurrent (c : ChargePoint) (codes : List Int) : Int :=
  let l := codes.drop (3 * codes.length / 4)
  openDiv (sumI l * c.imdGain) l.length

/-- A code at full scale: the 12-bit codes of a current of either sign are two's complement (DEDUCED, assumption log 76). -/
def fullScale (code : Int) : Bool := decide (code ≤ -2048 ∨ 2047 ≤ code)

/-- r_iso of an injection period, ohms; nothing when the result is invalid (R232). -/
def insulation (c : ChargePoint) (positive negative : List Int) : Option Int :=
  let ip := halfCurrent c positive
  let i_n := halfCurrent c negative
  if positive.any fullScale ∨ negative.any fullScale ∨ ip ≤ 0 ∨ 0 ≤ i_n then none
  else
    let i := (ip - i_n) / 2
    some ((c.uInj * 1000000000 : Nat) / i - c.rI)

/-- The class of a result (R233): 0 OK, 1 WARNING, 2 FAULT, 3 invalid. -/
def imdClass (c : ChargePoint) : Option Int → Nat
  | none => 3
  | some r => if (500 * c.uMax : Nat) ≤ r then 0 else if (100 * c.uMax : Nat) ≤ r then 1 else 2

/-- An injection period ends and the next one starts (R232, R233); a WARNING goes to the host and to the vehicle. -/
def imdPeriod (n : Nat) (positive negative : List Int) (saturated : Bool) (s : State) : State :=
  let c := cpOf s n
  if !imdRuns c then s
  else
    let r := if saturated then none else insulation c positive negative
    let k := imdClass c r
    let last := c.imd.head?
    let s := setCp n { c with
      imd := (k :: c.imd).take 2, imdStart := tb1Us s
      rIso := match r with
        | some v => unsigned 32 v
        | none => c.rIso } s
    if k = 2 ∧ last = some 2 then cpFault n causeImdFault s
    else if k = 3 ∧ last = some 3 then cpFault n causeImdInvalid s
    else if k = 1 then v2gSend n 3 true (noticeCp 0x509 n c.state (logCp 0x509 n c.state [] s))
    else s

/-- `IMD_PERIOD_END` (R232). -/
def execImdPeriodEnd (cp : Nat) (positive negative : List Int) (saturated : Bool) (s : State) : Host.Outcome State Fault Refusal :=
  within "charge point" cp 8 (if cpWorks s cp then imdPeriod cp positive negative saturated s else s)

/-- Nulvo answers CableCheck as finished (R234): two consecutive results under the current energisation, OK or, where IMD_WARN_OK is 1,
WARNING. -/
def cableCheckFinished (s : State) (c : ChargePoint) : Bool :=
  anyDriven s c && decide (c.imd.length = 2) && c.imd.all fun k => k == 0 || (k == 1 && c.warnOk)

/-! ### Plug & Charge (R238, R239) -/

/-- Plug & Charge is offered: PD5 on and a trust anchor stored (R239). -/
def pncOffered (s : State) (c : ChargePoint) : Bool :=
  c.cfg.digital && c.pnc && active s 5 && (List.range 8).any fun k => look [] s.charge.trust k != []

/-- A signature over a message verifies under a certificate's key: SHA-256 for P-256, SHA-384 for P-384 (R238, R442). -/
def signedUnder (cert message signature : Bytes) : Bool :=
  match Config.certP384 cert with
  | some false => Config.ecdsaVerify (Config.certKey cert) (Config.sha256 message) signature
  | some true => Config.ecdsaVerify (Config.certKey cert) (Config.sha384 message) signature
  | none => false

/-- Each certificate of a chain is signed under the next, and the last under a trust anchor (R238). -/
def chainOk (anchors : List Bytes) : List Bytes → Bool
  | [] => false
  | [c] => anchors.any fun a => signedUnder a (Config.certSigned c) (Config.certSignature c)
  | c :: d :: rest => signedUnder d (Config.certSigned c) (Config.certSignature c) && chainOk anchors (d :: rest)

/-- The contract certificate chain and the vehicle's signature verify against the stored anchors (R238). -/
def pncVerified (s : State) (chain : List Bytes) (message signature : Bytes) : Bool :=
  let anchors := ((List.range 8).map fun k => look [] s.charge.trust k).filter fun a => a != []
  chainOk anchors chain && signedUnder (chain.headD []) message signature

/-- The MB0 notice of a verification (R238): session id, result, contract identifier; the spec gives no layout (DESIGN CHOICE, assumption
log 76). -/
def pncNotice (n : Nat) (ok : Bool) (chain : List Bytes) (s : State) : State :=
  raiseV (200 + n) (notice 0x50A 0 (128 + n)
    (le32 (sessionId (cpOf s n)) ++ le8 (b2n ok) ++ padTo 43 (Config.contractId (chain.headD []))) s)

/-- The vehicle asks for authorisation by Plug & Charge (R238): the host decides, and is told what the verification gave. -/
def plugAndCharge (n : Nat) (chain : List Bytes) (message signature : Bytes) (s : State) : State :=
  let c := cpOf s n
  if pncOffered s c ∧ !c.cfg.authAuto then
    let ok := pncVerified s chain message signature
    v2gSend n 4 (!c.authPending) (pncNotice n ok chain (logCp 0x50A n c.state [] (pkeAsk { cls := 3 } s)))
  else s

/-! ### Authorisation and Nulvo (R234, R238, R243) -/

/-- AUTH_TIMEOUT expires (R238): the request has failed. -/
def authExpired (n : Nat) (s : State) : State :=
  let c := cpOf s n
  if c.authPending then logCp 0x50A n c.state [] (setCp n { c with authPending := false } s) else s

/-- `AUTH_TIMEOUT` (R238). -/
def execAuthTimeout (cp : Nat) (s : State) : Host.Outcome State Fault Refusal :=
  within "charge point" cp 8 (if cpWorks s cp then authExpired cp s else s)

/-- The Nulvo heartbeat has been absent for 1 s (R243): digital delivery stops. -/
def heartbeatLost (n : Nat) (s : State) : State :=
  let c := cpOf s n
  cpRun n (setCp n { c with nulvoLost := true } s)

/-- `NULVO_HEARTBEAT_LOSS` (R243). -/
def execNulvoHeartbeatLoss (cp : Nat) (s : State) : Host.Outcome State Fault Refusal :=
  within "charge point" cp 8 (if cpWorks s cp then heartbeatLost cp s else s)

/-- A request of Nulvo (R222, R223): CableCheck counts only for kind DC. The vehicle gets its answer (R234, R237). -/
def energyRequest (n : Nat) (k : EnergyRequest) (s : State) : State :=
  let c := { cpOf s n with nulvoLost := false }
  if !c.cfg.digital ∨ c.session.isNone then setCp n c s
  else
    match k with
    | .powerDelivery =>
      let s := cpRun n (setCp n { c with requested := true } s)
      v2gSend n 1 ((cpOf s n).state == .energised) s
    | .cableCheck =>
      if c.cfg.dc then
        let s := cpRun n (setCp n { c with requested := true } s)
        v2gSend n 0 (cableCheckFinished s (cpOf s n)) s
      else setCp n c s
    | .endDelivery =>
      let s := cpRun n (setCp n { c with requested := false } s)
      v2gSend n 2 (!anyDriven s (cpOf s n)) s
    | .plugAndCharge chain message signature => plugAndCharge n chain message signature (setCp n c s)

/-- `NULVO_ENERGY_REQUEST` (R222). -/
def execNulvoEnergyRequest (cp : Nat) (kind : EnergyRequest) (s : State) : Host.Outcome State Fault Refusal :=
  within "charge point" cp 8 (if cpWorks s cp then energyRequest cp kind s else s)

/-! ### SLAC (R235, R236) -/

/-- A sound frame on PL(8 + n) (R235): the attenuation of each of 58 groups is added to the run's sums. -/
def soundFrame (pl : Nat) (run : Bytes) (groups : List Nat) (s : State) : State :=
  let c := cpOf s (pl - 8)
  if pl < 8 ∨ !c.cfg.digital ∨ !cpWorks s (pl - 8) ∨ !active s 8 ∨ isFenced s (103 + pl) ∨ (plOf s pl).mode ≠ 3 then s
  else
    let g := (List.range 58).map fun k => nthN groups k
    let l := s.charge.sounds
    let hit (x : SlacSounds) : Bool := x.pl == pl && x.runId == run
    let l :=
      if l.any hit then
        l.map fun x => if hit x then { x with count := x.count + 1, sums := List.zipWith (· + ·) x.sums g } else x
      else l ++ [{ runId := run, pl := pl, count := 1, sums := g }]
    { s with charge := { s.charge with sounds := l } }

/-- `SLAC_SOUND_FRAME` (R235). -/
def execSlacSoundFrame (pl : Nat) (runId : Bytes) (groups : List Nat) (s : State) : Host.Outcome State Fault Refusal :=
  within "PL channel" pl 16 (soundFrame pl runId groups s)

/-- Mean over the 58 group averages of a channel, 0.1 dB. -/
def slacMean (x : SlacSounds) : Int := openDiv (sumN x.sums : Nat) (58 * x.count)

/-- The channel may answer (R235): PLUGGED or OFFERED with pilot B, and 5 % duty. -/
def slacEligible (s : State) (pl : Nat) : Bool :=
  let c := cpOf s (pl - 8)
  c.cfg.digital && (c.state == .plugged || c.state == .offered) && c.pilot == .b

/-- The channel that alone answers: the lowest mean, when it leads the next by at least 3 dB (R236). -/
def slacWinner (ms : List (Nat × Int)) : Option Nat :=
  ms.findSome? fun (p, v) => if ms.all fun (q, w) => decide (q = p ∨ v + 30 ≤ w) then some p else none

/-- The average attenuation profile of a run on a channel (R235): one byte per group, in whole dB, at most 255 (PRESUMED, assumption log 76:
the message is one of ISO 15118-3). -/
def slacProfile (x : SlacSounds) : Bytes :=
  x.sums.map fun (v : Nat) => BitVec.ofNat 8 (min 255 (openDiv (v : Int) (10 * x.count)).toNat)

/-- The run ends (R236): arbitration, the average profiles of the channels that answer, and logbook 0x50C. -/
def slacEnd (run : Bytes) (s : State) : State :=
  let heard := s.charge.sounds.filter fun x => x.runId == run
  if heard.isEmpty then s
  else
    let ms := heard.map fun x => (x.pl, slacMean x)
    let win := slacWinner ms
    let means := (List.range 8).map fun k => match ms.find? fun x => x.1 == 8 + k with
      | some x => x.2
      | none => 32767
    let s := { s with charge := { s.charge with sounds := s.charge.sounds.filter fun x => x.runId != run } }
    heard.foldl (fun s x =>
      let n := x.pl - 8
      let ok := slacEligible s x.pl && (win == none || win == some x.pl)
      let s := setCp n { cpOf s n with slacRun := run, slacMeans := means, slacAnswered := ok } s
      let s := logCp 0x50C n (cpOf s n).state [] s
      if ok then
        emit (.frame x.pl (run ++ slacProfile x)) s
      else s) s

/-- `SLAC_RUN_END` (R236). -/
def execSlacRunEnd (runId : Bytes) (s : State) : Host.Outcome State Fault Refusal := .next (slacEnd runId s)

/-! ### Session records (R242) -/

/-- Sign a record (R242): under the key slot and curve of the configuration. -/
def signSession (s : State) (r : SessionRec) : Option SessionRec :=
  let curve := s.charge.recCurve
  if curve = 0 then none
  else
    match gkFor s s.charge.recSlot [if curve = 1 then 3 else 4] 3 with
    | some key =>
      let r := { r with keySlot := s.charge.recSlot, curve := curve }
      some { r with signature := Config.ecdsaSign key (Config.sha256 (sessionHead r)) }
    | none => none

/-- Put `r` in the place of the oldest record that waits. -/
def markEmitted : List SessionRec → SessionRec → List SessionRec
  | [], _ => []
  | x :: l, r => if x.emitted ∨ (l.any fun y => !y.emitted) then x :: markEmitted l r else r :: l

/-- The oldest record that waits. -/
def waitingSession (s : State) : Option SessionRec := s.charge.records.reverse.find? fun r => !r.emitted

/-- Put the oldest record that waits as `r`. -/
def setWaiting (r : SessionRec) (s : State) : State :=
  { s with charge := { s.charge with records := markEmitted s.charge.records r } }

/-- Emit the oldest record that waits as `r` (R242): it stays where no reservation can be granted; `bare` when it goes out UNSIGNED. -/
def sessionOut (r : SessionRec) (bare : Bool) (s : State) : State :=
  match emitSession r s with
  | some s =>
    let s := setWaiting { r with emitted := true } s
    if bare then logCp 0x50B r.cp (cpOf s r.cp).state [] s else s
  | none => (reserve s.charge.recHq 4 s).2

/-- The oldest record that waits (R242): while PD5 is off it stays in the ring. One without a signature asks a public-key engine for it,
in class 3 (R452), or goes out UNSIGNED where the key slot is empty. -/
def sessionEmit (s : State) : State :=
  match waitingSession s with
  | none => s
  | some r =>
    if !active s 5 ∨ !active s 11 then s
    else if r.signature ≠ [] then sessionOut r false s
    else if (signSession s r).isNone then sessionOut (unsigned_ r) true s
    else if r.signing then s
    else pkeAsk { cls := 3, job := .session r.session.id } (setWaiting { r with signing := true } s)

/-- The signature of a record has been made: it goes out with it, if it is still the oldest that waits. -/
def sessionSigned (id : Nat) (s : State) : State :=
  match waitingSession s with
  | some r =>
    if r.session.id = id ∧ r.signing then
      match signSession s r with
      | some x => sessionEmit (setWaiting { x with signing := false } s)
      | none => sessionEmit (setWaiting { r with signing := false } s)
    else s
  | none => s

/-- `SESSION_RECORD_EMIT` (R242). -/
def execSessionRecordEmit (s : State) : Host.Outcome State Fault Refusal := .next (sessionEmit s)

/-! ### Faults, outages and removal (R243, R244) -/

/-- Drives off, pilot low at once, the session ends with a cause, and the sequencer is in a state (R243, R246). -/
def cpDrop (n cause : Nat) (dest : CpState) (s : State) : State :=
  let s := endSession n cause (deEnergise n s)
  let s := setCp n { freshDecode (cpOf s n) with duty := 0, closePending := false, stopPending := false, selfTest := .none } s
  cpGo n dest s

/-- Every charge point, with an end cause (R243). -/
def cpDropAll (cause : Nat) (dest : CpState) (s : State) : State :=
  (List.range 8).foldl (fun s n => if (cpOf s n).state = .off then s else cpDrop n cause dest s) s

/-- The stop snapshot of a session is to be taken anew. -/
def dropStop (n : Nat) (s : State) : State :=
  setCp n { cpOf s n with session := (cpOf s n).session.map fun x => { x with stop := none } } s

/-- A removal is requested (R243, R521): every charge point that is not OFF stands in FAULT with cause removal, its pilot low at once, and its
session has ended with the stop snapshot taken now. -/
def cpRemoved (s : State) : State :=
  (List.range 8).foldl (fun s n =>
    if (cpOf s n).state = .off then s
    else
      let s := endSession n 4 (dropStop n (cpFault n causeRemoval s))
      setCp n { cpOf s n with duty := 0 } s) s

/-- PD11 is reset or loses its supply (R243, R244): drives fall back to the carrier's defaults, and open sessions wait in
MRAM for the restart, with the end cause they will have. -/
def cpLost (cause : Nat) (s : State) : State :=
  (List.range 8).foldl (fun s n =>
    let s := deEnergise n s
    let c := cpOf s n
    let x := c.session.map fun x => { x with ending := some (x.ending.getD cause) }
    let s := setCp n { ({} : ChargePoint) with session := x, cfg := c.cfg } s
    if c.state = .off then s else logCp 0x501 n c.state [] s) s

/-- PD11 starts (R244): a charge point with an open session whose feedback reads closed enters FAULT with WELD; the other
sessions end at the first tick end. -/
def cpRestart (s : State) : State :=
  (List.range 8).foldl (fun s n =>
    let c := cpOf s n
    match c.session with
    | some _ =>
      if (cpFeedbacks c).any (isClosed s) then
        let s := setCp n { c with
          cause := causeWeld, faultAt := tb1Us s, session := c.session.map fun x => { x with ending := none } } s
        weldFound n (logCp 0x503 n .off [] (cpGo n .fault s))
      else s
    | none => s) s

end Sys2Proof.Machine
end

