-- ==== Sys2Proof/Machine/Display.lean ====
section
/-! DEFINITION. Billing register values and the legal display bus (spec/05_tariffs_billing_legal.md, R188, R206–R208). -/

namespace Sys2Proof.Machine

/-- The shown value of a billing register and its wrap counter (R188), of a value in µWh. -/
def billShown (v digits decimals : Nat) : Nat × Nat :=
  let steps := v / 10 ^ (9 - decimals)
  (steps % 10 ^ (digits + decimals), steps / 10 ^ (digits + decimals) % 65536)

/-- The ASCII digit of a number below 10. -/
def digitByte (d : Nat) : Byte := BitVec.ofNat 8 (48 + d % 10)

/-- The `n` decimal digits of `v`, leading zeros included. -/
def decDigits : Nat → Nat → Bytes
  | 0, _ => []
  | n + 1, v => decDigits n (v / 10) ++ [digitByte v]

/-- The decimal digits of `v` without leading zeros; at most ten. -/
def decText (v : Nat) : Bytes :=
  match (decDigits 10 v).dropWhile fun b => b == 48#8 with
  | [] => [48#8]
  | l => l

/-- An ASCII text. -/
def ascii (t : String) : Bytes := t.toList.map fun c => BitVec.ofNat 8 c.toNat

/-- One uppercase hexadecimal character. -/
def hexByte (d : Nat) : Byte := BitVec.ofNat 8 (if d < 10 then 48 + d else 55 + d)

/-- The displayed check value: 8 uppercase hexadecimal characters, byte 0 first (R206). -/
def cvText (digest : Bytes) : Bytes :=
  (padTo 4 digest).flatMap fun b => [hexByte (b.toNat / 16), hexByte (b.toNat % 16)]

/-- The unit of a quantity (R188); none for quantity 0. -/
def unitText (qty : Nat) : Bytes :=
  if 1 ≤ qty ∧ qty ≤ 4 then ascii " kWh" else if 5 ≤ qty ∧ qty ≤ 8 then ascii " kvarh"
  else if 9 ≤ qty ∧ qty ≤ 12 then ascii " kVAh" else []

/-- A legal display frame (R207). -/
def displayFrame (cmd line : Nat) (text : Bytes) : Bytes :=
  let b := le8 cmd ++ le8 line ++ le8 text.length ++ text
  b ++ leBytes 1 (crc8 b).toNat

/-- Send a frame to display `d`. -/
def toDisplay (d cmd line : Nat) (text : Bytes) (s : State) : State :=
  emit (.frame (80 + d) (displayFrame cmd line text)) s

/-- Line 1 of an item: the billing register with its unit (R188, R208). -/
def itemValue (s : State) (m k r : Nat) : Bytes :=
  let b := slotOf s m k
  let src := regOf (pointOf s m) b.reg
  let v := (wholePart (liveValue (if r = 0 then src else rateReg s m k r))).toNat
  let shown := (billShown v b.digits b.decimals).1
  let text := decDigits b.digits (shown / 10 ^ b.decimals)
  let frac := if b.decimals = 0 then [] else 46#8 :: decDigits b.decimals (shown % 10 ^ b.decimals)
  text ++ frac ++ unitText (cfgOf (pointOf s m) b.reg).qty

/-- Show an item (R208): line 0 names it, line 1 its value, line 2 the epoch of the open period. -/
def showItem (d : Nat) (item : Nat × Nat × Nat) (s : State) : State :=
  let (m, k, r) := item
  let name := ascii "MP" ++ decDigits 2 m ++ ascii " S" ++ decText k ++ (if r = 0 then [] else ascii " T" ++ decText r)
  let s := toDisplay d 1 0 name s
  let s := toDisplay d 1 1 (itemValue s m k r) s
  toDisplay d 1 2 (decText (epochOf s (assignOf s m) + 1)) s

def displayOf (s : State) (d : Nat) : LegalDisplay := look {} s.tariff.displays d
def setDisplay (d : Nat) (x : LegalDisplay) (s : State) : State :=
  { s with tariff := { s.tariff with displays := put {} s.tariff.displays d x } }

/-- Show the check value on a display. -/
def showCv (d : Nat) (s : State) : State :=
  if (displayOf s d).enable then
    toDisplay d 1 1 (cvText s.legal.digest) (toDisplay d 1 0 (ascii "CV") (toDisplay d 2 0 [] s))
  else s

/-- Show the current item of a display, or the check value while it is shown. -/
def refresh (d : Nat) (s : State) : State :=
  let x := displayOf s d
  if !x.enable then s
  else if s.tariff.cvShown then showCv d s
  else
    match x.items[x.shown]? with
    | some item => showItem d item s
    | none => s

/-- The check value on every enabled display, for 10 s (R208). -/
def showCvAll (s : State) : State :=
  (List.range 8).foldl (fun s d => showCv d s) { s with tariff := { s.tariff with cvShown := true } }

/-- The 1 s ping (R208): three consecutive pings without 0xA5 set class 24 and logbook 0x40E; an answer clears the fault. -/
def pingDisplay (d : Nat) (reply : Bytes) (s : State) : State :=
  let x := displayOf s d
  if !x.enable ∨ !bitOf s.power.on 10 then s
  else
    let s := toDisplay d 3 0 [] s
    if reply.head? = some 0xA5#8 then
      let s := setDisplay d { x with missed := 0, fault := false } s
      if x.fault then logTariff 0x40E 0xFFFF 0 0 0 [snapN d, snapN 0] s else s
    else
      let missed := min 3 (x.missed + 1)
      let lost := missed == 3 && !x.fault
      let s := setDisplay d { x with missed := missed, fault := x.fault || missed == 3 } s
      if lost then logTariff 0x40E 0xFFFF 0 0 0 [snapN d, snapN 1] (tamperSet 24 s) else s

/-- `LEGAL_DISPLAY_PING` (R208). -/
def execLegalDisplayPing (display : Nat) (reply : Bytes) (s : State) : Host.Outcome State Fault Refusal :=
  within "legal display" display 8 (pingDisplay display reply s)

/-- The scroll timer (R208): the next item. -/
def scrollDisplay (d : Nat) (s : State) : State :=
  let x := displayOf s d
  if x.enable ∧ bitOf s.power.on 10 ∧ x.items ≠ [] then
    refresh d (setDisplay d { x with shown := (x.shown + 1) % x.items.length } s)
  else s

/-- `LEGAL_DISPLAY_SCROLL` (R208). -/
def execLegalDisplayScroll (display : Nat) (s : State) : Host.Outcome State Fault Refusal :=
  within "legal display" display 8 (scrollDisplay display s)

/-- `LDREQ_N_FALL` (R208). -/
def execLdreqNFall (s : State) : Host.Outcome State Fault Refusal :=
  .next (if bitOf s.power.on 10 then showCvAll s else s)

/-- The end of the 10 s (R208): the displays show their items again. -/
def cvExpiry (s : State) : State :=
  if s.tariff.cvShown then
    (List.range 8).foldl (fun s d => refresh d s) { s with tariff := { s.tariff with cvShown := false } }
  else s

/-- `CV_SHOW_EXPIRY` (R208). -/
def execCvShowExpiry (s : State) : Host.Outcome State Fault Refusal := .next (cvExpiry s)

end Sys2Proof.Machine
end

