-- ==== Sys2Proof/Machine/TariffCommands.lean ====
section
/-! DEFINITION. The commands of the tariff engine and the legal partition (spec/05_tariffs_billing_legal.md, R181–R212). -/

namespace Sys2Proof.Machine

/-! ### Tariff tables (R181–R185) -/

def tarStatusRun (_ : Src) (r : Req) (s : State) : Reply × State :=
  let t := assignOf s (arg r 0 1)
  let x := tableOf s t
  ({ payload := le8 t ++ le8 x.rate ++ le8 (b2n x.friendly) ++ leInt 8 (localTime x.active (tb2Sec s)) ++ le8 (b2n x.dst)
      ++ le72 (x.activation.getD 0#72) }, s)

/-- `TAR_STATUS` (R183). -/
def execTarStatus (src : Src) (s : State) : Host.Outcome State Fault Refusal := runCmd 0x0401 metInfoCheck tarStatusRun src s

/-- NORES with PD10 off, FENCED, and the arguments of a tariff command (R212, R483). -/
def tarCheck (bad : Req → State → Bool) (_ : Src) (r : Req) (s : State) : Option Status :=
  firstFail [(metOff s, .nores), (isFenced s 126, .fenced), (bad r s, .badarg)]

/-- Change the passive copy of a table (R181); logbook 0x404. -/
def editPassive (r : Req) (f : TariffCopy → TariffCopy) (s : State) : State :=
  let t := arg r 0 1
  let x := tableOf s t
  logTariff 0x404 t t r.opcode r.counter [] (setTable t { x with passive := f x.passive } s)

/-- The actions of a day profile. -/
def dayActions (r : Req) : List SwitchAction :=
  (List.range (arg r 2 1)).map fun k =>
    { time := arg r (3 + 6 * k) 4, rate := arg r (7 + 6 * k) 1, friendly := arg r (8 + 6 * k) 1 == 1 }

def tarDayBad (r : Req) (_ : State) : Bool :=
  let a := dayActions r
  decide (8 ≤ arg r 0 1 ∨ 16 ≤ arg r 1 1 ∨ arg r 2 1 < 1 ∨ 16 < arg r 2 1)
    || (a.any fun x => decide (86400 ≤ x.time ∨ x.rate < 1 ∨ 16 < x.rate))
    || ((List.range (arg r 2 1)).any fun k => decide (1 < arg r (8 + 6 * k) 1)) || !(a.any fun x => x.time == 0)

def tarDayRun (_ : Src) (r : Req) (s : State) : Reply × State :=
  ({ payload := le8 (arg r 2 1) }, editPassive r (fun c => { c with days := put [] c.days (arg r 1 1) (dayActions r) }) s)

/-- `TAR_DAY_SET` (R182). -/
def execTarDaySet (src : Src) (s : State) : Host.Outcome State Fault Refusal :=
  runCmd 0x0402 (tarCheck tarDayBad) tarDayRun src s

def weekDays (r : Req) : List Nat := (List.range 7).map fun k => arg r (2 + k) 1

def tarWeekBad (r : Req) (_ : State) : Bool :=
  decide (8 ≤ arg r 0 1 ∨ 8 ≤ arg r 1 1) || (weekDays r).any fun d => decide (16 ≤ d)

def tarWeekRun (_ : Src) (r : Req) (s : State) : Reply × State :=
  ({ payload := r.payload }, editPassive r (fun c => { c with weeks := put [] c.weeks (arg r 1 1) (weekDays r) }) s)

/-- `TAR_WEEK_SET` (R181). -/
def execTarWeekSet (src : Src) (s : State) : Host.Outcome State Fault Refusal :=
  runCmd 0x0403 (tarCheck tarWeekBad) tarWeekRun src s

def tarSeasonBad (r : Req) (_ : State) : Bool :=
  decide (8 ≤ arg r 0 1 ∨ 8 ≤ arg r 1 1 ∨ 12 < arg r 2 1)
    || (arg r 2 1 != 0 && decide (arg r 3 1 < 1 ∨ 31 < arg r 3 1 ∨ 8 ≤ arg r 4 1))

def tarSeasonRun (_ : Src) (r : Req) (s : State) : Reply × State :=
  let x : Option Season := if arg r 2 1 = 0 then none else some { month := arg r 2 1, day := arg r 3 1, week := arg r 4 1 }
  ({ payload := r.payload }, editPassive r (fun c => { c with seasons := put none c.seasons (arg r 1 1) x }) s)

/-- `TAR_SEASON_SET` (R181). -/
def execTarSeasonSet (src : Src) (s : State) : Host.Outcome State Fault Refusal :=
  runCmd 0x0404 (tarCheck tarSeasonBad) tarSeasonRun src s

def tarSpecialBad (r : Req) (_ : State) : Bool :=
  decide (8 ≤ arg r 0 1 ∨ 64 ≤ arg r 1 1 ∨ 12 < arg r 4 1)
    || (arg r 4 1 != 0 && decide (arg r 5 1 < 1 ∨ 31 < arg r 5 1 ∨ 16 ≤ arg r 6 1))

def tarSpecialRun (_ : Src) (r : Req) (s : State) : Reply × State :=
  let x : Option SpecialDay :=
    if arg r 4 1 = 0 then none
    else some { year := arg r 2 2, month := arg r 4 1, day := arg r 5 1, profile := arg r 6 1 }
  ({ payload := r.payload }, editPassive r (fun c => { c with specials := put none c.specials (arg r 1 1) x }) s)

/-- `TAR_SPECIAL_SET` (R181). -/
def execTarSpecialSet (src : Src) (s : State) : Host.Outcome State Fault Refusal :=
  runCmd 0x0405 (tarCheck tarSpecialBad) tarSpecialRun src s

/-- The DST rule at offset `o` of a request. -/
def dstRuleAt (r : Req) (o : Nat) : DstRule :=
  { month := arg r o 1, week := arg r (o + 1) 1, weekday := arg r (o + 2) 1, minute := arg r (o + 3) 2 }

def dstRuleBad (x : DstRule) : Bool :=
  decide (12 < x.month) ||
    (x.month != 0 && decide (x.week < 1 ∨ 5 < x.week ∨ x.weekday < 1 ∨ 7 < x.weekday ∨ 1440 ≤ x.minute))

def tarTableBad (r : Req) (_ : State) : Bool :=
  decide (8 ≤ arg r 0 1 ∨ arg r 1 1 < 1 ∨ 16 < arg r 1 1 ∨ argS r 2 2 < -720 ∨ 840 < argS r 2 2 ∨ 120 < arg r 4 1
    ∨ 28 < arg r 15 1 ∨ 1440 ≤ arg r 16 2) || dstRuleBad (dstRuleAt r 5) || dstRuleBad (dstRuleAt r 10)
    || ((dstRuleAt r 5).month == 0) != ((dstRuleAt r 10).month == 0)

def tarTableRun (_ : Src) (r : Req) (s : State) : Reply × State :=
  ({ payload := r.payload }, editPassive r (fun c => { c with
    defaultRate := arg r 1 1, stdOffset := argS r 2 2, dstShift := arg r 4 1, dstStart := dstRuleAt r 5,
    dstEnd := dstRuleAt r 10, billDay := arg r 15 1, billMinute := arg r 16 2 }) s)

/-- `TAR_TABLE_SET` (R181). -/
def execTarTableSet (src : Src) (s : State) : Host.Outcome State Fault Refusal :=
  runCmd 0x0406 (tarCheck tarTableBad) tarTableRun src s

/-- A copy names a profile that is not defined (R182). -/
def undefinedProfile (c : TariffCopy) : Bool :=
  let noDay (d : Nat) : Bool := (look [] c.days d).isEmpty
  ((List.range 8).any fun w => (look [] c.weeks w).any noDay)
    || ((List.range 8).any fun k => match look none c.seasons k with
        | some x => (look [] c.weeks x.week).isEmpty
        | none => false)
    || (List.range 64).any fun k => match look none c.specials k with
        | some x => noDay x.profile
        | none => false

def tarActivateCheck (_ : Src) (r : Req) (s : State) : Option Status :=
  let t := arg r 0 1
  firstFail [(metOff s, .nores), (isFenced s 126, .fenced),
    (decide (8 ≤ t) || undefinedProfile (tableOf s t).passive, .badarg), ((tableOf s t).activation.isSome, .busy)]

def tarActivateRun (_ : Src) (r : Req) (s : State) : Reply × State :=
  let t := arg r 0 1
  let at_ := argT r 1
  if at_ = 0#72 then
    let now := tbVal s 2
    ({ payload := le72 now }, activateTable t (beforeSwitch s))
  else ({ payload := le72 at_ }, setTable t { tableOf s t with activation := some at_ } s)

/-- `TAR_ACTIVATE` (R182, R185). -/
def execTarActivate (src : Src) (s : State) : Host.Outcome State Fault Refusal :=
  runCmd 0x0407 tarActivateCheck tarActivateRun src s

def tarAssignBad (r : Req) (_ : State) : Bool := decide (32 ≤ arg r 0 1 ∨ 8 ≤ arg r 1 1)

def tarAssignRun (_ : Src) (r : Req) (s : State) : Reply × State :=
  let t := arg r 1 1
  let s := { s with tariff := { s.tariff with assign := put 0 s.tariff.assign (arg r 0 1) t } }
  ({ payload := r.payload }, logTariff 0x404 t t r.opcode r.counter [] s)

/-- `TAR_ASSIGN` (R181). -/
def execTarAssign (src : Src) (s : State) : Host.Outcome State Fault Refusal :=
  runCmd 0x0408 (tarCheck tarAssignBad) tarAssignRun src s

/-! ### Billing registers and periods (R186–R190) -/

def billRegBad (r : Req) (s : State) : Bool :=
  decide (32 ≤ arg r 0 1 ∨ 4 ≤ arg r 1 1 ∨ 16 ≤ arg r 2 1 ∨ arg r 3 1 < 5 ∨ 9 < arg r 3 1 ∨ 3 < arg r 4 1)
    || modeNext s (arg r 0 1) (arg r 2 1) == 0

def billRegRun (_ : Src) (r : Req) (s : State) : Reply × State :=
  let m := arg r 0 1
  let k := arg r 1 1
  let b := slotOf s m k
  let b := { b with digits := arg r 3 1, decimals := arg r 4 1, regNext := some (arg r 2 1) }
  let t := assignOf s m
  ({ payload := r.payload }, logTariff 0x405 t t r.opcode r.counter [] (setSlotOf m k b s))

/-- `BILL_REG_CFG` (R186, R187). -/
def execBillRegCfg (src : Src) (s : State) : Host.Outcome State Fault Refusal :=
  runCmd 0x0409 (tarCheck billRegBad) billRegRun src s

def billCloseBad (r : Req) (_ : State) : Bool := decide (8 ≤ arg r 0 1)

def billCloseRun (_ : Src) (r : Req) (s : State) : Reply × State :=
  let t := arg r 0 1
  let s := closePeriod t .command 0 (tbVal s 2) (scheduledClose t (beforeClose s))
  ({ payload := le32 (epochOf s t) }, s)

/-- `BILL_CLOSE` (R189). -/
def execBillClose (src : Src) (s : State) : Host.Outcome State Fault Refusal :=
  runCmd 0x040A (tarCheck billCloseBad) billCloseRun src s

/-- NORES and BADARG of a command that reads a slot of a point. -/
def slotReadCheck (_ : Src) (r : Req) (s : State) : Option Status :=
  firstFail [(metOff s, .nores), (decide (32 ≤ arg r 0 1 ∨ 4 ≤ arg r 1 1), .badarg)]

def billReadRun (_ : Src) (r : Req) (s : State) : Reply × State :=
  let m := arg r 0 1
  let k := arg r 1 1
  let b := slotOf s m k
  let vals := ((List.range 16).map fun i => wholePart (liveValue (rateReg s m k (i + 1)))) ++
    [wholePart (liveValue (regOf (pointOf s m) b.reg))]
  let t := assignOf s m
  ({ payload := vals.flatMap (leInt 9) ++ (vals.flatMap fun v => le16 (billShown v.toNat b.digits b.decimals).2)
      ++ le32 (epochOf s t) ++ le8 (tableOf s t).rate }, s)

/-- `BILL_READ` (R188). -/
def execBillRead (src : Src) (s : State) : Host.Outcome State Fault Refusal :=
  runCmd 0x040B slotReadCheck billReadRun src s

/-- A window end and value of the maxima, 15 bytes (R190). -/
def maximumBytes (x : Nat × Time) : Bytes := leBytes 6 x.1 ++ le72 x.2

/-- The 1,664 bytes of a history record (R190). -/
def historyBytes (h : History) : Bytes :=
  le32 h.epoch ++ le8 h.cause ++ le8 h.flags ++ le16 h.skipped ++ le72 h.opened ++ le72 h.closed ++ List.replicate 6 0
    ++ padTo 612 (h.regs.flatMap (leInt 9)) ++ padTo 1020 (h.maxima.flatMap maximumBytes)

/-- A record that does not exist is no argument in range. -/
def billHistoryCheck (_ : Src) (r : Req) (s : State) : Option Status :=
  firstFail [(metOff s, .nores),
    (decide (32 ≤ arg r 0 1 ∨ (look [] s.tariff.history (arg r 0 1)).length ≤ arg r 1 1), .badarg)]

def billHistoryRun (_ : Src) (r : Req) (s : State) : Reply × State :=
  ({ payload := historyBytes ((look [] s.tariff.history (arg r 0 1)).getD (arg r 1 1) {}) }, s)

/-- `BILL_HISTORY_READ` (R190). -/
def execBillHistoryRead (src : Src) (s : State) : Host.Outcome State Fault Refusal :=
  runCmd 0x040C billHistoryCheck billHistoryRun src s

/-! ### Demand (R193, R194) -/

def demBad (r : Req) (_ : State) : Bool :=
  let m := arg r 1 1
  let len := arg r 2 1
  let n := arg r 3 1
  decide (32 ≤ arg r 0 1 ∨ 1 < m ∨ 4 ≤ arg r 4 1 ∨ 60 < n * len) || !([1, 5, 10, 15, 30, 60].contains len)
    || (if m = 0 then n != 1 else decide (n < 2 ∨ 15 < n))

def demRun (_ : Src) (r : Req) (s : State) : Reply × State :=
  let m := arg r 0 1
  let c : DemandCfg := { method := arg r 1 1, minutes := arg r 2 1, count := arg r 3 1, include_ := arg r 4 1 }
  let t := assignOf s m
  ({ payload := r.payload },
    logTariff 0x406 t t r.opcode r.counter [] (setDemand m { demandOf s m with cfgNext := some c } s))

/-- `DEM_CFG` (R193, R194). -/
def execDemCfg (src : Src) (s : State) : Host.Outcome State Fault Refusal := runCmd 0x040D (tarCheck demBad) demRun src s

def demReadRun (_ : Src) (r : Req) (s : State) : Reply × State :=
  let k := arg r 1 1
  let d := demandOf s (arg r 0 1)
  ({ payload := leBytes 6 (nthN d.last k) ++ le8 d.lastFlags ++ le72 d.lastTb2
      ++ ((List.range 17).flatMap fun i => maximumBytes (look (0, 0#72) d.maxima (17 * k + i))) }, s)

/-- `DEM_READ` (R193). -/
def execDemRead (src : Src) (s : State) : Host.Outcome State Fault Refusal := runCmd 0x040E slotReadCheck demReadRun src s

/-! ### Prepayment (R198–R200) -/

def prepayBad (r : Req) (_ : State) : Bool :=
  decide (32 ≤ arg r 0 1 ∨ 1 < arg r 1 1 ∨ argS r 74 8 < 0 ∨ 16 ≤ arg r 90 1 ∨ 16 ≤ arg r 91 1 ∨ arg r 92 2 < 20
    ∨ 500 < arg r 92 2 ∨ 1 < arg r 94 1)

/-- A drive or feedback input is used by another user. -/
def driveTaken (s : State) (me : DriveUser) (ctd cfb : Nat) : Bool :=
  let a := look .none s.drives.ctdUser ctd
  let b := look .none s.drives.cfbUser cfb
  (a != .none && a != me) || (b != .none && b != me)

def prepayCheck (_ : Src) (r : Req) (s : State) : Option Status :=
  firstFail [(metOff s || !active s 11, .nores), (isFenced s 126 || isFenced s (128 + arg r 90 1 / 2), .fenced),
    (prepayBad r s, .badarg),
    (arg r 1 1 == 1 && driveTaken s (.point (arg r 0 1)) (arg r 90 1) (arg r 91 1), .busy)]

/-- Release the drive and feedback input of a user. -/
def releaseDrives (u : DriveUser) (s : State) : State :=
  { s with drives := { s.drives with
      ctdUser := s.drives.ctdUser.filter fun x => x.2 != u
      cfbUser := s.drives.cfbUser.filter fun x => x.2 != u } }

/-- Assign a drive and feedback input to a user. -/
def takeDrive (u : DriveUser) (ctd cfb : Nat) (s : State) : State :=
  { s with drives := { s.drives with
      ctdUser := put .none s.drives.ctdUser ctd u, cfbUser := put .none s.drives.cfbUser cfb u } }

/-- Enabled, a point starts in the state that its feedback shows (assumption log 22); disabled, its drive is released
de-energised. -/
def prepayRun (_ : Src) (r : Req) (s : State) : Reply × State :=
  let m := arg r 0 1
  let old := prepayOf s m
  let on := arg r 1 1 == 1
  let u := DriveUser.point m
  let s := if old.enable ∧ (old.ctd ≠ arg r 90 1 ∨ !on) then setDuty old.ctd 0 s else s
  let s := releaseDrives u s
  let p := { old with
    enable := on, prices := (List.range 16).map fun k => arg r (2 + 4 * k) 4, low := argS r 66 8, emergency := argS r 74 8,
    reconnect := argS r 82 8, ctd := arg r 90 1, cfb := arg r 91 1, tfb := arg r 92 2, auto := arg r 94 1 == 1 }
  let s := if on then takeDrive u p.ctd p.cfb s else s
  let p :=
    if on ∧ !old.enable then
      { p with state := if isClosed s p.cfb then .connected else .disconnected, cause := 0, forced := false }
    else p
  let s := setPrepay m p s
  let held := [PrepayState.connected, .lowCredit, .deferred, .closing].contains p.state
  let s := if on ∧ held then setDuty p.ctd 100 s else s
  ({ payload := r.payload }, logPrepay 0x408 m r.opcode r.counter s)

/-- `PREPAY_CFG` (R198). -/
def execPrepayCfg (src : Src) (s : State) : Host.Outcome State Fault Refusal := runCmd 0x040F prepayCheck prepayRun src s

/-- The token id must be greater than the last one (R199). -/
def prepayCreditCheck (_ : Src) (r : Req) (s : State) : Option Status :=
  let m := arg r 0 1
  firstFail [(metOff s, .nores), (isFenced s 126, .fenced), (decide (32 ≤ m), .badarg),
    (decide (arg r 1 4 ≤ (prepayOf s m).token), .stale)]

def prepayCreditRun (_ : Src) (r : Req) (s : State) : Reply × State :=
  let m := arg r 0 1
  let p := prepayOf s m
  let s := setPrepay m { p with credit := p.credit + argS r 5 8 * 2 ^ 32, token := arg r 1 4 } s
  let s := prepayEval m (logPrepay 0x409 m r.opcode r.counter s)
  ({ payload := leInt 8 (creditWhole (prepayOf s m)) }, s)

/-- `PREPAY_CREDIT` (R199). -/
def execPrepayCredit (src : Src) (s : State) : Host.Outcome State Fault Refusal :=
  runCmd 0x0410 prepayCreditCheck prepayCreditRun src s

/-- `PREPAY_SWITCH` auto (R200): the state that the credit selects, through OPENING or CLOSING. -/
def prepayAuto (m : Nat) (s : State) : State :=
  let p := prepayOf s m
  let s := setPrepay m { p with forced := false } s
  let friendly := (tableOf s (assignOf s m)).friendly
  let open_ := creditShort p && !friendly
  let standing : PrepayState := if !creditLow p then .connected else if creditShort p then .deferred else .lowCredit
  match p.state with
  | .fault => setPrepay m p s
  | .opening => if open_ then s else enterClosing m s
  | .disconnected => if open_ then s else enterClosing m s
  | .reconnectReady => if open_ then s else enterClosing m s
  | .closing => if open_ then enterOpening m s else s
  | _ => if open_ then enterOpening m s else setPrepay m { prepayOf s m with state := standing } s

/-- The action of `PREPAY_SWITCH` (R200). -/
def prepaySwitch (m action : Nat) (s : State) : State :=
  let p := prepayOf s m
  if action = 0 then prepayAuto m s
  else if action = 1 then enterOpening m (setPrepay m { p with forced := true } s)
  else if p.state = .fault ∧ !isClosed s p.cfb then setPrepay m { p with state := .disconnected, cause := 0 } s
  else s

def prepaySwitchBad (r : Req) (_ : State) : Bool := decide (32 ≤ arg r 0 1 ∨ 2 < arg r 1 1)

def prepaySwitchRun (_ : Src) (r : Req) (s : State) : Reply × State :=
  let m := arg r 0 1
  let s := prepaySwitch m (arg r 1 1) s
  ({ payload := le8 (prepayCode (prepayOf s m).state) }, s)

/-- `PREPAY_SWITCH` (R200). -/
def execPrepaySwitch (src : Src) (s : State) : Host.Outcome State Fault Refusal :=
  runCmd 0x0411 (tarCheck prepaySwitchBad) prepaySwitchRun src s

/-- BUSY in any state other than RECONNECT_READY (R212), and without credit for it (R200). -/
def prepayReconnectCheck (_ : Src) (r : Req) (s : State) : Option Status :=
  let p := prepayOf s (arg r 0 1)
  firstFail [(metOff s, .nores), (isFenced s 126, .fenced), (decide (32 ≤ arg r 0 1), .badarg),
    (p.state != .reconnectReady || !creditBack p, .busy)]

def prepayReconnectRun (_ : Src) (r : Req) (s : State) : Reply × State :=
  let m := arg r 0 1
  let s := enterClosing m s
  ({ payload := le8 (prepayCode (prepayOf s m).state) }, s)

/-- `PREPAY_RECONNECT` (R200). -/
def execPrepayReconnect (src : Src) (s : State) : Host.Outcome State Fault Refusal :=
  runCmd 0x0412 prepayReconnectCheck prepayReconnectRun src s

def prepayStatusRun (_ : Src) (r : Req) (s : State) : Reply × State :=
  let p := prepayOf s (arg r 0 1)
  ({ payload := le8 (prepayCode p.state) ++ le8 p.cause ++ le8 (b2n p.forced) ++ leInt 8 (creditWhole p) ++ le32 p.token }, s)

/-- `PREPAY_STATUS` (R200). -/
def execPrepayStatus (src : Src) (s : State) : Host.Outcome State Fault Refusal :=
  runCmd 0x0413 metInfoCheck prepayStatusRun src s

/-! ### Tamper records, check value, legal log (R203–R211) -/

def tamperReadCheck (_ : Src) (r : Req) (_ : State) : Option Status := firstFail [(decide (32 ≤ arg r 0 1), .badarg)]

def tamperReadRun (_ : Src) (r : Req) (s : State) : Reply × State :=
  ({ payload := tamperBytes (look {} s.legal.tamper (arg r 0 1)) }, s)

/-- `TAMPER_READ` (R203, R212): the PD0 service section serves it, PD10 on or off. -/
def execTamperRead (src : Src) (s : State) : Host.Outcome State Fault Refusal :=
  runCmd 0x0414 tamperReadCheck tamperReadRun src s

def legalCvReadRun (_ : Src) (_ : Req) (s : State) : Reply × State :=
  ({ payload := padTo 32 s.legal.digest ++ le32 (cvOf s.legal.digest) ++ le72 s.legal.digestTb2 }, s)

/-- `LEGAL_CV_READ` (R206). -/
def execLegalCvRead (src : Src) (s : State) : Host.Outcome State Fault Refusal :=
  runCmd 0x0415 metRotationCheck legalCvReadRun src s

def legalCvShowRun (_ : Src) (_ : Req) (s : State) : Reply × State := ({}, showCvAll s)

/-- `LEGAL_CV_SHOW` (R208). -/
def execLegalCvShow (src : Src) (s : State) : Host.Outcome State Fault Refusal :=
  runCmd 0x0416 metRotationCheck legalCvShowRun src s

/-- The items of a display. -/
def displayItems (r : Req) : List (Nat × Nat × Nat) :=
  (List.range (arg r 3 1)).map fun k => (arg r (4 + 3 * k) 1, arg r (5 + 3 * k) 1, arg r (6 + 3 * k) 1)

def displayBad (r : Req) (_ : State) : Bool :=
  decide (8 ≤ arg r 0 1 ∨ 1 < arg r 1 1 ∨ arg r 2 1 < 2 ∨ 60 < arg r 2 1 ∨ 16 < arg r 3 1)
    || (displayItems r).any fun (m, k, t) => decide (32 ≤ m ∨ 4 ≤ k ∨ 16 < t)

def displayRun (_ : Src) (r : Req) (s : State) : Reply × State :=
  let d := arg r 0 1
  let x := displayOf s d
  let x := { x with enable := arg r 1 1 == 1, scroll := arg r 2 1, items := displayItems r, shown := 0, missed := 0 }
  ({ payload := r.payload }, refresh d (setDisplay d x s))

/-- `LEGAL_DISPLAY_CFG` (R208). -/
def execLegalDisplayCfg (src : Src) (s : State) : Host.Outcome State Fault Refusal :=
  runCmd 0x0417 (tarCheck displayBad) displayRun src s

/-- Entry `i` of the legal log, which is held newest first. -/
def entryNumber (s : State) (i : Nat) : Option LegalEntry :=
  if i < s.legal.entries.length then s.legal.entries[s.legal.entries.length - 1 - i]? else none

def legalLogCheck (_ : Src) (r : Req) (s : State) : Option Status :=
  firstFail [((entryNumber s (arg r 0 2)).isNone, .badarg)]

def legalLogRun (_ : Src) (r : Req) (s : State) : Reply × State :=
  match entryNumber s (arg r 0 2) with
  | some e => ({ payload := entryBytes e ++ le16 s.legal.entries.length }, s)
  | none => (fail .badarg, s)

/-- `LEGAL_LOG_READ` (R209, R212): an entry in use. -/
def execLegalLogRead (src : Src) (s : State) : Host.Outcome State Fault Refusal :=
  runCmd 0x0418 legalLogCheck legalLogRun src s

/-- LEGAL_LOCK unless the legal state is IN_SERVICE (R61: the legal state forbids it). -/
def decommissionCheck (_ : Src) (_ : Req) (s : State) : Option Status :=
  firstFail [(metOff s, .nores), (isFenced s 126, .fenced), (s.legal.state != .inService, .legalLock)]

/-- `LEGAL_DECOMMISSION` (R211): every period closes with FINAL, every register is committed, DECOMMISSIONED is set. -/
def decommissionRun (_ : Src) (r : Req) (s : State) : Reply × State :=
  let s := allTables.foldl (fun s t => closePeriod t .decommission 0 (tbVal s 2) s) (beforeClose s)
  let s := commitAll s
  let s := { s with legal := { s.legal with state := .decommissioned } }
  let s := logEv 0x40F 126 0xFFFF [snapN r.opcode, snapN r.counter, snapN (epochOf s 0), snapN (tableOf s 0).rate] s
  ({ payload := allTables.flatMap fun t => le32 (epochOf s t) }, s)

def execLegalDecommission (src : Src) (s : State) : Host.Outcome State Fault Refusal :=
  runCmd 0x0419 decommissionCheck decommissionRun src s

/-- The code of the legal state (R211). -/
def legalStateCode : LegalState → Nat
  | .none => 0
  | .inService => 1
  | .decommissioned => 2

def legalStatusRun (_ : Src) (_ : Req) (s : State) : Reply × State :=
  let faults := ofBits ((List.range 8).map fun d => (displayOf s d).fault)
  ({ payload := le8 (legalStateCode s.legal.state) ++ le16 s.legal.entries.length ++ le32 (cvOf s.legal.digest)
      ++ le8 faults }, s)

/-- `LEGAL_STATUS` (R211, R212). -/
def execLegalStatus (src : Src) (s : State) : Host.Outcome State Fault Refusal :=
  runCmd 0x041A noCheck legalStatusRun src s

end Sys2Proof.Machine
end

