-- ==== Sys2Proof/Machine/ChargeCommands.lean ====
section
/-! DEFINITION. The commands of the charge points (spec/06_charge_points.md, R214–R245). -/

namespace Sys2Proof.Machine

/-- NORES with PD11 off (R245), then FENCED for a command that addresses a fenced sequencer. -/
def cpCheck (bad : Req → State → Bool) (busy : Req → State → Bool) (_ : Src) (r : Req) (s : State) : Option Status :=
  let n := arg r 0 1
  firstFail [(!active s 11, .nores), (decide (n < 8) && isFenced s (128 + n), .fenced), (decide (8 ≤ n) || bad r s, .badarg),
    (busy r s, .busy)]

/-- The same for a command that reads: it is served while the sequencer is fenced. -/
def cpReadCheck (_ : Src) (r : Req) (s : State) : Option Status :=
  firstFail [(!active s 11, .nores), (decide (8 ≤ arg r 0 1), .badarg)]

def never (_ : Req) (_ : State) : Bool := false

/-- A command of Nulvo reaches the sequencer: its heartbeat is present. -/
def heard (n : Nat) (s : State) : State := setCp n { cpOf s n with nulvoLost := false } s

/-- The configuration commands wait for OFF, IDLE or UNAVAILABLE (R245). -/
def cfgBusy (r : Req) (s : State) : Bool :=
  match (cpOf s (arg r 0 1)).state with
  | .off => false
  | .idle => false
  | .unavailable => false
  | _ => true

/-! ### `CP_CFG` (R214–R216, R229, R240, R245) -/

def cpCfgOf (r : Req) : CpCfg :=
  { dc := arg r 2 1 == 1, digital := arg r 3 1 == 1, authAuto := arg r 4 1 == 1, ctdA := arg r 5 1, ctdB := arg r 6 1,
    cfbA := arg r 7 1, cfbB := arg r 8 1, tfb := arg r 9 2, pullIn := arg r 11 2, hold := arg r 13 1, mp := arg r 14 1,
    reg := arg r 15 1, hwLimit := arg r 16 2, socket := arg r 18 1 == 1, cableLimit := arg r 19 2, pilotGain := argS r 21 4,
    pilotOffset := argS r 25 4, ppGain := arg r 29 4, ppVref := arg r 33 4, ppRpu := arg r 37 2, ventOk := arg r 39 1 == 1,
    rcdEn := arg r 40 1 == 1 }

/-- Values out of range. -/
def cpCfgRange (r : Req) : Bool :=
  let c := cpCfgOf r
  decide (1 < arg r 2 1 ∨ 1 < arg r 3 1 ∨ 1 < arg r 4 1 ∨ 1 < arg r 18 1 ∨ 1 < arg r 39 1 ∨ 1 < arg r 40 1)
    || decide (c.tfb < 20 ∨ 500 < c.tfb ∨ c.pullIn < 50 ∨ 500 < c.pullIn ∨ c.hold < 30 ∨ 100 < c.hold ∨ c.hwLimit < 60
      ∨ 800 < c.hwLimit ∨ 32 ≤ c.mp ∨ 16 ≤ c.reg)
    || decide (16 ≤ c.ctdA ∨ 16 ≤ c.cfbA) || !(c.ctdB == 255 || decide (c.ctdB < 16))
    || !(c.cfbB == 255 || decide (c.cfbB < 16)) || (c.ctdB == 255) != (c.cfbB == 255) || c.ctdA == c.ctdB
    || c.cfbA == c.cfbB

/-- Rules that a configuration breaks (R216, R229, R240, R245). -/
def cpCfgRules (n : Nat) (r : Req) (s : State) : Bool :=
  let c := cpCfgOf r
  let p := pointOf s c.mp
  (c.dc && !c.digital) || !runs p || (cfgOf p c.reg).mode == 0
    || (!c.dc && c.rcdEn && slotAin p.bind 8 == 255)
    || (List.range 8).any fun o => o != n && (cpOf s o).state != .off && (cpOf s o).cfg.mp == c.mp

def cpCfgBad (r : Req) (s : State) : Bool :=
  decide (1 < arg r 1 1) || (arg r 1 1 == 1 && (cpCfgRange r || cpCfgRules (arg r 0 1) r s))

/-- BUSY outside OFF, IDLE and UNAVAILABLE, but for a disable in FAULT (R223, R245); and for a drive or feedback input that
another user has (R215). -/
def cpCfgBusy (r : Req) (s : State) : Bool :=
  let n := arg r 0 1
  let c := cpCfgOf r
  let me := DriveUser.charge n
  (cfgBusy r s && !(arg r 1 1 == 0 && (cpOf s n).state == .fault))
    || (arg r 1 1 == 1 && (driveTaken s me c.ctdA c.cfbA || (c.ctdB != 255 && driveTaken s me c.ctdB c.cfbB)))

def cpCfgRun (_ : Src) (r : Req) (s : State) : Reply × State :=
  let n := arg r 0 1
  let me := DriveUser.charge n
  let s := releaseDrives me (heard n s)
  let s :=
    if arg r 1 1 = 1 then
      let c := cpCfgOf r
      let s := takeDrive me c.ctdA c.cfbA s
      let s := if c.ctdB = 255 then s else takeDrive me c.ctdB c.cfbB s
      let s := setCp n { cpOf s n with cfg := c } s
      if (cpOf s n).state = .off then
        let s := cpGo n .idle (setCp n (freshDecode (cpOf s n)) s)
        if s.power.removal.isSome then cpFault n causeRemoval s else cpRun n s
      else cpRun n s
    else if (cpOf s n).state = .off then s
    else
      let s := endSession n 2 s
      cpGo n .off (setCp n (freshDecode (cpOf s n)) s)
  ({ payload := r.payload }, s)

/-- `CP_CFG` (R214). -/
def execCpCfg (src : Src) (s : State) : Host.Outcome State Fault Refusal :=
  runCmd 0x0501 (cpCheck cpCfgBad cpCfgBusy) cpCfgRun src s

/-! ### `CP_STATUS` (R228, R231) -/

def cpStatusRun (_ : Src) (r : Req) (s : State) : Reply × State :=
  let n := arg r 0 1
  let c := cpOf s n
  let p := pointOf s c.cfg.mp
  let (vh, vl) := c.plateaus.head?.getD (0, 0)
  let ctr (k : Nat) : Bytes := le32 (look 0 s.drives.operations k) ++ le32 (look 0 s.drives.loaded k)
  ({ payload := le8 (cpCode c.state) ++ le8 (pilotCode c.pilot) ++ leInt 2 vh ++ leInt 2 vl ++ le16 c.duty
      ++ le16 (offered c) ++ le32 c.rp ++ le8 c.cause ++ le32 (sessionId c) ++ le32 (nthN p.tick.rms 8 * 1000)
      ++ leInt 4 p.tick.irDc ++ le32 c.rIso ++ ctr c.cfg.ctdA ++ ctr c.cfg.ctdB }, s)

/-- `CP_STATUS` (R228). -/
def execCpStatus (src : Src) (s : State) : Host.Outcome State Fault Refusal := runCmd 0x0502 cpReadCheck cpStatusRun src s

/-! ### `CP_AUTHORISE` (R238) -/

def authoriseBad (r : Req) (s : State) : Bool :=
  decide (2 < arg r 5 1 ∨ arg r 5 1 = 0 ∨ 1 < arg r 6 1) || (arg r 5 1 == 2 && !pncOffered s (cpOf s (arg r 0 1)))

/-- STALE when the session named is not open. -/
def authoriseCheck (src : Src) (r : Req) (s : State) : Option Status :=
  match cpCheck authoriseBad never src r s with
  | some st => some st
  | none =>
    let c := cpOf s (arg r 0 1)
    firstFail [(c.session.isNone || sessionId c != arg r 1 4, .stale)]

def authoriseRun (_ : Src) (r : Req) (s : State) : Reply × State :=
  let n := arg r 0 1
  let s := heard n s
  let c := cpOf s n
  let allow := arg r 6 1 == 1
  let x := c.session.getD {}
  let x := if allow then { x with method := arg r 5 1, identifier := fieldB r.payload 7 24 } else x
  let s := setCp n { c with session := some x, authorised := allow, authPending := false } s
  let s := cpRun n (logCp 0x50A n c.state [] s)
  ({ payload := le8 (cpCode (cpOf s n).state) }, s)

/-- `CP_AUTHORISE` (R238). -/
def execCpAuthorise (src : Src) (s : State) : Host.Outcome State Fault Refusal :=
  runCmd 0x0503 authoriseCheck authoriseRun src s

/-! ### Limit, stop, availability, reset (R221–R224) -/

def limitBad (r : Req) (_ : State) : Bool := (arg r 1 2 != 0 && decide (arg r 1 2 < 60)) || decide (800 < arg r 1 2)

def limitRun (_ : Src) (r : Req) (s : State) : Reply × State :=
  let n := arg r 0 1
  let s := heard n s
  let s := cpRun n (setCp n { cpOf s n with limit := arg r 1 2 } s)
  let c := cpOf s n
  let s :=
    if arg r 1 2 = 0 ∧ c.state = .energised then
      let x := c.session.getD {}
      cpGo n .stopping (setCp n { c with session := some { x with stopped := true } } s)
    else s
  ({ payload := le16 (offered c) ++ le16 (offerDuty c.cfg.digital (offered c)) }, s)

/-- `CP_LIMIT` (R221). -/
def execCpLimit (src : Src) (s : State) : Host.Outcome State Fault Refusal :=
  runCmd 0x0504 (cpCheck limitBad never) limitRun src s

def noBad (_ : Req) (_ : State) : Bool := false

/-- CP_STOP acts in ENERGISED (R223); in any other state it changes nothing. -/
def stopRun (_ : Src) (r : Req) (s : State) : Reply × State :=
  let n := arg r 0 1
  let s := heard n s
  let c := cpOf s n
  let s :=
    if c.state = .energised then
      let x := c.session.getD {}
      cpRun n (cpGo n .stopping (setCp n { c with session := some { x with stopped := true } } s))
    else s
  ({ payload := le8 (cpCode (cpOf s n).state) }, s)

/-- `CP_STOP` (R223). -/
def execCpStop (src : Src) (s : State) : Host.Outcome State Fault Refusal :=
  runCmd 0x0505 (cpCheck noBad never) stopRun src s

def availBad (r : Req) (_ : State) : Bool := decide (1 < arg r 1 1)

def availRun (_ : Src) (r : Req) (s : State) : Reply × State :=
  let n := arg r 0 1
  let s := heard n s
  let s := cpRun n (setCp n { cpOf s n with unavail := arg r 1 1 == 0 } s)
  ({ payload := le8 (cpCode (cpOf s n).state) }, s)

/-- `CP_AVAILABILITY` (R223). -/
def execCpAvailability (src : Src) (s : State) : Host.Outcome State Fault Refusal :=
  runCmd 0x0506 (cpCheck availBad never) availRun src s

/-- The cause of the trip has gone (R223): proximity is a cable or none, and no residual tier trips. -/
def tripGone (c : ChargePoint) : Bool :=
  !(c.cfg.socket && (c.cable == .short || c.cable == .invalid))
    && !(!c.cfg.dc && c.cfg.rcdEn && residualTrips c)

/-- The reset condition of FAULT (R223, R224): 3 s in FAULT, every feedback open, cause gone; during a removal it does not hold
(R522). -/
def resetReady (s : State) (c : ChargePoint) : Bool :=
  c.state == .fault && s.power.removal.isNone && decide (c.faultAt + 3000000 ≤ tb1Us s) && allOpen s c && tripGone c

def resetBusy (r : Req) (s : State) : Bool := !resetReady s (cpOf s (arg r 0 1))

def cpResetRun (_ : Src) (r : Req) (s : State) : Reply × State :=
  let n := arg r 0 1
  let s := endSession n 2 (heard n s)
  let s := setCp n { cpOf s n with cause := 0, agreed := 0, pilot := .a, cableCount := 0, checkA := false, checkB := false } s
  let s := cpGo n .idle s
  ({ payload := le8 (cpCode (cpOf s n).state) }, s)

/-- `CP_RESET` (R224). -/
def execCpReset (src : Src) (s : State) : Host.Outcome State Fault Refusal :=
  runCmd 0x0507 (cpCheck noBad resetBusy) cpResetRun src s

/-! ### Residual and insulation configuration (R229, R230, R234) -/

def rcdBad (r : Req) (_ : State) : Bool :=
  let t1 := arg r 1 4
  let t2 := arg r 5 4
  let t3 := arg r 9 4
  decide (t1 < 100000 ∨ 200000 < t1 ∨ t2 < 30000 ∨ 60000 < t2 ∨ t3 < 3000 ∨ 6000 < t3 ∨ arg r 13 2 < 5000
    ∨ 30000 < arg r 13 2)

def rcdRun (_ : Src) (r : Req) (s : State) : Reply × State :=
  let n := arg r 0 1
  let s := heard n s
  ({ payload := r.payload }, setCp n { cpOf s n with
    tier1 := arg r 1 4, tier2 := arg r 5 4, tier3 := arg r 9 4, testNom := arg r 13 2 } s)

/-- `CP_RCD_CFG` (R229, R230). -/
def execCpRcdCfg (src : Src) (s : State) : Host.Outcome State Fault Refusal :=
  runCmd 0x0508 (cpCheck rcdBad cfgBusy) rcdRun src s

def imdBad (r : Req) (_ : State) : Bool := decide (arg r 1 2 < 500 ∨ 4000 < arg r 1 2 ∨ 1 < arg r 15 1)

def imdRun (_ : Src) (r : Req) (s : State) : Reply × State :=
  let n := arg r 0 1
  let s := heard n s
  ({ payload := r.payload }, setCp n { cpOf s n with
    imdPeriod := arg r 1 2, uInj := arg r 3 2, rI := arg r 5 4, imdGain := arg r 9 4, uMax := arg r 13 2,
    warnOk := arg r 15 1 == 1 } s)

/-- `CP_IMD_CFG` (R232–R234). -/
def execCpImdCfg (src : Src) (s : State) : Host.Outcome State Fault Refusal :=
  runCmd 0x0509 (cpCheck imdBad cfgBusy) imdRun src s

/-! ### Session records (R241, R242) -/

/-- NORES with PD11 off; a record that does not exist is no argument in range. -/
def sessionReadCheck (_ : Src) (r : Req) (s : State) : Option Status :=
  firstFail [(!active s 11, .nores), (decide (64 ≤ arg r 0 1 ∨ s.charge.records.length ≤ arg r 0 1), .badarg)]

def sessionReadRun (_ : Src) (r : Req) (s : State) : Reply × State :=
  let x := s.charge.records.getD (arg r 0 1) {}
  ({ payload := sessionPayload x ++ le8 (b2n x.emitted) }, s)

/-- `CP_SESSION_READ` (R241). -/
def execCpSessionRead (src : Src) (s : State) : Host.Outcome State Fault Refusal :=
  runCmd 0x050A sessionReadCheck sessionReadRun src s

/-- `CP_RECORD_CFG` (R242, R245): NOKEY when the slot does not fit and curve is not 0. -/
def recordCfgCheck (_ : Src) (r : Req) (s : State) : Option Status :=
  let curve := arg r 2 1
  firstFail [(!active s 11, .nores), (decide (128 ≤ arg r 0 1 ∨ 2 < curve), .badarg),
    (curve != 0 && !gkFits s (arg r 1 1) [if curve = 1 then 3 else 4] 3, .nokey)]

def recordCfgRun (_ : Src) (r : Req) (s : State) : Reply × State :=
  ({ payload := r.payload }, { s with charge := { s.charge with
    recHq := arg r 0 1, recSlot := arg r 1 1, recCurve := arg r 2 1 } })

def execCpRecordCfg (src : Src) (s : State) : Host.Outcome State Fault Refusal :=
  runCmd 0x050F recordCfgCheck recordCfgRun src s

/-! ### SLAC, V2G, trust anchors, pilot read -/

def slacStatusRun (_ : Src) (r : Req) (s : State) : Reply × State :=
  let c := cpOf s (arg r 0 1)
  ({ payload := padTo 8 c.slacRun ++ ((List.range 8).flatMap fun k => leInt 2 (nthI c.slacMeans k))
      ++ le8 (b2n c.slacAnswered) }, s)

/-- `CP_SLAC_STATUS` (R236). -/
def execCpSlacStatus (src : Src) (s : State) : Host.Outcome State Fault Refusal :=
  runCmd 0x050B cpReadCheck slacStatusRun src s

/-- The session slots are 0–255, or 0xFFFF for none (R237, R387). -/
def v2gBad (r : Req) (_ : State) : Bool :=
  let slot (v : Nat) : Bool := v == 0xFFFF || decide (v < 256)
  !slot (arg r 1 2) || !slot (arg r 3 2) || decide (1 < arg r 5 1 ∨ arg r 6 1 < 5 ∨ 120 < arg r 6 1)

def v2gRun (_ : Src) (r : Req) (s : State) : Reply × State :=
  let n := arg r 0 1
  let s := heard n s
  ({ payload := r.payload }, setCp n { cpOf s n with
    slotA := arg r 1 2, slotB := arg r 3 2, pnc := arg r 5 1 == 1, authTimeout := arg r 6 1 } s)

/-- `CP_V2G_CFG` (R237, R238). -/
def execCpV2gCfg (src : Src) (s : State) : Host.Outcome State Fault Refusal :=
  runCmd 0x050C (cpCheck v2gBad cfgBusy) v2gRun src s

def trustCheck (_ : Src) (r : Req) (s : State) : Option Status :=
  firstFail [(!active s 11, .nores), (decide (8 ≤ arg r 0 1), .badarg)]

def trustRun (_ : Src) (r : Req) (s : State) : Reply × State :=
  let der := r.payload.drop 1
  ({ payload := padTo 32 (Config.subjectHash der) },
    { s with charge := { s.charge with trust := put [] s.charge.trust (arg r 0 1) der } })

/-- `CP_TRUST_SET` (R238): 0 bytes delete the anchor. -/
def execCpTrustSet (src : Src) (s : State) : Host.Outcome State Fault Refusal := runCmd 0x050D trustCheck trustRun src s

def pilotReadRun (_ : Src) (r : Req) (s : State) : Reply × State :=
  let c := cpOf s (arg r 0 1)
  ({ payload := (List.range 16).flatMap fun k =>
      let (h, l) := c.plateaus.getD k (0, 0)
      leInt 2 h ++ leInt 2 l }, s)

/-- `CP_PILOT_READ` (R218). -/
def execCpPilotRead (src : Src) (s : State) : Host.Outcome State Fault Refusal :=
  runCmd 0x050E cpReadCheck pilotReadRun src s

end Sys2Proof.Machine
end

