-- ==== Sys2Proof/Machine/Fabric.lean ====
section
/-! DEFINITION. The units and their credit classes, the clocks, the words of the fabric and their arbitration, the DRAM arbiter and the
order in which a full module drains (spec/01_module_organisation.md, R16, R18, R31–R33, R38, R42).

A command runs whole, so no word of it stands in a hop between two commands. What the spec says of one hop and of the DRAM controller is
therefore given here as operations over their own data (`FabricHop`, `Arb`); of the arbiters, the state holds that of the DRAM controller, with
the requests that wait long enough to be promoted (assumption log 71). -/

namespace Sys2Proof.Machine

/-! ### Clocks (R18, R19) -/

/-- The clocks of the module. -/
inductive Clock where
  | core
  | cipher
  | fabric
  | dramPhy
  | powerline
  | modulator
  /-- the 40 MHz reference -/
  | reference
  /-- the 32.768 kHz crystal -/
  | crystal
  /-- SCK or TCK, driven from outside -/
  | external
  deriving DecidableEq, Repr

/-- The divisor of a clock from the root PLL at 9.6 GHz; the others are not divided from the root (R18, R19). -/
def clockDivide : Clock → Option Nat
  | .core => some 8
  | .cipher => some 12
  | .fabric => some 16
  | .dramPhy => some 3
  | .powerline => some 120
  | .modulator => some 1200
  | .reference => none
  | .crystal => none
  | .external => none

/-- The frequency of a divided clock, in Hz. -/
def clockHz (c : Clock) : Option Nat := (clockDivide c).map fun d => 9600000000 / d

/-! ### Units and credit classes (R16, R32) -/

/-- Credit classes by their codes (R32). -/
def clsCw : Nat := 0
def clsMt : Nat := 1
def clsIn : Nat := 2
def clsHv : Nat := 3
def clsSp : Nat := 4
def clsLg : Nat := 5

/-- One row of the unit table (R16). -/
structure UnitRow where
  name : String
  count : Nat
  clock : Clock
  domain : Nat
  /-- codes of the credit classes that the unit uses on the fabric -/
  classes : List Nat
  deriving DecidableEq, Repr

/-- The units of the module (R16). The balance engine takes MT and IN and gives HV. -/
def unitTable : List UnitRow :=
  [⟨"Gorjo management cores", 4, .core, 1, [0, 5]⟩, ⟨"SMP", 1, .external, 1, [0]⟩, ⟨"Debug port", 1, .external, 1, []⟩,
   ⟨"Fabric routers, ingress queues, pans, SQ and CQ engines", 1, .fabric, 2, [0, 1, 2, 3, 4, 5]⟩,
   ⟨"TB0, TB1, TB11", 3, .fabric, 2, [0]⟩, ⟨"Milestone FIFO", 1, .fabric, 2, [0]⟩, ⟨"Balance engine", 1, .fabric, 2, [1, 2, 3]⟩,
   ⟨"Logbook staging buffer", 1, .fabric, 2, [5]⟩, ⟨"Reply engine", 1, .fabric, 2, [0]⟩]
  ++ [⟨"FIP0-FIP7", 8, .fabric, 3, [2, 3, 4, 0, 5]⟩, ⟨"FIP8-FIP15", 8, .fabric, 4, [2, 3, 4, 0, 5]⟩,
   ⟨"Cipher lanes", 64, .cipher, 5, [2, 5]⟩, ⟨"PKE", 4, .cipher, 5, [0, 5]⟩, ⟨"DRAM controller", 1, .fabric, 6, [2, 3, 4, 0]⟩,
   ⟨"Ethernet", 4, .fabric, 7, [2, 3, 0]⟩, ⟨"PCIe", 1, .fabric, 7, [2, 3, 0]⟩, ⟨"Aetheno ports", 2, .fabric, 7, [2, 3, 0]⟩,
   ⟨"Serial meter buses", 4, .powerline, 7, [2, 0]⟩]
  ++ [⟨"Powerline channels", 16, .powerline, 8, [2, 0, 5]⟩, ⟨"TB4-TB7", 4, .fabric, 8, [2, 0, 5]⟩,
   ⟨"Radio channels", 6, .powerline, 9, [2, 0, 5]⟩, ⟨"TB8-TB9", 2, .fabric, 9, [2, 0, 5]⟩,
   ⟨"Analog inputs", 96, .modulator, 10, []⟩, ⟨"Modulators", 97, .modulator, 10, []⟩, ⟨"Metrology DSP", 1, .fabric, 10, [1, 5]⟩,
   ⟨"Metering points", 32, .fabric, 10, [1, 5]⟩, ⟨"TB3", 1, .fabric, 10, [1, 5]⟩, ⟨"Tariff engine", 1, .fabric, 10, [1, 5]⟩,
   ⟨"Legal display bus", 1, .fabric, 10, [1, 5]⟩, ⟨"Test pulse outputs", 8, .fabric, 10, [1, 5]⟩]
  ++ [⟨"Auxiliary ADC", 24, .modulator, 11, [1]⟩, ⟨"Charge-point sequencers", 8, .fabric, 11, [1, 0, 5]⟩,
   ⟨"CTD", 16, .fabric, 11, [1, 0, 5]⟩, ⟨"CFB", 16, .fabric, 11, [1, 0, 5]⟩, ⟨"IMI", 8, .fabric, 11, [1, 0, 5]⟩,
   ⟨"TB10", 1, .fabric, 11, [1, 0, 5]⟩, ⟨"Calendar, tamper latches, mask share B, hold-up supervisor", 1, .crystal, 0, []⟩,
   ⟨"Root PLL, power, reset and MRAM controllers", 1, .reference, 0, [0, 5]⟩,
   ⟨"Random number generator, key store controller", 2, .reference, 0, [0, 5]⟩]

/-- A unit uses the fabric only in the classes listed against it (R16). -/
def mayUse (r : UnitRow) (cls : Nat) : Bool := r.classes.contains cls

/-! ### Words (R31, R32) -/

/-- Grain k of a fabric word (R31): 18 bits. -/
def grain (w : BitVec 72) (k : Nat) : Nat := w.toNat / 2 ^ (18 * k) % 2 ^ 18

/-- The grain has even parity over its 18 bits (R31). -/
def grainOk (w : BitVec 72) (k : Nat) : Bool := popCount 18 (grain w k) % 2 == 0

/-- The class code of a fabric word: bit 17 of G1, G2 and G3 (R31). -/
def wordClass (w : BitVec 72) : Nat := ofBits [bitOf (grain w 1) 17, bitOf (grain w 2) 17, bitOf (grain w 3) 17]

/-- The word ends its message: bit 17 of G0 (R31). -/
def wordEnd (w : BitVec 72) : Bool := bitOf (grain w 0) 17

/-- The 64 data bits of a word (R31). -/
def wordData (w : BitVec 72) : Nat := grain w 0 % 2 ^ 16 + 2 ^ 16 * (grain w 1 % 2 ^ 16) + 2 ^ 32 * (grain w 2 % 2 ^ 16) + 2 ^ 48 * (grain w 3 % 2 ^ 16)

/-- A grain from its 16 data bits and its sideband bit, with even parity in bit 16. -/
def grainOf (d side : Nat) : Nat := d % 2 ^ 16 + 2 ^ 17 * (side % 2) + 2 ^ 16 * ((popCount 16 d + side % 2) % 2)

/-- The word of a class with its data and its END mark (R31). -/
def fabricWord (cls data : Nat) (last : Bool) : BitVec 72 :=
  BitVec.ofNat 72 (grainOf data (b2n last) + 2 ^ 18 * grainOf (data / 2 ^ 16) cls + 2 ^ 36 * grainOf (data / 2 ^ 32) (cls / 2)
    + 2 ^ 54 * grainOf (data / 2 ^ 48) (cls / 4))

/-- A hop takes no such word: a grain parity error or a reserved class code (R32). -/
def wordBad (w : BitVec 72) : Bool := !((List.range 4).all (grainOk w)) || decide (5 < wordClass w)

/-! ### Arbitration (R33, R38) -/

/-- The state of an arbiter: what is left of this round's weights of IN, HV and SP, and slots since LG was served. -/
structure Arb where
  left : Nat × Nat × Nat := (4, 3, 2)
  sinceLg : Nat := 0
  deriving DecidableEq, Repr

/-- One of IN, HV and SP by weighted round robin: the first that waits and has weight left; a new round begins when none has. -/
def roundRobin (weights left : Nat × Nat × Nat) (waits : Nat → Bool) : Option (Nat × (Nat × Nat × Nat)) :=
  let pick := fun (l : Nat × Nat × Nat) =>
    if waits 2 && decide (0 < l.1) then some (2, (l.1 - 1, l.2.1, l.2.2))
    else if waits 3 && decide (0 < l.2.1) then some (3, (l.1, l.2.1 - 1, l.2.2))
    else if waits 4 && decide (0 < l.2.2) then some (4, (l.1, l.2.1, l.2.2 - 1))
    else none
  match pick left with
  | some x => some x
  | none => pick weights

/-- The class served next, and the arbiter after it: LG where 63 other slots have passed; else CW, MT with the promoted requests, then
IN, HV and SP by weight, LG last. -/
def arbitrate (weights : Nat × Nat × Nat) (promoted : List Nat) (waits : Nat → Bool) (a : Arb) : Option (Nat × Arb) :=
  let other := fun c (l : Nat × Nat × Nat) => some (c, ({ left := l, sinceLg := a.sinceLg + 1 } : Arb))
  if waits 5 && decide (63 ≤ a.sinceLg) then some (5, { a with sinceLg := 0 })
  else if waits 0 then other 0 a.left
  else if waits 1 then other 1 a.left
  else
    match promoted.find? waits with
    | some c => other c a.left
    | none =>
      match roundRobin weights a.left waits with
      | some (c, l) => other c l
      | none => if waits 5 then some (5, { a with sinceLg := 0 }) else none

/-- Reserved words of a class at a hop, and the shared words it may hold (R33). -/
def reservedWords (cls : Nat) : Nat :=
  if cls = 0 ∨ cls = 1 ∨ cls = 4 then 8 else if cls = 2 then 16 else if cls = 3 then 12 else 4

def sharedWords (cls : Nat) : Nat := if cls ≤ 1 then 0 else if cls = 5 then 2 else 4

/-- Words of the shared pool (R33). -/
def sharedPool : Nat := 8

/-- The receive buffer of a hop: the words of each class, oldest first, and the output arbiter. -/
structure FabricHop where
  queues : Tab (List (BitVec 72)) := []
  arb : Arb := {}
  deriving DecidableEq, Repr

def FabricHop.words (h : FabricHop) (cls : Nat) : List (BitVec 72) := look [] h.queues cls

/-- Words of a class that stand in the shared pool: those above its reserve. -/
def FabricHop.shared (h : FabricHop) (cls : Nat) : Nat := (h.words cls).length - reservedWords cls

def FabricHop.sharedUsed (h : FabricHop) : Nat := sumN ((List.range 6).map h.shared)

/-- The hop has a place for a word of the class: in its reserve, or in the shared pool within the bound of the class (R33). -/
def FabricHop.hasRoom (h : FabricHop) (cls : Nat) : Bool :=
  decide ((h.words cls).length < reservedWords cls)
    || (decide (h.shared cls < sharedWords cls) && decide (h.sharedUsed < sharedPool))

/-- A word arrives: a bad one is discarded (R32), and without a place it stays at the sending hop. -/
def FabricHop.accept (h : FabricHop) (w : BitVec 72) : Option FabricHop :=
  let c := wordClass w
  if wordBad w || !h.hasRoom c then none else some { h with queues := put [] h.queues c (h.words c ++ [w]) }

/-- The word that leaves the hop, where one waits (R33). -/
def FabricHop.send (h : FabricHop) : Option (BitVec 72 × FabricHop) :=
  match arbitrate (4, 3, 2) [] (fun c => !(h.words c).isEmpty) h.arb with
  | some (c, a) =>
    match h.words c with
    | w :: r => some (w, { queues := put [] h.queues c r, arb := a })
    | [] => none
  | none => none

/-! ### When everything is full (R42) -/

/-- The classes in the order in which a full module drains: CW, MT, SP, HV, IN, and LG after admission has stopped. -/
def drainOrder : List Nat := [clsCw, clsMt, clsSp, clsHv, clsIn, clsLg]

/-- What a class waits on: IN on HV, HV on SP, SP on the DRAM controller alone; CW, MT and LG on nothing (R42). -/
def waitsOn (cls : Nat) : List Nat := if cls = clsIn then [clsHv] else if cls = clsHv then [clsSp] else []

end Sys2Proof.Machine
end

