-- ==== Sys2Proof/Machine/Uplink.lean ====
section
/-! DEFINITION. The uplink of a MODE 2 queue, the rows that receive DX envelopes, and the serial meter buses
(spec/09_ingest_pipelines.md, R314, R347, R351–R356). -/

namespace Sys2Proof.Machine

/-! ### The uplink (R356) -/

/-- The inner frame of a RAW record (R353); nothing for another record. -/
def innerOf (rec : Bytes) : Option Bytes :=
  if fieldU rec 0 1 = 9 then
    let l := fieldU rec 32 2
    let port := fieldU rec 25 1
    let m := fieldB rec 54 10
    let meta_ :=
      if 0x20 ≤ port ∧ port < 0x30 then fieldB m 6 1 ++ fieldB m 7 1 ++ fieldB m 3 2 ++ fieldB m 5 1
      else if 0x30 ≤ port ∧ port < 0x40 then fieldB m 2 1 ++ fieldB m 3 1 ++ fieldB m 0 1
      else []
    let body := le16 l ++ le8 port ++ le8 (fieldU rec 12 4 % 2) ++ fieldB rec 36 9 ++ padTo 8 meta_ ++ [0, 0, 0]
      ++ fieldB rec 64 l
    some (padTo ((body.length + 3) / 4 * 4) body)
  else none

/-- The uplink works: configured, its port in service, and the store of envelopes in DRAM present. -/
def uplinkRuns (s : State) : Bool :=
  let u := s.ingest.uplink
  fabricUp s && u.enable && active s 7 && active s 6 && !isFenced s (93 + u.eth)

/-- Put an envelope on the wire: as it is, or sealed under its DTLS slot (R351). -/
def sendEnvelope (u : Uplink) (b : Bytes) (s : State) : State :=
  if u.dtls = 0xFFFF then emit (.frame (32 + u.eth) b) s else queueSession u.dtls (.seal u.dtls b (some u.eth)) s

/-- Send the open envelope: it awaits its ACK. -/
def closeEnvelope (s : State) : State :=
  let u := s.ingest.uplink
  let body := u.inner.flatten
  let b := envelopeHeader s 1 u.nextSeq u.inner.length body.length ++ body
  let s := setUplink { u with
    nextSeq := (u.nextSeq + 1) % 2 ^ 32, inner := [], records := [],
    unacked := u.unacked ++ [{ seq := u.nextSeq, bytes := b, records := u.records, wait := u.retransmit }] } s
  sendEnvelope u b s

/-- Add a record to the open envelope, which is sent first when the record would push it past the maximum (R356). -/
def addRecord (q : Nat) (p : Packet) (s : State) : State :=
  match innerOf p.bytes with
  | none => s
  | some b =>
    let u := s.ingest.uplink
    let size := 32 + sumN (u.inner.map List.length) + b.length
    let s := if u.inner ≠ [] ∧ (u.max < size ∨ 255 ≤ u.inner.length) then closeEnvelope s else s
    let u := s.ingest.uplink
    setUplink { u with inner := u.inner ++ [b], records := u.records ++ [(q, p.seq, p.reply)] } s

/-- The uplink takes the next packet of its MODE 2 queue, unless the store of envelopes is full (R356). -/
def uplinkPull (q : Nat) (s : State) : State :=
  let h := hqOf s q
  if uplinkRuns s && s.ingest.uplink.hq == q && decide (s.ingest.uplink.unacked.length < 16384) then
    match nextPacket h with
    | .pond p => addRecord q p (countRead q (takeNext q (.pond p) s))
    | .panA p => addRecord q p (countRead q (takeNext q (.panA p) s))
    | .panB p => addRecord q p (countRead q (takeNext q (.panB p) s))
    | .none => s
  else s

/-- `PACKET_WRITE_TO_RING` (R66): the next packet of a queue goes to its consumer: the host ring of a MODE 0 queue, the uplink of
a MODE 2 queue. -/
def execPacketWriteToRing (hq : Nat) (s : State) : Host.Outcome State Fault Refusal :=
  within "harvest queue" hq 128
    (if (hqOf s hq).en && hqMode (hqOf s hq).cfg == 2 then uplinkPull hq s else packetToRing hq s)

/-- `DX_ENVELOPE_TIMEOUT` (R356): the open envelope is sent. -/
def envelopeTimeout (s : State) : State :=
  if uplinkRuns s && decide (s.ingest.uplink.inner ≠ []) && decide (s.ingest.uplink.unacked.length < 16384) then closeEnvelope s
  else s

def execDxEnvelopeTimeout (s : State) : Host.Outcome State Fault Refusal := .next (envelopeTimeout s)

/-- `DX_RETRANSMIT_TIMEOUT` (R356): an envelope without its ACK is sent again; the time doubles up to 10 s; the eighth attempt
writes 0x809. -/
def retransmitEnvelope (seq : Nat) (s : State) : State :=
  let u := s.ingest.uplink
  match u.unacked.find? fun e => e.seq == seq with
  | none => s
  | some e =>
    if uplinkRuns s then
      let e' := { e with attempts := e.attempts + 1, wait := min 10000 (2 * e.wait) }
      let s := setUplink { u with unacked := u.unacked.map fun x => if x.seq = seq then e' else x } s
      let s := if e'.attempts = 8 then logEv 0x809 (93 + u.eth) 0xFFFF [0, 0, snapN (0x40 + u.eth)] s else s
      sendEnvelope u e.bytes s
    else s

def execDxRetransmitTimeout (seq : Nat) (s : State) : Host.Outcome State Fault Refusal := .next (retransmitEnvelope seq s)

/-! ### Receiving envelopes (R351–R355) -/

/-- `DX_ACK_RECEIVE` (R354): the envelope is released and its records are delivered. -/
def execDxAckReceive (eth : Nat) (bytes : Bytes) (s : State) : Host.Outcome State Fault Refusal :=
  within "ETH port" eth 4 (ackReceive eth bytes s)

/-- `DX_DATA_RECEIVE` (R355): `b` is the UDP payload. A DTLS record is queued for its OPEN, and its envelope enters as the lane releases it
(R351, R389). -/
def dataReceive (eth : Nat) (addr : Bytes) (udp : Nat) (b : Bytes) (s : State) : State :=
  if ethRuns s eth then
    if udp ≠ udpPort s (0x40 + eth) then toNulvo (0x40 + eth) b s
    else if dtlsRecord b then
      match dtlsSlotOf s addr with
      | some i => queueSession i (.openRec i b (some { eth := eth, addr := addr, rx := tbVal s 0, untrusted := timeUntrusted s })) s
      | none => rejectEnvelope eth s
    else envelopeReceive none { eth := eth, addr := addr, rx := tbVal s 0, untrusted := timeUntrusted s } b s
  else s

/-- A datagram whose frame check or checksum is wrong goes no further (PRESUMED, assumption log 80). -/
def execDxDataReceive (eth : Nat) (addr : Bytes) (udpPort : Nat) (fcsOk sumOk : Bool) (bytes : Bytes) (s : State) :
    Host.Outcome State Fault Refusal :=
  within "ETH port" eth 4 (if fcsOk && sumOk then dataReceive eth addr udpPort bytes s else s)

/-! ### Serial meter buses (R314) -/

/-- The request that waits on a bus ends: answered or not (SMB_TX). -/
def endRequest (n : Nat) (answered : Bool) (s : State) : State :=
  let b := smbOf s n
  match b.requests with
  | [] => s
  | r :: rest =>
    finishHost (some (r.sq, r.idx)) { payload := le8 (b2n answered) ++ le72 (tbVal s 0) } (setSmb n { b with requests := rest } s)

/-- A frame that is received (R314): `ok` says that framing and check are right, `collision` that SMBn_CD was high during it, `apdu` that the
frame carries a DLMS/COSEM APDU, which is `bytes`. The spec does not say what a collision does: on an M-Bus it counts as an error of the
frame; in the other mode the pin is no input (DESIGN CHOICE, assumption log 78). -/
def smbReceive (n : Nat) (ok collision apdu : Bool) (addr : Nat) (b : Bytes) (s : State) : State :=
  let x := smbOf s n
  if fabricUp s && active s 7 && !isFenced s (99 + n) && x.mode != 0 then
    if ok && !(collision && x.mode == 2) then
      let s := endRequest n true s
      if !apdu || decide (2048 < b.length) || b.isEmpty then toNulvo (0x10 + n) b s
      else
        let d := keyed { port := 0x10 + n, rxTb0 := tbVal s 0, untrusted := timeUntrusted s, srcMeta := padTo 16 (le16 addr), srcAddr := addr % 65536,
                         bytes := b } (linkAddress (0x10 + n) 0 addr)
        match placeFrame d s with
        | some s' => s'
        | none => let x := smbOf s n; setSmb n { x with noRoom := (x.noRoom + 1) % 2 ^ 32 } s
    else
      logEv 0x80C (99 + n) 0xFFFF [0, 0, snapN (0x10 + n)] (setSmb n { x with errors := (x.errors + 1) % 2 ^ 32 } s)
  else s

/-- `SMB_FRAME_RECEIVE` (R314). -/
def execSmbFrameReceive (bus : Nat) (line : SmbLine) (apdu : Bool) (addr : Nat) (bytes : Bytes) (s : State) :
    Host.Outcome State Fault Refusal :=
  within "serial meter bus" bus 4 (smbReceive bus line.ok line.collision apdu addr bytes s)

end Sys2Proof.Machine
end

