-- ==== Sys2Proof/Machine/IngestCommands.lean ====
section
/-! DEFINITION. The commands of ingest, and the fetch of a submission-queue entry (spec/09_ingest_pipelines.md, R313–R358;
spec/02_host_interface_nulvo.md, R71, R72). -/

namespace Sys2Proof.Machine

/-! ### Pipelines and steering -/

/-- A command names a pipeline whose domain is off (R358). -/
def fipOff (s : State) (n : Nat) : Bool := decide (n < 16) && !active s (fipDomain n)

def ingStatusCheck (_ : Src) (r : Req) (s : State) : Option Status :=
  let n := arg r 0 1
  firstFail [(fipOff s n, .nores), (decide (16 ≤ n), .badarg)]

def ingStatusRun (_ : Src) (r : Req) (s : State) : Reply × State :=
  let n := arg r 0 1
  let f := fipOf s n
  ({ payload := le8 (b2n (admits s n)) ++ le8 f.flights.length ++ le16 (fifoFree s n) ++ le32 f.admitted ++ le32 f.completed
      ++ le32 f.discarded ++ le32 f.noContext ++ le32 f.authFail ++ le32 f.dup ++ le32 f.replay ++ le32 f.learnSkipped
      ++ le32 f.jtParity }, s)

def execIngStatus (src : Src) (s : State) : Host.Outcome State Fault Refusal := runCmd 0x0801 ingStatusCheck ingStatusRun src s

def fipCfgCheck (_ : Src) (r : Req) (s : State) : Option Status :=
  let n := arg r 0 1
  firstFail [(fipOff s n, .nores), (decide (n < 16) && isFenced s (8 + n), .fenced),
    (decide (16 ≤ n ∨ 128 ≤ arg r 1 1 ∨ 1 < arg r 3 1 ∨ 1 < arg r 4 1) || (decide (128 ≤ arg r 2 1) && arg r 2 1 != 0xFF), .badarg),
    (decide ((fipOf s n).flights ≠ []), .busy)]

/-- `FIP_CFG` (R321, R333, R343). -/
def fipCfgRun (_ : Src) (r : Req) (s : State) : Reply × State :=
  let n := arg r 0 1
  ({ payload := r.payload }, setFip n { fipOf s n with
    hq := arg r 1 1, uhq := arg r 2 1, evict := arg r 3 1, uplinkUnknown := arg r 4 1 } s)

def execFipCfg (src : Src) (s : State) : Host.Outcome State Fault Refusal := runCmd 0x0802 fipCfgCheck fipCfgRun src s

/-- The pipelines that a steering map names. -/
def mapOf (r : Req) : List Nat := (List.range 64).map fun i => arg r i 1

def ingSteerSetCheck (_ : Src) (r : Req) (s : State) : Option Status :=
  firstFail [((mapOf r).any (fipOff s), .nores),
    ((mapOf r).any (fun n => decide (16 ≤ n)) || decide (arg r 64 1 < 8 ∨ 128 < arg r 64 1), .badarg)]

/-- `ING_STEER_SET` (R319). -/
def ingSteerSetRun (_ : Src) (r : Req) (s : State) : Reply × State :=
  let m := (List.range 64).foldl (fun t i => put 0 t i (arg r i 1 + 1)) s.ingest.steerMap
  ({ payload := r.payload }, { s with ingest := { s.ingest with steerMap := m, steerLow := arg r 64 1 } })

def execIngSteerSet (src : Src) (s : State) : Host.Outcome State Fault Refusal :=
  runCmd 0x0803 ingSteerSetCheck ingSteerSetRun src s

/-- The fault unit of a port code (R312, R478). -/
def portUnit (p : Nat) : Option Nat :=
  if 0x10 ≤ p ∧ p < 0x14 then some (99 + (p - 0x10))
  else if 0x20 ≤ p ∧ p < 0x30 then some (103 + (p - 0x20))
  else if 0x30 ≤ p ∧ p < 0x36 then some (119 + (p - 0x30))
  else if 0x40 ≤ p ∧ p < 0x44 then some (93 + (p - 0x40))
  else none

/-- SMB and ETH ports lie in PD7 (R358). -/
def portNeeds7 (p : Nat) : Bool := decide (0x10 ≤ p ∧ p < 0x14) || decide (0x40 ≤ p ∧ p < 0x44)

/-- Some pipeline has frames in flight. -/
def anyFlight (s : State) : Bool := s.ingest.fips.any fun p => !p.2.flights.isEmpty

def ingPortCfgCheck (_ : Src) (r : Req) (s : State) : Option Status :=
  let p := arg r 0 1
  let fenced := match portUnit p with
    | some u => isFenced s u
    | none => false
  firstFail [(portNeeds7 p && !active s 7, .nores), (fenced, .fenced),
    ((portUnit p).isNone || decide (1 < arg r 1 1 ∨ 1 < arg r 2 1 ∨ 7 < arg r 5 1), .badarg), (anyFlight s, .busy)]

/-- `ING_PORT_CFG` (R313). -/
def ingPortCfgRun (_ : Src) (r : Req) (s : State) : Reply × State :=
  let c : PortCfg := { framing := arg r 1 1, ack := arg r 2 1, udp := arg r 3 2, pfc := arg r 5 1 }
  ({ payload := r.payload }, { s with ingest := { s.ingest with ports := put {} s.ingest.ports (arg r 0 1) c } })

def execIngPortCfg (src : Src) (s : State) : Host.Outcome State Fault Refusal :=
  runCmd 0x0804 ingPortCfgCheck ingPortCfgRun src s

/-! ### Templates (R345, R348) -/

/-- Capture object `k` of a request. -/
def objectOf (r : Req) (k : Nat) : CaptureObj :=
  let o := 2 + 10 * k
  { obis := fieldB r.payload o 6, attr := arg r (o + 6) 1, scaler := argS r (o + 7) 1, unit := arg r (o + 8) 1,
    kind := arg r (o + 9) 1 }

def ingParseSetCheck (_ : Src) (r : Req) (s : State) : Option Status :=
  let n := arg r 1 1
  firstFail [(decide (16 ≤ arg r 0 1 ∨ 32 < n) || (List.range n).any (fun k => decide (2 < (objectOf r k).kind)), .badarg),
    (anyFlight s, .busy)]

def ingParseSetRun (_ : Src) (r : Req) (s : State) : Reply × State :=
  let t := (List.range (arg r 1 1)).map (objectOf r)
  ({ payload := r.payload }, { s with ingest := { s.ingest with templates := put [] s.ingest.templates (arg r 0 1) t } })

def execIngParseSet (src : Src) (s : State) : Host.Outcome State Fault Refusal :=
  runCmd 0x0805 ingParseSetCheck ingParseSetRun src s

def ingAckTemplateCheck (_ : Src) (r : Req) (s : State) : Option Status :=
  firstFail [(decide (16 ≤ arg r 0 1 ∨ 1 < arg r 1 1 ∨ arg r 2 1 < 1 ∨ 96 < arg r 2 1), .badarg), (anyFlight s, .busy)]

def ingAckTemplateRun (_ : Src) (r : Req) (s : State) : Reply × State :=
  let t := (arg r 1 1 == 1, fieldB r.payload 3 (arg r 2 1))
  ({ payload := r.payload },
    { s with ingest := { s.ingest with ackTemplates := put (false, []) s.ingest.ackTemplates (arg r 0 1) t } })

def execIngAckTemplate (src : Src) (s : State) : Host.Outcome State Fault Refusal :=
  runCmd 0x0806 ingAckTemplateCheck ingAckTemplateRun src s

/-! ### The context directory (R336) -/

/-- The slots of a directory bucket. -/
def dirSlots (b : Nat) : List Nat := [0, 1, 2, 3].map fun k => 4 * b + k

/-- The first free slot of a directory bucket. -/
def dirFree (s : State) (b : Nat) : Option Nat := (dirSlots b).find? fun i => (dirSlot s i).isNone

/-- Cuckoo relocation in the directory; nothing where the last displaced entry finds no place. -/
def dirRelocate : Nat → DirEntry → Nat → Option Nat → State → Option State
  | 0, _, _, _, _ => none
  | fuel + 1, e, b, but, s =>
    let slots := (dirSlots b).filter fun i => but != some i
    let (k, s) := drawBelow slots.length s
    let v := slots.getD k (slots.headD 0)
    match dirSlot s v with
    | none => some (setDir v (some e) s)
    | some old =>
      let s := setDir v (some e) s
      let other := if hashD0 old.title = b then hashD1 old.title else hashD0 old.title
      match dirFree s other with
      | some i => some (setDir i (some old) s)
      | none => dirRelocate fuel old other (some v) s

/-- Enter a title into the directory: the held entry is updated, a free slot taken, or up to 64 entries are moved. -/
def dirInsert (e : DirEntry) (s : State) : Option State :=
  match dirFind s e.title with
  | some (i, _) => some (setDir i (some e) s)
  | none =>
    match dirFree s (hashD0 e.title) with
    | some i => some (setDir i (some e) s)
    | none =>
      match dirFree s (hashD1 e.title) with
      | some i => some (setDir i (some e) s)
      | none => dirRelocate 64 e (hashD0 e.title) none s

/-- Remove the title of context `i`, where the directory holds it for that context. -/
def dirRemove (title i : Nat) (s : State) : State :=
  match dirFind s title with
  | some (k, e) => if e.ctx = i then setDir k none s else s
  | none => s

/-! ### Contexts (R338, R339, R358) -/

/-- Context commands need PD6 (R358). -/
def ctxGate (r : Req) (s : State) : List (Bool × Status) :=
  [(!active s 6, .nores), (isFenced s 92, .fenced), (decide (2097152 ≤ arg r 0 4), .badarg)]

/-- The bits of byte `i` outside `m` are 0: reserved bits read as 0, whatever is written there (R10). -/
def maskAt (i m : Nat) (b : Bytes) : Bytes := setAt b i (b.getD i 0 &&& BitVec.ofNat 8 m)

/-- Line 0 without its reserved fields: FLAGS has 4 bits, bytes 10–15 are reserved, and the wrapped keys are 0 unless KEYMODE is 1
(R338). -/
def cleanLine0 (wrapped : Bool) (b : Bytes) : Bytes :=
  let b := [10, 11, 12, 13, 14, 15].foldl (fun b i => maskAt i 0 b) (maskAt 9 15 b)
  if wrapped then b else b.take 16 ++ List.replicate 48 0

/-- Line 3 without its reserved bits: ACK_TEMPLATE 6:4, BGROUP 30:17 and PHASE 7:3 (R338, R392). -/
def cleanLine3 (b : Bytes) : Bytes := maskAt 43 7 (maskAt 11 0x80 (maskAt 10 1 (maskAt 6 0x8F b)))

/-- The context that a CTX_WRITE writes: lines 0 and 3 of the request, GEN, SEQ1 and SEQ2 advanced, lines 1 and 2 zeroed with
INIT. -/
def ctxWritten (r : Req) (c : Ctx) : Ctx :=
  let line3 := cleanLine3 (fieldB r.payload 69 64)
  let wrapped := fieldU line3 3 1 == 1
  let line0 := setAt (cleanLine0 wrapped (fieldB r.payload 5 64)) 8 (BitVec.ofNat 8 (ctxGen c + 1))
  let d : Ctx := if arg r 4 1 = 1 then {} else c
  { d with line0 := line0, line3 := line3, seq1 := (c.seq1 + 1) % 2 ^ 32, seq2 := (c.seq2 + 1) % 2 ^ 32 }

/-- The titles that a CTX_WRITE or CTX_DELETE enters or removes. -/
def ctxTitles (r : Req) (s : State) : List Nat :=
  let new := ctxWritten r {}
  ctxTitle (ctxOf s (arg r 0 4)) :: (if r.opcode = 0x0807 ∧ ctxValid new then [ctxTitle new] else [])

/-- The commands that mailboxes and queues other than `src` are running: taken or fetched, their turn come, and not complete. -/
def runningElsewhere (src : Src) (s : State) : List Req :=
  let mbs := (List.range 64).map Src.mb
  let sqs := (List.range 64).flatMap fun q => (sqOf s q).running.map fun e => Src.sq q e.idx
  let other (x : Src) : Bool := match src, x with
    | .mb n, .mb m => n != m
    | .sq n _, .sq m _ => n != m
    | _, _ => true
  ((mbs ++ sqs).filter other).filterMap (takenReq s)

/-- Another mailbox or queue is running a CTX_WRITE or CTX_DELETE of the same index or of a same title (R358). -/
def ctxBusy (src : Src) (r : Req) (s : State) : Bool :=
  (runningElsewhere src s).any fun x =>
    (x.opcode == 0x0807 || x.opcode == 0x0809)
      && (arg x 0 4 == arg r 0 4 || (ctxTitles x s).any (ctxTitles r s).contains)

def ctxWriteCheck (src : Src) (r : Req) (s : State) : Option Status :=
  let i := arg r 0 4
  let c := ctxWritten r {}
  let held := match dirFind s (ctxTitle c) with
    | some (_, e) => e.ctx != i
    | none => false
  firstFail (ctxGate r s ++ [(decide (1 < arg r 4 1 ∨ 1 < ctxSuite c ∨ 63 < ctxOmk c ∨ 1 < ctxKeyMode c
    ∨ (ctxKeyMode c = 1 ∧ ctxSuite c = 1)) || (ctxValid c && held), .badarg), (ctxBusy src r s, .busy)])

/-- `CTX_WRITE` (R339): when the directory cannot take the title, NORES and 0x804, with nothing changed. -/
def ctxWriteRun (_ : Src) (r : Req) (s : State) : Reply × State :=
  let i := arg r 0 4
  let old := ctxOf s i
  let new := ctxWritten r old
  let cleared := if ctxValid new ∧ ctxTitle new = ctxTitle old then s else dirRemove (ctxTitle old) i s
  let entered :=
    if ctxValid new then dirInsert { title := ctxTitle new, ctx := i, gen := ctxGen new } cleared else some cleared
  match entered with
  | none => (fail .nores, logEv 0x804 0xFFFF 0xFFFF [snapN i, 0, 0] s)
  | some s => ({ payload := le8 (ctxGen new) }, membersUpdate i old new (setCtx i new s))

def execCtxWrite (src : Src) (s : State) : Host.Outcome State Fault Refusal := runCmd 0x0807 ctxWriteCheck ctxWriteRun src s

def ctxCheck (_ : Src) (r : Req) (s : State) : Option Status := firstFail (ctxGate r s)

def ctxReadRun (_ : Src) (r : Req) (s : State) : Reply × State := ({ payload := ctxBytes (ctxOf s (arg r 0 4)) }, s)

def execCtxRead (src : Src) (s : State) : Host.Outcome State Fault Refusal := runCmd 0x0808 ctxCheck ctxReadRun src s

/-- `CTX_DELETE` (R339). -/
def ctxDeleteRun (_ : Src) (r : Req) (s : State) : Reply × State :=
  let i := arg r 0 4
  let old := ctxOf s i
  let line0 := setAt (setAt old.line0 8 (BitVec.ofNat 8 (ctxGen old + 1))) 9 (BitVec.ofNat 8 (bitClear (ctxFlags old) 0))
  let new := { old with line0 := line0, seq1 := (old.seq1 + 1) % 2 ^ 32, seq2 := (old.seq2 + 1) % 2 ^ 32 }
  ({ payload := le8 (ctxGen new) }, membersUpdate i old new (setCtx i new (dirRemove (ctxTitle old) i s)))

def execCtxDelete (src : Src) (s : State) : Host.Outcome State Fault Refusal := runCmd 0x0809 ctxCheck ctxDeleteRun src s

/-! ### Junction tables (R330, R334) -/

def jtInvalidateCheck (_ : Src) (r : Req) (_ : State) : Option Status :=
  firstFail [(decide (1 < arg r 0 1) || (arg r 0 1 == 0 && decide (2097152 ≤ arg r 1 4)), .badarg)]

/-- `JT_INVALIDATE` (R334): in every table, the entries of one context, or every entry. -/
def jtInvalidateRun (_ : Src) (r : Req) (s : State) : Reply × State :=
  let hit (e : BitVec 128) : Bool := jtValid e && (arg r 0 1 == 1 || jtCtx e == arg r 1 4)
  let n := (s.ingest.junction.filter fun p => hit p.2).length
  ({ payload := le32 n }, { s with ingest := { s.ingest with junction := s.ingest.junction.filter fun p => !hit p.2 } })

def execJtInvalidate (src : Src) (s : State) : Host.Outcome State Fault Refusal :=
  runCmd 0x080A jtInvalidateCheck jtInvalidateRun src s

def jtReadCheck (_ : Src) (r : Req) (s : State) : Option Status :=
  let n := arg r 0 1
  let c := arg r 3 2
  firstFail [(fipOff s n, .nores), (decide (n < 16) && isFenced s (8 + n), .fenced),
    (decide (16 ≤ n ∨ 8192 < arg r 1 2 + c ∨ c < 1 ∨ 1023 < c), .badarg)]

/-- `JT_READ` (R330): the entries of `count` buckets, 64 bytes each. -/
def jtReadRun (_ : Src) (r : Req) (s : State) : Reply × State :=
  let n := arg r 0 1
  ({ payload := (List.range (arg r 3 2)).flatMap fun k =>
      (bucketSlots n (arg r 1 2 + k)).flatMap fun i => leBytes 16 (jtAt s i).toNat }, s)

def execJtRead (src : Src) (s : State) : Host.Outcome State Fault Refusal := runCmd 0x080B jtReadCheck jtReadRun src s

/-! ### `ING_SUBMIT` (R312, R358) -/

/-- The descriptor of a submitted frame (R315). -/
def submitDesc (sq idx : Nat) (r : Req) (at_ : Time) (untrusted : Bool) : IngDesc :=
  keyed { port := 0x50, rxTb0 := at_, untrusted := untrusted, srcMeta := padTo 16 (le16 r.tag ++ le8 sq), host := some (sq, idx),
          bytes := r.payload } 0

def ingSubmitCheck (_ : Src) (_ : Req) (s : State) : Option Status :=
  firstFail [((List.range 16).all (fipOff s), .nores)]

/-- A submitted frame is steered and placed; its entry completes with the frame. -/
def ingSubmitRun (src : Src) (r : Req) (s : State) : Reply × State :=
  match src with
  | .sq n idx =>
    let (at_, bad) := match entryAt s n idx with
      | some e => (e.fetched, e.untrusted)
      | none => (0, false)
    let d := submitDesc n idx r at_ bad
    (match steerTo s d.steer d.bytes.length with
     | some f => (fail .accepted, claimEntry (some (n, idx)) (8 + f) (placeIn f d s))
     | none => (fail .nores, s))
  | .mb _ => (fail .denied, s)

/-- The submitted frame finds room in a pipeline; an entry that does not waits (R316). -/
def submitWaits (src : Src) (s : State) : Bool :=
  match src, takenReq s src with
  | .sq n idx, some r =>
    let d := submitDesc n idx r 0 false
    r.opcode == 0x080C && (steerTo s d.steer d.bytes.length).isNone && !(List.range 16).all (fipOff s)
  | _, _ => false

/-- `ING_SUBMIT` (R312). -/
def execIngSubmit (src : Src) (s : State) : Host.Outcome State Fault Refusal :=
  if submitWaits src s then .next s else runCmd 0x080C ingSubmitCheck ingSubmitRun src s

/-! ### DX and serial bus configuration (R314, R355, R356) -/

def dtlsSlotBad (v : Nat) : Bool := decide (256 ≤ v) && v != 0xFFFF

def dxPeerCfgCheck (_ : Src) (r : Req) (s : State) : Option Status :=
  firstFail [(!active s 7, .nores), (decide (4096 ≤ arg r 0 2 ∨ 1 < arg r 2 1) || dtlsSlotBad (arg r 27 2), .badarg)]

def dxPeerCfgRun (_ : Src) (r : Req) (s : State) : Reply × State :=
  let p : Peer := { enable := arg r 2 1 == 1, title := beNat (fieldB r.payload 3 8), addr := fieldB r.payload 11 16,
                    dtls := arg r 27 2 }
  ({ payload := r.payload }, { s with ingest := { s.ingest with peers := put {} s.ingest.peers (arg r 0 2) p } })

def execDxPeerCfg (src : Src) (s : State) : Host.Outcome State Fault Refusal := runCmd 0x080D dxPeerCfgCheck dxPeerCfgRun src s

def dxUplinkCfgCheck (_ : Src) (r : Req) (s : State) : Option Status :=
  let e := arg r 1 1
  firstFail [(!active s 7, .nores), (decide (e < 4) && isFenced s (93 + e), .fenced),
    (decide (128 ≤ arg r 0 1 ∨ 4 ≤ e) || dtlsSlotBad (arg r 20 2) || decide (arg r 22 2 < 512 ∨ 8960 < arg r 22 2)
      || decide (arg r 24 4 < 100 ∨ 100000 < arg r 24 4) || decide (arg r 28 2 < 10 ∨ 10000 < arg r 28 2), .badarg)]

def dxUplinkCfgRun (_ : Src) (r : Req) (s : State) : Reply × State :=
  ({ payload := r.payload }, setUplink { s.ingest.uplink with
    enable := true, hq := arg r 0 1, eth := arg r 1 1, addr := fieldB r.payload 2 16, udp := arg r 18 2, dtls := arg r 20 2,
    max := arg r 22 2, timeout := arg r 24 4, retransmit := arg r 28 2 } s)

def execDxUplinkCfg (src : Src) (s : State) : Host.Outcome State Fault Refusal :=
  runCmd 0x080E dxUplinkCfgCheck dxUplinkCfgRun src s

/-- The mode, baud rate and parity fit (R314). -/
def smbCfgBad (r : Req) : Bool :=
  let baud := arg r 2 4
  let parity := arg r 6 1
  match arg r 1 1 with
  | 0 => false
  | 1 => decide (baud < 1200 ∨ 115200 < baud ∨ 1 < parity)
  | 2 => decide (baud < 300 ∨ 9600 < baud ∨ parity ≠ 1)
  | _ => true

def smbCfgCheck (_ : Src) (r : Req) (s : State) : Option Status :=
  let n := arg r 0 1
  firstFail [(!active s 7, .nores), (decide (n < 4) && isFenced s (99 + n), .fenced), (decide (4 ≤ n) || smbCfgBad r, .badarg),
    (decide ((smbOf s n).requests ≠ []), .busy)]

def smbCfgRun (_ : Src) (r : Req) (s : State) : Reply × State :=
  let n := arg r 0 1
  ({ payload := r.payload }, setSmb n { smbOf s n with mode := arg r 1 1, baud := arg r 2 4, parity := arg r 6 1 } s)

def execSmbCfg (src : Src) (s : State) : Host.Outcome State Fault Refusal := runCmd 0x080F smbCfgCheck smbCfgRun src s

def smbTxCheck (_ : Src) (r : Req) (s : State) : Option Status :=
  let n := arg r 0 1
  firstFail [(!active s 7, .nores), (decide (n < 4) && isFenced s (99 + n), .fenced), (decide (4 ≤ n), .badarg),
    ((smbOf s n).mode == 0, .nores)]

/-- `SMB_TX` (R314): the module, as master, sends the request; a request still waiting for its answer ends unanswered. -/
def smbTxRun (src : Src) (r : Req) (s : State) : Reply × State :=
  let n := arg r 0 1
  match src with
  | .sq q idx =>
    let s := endRequest n false s
    let b := r.payload.drop 1
    let s := setSmb n { smbOf s n with requests := (smbOf s n).requests ++ [{ sq := q, idx := idx, bytes := b }] } s
    (fail .accepted, claimEntry (some (q, idx)) (99 + n) (smbSend n b s))
  | .mb _ => (fail .denied, s)

def execSmbTx (src : Src) (s : State) : Host.Outcome State Fault Refusal := runCmd 0x0810 smbTxCheck smbTxRun src s

/-! ### Fetching a queue entry (R71, R72) -/

/-- An ingest submission is fetched only while the pipeline that its frame steers to admits and has room (R71, R316). -/
def submitOpen (r : Req) (s : State) : Bool :=
  if r.opcode = 0x080C then
    let d := submitDesc 0 0 r 0 false
    match steerTo s d.steer d.bytes.length with
    | some n => admits s n
    | none => (List.range 16).all (fipOff s)
  else true

/-- Append a fetched entry; one that fails steps 1 to 5 of R60 completes at once. -/
def takeEntry (q len : Nat) (r : Req) (s : State) : State :=
  let h := sqOf s q
  let e : Entry := { idx := h.fetches, req := r, fetched := tbVal s 0, untrusted := timeUntrusted s }
  let c := cqOf s (cqNum h.cfg)
  let s := setCq (cqNum h.cfg) { c with reserved := c.reserved + 1 } s
  let s := setSq q { h with head := (h.head + 1) % ringSize h.cfg, fetches := h.fetches + 1, running := h.running ++ [e] } s
  match entryCheck s len r with
  | some st => completeSq q e (fail st) s
  | none => s

/-- `SQ_ENTRY_FETCH` (R71): `cell` is the entry and `buffer` the host buffer it names. -/
def sqFetch (q : Nat) (cell buffer : Bytes) (s : State) : State :=
  let h := sqOf s q
  let r := parseEntry cell buffer
  if served s && pcieServes s && h.en && !h.closing && decide (h.head ≠ h.tail) && cqHasRoom (cqOf s (cqNum h.cfg))
      && submitOpen r s then takeEntry q (fieldU cell 4 2) r s
  else s

def execSqEntryFetch (sq : Nat) (cell buffer : Bytes) (s : State) : Host.Outcome State Fault Refusal :=
  within "submission queue" sq 64 (sqFetch sq cell buffer s)

end Sys2Proof.Machine
end

