-- ==== Sys2Proof/Machine/LineCommands.lean ====
section
/-! DEFINITION. The powerline commands (spec/07_powerline.md, R253, R281; spec/01_module_organisation.md, R40). -/

namespace Sys2Proof.Machine

/-- PD8 is off (R281). -/
def plOff (s : State) : Bool := !active s 8

/-- The channel exists and runs a narrowband mode, or is off: its narrowband tables can be addressed (R279). -/
def plBadCh (s : State) (n : Nat) : Bool := decide (16 ≤ n) || (plOf s n).mode == 3

def plFenced (s : State) (n : Nat) : Bool := decide (n < 16) && isFenced s (103 + n)

/-! ### `PL_COUPLING_SET` (R40) -/

/-- The channels of a member mask. -/
def maskChannels (m : Nat) : List Nat := (List.range 16).filter (bitOf m)

def plCouplingSetCheck (_ : Src) (r : Req) (s : State) : Option Status :=
  let g := arg r 0 1
  let m := maskChannels (arg r 1 2)
  firstFail [(plOff s, .nores), (m.any (plFenced s), .fenced),
    (decide (7 < g) || m.any fun n => (groupOf s n).isSome && groupOf s n != some g, .badarg),
    (m.any fun n => transmitting (plOf s n), .busy)]

/-- The member mask of a group. -/
def membersOf (s : State) (g : Nat) : Nat := ofBits ((List.range 16).map fun n => groupOf s n == some g)

def plCouplingSetRun (_ : Src) (r : Req) (s : State) : Reply × State :=
  let g := arg r 0 1
  let m := arg r 1 2
  let t := (List.range 16).foldl (fun t n =>
    if bitOf m n then put 0 t n (g + 1) else if look 0 t n = g + 1 then put 0 t n 0 else t) s.line.coupling
  let s := { s with line := { s.line with coupling := t } }
  ({ payload := (List.range 8).flatMap fun k => le16 (membersOf s k) }, s)

def execPlCouplingSet (src : Src) (s : State) : Host.Outcome State Fault Refusal :=
  runCmd 0x0610 plCouplingSetCheck plCouplingSetRun src s

/-! ### `PL_CFG` (R247, R253, R279) -/

/-- The request changes the channel's mode, band or network. -/
def plCfgChanges (c : PlChannel) (r : Req) : Bool :=
  c.mode != arg r 1 1 || c.band != arg r 2 1 || c.net != arg r 3 1

/-- CPn is enabled in digital mode (R279). -/
def cpDigital (s : State) (n : Nat) : Bool :=
  let c := look {} s.charge.cps n
  c.state != .off && c.cfg.digital

def plCfgCheck (_ : Src) (r : Req) (s : State) : Option Status :=
  let n := arg r 0 1
  let m := arg r 1 1
  let c := plOf s n
  let narrow := m == 1 || m == 2
  firstFail [(plOff s, .nores), (plFenced s n, .fenced),
    (decide (15 < n ∨ 3 < m ∨ 2 < arg r 2 1 ∨ 3 < arg r 3 1 ∨ 63 < arg r 4 1 ∨ arg r 5 1 < 6 ∨ 24 < arg r 5 1 ∨ 7 < arg r 6 1
      ∨ arg r 7 2 < 10 ∨ 3600 < arg r 7 2) || (m == 3 && decide (n < 8))
      || (narrow && (netChannels s (arg r 3 1)).any fun k => k != n && (plOf s k).mode != m), .badarg),
    ((plCfgChanges c r && transmitting c) || (c.mode == 3 && m != 3 && decide (8 ≤ n) && cpDigital s (n - 8)), .busy)]

def plCfgRun (_ : Src) (r : Req) (s : State) : Reply × State :=
  let n := arg r 0 1
  let c := plOf s n
  let s :=
    if plCfgChanges c r then
      let s := dropPlQueues n .discarded s
      let c := plOf s n
      let waits := c.tmCommands
      let s := setPl n { c with nbrs := [], routes := [], parts := [], erasures := [], impulsive := 0, tmCommands := [] } s
      waits.foldl (fun s t => finishMb t.mb .ok (le8 t.done) s) s
    else s
  let c := plOf s n
  let s := setPl n { c with
    mode := arg r 1 1, band := arg r 2 1, net := arg r 3 1, atten := arg r 4 1, impThresh := arg r 5 1,
    maxRetries := arg r 6 1, tmMaxAge := arg r 7 2 } s
  ({ payload := r.payload }, logPl 0x601 n 0xFFFF 0xFF [] s)

def execPlCfg (src : Src) (s : State) : Host.Outcome State Fault Refusal := runCmd 0x0601 plCfgCheck plCfgRun src s

/-! ### `PL_NET_CFG` (R252, R254) -/

def plNetCfgCheck (_ : Src) (r : Req) (s : State) : Option Status :=
  let k := arg r 0 1
  let slot (off : Nat) : Bool := arg r off 1 != 0xFF && !gkFits s (arg r off 1) [1] 0
  firstFail [(plOff s, .nores),
    (decide (3 < k ∨ 127 < arg r 15 1 ∨ 1023 < arg r 17 2 ∨ arg r 19 1 < 5 ∨ 100 < arg r 19 1), .badarg),
    (slot 13 || slot 14, .nokey), ((netChannels s k).any fun n => transmitting (plOf s n), .busy)]

/-- Reset the frame counters of a key index, received and sent (R254). -/
def resetIndex (i : Nat) (net : PlNet) : PlNet :=
  { net with rxCounters := net.rxCounters.filter fun p => p.1 % 2 != i, txCounters := put 0 net.txCounters i 0 }

def plNetCfgRun (_ : Src) (r : Req) (s : State) : Reply × State :=
  let k := arg r 0 1
  let net := { plNetOf s k with
    pan := arg r 1 2, short := arg r 3 2, eui := arg r 5 8, key0 := arg r 13 1, key1 := arg r 14 1, hq := arg r 15 1,
    wAir := arg r 16 1, wHop := arg r 17 2, tollDelta := arg r 19 1 }
  let net := if arg r 13 1 = 0xFF then net else resetIndex 0 net
  let net := if arg r 14 1 = 0xFF then net else resetIndex 1 net
  let s := setPlNet k net s
  let s := logEv 0x602 (103 + ((netChannels s k).headD 0)) k [0, 0, 0, 0] s
  ({ payload := r.payload }, s)

def execPlNetCfg (src : Src) (s : State) : Host.Outcome State Fault Refusal :=
  runCmd 0x0602 plNetCfgCheck plNetCfgRun src s

/-! ### `PL_STATUS` (R259) -/

def plStatusCheck (_ : Src) (r : Req) (s : State) : Option Status :=
  firstFail [(plOff s, .nores), (decide (16 ≤ arg r 0 1), .badarg)]

def plStatusRun (_ : Src) (r : Req) (s : State) : Reply × State :=
  let n := arg r 0 1
  let c := plOf s n
  ({ payload := le8 c.mode ++ le8 c.net ++ le8 (b2n (slottedNow s c.net)) ++ le8 c.impulsive ++ le16 c.nbrs.length
      ++ le16 c.routes.length ++ le32 c.rx ++ le32 c.acked ++ le32 c.tx ++ le32 c.delivered ++ le32 c.failed ++ le32 c.dup
      ++ le32 c.replay ++ le32 c.secfail ++ le32 c.nbrFull ++ le32 c.fwdDrop }, s)

def execPlStatus (src : Src) (s : State) : Host.Outcome State Fault Refusal := runCmd 0x0603 plStatusCheck plStatusRun src s

/-! ### `PL_NBR_READ`, `PL_TM_READ` (R262, R272) -/

/-- Two 4-bit coefficients to a byte, the lower group in bits 3:0. -/
def coefBytes (l : List Nat) : Nat → Bytes
  | 0 => []
  | k + 1 => coefBytes l k ++ le8 (nthN l (2 * k) % 16 + 16 * (nthN l (2 * k + 1) % 16))

/-- A tone map entry in the order of R262: the SNR of a reverse entry, the coefficients of a forward entry. -/
def tmBytes (s : State) (c : PlChannel) (forward : Bool) (m : ToneMap) : Bytes :=
  le8 (m.mod + 128 * b2n m.coherent) ++ leBytes 3 m.mask
    ++ (if forward then coefBytes m.txcoef 12 else (List.range 24).flatMap fun g => leInt 1 (nthI m.snr g))
    ++ le16 m.cap ++ le32 m.updated ++ le8 m.source ++ le8 (tmFlags s c forward m)

def plNbrReadCheck (_ : Src) (r : Req) (s : State) : Option Status :=
  let n := arg r 0 1
  firstFail [(plOff s, .nores), (plBadCh s n || decide ((plOf s n).nbrs.length ≤ arg r 1 2), .badarg)]

def plNbrReadRun (_ : Src) (r : Req) (s : State) : Reply × State :=
  let n := arg r 0 1
  let c := plOf s n
  let (short, e) := c.nbrs.getD (arg r 1 2) (0, {})
  let win := (List.range 4).flatMap fun i =>
    let d := e.window.getD i {}
    le8 d.seq ++ le32 d.counter ++ le32 d.check
  ({ buffer := le16 short ++ le64 e.eui ++ le16 e.etx ++ le16 e.toll ++ le8 (b2n (isNextHop c short)) ++ le32 e.heard ++ win
      ++ (List.range 6).flatMap (fun i => tmBytes s c true (look {} e.fwd i))
      ++ (List.range 6).flatMap (fun i => tmBytes s c false (look {} e.rev i)) }, s)

def execPlNbrRead (src : Src) (s : State) : Host.Outcome State Fault Refusal :=
  runCmd 0x0604 plNbrReadCheck plNbrReadRun src s

def plTmReadCheck (_ : Src) (r : Req) (s : State) : Option Status :=
  let n := arg r 0 1
  firstFail [(plOff s, .nores),
    (plBadCh s n || (nbrOf (plOf s n) (arg r 1 2)).isNone || decide (1 < arg r 3 1 ∨ 5 < arg r 4 1), .badarg)]

def plTmReadRun (_ : Src) (r : Req) (s : State) : Reply × State :=
  let n := arg r 0 1
  let c := plOf s n
  let e := (nbrOf c (arg r 1 2)).getD {}
  let fwd := arg r 3 1 == 0
  ({ payload := tmBytes s c fwd (look {} (if fwd then e.fwd else e.rev) (arg r 4 1)) }, s)

def execPlTmRead (src : Src) (s : State) : Host.Outcome State Fault Refusal := runCmd 0x0606 plTmReadCheck plTmReadRun src s

/-! ### `PL_NBR_DELETE` (R272) -/

def plNbrDeleteCheck (_ : Src) (r : Req) (s : State) : Option Status :=
  let n := arg r 0 1
  let c := plOf s n
  firstFail [(plOff s, .nores), (plFenced s n, .fenced), (plBadCh s n || (nbrOf c (arg r 1 2)).isNone, .badarg),
    (isNextHop c (arg r 1 2), .busy)]

def plNbrDeleteRun (_ : Src) (r : Req) (s : State) : Reply × State := ({}, removeNbr (arg r 0 1) (arg r 1 2) 3 s)

def execPlNbrDelete (src : Src) (s : State) : Host.Outcome State Fault Refusal :=
  runCmd 0x0605 plNbrDeleteCheck plNbrDeleteRun src s

/-! ### `PL_TM_REFRESH` (R268, R281) -/

/-- The slots that a request names, as the network uses them. -/
def refreshSlots (s : State) (k slot : Nat) : List Nat :=
  if slottedNow s k then (if slot = 0xFF then [0, 1, 2, 3, 4, 5] else [slot]) else [0]

def plTmRefreshCheck (_ : Src) (r : Req) (s : State) : Option Status :=
  let n := arg r 0 1
  let c := plOf s n
  let e := (nbrOf c (arg r 1 2)).getD {}
  firstFail [(plOff s, .nores), (plFenced s n, .fenced),
    (plBadCh s n || (nbrOf c (arg r 1 2)).isNone || decide (5 < arg r 3 1 ∧ arg r 3 1 ≠ 0xFF), .badarg),
    ((refreshSlots s c.net (arg r 3 1)).any fun i => (look {} e.fwd i).pending, .busy)]

def plTmRefreshRun (src : Src) (r : Req) (s : State) : Reply × State :=
  match src with
  | .sq _ _ => (fail .denied, s)
  | .mb mb =>
    let n := arg r 0 1
    let short := arg r 1 2
      let c := plOf s n
    let slots := refreshSlots s c.net (arg r 3 1)
    let s := slots.foldl (fun s i => setPending n short i s) s
    let c := plOf s n
    let t : TmCommand := { mb := mb, short := short, since := tb1Sec s, wait := ofBits ((List.range 6).map slots.contains) }
    ({ status := .accepted }, setPl n { c with tmCommands := c.tmCommands ++ [t] } s)

def execPlTmRefresh (src : Src) (s : State) : Host.Outcome State Fault Refusal :=
  runCmd 0x0607 plTmRefreshCheck plTmRefreshRun src s

/-! ### Routes (R275) -/

/-- Entry `i` of a PL_ROUTE_SET request: destination, route, lifetime in s. -/
def routeArg (r : Req) (i : Nat) : Nat × Route × Nat :=
  let o := 3 + 9 * i
  (arg r o 2, { next := arg r (o + 2) 2, toll := arg r (o + 4) 2, hops := arg r (o + 6) 1 }, arg r (o + 7) 2)

def routeArgs (r : Req) : List (Nat × Route × Nat) := (List.range (arg r 1 2)).map (routeArg r)

/-- The route table after the entries of a request. -/
def applyRoutes (now : Nat) (t : Tab (Option Route)) (l : List (Nat × Route × Nat)) : Tab (Option Route) :=
  l.foldl (fun t x => put none t x.1 (if x.2.2 = 0 then none else some { x.2.1 with expiry := now + x.2.2 })) t

def plRouteSetCheck (_ : Src) (r : Req) (s : State) : Option Status :=
  let n := arg r 0 1
  let c := plOf s n
  firstFail [(plOff s, .nores), (plFenced s n, .fenced),
    (plBadCh s n || (routeArgs r).any fun x => x.2.2 != 0 && (nbrOf c x.2.1.next).isNone, .badarg),
    (decide (2048 < (applyRoutes 0 c.routes (routeArgs r)).length), .nores)]

def plRouteSetRun (_ : Src) (r : Req) (s : State) : Reply × State :=
  let n := arg r 0 1
  let c := plOf s n
  let t := applyRoutes (tb1Sec s) c.routes (routeArgs r)
  ({ payload := le16 t.length }, setPl n { c with routes := t } s)

def execPlRouteSet (src : Src) (s : State) : Host.Outcome State Fault Refusal :=
  runCmd 0x0608 plRouteSetCheck plRouteSetRun src s

def plRouteReadCheck (_ : Src) (r : Req) (s : State) : Option Status :=
  firstFail [(plOff s, .nores), (plBadCh s (arg r 0 1), .badarg)]

def plRouteReadRun (_ : Src) (r : Req) (s : State) : Reply × State :=
  let c := plOf s (arg r 0 1)
  let l := (c.routes.drop (arg r 1 2)).take (arg r 3 2)
  let b := l.flatMap fun p =>
    let x := p.2.getD {}
    le16 p.1 ++ le16 x.next ++ le16 x.toll ++ le8 x.hops ++ le32 x.expiry
  (if r.buffer.isSome then { buffer := b } else { payload := b }, s)

def execPlRouteRead (src : Src) (s : State) : Host.Outcome State Fault Refusal :=
  runCmd 0x0609 plRouteReadCheck plRouteReadRun src s

def plRouteFlushCheck (_ : Src) (r : Req) (s : State) : Option Status :=
  firstFail [(plOff s, .nores), (plFenced s (arg r 0 1), .fenced), (plBadCh s (arg r 0 1), .badarg)]

def plRouteFlushRun (_ : Src) (r : Req) (s : State) : Reply × State :=
  let n := arg r 0 1
  let c := plOf s n
  ({ payload := le16 c.routes.length }, setPl n { c with routes := [] } s)

def execPlRouteFlush (src : Src) (s : State) : Host.Outcome State Fault Refusal :=
  runCmd 0x060A plRouteFlushCheck plRouteFlushRun src s

/-! ### `PL_TX` (R269, R276, R281) -/

def plTxCheck (_ : Src) (r : Req) (s : State) : Option Status :=
  let n := arg r 0 1
  let m := (plOf s n).mode
  firstFail [(plOff s, .nores), (plFenced s n, .fenced), (decide (16 ≤ n) || !(m == 1 || m == 2), .badarg)]

def plTxRun (src : Src) (r : Req) (s : State) : Reply × State :=
  match src with
  | .mb _ => (fail .denied, s)
  | .sq q idx =>
    let n := arg r 0 1
    let dest := arg r 1 2
    let flags := arg r 3 1
    let payload := r.payload.drop 4
    match nextHop s (plOf s n).net dest with
    | none => (plTxReply s 3 0 0 0, toNulvo (0x20 + n) (le16 dest ++ payload) s)
    | some h =>
      let f : PlTx := { dest := dest, payload := payload, hopsLeft := Config.plHops, secure := bitOf flags 0,
                        ack := bitOf flags 1, high := bitOf flags 2, queue := 3, host := some (q, idx) }
      match routePl h f s with
      | some s' => ({ status := .accepted }, s')
      | none => (fail .nores, s)

def execPlTx (src : Src) (s : State) : Host.Outcome State Fault Refusal := runCmd 0x060B plTxCheck plTxRun src s

/-! ### `PL_BEACON_SET` (R248) -/

def plBeaconSetCheck (_ : Src) (r : Req) (s : State) : Option Status :=
  firstFail [(plOff s, .nores), (decide (3 < arg r 0 1 ∨ 64 < arg r 1 1), .badarg)]

def plBeaconSetRun (_ : Src) (r : Req) (s : State) : Reply × State :=
  let k := arg r 0 1
  ({}, setPlNet k { plNetOf s k with beacon := r.payload.drop 2 } s)

def execPlBeaconSet (src : Src) (s : State) : Host.Outcome State Fault Refusal :=
  runCmd 0x060C plBeaconSetCheck plBeaconSetRun src s

end Sys2Proof.Machine
end

