-- ==== Sys2Proof/Machine/Logbook.lean ====
section
/-! DEFINITION. The logbook: its window, its commands, its flush timer and its token buckets; and the fault status registers
(spec/14_faults_logbook.md, R491, R498–R504). -/

namespace Sys2Proof.Machine

/-! ### The areas and the window (R501, R502) -/

/-- The record of a number is held: in the first area, or in the circulating area at or above LOG_OLDEST. -/
def logHeld (s : State) (rn : Nat) : Bool := decide (rn < s.log.next) && (decide (rn < 2048) || decide (s.log.oldest ≤ rn))

/-- The flushed record of a number, where it is held. -/
def logRecord (s : State) (rn : Nat) : Option LogRec :=
  if logHeld s rn then
    match s.log.recs.find? fun p => p.1 == rn with
    | some p => some p.2
    | none => none
  else none

/-- Load LOG_WINDOW with the record that LOG_CURSOR names. -/
def loadWindow (rn : Nat) (s : State) : State :=
  let r := logRecord s rn
  { s with log := { s.log with cursor := rn, window := r, gone := r.isNone } }

/-- The 128 bytes of LOG_WINDOW; 0 while the cursor names no record. -/
def windowBytes (s : State) : Bytes :=
  match s.log.window with
  | some r => recordBytes r
  | none => List.replicate 128 0

/-- LOG_STATUS (R502). A load and a flush are complete within their command, and a record is written with its CRC. -/
def logStatus (s : State) : Nat :=
  ofBits [false, s.log.gone, false, decide (2048 ≤ s.log.next), s.log.wrapped, false]

/-- `LOG_CURSOR_WRITE` (R502). -/
def execLogCursorWrite (value : Word32) (s : State) : Host.Outcome State Fault Refusal :=
  .next (if fabricUp s then loadWindow value.toNat s else s)

/-- A read that includes the last byte of LOG_WINDOW: the data, then the cursor moves on and the next record is loaded. -/
def windowLastRead (width : Nat) (s : State) : State :=
  if fabricUp s then
    let n := if width = 8 then 8 else 4
    loadWindow ((s.log.cursor + 1) % 2 ^ 32) (emit (.readData 0 (fieldB (windowBytes s) (128 - n) n)) s)
  else s

/-- `LOG_WINDOW_LAST_READ` (R502). -/
def execLogWindowLastRead (width : Nat) (s : State) : Host.Outcome State Fault Refusal := .next (windowLastRead width s)

/-! ### Timers (R498, R499) -/

/-- `LOG_FLUSH_TIMER` (R499). -/
def execLogFlushTimer (s : State) : Host.Outcome State Fault Refusal := .next (if fabricUp s then flush s else s)

/-- The refill period under way has passed. -/
def refillDue (code : Nat) (b : Bucket) (s : State) : Bool :=
  decide (b.used ≠ 0) && decide (refillPeriod code b * 2 ^ 36 ≤ (bucketClock s - b.since).toNat * 1000)

/-- `LOG_TOKEN_REFILL` (R498): at the end of a refill period the bucket of a code gains a token, up to 8, and the next period begins. -/
def tokenRefill (code : Nat) (s : State) : State :=
  let b := bucketOf s code
  if refillDue code b s then
    setBucket code { b with
      used := b.used - 1, since := b.since + BitVec.ofNat 72 (refillPeriod code b * 2 ^ 36 / 1000) } s
  else s

def execLogTokenRefill (code : Nat) (s : State) : Host.Outcome State Fault Refusal :=
  .next (if s.power.aux then tokenRefill code s else s)

/-! ### Commands (R499, R502–R504) -/

def logInfoRun (_ : Src) (_ : Req) (s : State) : Reply × State :=
  ({ payload := le32 s.log.next ++ le32 s.log.oldest ++ le32 s.log.ack ++ le16 s.log.staging.length
      ++ le32 s.log.suppressed }, s)

/-- `LOG_INFO` (R502). -/
def execLogInfo (src : Src) (s : State) : Host.Outcome State Fault Refusal := runCmd 0x0C01 noCheck logInfoRun src s

/-- The oldest held number at or after `rn`; a number at or above LOG_NEXT has none. -/
def logStart (s : State) (rn : Nat) : Nat := if logHeld s rn || decide (rn < 2048) then rn else max rn s.log.oldest

def logReadCheck (_ : Src) (r : Req) (_ : State) : Option Status :=
  firstFail [(decide (arg r 4 2 < 1 ∨ 512 < arg r 4 2), .badarg)]

/-- `LOG_READ` (R504): the held records of the range go to the host buffer. -/
def logReadRun (_ : Src) (r : Req) (s : State) : Reply × State :=
  let first := logStart s (arg r 0 4)
  let recs := (List.range (arg r 4 2)).filterMap fun k => logRecord s (first + k)
  ({ payload := le32 first ++ le16 recs.length, buffer := recs.flatMap recordBytes }, s)

def execLogRead (src : Src) (s : State) : Host.Outcome State Fault Refusal := runCmd 0x0C02 logReadCheck logReadRun src s

/-- `LOG_FLUSH` (R499). -/
def logFlushRun (_ : Src) (_ : Req) (s : State) : Reply × State :=
  ({ payload := le16 (s.log.staging.length + s.log.ring.length) }, flush s)

def execLogFlush (src : Src) (s : State) : Host.Outcome State Fault Refusal := runCmd 0x0C03 noCheck logFlushRun src s

/-- The period that LOG_RATE_SET reports: the one set, or the default. -/
def periodInForce (s : State) (code : Nat) : Nat :=
  let b := bucketOf s code
  if b.period ≠ 0 then b.period else if classSeverity code then 0 else defaultPeriod code

def logRateSetCheck (_ : Src) (r : Req) (_ : State) : Option Status :=
  let p := arg r 2 4
  firstFail [(decide (4096 ≤ arg r 0 2 ∨ (p ≠ 0 ∧ (p < 10 ∨ 3600000 < p))), .badarg)]

/-- `LOG_RATE_SET` (R498): logbook 0xC09 with the code, the old and the new period. -/
def logRateSetRun (_ : Src) (r : Req) (s : State) : Reply × State :=
  let code := arg r 0 2
  let old := periodInForce s code
  let s := setBucket code { bucketOf s code with period := arg r 2 4 } s
  let now := periodInForce s code
  ({ payload := le32 now }, logEv 0xC09 6 0xFFFF [snapN code, snapN old, snapN now] s)

def execLogRateSet (src : Src) (s : State) : Host.Outcome State Fault Refusal :=
  runCmd 0x0C04 logRateSetCheck logRateSetRun src s

/-- `LOG_CLEAR` (R503): the staging buffer is flushed, and the circulating area holds nothing. -/
def logClearRun (_ : Src) (_ : Req) (s : State) : Reply × State :=
  let old := s.log.oldest
  let s := flush s
  let new := max s.log.next 2048
  let s := { s with log := { s.log with oldest := new, recs := s.log.recs.filter fun p => decide (p.1 < 2048) } }
  ({ payload := le32 new }, logEv 0xC07 6 0xFFFF [snapN old, snapN new] s)

def execLogClear (src : Src) (s : State) : Host.Outcome State Fault Refusal := runCmd 0x0C05 noCheck logClearRun src s

/-! ### Fault status (R491) -/

/-- The state of a unit as FAULT_UNITu shows it. -/
def shownState (s : State) (u : Nat) : UnitState := if decide (u < 138) && unitOff s u then .off else (unitOf s u).state

/-- A mismatch of the last 60 s is waiting for a second (R493). -/
def mismatchArmed (s : State) (u : Nat) : Bool := !((unitOf s u).mismatches.filter fun m => decide (ageSec s < m.2 + 60)).isEmpty

/-- FAULT_UNITu (R491). -/
def faultWord (s : State) (u : Nat) : Nat :=
  let f := unitOf s u
  unitStateCode (shownState s u) + 8 * (f.lastClass % 4) + 32 * b2n f.escalated + 64 * b2n (mismatchArmed s u)
    + 128 * b2n f.retired + 256 * (f.faults % 256) + 65536 * (f.lastCode % 4096)

/-- The units that are FENCED or RECOVERING. -/
def fencedUnits (s : State) : Nat :=
  ((List.range 138).filter fun u => decide ((unitOf s u).state = .fenced ∨ (unitOf s u).state = .recovering)).length

/-- Some handling slot is busy. -/
def anyHandling (s : State) : Bool :=
  (List.range 138).any fun u => decide ((unitOf s u).state = .handlingF1 ∨ (unitOf s u).state = .handlingF2)

/-- FAULT_SUMMARY (R491). -/
def faultSummary (s : State) : Nat :=
  ofBits [decide (0 < fencedUnits s), anyHandling s, s.log.f3Limit, ownFenced s 125 || ownFenced s 126]
    + 256 * min 255 (fencedUnits s)

/-- FENCED_MAP (R491). -/
def fencedMap (s : State) : Nat := ofBits ((List.range 192).map fun u => ownFenced s u)

def faultStatusCheck (_ : Src) (r : Req) (_ : State) : Option Status := firstFail [(decide (138 ≤ arg r 0 1), .badarg)]

/-- `FAULT_STATUS` (R491). -/
def faultStatusRun (_ : Src) (r : Req) (s : State) : Reply × State :=
  let u := arg r 0 1
  let f := unitOf s u
  ({ payload := le32 (faultWord s u) ++ le8 (min 255 (recent (ageSec s) 86400 f.fences).length) ++ le72 f.firstMismatch }, s)

def execFaultStatus (src : Src) (s : State) : Host.Outcome State Fault Refusal :=
  runCmd 0x0C06 faultStatusCheck faultStatusRun src s

end Sys2Proof.Machine
end

