-- ==== Sys2Proof/Machine/RadioCommands.lean ====
section
/-! DEFINITION. The radio commands (spec/08_radio.md, R283–R310). -/

namespace Sys2Proof.Machine

/-- PD9 is off (R310). -/
def rfOff (s : State) : Bool := !active s 9

def rfFenced (s : State) (n : Nat) : Bool := decide (n < 6) && isFenced s (119 + n)

/-! ### `RF_CFG` (R283, R287, R291) -/

/-- The PHY table (R283): code, rate or MCS, spacing of the network. -/
def phyAllowed (phy rate spacing : Nat) : Bool :=
  if phy = 0 then true
  else if phy = 1 then [1, 2, 3, 4, 6].contains rate && [200, 400, 600].contains spacing
  else if phy = 2 then decide (rate ≤ 3) && spacing == 1200
  else if phy = 3 then decide (rate ≤ 5) && spacing == 800
  else if phy = 4 then decide (1 ≤ rate ∧ rate ≤ 6) && spacing == 400
  else if phy = 5 then decide (2 ≤ rate ∧ rate ≤ 6) && spacing == 200
  else false

/-- The request changes the channel's PHY mode, network or home channel. -/
def rfCfgChanges (c : RfChannel) (r : Req) : Bool :=
  c.phy != arg r 1 1 || c.rate != arg r 2 1 || c.modIndex != arg r 3 1 || c.gfsk != arg r 4 1 || c.fec != arg r 5 1
    || c.net != arg r 6 1 || c.home != arg r 7 1

/-- Ranges of R291 broken by a request. -/
def rfAccessBad (r : Req) : Bool :=
  decide (7 < arg r 13 1 ∨ arg r 14 1 < 3 ∨ 8 < arg r 14 1 ∨ 5 < arg r 15 1 ∨ arg r 16 2 < 100 ∨ 10000 < arg r 16 2
    ∨ argS r 18 1 < -110 ∨ -60 < argS r 18 1 ∨ 1 < arg r 19 1 ∨ arg r 20 2 < 160 ∨ 5000 < arg r 20 2 ∨ 5000 < arg r 22 2
    ∨ arg r 24 2 < 10 ∨ 4000 < arg r 24 2 ∨ 1000 < arg r 26 2 ∨ 7 < arg r 28 1 ∨ 1 < arg r 29 1)

/-- A transmission is in progress on the channel: a frame or a downlink is on the air. -/
def rfTransmitting (c : RfChannel) : Bool := c.sent.isSome || c.downlink.isSome

def rfCfgCheck (_ : Src) (r : Req) (s : State) : Option Status :=
  let n := arg r 0 1
  let net := rfNetOf s (arg r 6 1)
  let c := rfOf s n
  firstFail [(rfOff s, .nores), (rfFenced s n, .fenced),
    (decide (6 ≤ n ∨ 5 < arg r 1 1 ∨ 1 < arg r 6 1 ∨ 1 < arg r 3 1 ∨ 1 < arg r 4 1 ∨ 4 < arg r 5 1) || rfAccessBad r
      || !phyAllowed (arg r 1 1) (arg r 2 1) net.spacing || (arg r 1 1 != 0 && decide (net.nCh ≤ arg r 7 1)), .badarg),
    (rfCfgChanges c r && (rfTransmitting c || rfSending s n), .busy)]

/-- Discard the transmit queues of a channel; host frames complete with a status (R287, R484). -/
def dropRfQueues (n : Nat) (st : Status) (s : State) : State :=
  let c := rfOf s n
  let inAccess := match c.access with
    | some a => [a.frame]
    | none => []
  let onAir := match c.sent with
    | some f => [f]
    | none => []
  let down := (linkList c).flatMap fun p => p.2.downlinks
  let s := setRf n { c with
    reply := [], nulvo := [], host := [], access := none, sent := none, downlink := none, tuned := none,
    links := c.links.map fun p => (p.1, p.2.map fun l => { l with downlinks := [] }) } s
  ((c.host ++ inAccess ++ onAir ++ down).map fun f => f.host).foldl (fun s h => finishHost h (fail st) s) s

def rfCfgRun (_ : Src) (r : Req) (s : State) : Reply × State :=
  let n := arg r 0 1
  let c := rfOf s n
  let s :=
    if rfCfgChanges c r then
      let s := dropRfQueues n .discarded s
      (linkList (rfOf s n)).foldl (fun s p => removeLink n p.1 3 s) s
    else s
  let c := rfOf s n
  let s := setRf n { c with
    phy := arg r 1 1, rate := arg r 2 1, modIndex := arg r 3 1, gfsk := arg r 4 1, fec := arg r 5 1, net := arg r 6 1,
    home := arg r 7 1, txPower := argS r 8 1, feTx := argS r 9 2, feRx := argS r 11 2, minBe := arg r 13 1,
    maxBe := arg r 14 1, maxBackoffs := arg r 15 1, unitBackoff := arg r 16 2, cca := argS r 18 1, lbt := arg r 19 1,
    lbtMin := arg r 20 2, lbtRand := arg r 22 2, txOnMax := arg r 24 2, txOffMin := arg r 26 2, maxRetries := arg r 28 1,
    evtLbt := arg r 29 1 } s
  ({ payload := r.payload }, logRf 0x701 n 0xFFFF s)

def execRfCfg (src : Src) (s : State) : Host.Outcome State Fault Refusal := runCmd 0x0701 rfCfgCheck rfCfgRun src s

/-! ### `RF_NET_CFG` (R283, R286, R299) -/

/-- Every channel of a plan lies wholly within one band of R283 (kHz). -/
def planFits (f0 spacing nCh : Nat) : Bool :=
  [(863000, 870000), (902000, 928000), (920000, 928000)].any fun b =>
    decide (2 * b.1 + spacing ≤ 2 * f0 ∧ 2 * (f0 + (nCh - 1) * spacing) + spacing ≤ 2 * b.2)

/-- The channels of a radio network. -/
def rfNetChannels (s : State) (k : Nat) : List Nat :=
  (List.range 6).filter fun n => (rfOf s n).phy != 0 && (rfOf s n).net == k

def rfNetCfgCheck (_ : Src) (r : Req) (s : State) : Option Status :=
  let k := arg r 0 1
  let slot (off : Nat) : Bool := arg r off 1 != 0xFF && !gkFits s (arg r off 1) [1] 1
  firstFail [(rfOff s, .nores),
    (decide (1 < k ∨ arg r 7 1 < 1 ∨ 129 < arg r 7 1 ∨ 127 < arg r 22 1 ∨ 10000 < arg r 23 2 ∨ arg r 23 2 < arg r 25 2)
      || !planFits (arg r 1 4) (arg r 5 2) (arg r 7 1), .badarg),
    (slot 20 || slot 21, .nokey), ((rfNetChannels s k).any fun n => rfTransmitting (rfOf s n) || rfSending s n, .busy)]

/-- Reset the counters of a key index in the whole network (R299). -/
def resetRfIndex (i : Nat) (net : RfNet) : RfNet :=
  { net with
    devices := net.devices.map fun p => (p.1, if i = 1 then { p.2 with c1 := 0 } else { p.2 with c2 := 0 })
    txCounters := put 0 net.txCounters i 0 }

def rfNetCfgRun (_ : Src) (r : Req) (s : State) : Reply × State :=
  let k := arg r 0 1
  let net := { rfNetOf s k with
    f0 := arg r 1 4, spacing := arg r 5 2, nCh := arg r 7 1, pan := arg r 8 2, short := arg r 10 2, eui := arg r 12 8,
    key1 := arg r 20 1, key2 := arg r 21 1, hq := arg r 22 1, dutyLimit := arg r 23 2, ackReserve := arg r 25 2 }
  let net := if arg r 20 1 = 0xFF then net else resetRfIndex 1 net
  let net := if arg r 21 1 = 0xFF then net else resetRfIndex 2 net
  let s := setRfNet k net s
  ({ payload := r.payload }, logEv 0x702 (119 + ((rfNetChannels s k).headD 0)) k [snapN 0xFFFF, 0, 0, 0] s)

def execRfNetCfg (src : Src) (s : State) : Host.Outcome State Fault Refusal :=
  runCmd 0x0702 rfNetCfgCheck rfNetCfgRun src s

/-! ### `RF_STATUS` (R294) -/

def rfStatusCheck (_ : Src) (r : Req) (s : State) : Option Status :=
  firstFail [(rfOff s, .nores), (decide (6 ≤ arg r 0 1), .badarg)]

def rfStatusRun (_ : Src) (r : Req) (s : State) : Reply × State :=
  let n := arg r 0 1
  let c := rfOf s n
  let count (st : LinkState) : Nat := ((linkList c).filter fun p => p.2.state == st).length
  ({ payload := le8 c.phy ++ le8 c.net ++ le16 (count .synced) ++ le16 (count .seeking) ++ le16 (count .reAcquire)
      ++ le16 (min 65535 (rfNetOf s c.net).devices.length) ++ le16 (dutyCount s n) ++ le32 c.rx ++ le32 c.acked ++ le32 c.tx
      ++ le32 c.delivered ++ le32 c.failed ++ le32 c.dup ++ le32 c.replay ++ le32 c.secfail ++ le32 c.devFull
      ++ le32 c.skipped }, s)

def execRfStatus (src : Src) (s : State) : Host.Outcome State Fault Refusal := runCmd 0x0703 rfStatusCheck rfStatusRun src s

/-! ### `RF_LINK_ADD`, `RF_LINK_UPDATE`, `RF_LINK_REMOVE`, `RF_LINK_READ` (R300, R303, R307) -/

/-- A channel map, seed and increment break R300. -/
def hopBad (nCh map seed inc : Nat) : Bool :=
  decide (map / 2 ^ nCh ≠ 0 ∨ popCount 136 map < 2 ∨ 128 < seed ∨ inc < 1 ∨ 128 < inc) || Nat.gcd inc nCh != 1

/-- The first free link index of a channel. -/
def freeLink (c : RfChannel) : Nat := firstFree 0 c.links

/-- The link that a request asks for. -/
def linkArg (r : Req) : Link :=
  { short := arg r 1 2, eui := arg r 3 8, keySlot := arg r 11 1, w := arg r 12 4, e := arg r 25 4,
    eLast := (arg r 25 4 + 2 ^ 32 - 1) % 2 ^ 32, aLast := argT r 16 - BitVec.ofNat 72 (arg r 12 4 * 2 ^ 36 / 1000),
    map := BitVec.ofNat 136 (arg r 29 17), seed := arg r 46 1, inc := arg r 47 1, sup := arg r 48 2, guard := arg r 50 2,
    acc := arg r 52 4, alpha := arg r 56 1, missRv := arg r 57 1 }

def rfLinkAddCheck (_ : Src) (r : Req) (s : State) : Option Status :=
  let n := arg r 0 1
  let c := rfOf s n
  let net := rfNetOf s c.net
  let l := linkArg r
  let bound := match devOf net l.eui with
    | some d => d.link.isSome
    | none => false
  firstFail [(rfOff s, .nores), (rfFenced s n, .fenced),
    (decide (6 ≤ n ∨ c.phy = 0 ∨ l.w < 100 ∨ 3600000 < l.w ∨ l.sup * 1000 < 2 * l.w ∨ l.guard < 1000 ∨ 10000 < l.guard
      ∨ 100000 < l.acc ∨ l.alpha < 1 ∨ 6 < l.alpha ∨ l.missRv < 1 ∨ 15 < l.missRv
      ∨ nsBetween (argT r 16) (rfNow s n) < 10000000) || hopBad net.nCh (arg r 29 17) l.seed l.inc, .badarg),
    (bound, .busy), (decide (8192 ≤ c.links.length) || (ensureDev c.net l.eui l.short s).isNone, .nores),
    (l.keySlot != 0xFF && !gkFits s l.keySlot [1] 2, .nokey)]

def rfLinkAddRun (_ : Src) (r : Req) (s : State) : Reply × State :=
  let n := arg r 0 1
  let c := rfOf s n
  let l := linkArg r
  let i := freeLink c
  let s := match ensureDev c.net l.eui l.short s with
    | some s' => s'
    | none => s
  let d := (devOf (rfNetOf s c.net) l.eui).getD {}
  let s := putDev c.net l.eui { d with short := l.short, c0 := 0, link := some (n, i) } s
  let s := rfLinkRecord n 1 0 i l (logRf 0x704 n i (setLink n i (some l) s))
  ({ payload := le16 i }, if tooWide l then enterReAcquire n i l s else s)

def execRfLinkAdd (src : Src) (s : State) : Host.Outcome State Fault Refusal :=
  runCmd 0x0704 rfLinkAddCheck rfLinkAddRun src s

/-- The link of a request that names a channel and a link. -/
def namedLink (s : State) (r : Req) : Option Link := if 6 ≤ arg r 0 1 then none else linkOf (rfOf s (arg r 0 1)) (arg r 1 2)

def rfLinkUpdateCheck (_ : Src) (r : Req) (s : State) : Option Status :=
  let n := arg r 0 1
  let l := (namedLink s r).getD {}
  let ahead := (arg r 3 4 + 2 ^ 32 - l.e) % 2 ^ 32
  firstFail [(rfOff s, .nores), (rfFenced s n, .fenced),
    ((namedLink s r).isNone || decide (ahead < 2 ∨ 2 ^ 31 ≤ ahead) || hopBad (rfNetAt s n).nCh (arg r 7 17) (arg r 24 1) (arg r 25 1),
      .badarg), (l.update.isSome, .busy)]

def rfLinkUpdateRun (_ : Src) (r : Req) (s : State) : Reply × State :=
  let n := arg r 0 1
  let i := arg r 1 2
  let l := (namedLink s r).getD {}
  let u : LinkUpdate := { at_ := arg r 3 4, map := BitVec.ofNat 136 (arg r 7 17), seed := arg r 24 1, inc := arg r 25 1 }
  ({ payload := le32 (arg r 3 4) }, logRf 0x704 n i (setLink n i (some { l with update := some u }) s))

def execRfLinkUpdate (src : Src) (s : State) : Host.Outcome State Fault Refusal :=
  runCmd 0x0705 rfLinkUpdateCheck rfLinkUpdateRun src s

def rfLinkRemoveCheck (_ : Src) (r : Req) (s : State) : Option Status :=
  firstFail [(rfOff s, .nores), (rfFenced s (arg r 0 1), .fenced), ((namedLink s r).isNone, .badarg)]

def rfLinkRemoveRun (_ : Src) (r : Req) (s : State) : Reply × State := ({}, removeLink (arg r 0 1) (arg r 1 2) 2 s)

def execRfLinkRemove (src : Src) (s : State) : Host.Outcome State Fault Refusal :=
  runCmd 0x0706 rfLinkRemoveCheck rfLinkRemoveRun src s

def rfLinkReadCheck (_ : Src) (r : Req) (s : State) : Option Status :=
  firstFail [(rfOff s, .nores), ((namedLink s r).isNone, .badarg)]

def rfLinkReadRun (_ : Src) (r : Req) (s : State) : Reply × State :=
  let l := (namedLink s r).getD {}
  ({ payload := le16 l.short ++ le64 l.eui ++ le8 l.keySlot ++ le32 l.w ++ le32 l.e ++ le32 l.eLast ++ le72 l.aLast
      ++ leBytes 17 l.map.toNat ++ le8 l.seed ++ le8 l.inc ++ le16 l.sup ++ le16 l.guard ++ le32 l.acc ++ le8 l.alpha
      ++ le8 l.missRv ++ leInt 4 l.err ++ le64 l.var ++ le16 l.learned ++ le8 l.misses ++ le8 (linkStateCode l.state)
      ++ le32 l.skipped ++ le32 l.anchors ++ le8 l.downlinks.length }, s)

def execRfLinkRead (src : Src) (s : State) : Host.Outcome State Fault Refusal :=
  runCmd 0x0707 rfLinkReadCheck rfLinkReadRun src s

/-! ### `RF_TX` (R292, R308, R310) -/

/-- The frame of an RF_TX request: destination in bytes 1–8, flags 9, key index 10, payload from 11. -/
def rfTxArg (q idx : Nat) (r : Req) : RfTxFrame :=
  let flags := arg r 9 1
  { short := if bitOf flags 2 then 0xFFFF else arg r 1 2, eui := if bitOf flags 2 then arg r 1 8 else 0,
    payload := r.payload.drop 11, secure := bitOf flags 0, ack := bitOf flags 1, keyMode := if bitOf flags 3 then 0 else 1,
    keyIndex := arg r 10 1, queue := 4, host := some (q, idx) }

def rfTxCheck (_ : Src) (r : Req) (s : State) : Option Status :=
  let n := arg r 0 1
  let c := rfOf s n
  firstFail [(rfOff s, .nores), (rfFenced s n, .fenced),
    (decide (6 ≤ n) || c.phy == 0
      || decide (c.txOnMax * 1000 < Config.rfAirtimeUs c.phy c.rate (r.payload.length - 11)), .badarg)]

def rfTxRun (src : Src) (r : Req) (s : State) : Reply × State :=
  match src with
  | .mb _ => (fail .denied, s)
  | .sq q idx =>
    match enqueueRf (arg r 0 1) (rfTxArg q idx r) s with
    | some s' => ({ status := .accepted }, s')
    | none => (fail .nores, s)

def execRfTx (src : Src) (s : State) : Host.Outcome State Fault Refusal := runCmd 0x0708 rfTxCheck rfTxRun src s

/-! ### `RF_DEV_DELETE` (R310) -/

def rfDevDeleteCheck (_ : Src) (r : Req) (s : State) : Option Status :=
  let net := rfNetOf s (arg r 0 1)
  let d := devOf net (arg r 1 8)
  firstFail [(rfOff s, .nores), (decide (2 ≤ arg r 0 1) || d.isNone, .badarg), ((d.getD {}).link.isSome, .busy)]

def rfDevDeleteRun (_ : Src) (r : Req) (s : State) : Reply × State :=
  let k := arg r 0 1
  let net := rfNetOf s k
  ({}, setRfNet k { net with devices := dropKey net.devices (arg r 1 8) } s)

def execRfDevDelete (src : Src) (s : State) : Host.Outcome State Fault Refusal :=
  runCmd 0x0709 rfDevDeleteCheck rfDevDeleteRun src s

end Sys2Proof.Machine
end

