-- ==== Sys2Proof/Machine/Fences.lean ====
section
/-! DEFINITION. What a fence discards and posts, the recovery of a unit, the fault sources whose class the chapter fixes, and
reconciliation (spec/14_faults_logbook.md, R479–R487, R492, R493, R504; spec/02_host_interface_nulvo.md, R73). -/

namespace Sys2Proof.Machine

/-! ### What a unit holds is discarded (R484, R485) -/

/-- Drop the lane operations of the frames of a pipeline (R328). -/
def dropLaneOps (n : Nat) (s : State) : State :=
  (List.range 64).foldl (fun s l =>
    let x := laneOf s l
    match x.op with
    | some o =>
      if o.fip = n ∧ (sessionOf o.kind).isNone then setLane l { clearLane x with discarded := (x.discarded + 1) % 2 ^ 32 } s
      else s
    | none => s) s

/-- Fail the session operations that wait in a lane queue, and drop every operation of it. -/
def dropLaneQueue (n : Nat) (s : State) : State :=
  let s := (laneQueue s n).foldl (fun s r => match sessionOf r.kind with
    | some i => sessionFails i r.kind s
    | none => s) s
  setLaneQueue n [] s

/-- Pipeline `n`: its FIFO and its in-flight frames (R328, R350). -/
def discardFip (n : Nat) (s : State) : State :=
  let f := fipOf s n
  let s := f.fifo.foldl (fun s d => freeReply d.env (claimEntry d.host (8 + n) s)) s
  let s := f.flights.foldl (fun s fl => discardFrame n fl .fenced (claimEntry fl.desc.host (8 + n) s)) s
  let s := dropLaneQueue n (dropLaneOps n s)
  countWork (8 + n) (f.fifo.length + f.flights.length) (setFip n { fipOf s n with fifo := [], flights := [], closed := none } s)

/-- Lane `l`: its operation, with its frame; WKR and AAD buffer are cleared (R361, R364). -/
def discardLane (l : Nat) (s : State) : State :=
  let x := laneOf s l
  let s := match x.testMb with
    | some m => finishMb m .fenced [] s
    | none => s
  match x.op with
  | none => setLane l { clearLane x with state := .fenced, testMb := none } s
  | some o =>
    let s := setLane l { clearLane x with
      state := .fenced, testMb := none, discarded := (x.discarded + 1) % 2 ^ 32 } s
    let s := countWork (24 + l) 1 s
    match sessionOf o.kind with
    | some i => sessionFails i o.kind s
    | none =>
      match flightOf s o.fip o.tag with
      | some fl => discardFrame o.fip fl .fenced (claimEntry fl.desc.host (24 + l) s)
      | none => s

/-- Powerline channel `n`: transmit queues, reassemblies, and the refresh commands in progress. -/
def discardPl (n : Nat) (s : State) : State :=
  let c := plOf s n
  let held := c.acks.length + c.reply.length + c.fwd.length + c.nulvo.length + c.host.length
  let s := dropPlQueues n .fenced s
  let s := (plOf s n).tmCommands.foldl (fun s t => finishMb t.mb .fenced [] s) s
  countWork (103 + n) held (setPl n { plOf s n with tmCommands := [], parts := [] } s)

/-- Radio channel `n`: transmit queues and the exchange in progress. -/
def discardRf (n : Nat) (s : State) : State :=
  let c := rfOf s n
  countWork (119 + n) (c.reply.length + c.nulvo.length + c.host.length) (dropRfQueues n .fenced s)

/-- The work that unit `u` has accepted and not completed is discarded (R484, R485). -/
def discardUnit (u : Nat) (s : State) : State :=
  if u = 2 then { s with host := { s.host with popStall := none } }
  else if u = 4 then
    let s := s.clock.pps.foldl (fun s p => finishMb p.mb .fenced [] s) s
    let s := (List.range 12).foldl (fun s n =>
      match (tb s n).pend with
      | some p => p.mbs.foldl (fun s m => finishMb m .fenced [] s) (setTb n { tb s n with pend := none } s)
      | none => s) s
    { s with clock := { s.clock with pps := [] } }
  else if u = 5 then
    let n := sumN (s.balance.groups.map fun p => p.2.opens.length)
    countWork 5 n { s with balance := { s.balance with groups := s.balance.groups.map fun p => (p.1, { p.2 with opens := [] }) } }
  else if 8 ≤ u ∧ u ≤ 23 then discardFip (u - 8) s
  else if 24 ≤ u ∧ u ≤ 87 then discardLane (u - 24) s
  else if 88 ≤ u ∧ u ≤ 91 then
    match pkeRunning s (u - 88) with
    | some r => countWork u 1 (pkeServe (pkeDrop r (setPke (u - 88) none s)))
    | none => s
  else if 93 ≤ u ∧ u ≤ 96 then
    let (a, b) := s.ingest.ingress.partition fun e => e.eth == u - 93
    countWork u a.length (setPause { s with ingest := { s.ingest with ingress := b } })
  else if 99 ≤ u ∧ u ≤ 102 then
    let b := smbOf s (u - 99)
    countWork u b.requests.length (setSmb (u - 99) { b with requests := [] } s)
  else if 103 ≤ u ∧ u ≤ 118 then discardPl (u - 103) s
  else if 119 ≤ u ∧ u ≤ 124 then discardRf (u - 119) s
  else if u = 125 then
    match s.meter.capturing with
    | some c => finishMb c.mb .fenced [] { s with meter := { s.meter with capturing := none } }
    | none => s
  else if 128 ≤ u ∧ u ≤ 135 then
    let s := if (cpOf s (u - 128)).state = .off then s else cpDrop (u - 128) 8 .off s
    prepayFenced (u - 128) s
  else s

/-- The discards of a fence: a fenced DRAM controller takes every unit that depends on PD6 with it (R484). -/
def discardFenced (u : Nat) (s : State) : State :=
  if u = 92 then ((List.range 138).filter needsPd6).foldl (fun s v => discardUnit v s) s else discardUnit u s

/-- The queue entry's work lies in unit `u`, or in a unit that its fence takes with it. -/
def heldBy (u : Nat) (e : Entry) : Bool :=
  match e.unit with
  | some v => v == u || (u == 92 && needsPd6 v)
  | none => false

/-! ### FENCE completions (R73) -/

/-- Release the completion-queue reservations of `n` entries. -/
def releaseCqs (sq : Nat) : Nat → State → State
  | 0, s => s
  | n + 1, s => releaseCqs sq n (releaseCq sq s)

/-- Post one FENCE for a submission queue (R73), once the PCIe function can write it (R43, R484): the oldest entry without a completion
names it, SQ_HEAD moves to SQ_TAIL, and every entry without a completion is void; `keep` says which of them are still carried out, without a completion (R485). -/
def postFence (sq : Nat) (st : Status) (keep : Entry → Bool) (s : State) : State :=
  let q := sqOf s sq
  let live := q.running.filter fun e => !e.void
  match live with
  | [] => s
  | e :: rest =>
    let run := (q.running.filter keep).map fun x => { x with void := true }
    let s := setSq sq { q with
      head := q.tail, fencedSeen := true, running := run, en := q.en && !(q.closing && run.isEmpty),
      closing := q.closing && !run.isEmpty } s
    let w : WaitFence := { tag := e.req.tag, status := st, head := q.tail, flushes := q.flushes }
    let s := releaseCqs sq rest.length s
    if pcieServes s then postWaitFence sq w s else setSq sq { sqOf s sq with fences := (sqOf s sq).fences ++ [w] } s

/-- The FENCE of one queue after the fence of unit `u`: posted when an entry of it lay in the unit. An entry whose work runs in
another unit is carried out; an entry that nothing has begun is not. -/
def fenceQueue (u : Nat) (s : State) (sq : Nat) : State :=
  let q := sqOf s sq
  if q.running.any fun e => heldBy u e && !e.void then postFence sq .fenced (fun e => e.started && !heldBy u e) s
  else setSq sq { q with running := q.running.filter fun e => !heldBy u e } s

/-- The submission queues that a fence of unit `u` affects. -/
def fencedQueues (u : Nat) (s : State) : List Nat :=
  (List.range 64).filter fun sq => (sqOf s sq).running.any fun e => heldBy u e && !e.void

/-- Post the FENCE entries of unit `u`. -/
def postFences (u : Nat) (s : State) : State := (List.range 64).foldl (fenceQueue u) s

/-- `FENCE_COMPLETE` (R481, R485): the unit's work is discarded, the FENCE completions are posted, logbook 0xC02 and its notice,
the staging buffer is flushed, V193. During a restart only the state of a PD10 unit moves on (R551). -/
def fenceComplete (u : Nat) (s : State) : State :=
  if (unitOf s u).state = .handlingF2 then
    if fabricUp s then
      let s := discardFenced u s
      let posted := (fencedQueues u s).length
      let s := postFences u s
      let f := unitOf s u
      let s := setUnit u { f with state := .fenced, fenceWork := 0 } s
      let s := { s with log := { s.log with events := bitSet s.log.events 0 } }
      let n := (recent (ageSec s) 86400 f.fences).length
      raiseV 193 (flush (logNotice 0xC02 u 0xFFFF [snapN f.fenceCause, snapN f.fenceWork, snapN posted, snapN n] s))
    else if u = 125 ∨ u = 126 then setUnit u { unitOf s u with state := .fenced } s
    else s
  else s

def execFenceComplete (unit : Nat) (s : State) : Host.Outcome State Fault Refusal :=
  within "fault unit" unit 138 (fenceComplete unit s)

/-! ### Handling slots (R479, R481) -/

/-- `F1_HANDLING_COMPLETE` (R479). -/
def f1Complete (u : Nat) (s : State) : State :=
  if (unitOf s u).state = .handlingF1 then setUnit u { unitOf s u with state := .ready } s else s

def execF1HandlingComplete (unit : Nat) (s : State) : Host.Outcome State Fault Refusal :=
  within "fault unit" unit 138 (f1Complete unit s)

/-- `F1_REPEAT_TIMEOUT` (R479, R550): the F1 is taken as an F2 with ESCALATED. -/
def f1Timeout (u : Nat) (s : State) : State :=
  let f := unitOf s u
  if f.state = .handlingF1 then takeF2 u f.fenceCause 1 true f.f1Obj f.f1Snaps s else s

def execF1RepeatTimeout (unit : Nat) (s : State) : Host.Outcome State Fault Refusal :=
  within "fault unit" unit 138 (f1Timeout unit s)

/-! ### Recovery (R486, R487) -/

/-- The working memory of a unit is cleared at its reset, and an engine's code is loaded again (R487): the junction table and learn queue of a pipeline, the keys of a
lane, the milestone FIFO, the states of a radio channel's links. -/
def resetUnit (u : Nat) (s : State) : State :=
  let s := loadEngine u s
  if u = 4 then { s with clock := { s.clock with fifo := [] } }
  else if 8 ≤ u ∧ u ≤ 23 then
    let n := u - 8
    let s := { s with ingest := { s.ingest with junction := s.ingest.junction.filter fun p => p.1 / 32768 != n } }
    setFip n { fipOf s n with learn := [], parityTimes := [] } s
  else if 24 ≤ u ∧ u ≤ 87 then setLane (u - 24) { clearLane (laneOf s (u - 24)) with state := .fenced } s
  else s

/-- What a unit does as it becomes READY again (R307, R484). -/
def unitReturns (u : Nat) (s : State) : State :=
  if u = 5 then
    { s with balance := { s.balance with groups := s.balance.groups.map fun p =>
        (p.1, { p.2 with last := max p.2.last (tb2Sec s / secsOf p.2 * secsOf p.2) }) } }
  else if 24 ≤ u ∧ u ≤ 87 then setLane (u - 24) (clearLane (laneOf s (u - 24))) s
  else if 88 ≤ u ∧ u ≤ 91 then pkeServe s
  else if u = 97 then postAllWaiting (sendPending 256 s)
  else if 119 ≤ u ∧ u ≤ 124 then
    resumeLinks (u - 119) s
  else s

def unitRecoverCheck (_ : Src) (r : Req) (s : State) : Option Status :=
  let u := arg r 0 1
  let f := unitOf s u
  firstFail [(decide (u < 138) && !active s (unitDomain u), .nores), (f.retired && f.state == .fenced, .fenced), (!fenceable u, .badarg),
    (f.state != .fenced, .busy)]

/-- `UNIT_RECOVER` (R487). -/
def unitRecoverRun (src : Src) (r : Req) (s : State) : Reply × State :=
  let u := arg r 0 1
  let m := match src with
    | .mb n => some n
    | .sq _ _ => none
  (fail .accepted, resetUnit u (setUnit u { unitOf s u with state := .recovering, recoverMb := m } s))

def execUnitRecover (src : Src) (s : State) : Host.Outcome State Fault Refusal :=
  runCmd 0x0C07 unitRecoverCheck unitRecoverRun src s

/-- `UNIT_RECOVERY_END` (R481, R487): READY with the unit back in service, or FENCED; logbook 0xC06. -/
def recoveryEnd (u : Nat) (passed : Bool) (s : State) : State :=
  let f := unitOf s u
  if f.state = .recovering then
    if passed then
      let s := unitReturns u (setUnit u { f with state := .ready, recoverMb := none } s)
      let s := logEv 0xC06 u 0xFFFF [snapN 0, snapN 0] s
      match f.recoverMb with
      | some m => finishMb m .ok (le8 (unitStateCode .ready)) s
      | none => s
    else recoveryFails u 1 s
  else s

def execUnitRecoveryEnd (unit : Nat) (passed : Bool) (s : State) : Host.Outcome State Fault Refusal :=
  within "fault unit" unit 138 (recoveryEnd unit passed s)

/-! ### Fault sources (R482) -/

/-- `WATCHDOG_EXPIRY` (R469). -/
def execWatchdogExpiry (pair : Nat) (s : State) : Host.Outcome State Fault Refusal :=
  within "Gorjo pair" pair 2 (if fabricUp s then raiseFault pair 0xB0E 3 0xFFFF (bootDefaults s 0xFFFF) s else s)

/-- `LOCKSTEP_MISMATCH` (R482). -/
def execLockstepMismatch (pair pc checkpoint : Nat) (s : State) : Host.Outcome State Fault Refusal :=
  within "Gorjo pair" pair 2 (if fabricUp s then raiseFault pair 0xC13 3 0xFFFF [snapN pc, snapN checkpoint] s else s)

/-- `BUS_TIMEOUT` (R482): an F2 of the target unit. -/
def execBusTimeout (unit source transaction : Nat) (s : State) : Host.Outcome State Fault Refusal :=
  within "fault unit" unit 138
    (if s.power.aux then raiseFault unit 0xC14 2 0xFFFF [snapN source, snapN transaction] s else s)

/-- `MRAM_VERIFY_FAILURE` (R482): the write is repeated. -/
def execMramVerifyFailure (addr attempts : Nat) (s : State) : Host.Outcome State Fault Refusal :=
  .next (if s.power.aux then raiseFault 136 0xC15 1 0xFFFF [snapN addr, snapN attempts] s else s)

/-- The supply fault class of a domain (R22). -/
def supplyClass (d : Nat) : Nat := if d ≤ 2 ∨ d = 6 ∨ d = 7 then 3 else 2

/-- `DOMAIN_SUPPLY_FAULT` (R482): the class of R22 for every unit of the domain. -/
def supplyFaultOf (d rail : Nat) (s : State) : State :=
  let s := { s with power := { s.power with supplyFault := bitSet s.power.supplyFault d } }
  (unitsOf d).foldl (fun s u => raiseFault u 0xC16 (supplyClass d) 0xFFFF [snapN d, snapN rail] s) s

def execDomainSupplyFault (domain rail : Nat) (s : State) : Host.Outcome State Fault Refusal :=
  within "power domain" domain 12 (if s.power.aux then supplyFaultOf domain rail s else s)

/-- Discard the oldest packet of a queue that lies in the pond (R482): its SEQ is left as a gap, its reply-store entry is freed. -/
def dropPond (q : Nat) (s : State) : State :=
  let h := hqOf s q
  match h.pond with
  | [] => s
  | p :: r =>
    let s := setHq q { h with pond := r, pkts := if hqMode h.cfg = 0 then h.pkts else h.pkts - 1 } s
    freeReply p.reply { s with host := { s.host with pondFree := s.host.pondFree + packetCells p } }

/-- Discard the oldest packet of a queue's pans. -/
def dropFromPan (q : Nat) (s : State) : State :=
  let h := hqOf s q
  match (otherPan h).pkts, (fillPan h).pkts with
  | p :: _, _ => freeReply p.reply (handOff q (setHq q (setOther h (dropPan (otherPan h))) s))
  | [], p :: _ => freeReply p.reply (handOff q (setHq q (setFill h (dropPan (fillPan h))) s))
  | [], [] => s

/-- The frame, packet or record that an uncorrectable error in a buffer word concerns is discarded (R482). -/
def dropWork (u work : Nat) (s : State) : State :=
  if 8 ≤ u ∧ u ≤ 23 then
    match flightOf s (u - 8) work with
    | some fl => discardFrame (u - 8) fl .discarded s
    | none => s
  else if u = 3 then dropFromPan work s
  else if u = 6 then { s with log := { s.log with staging := s.log.staging.eraseIdx work } }
  else s

/-- A corrected ECC error (R480, R505): the count since the last record that was staged goes with the record. -/
def correctedError (u addr : Nat) (s : State) : State :=
  let n := look 0 s.log.corrected u + 1
  let held := s.log.staging.length + s.log.ring.length
  let s := countedFault u 0xC12 0 0xFFFF [snapN addr, snapN n] s
  let staged := decide (held < s.log.staging.length + s.log.ring.length)
  { s with log := { s.log with corrected := put 0 s.log.corrected u (if staged then 0 else n) } }

/-- `ECC_ERROR` (R482), classed by where it lies. For a DRAM place the row's syndrome is the number of the area. -/
def eccError (e : EccError) (s : State) : State :=
  let sram := [snapN e.addr, snapN e.syndrome]
  match e.place with
  | .corrected => correctedError e.unit e.addr s
  | .frameBuffer => dropWork e.unit e.work (raiseFault e.unit 0xC10 1 0xFFFF sram s)
  | .workingMemory => raiseFault e.unit 0xC10 2 0xFFFF sram s
  | .codeStore => raiseFault 1 0xC10 3 0xFFFF sram s
  | .dramTables => raiseFault e.unit 0xC11 2 0xFFFF sram s
  | .pondCell => dropPond e.work (raiseFault 3 0xC11 1 0xFFFF sram s)
  | .dramRuntime => raiseFault 92 0xC11 3 0xFFFF sram s

def execEccError (e : EccError) (s : State) : Host.Outcome State Fault Refusal :=
  within "fault unit" e.unit 138 (if s.power.aux then eccError e s else s)

/-! ### Injection (R504) -/

def faultInjectCheck (_ : Src) (r : Req) (s : State) : Option Status :=
  firstFail [(lcState s != .mfg && lcState s != .provision, .lifecycle),
    (decide (138 ≤ arg r 0 1 ∨ 3 < arg r 1 1 ∨ 4096 ≤ arg r 2 2), .badarg)]

/-- The command's own record; the fault follows its response. -/
def faultInjectRun (_ : Src) (r : Req) (s : State) : Reply × State :=
  ({}, logEv 0xC0C (arg r 0 1) 0xFFFF [snapN (arg r 2 2), snapN (arg r 1 1)] s)

/-- The request that a source holds and that passes the checks of FAULT_INJECT. -/
def injecting (src : Src) (s : State) : Option Req :=
  match takenReq s src with
  | some r => if r.opcode = 0x0C08 ∧ faultInjectCheck src r s = none then some r else none
  | none => none

/-- The snapshots of an injected fault's record (R496, R504): the values that the rule of the code names do not arise from an injection, and the
defaults of the subject stand alone. -/
def injectSnaps (code : Nat) (s : State) : List Time :=
  if code / 256 = 0xB then bootDefaults s 0xFFFF
  else if code / 256 = 9 then [0, 0, snapN (lcCode (lcState s))]
  else []

/-- The fault that an accepted FAULT_INJECT raises after its response. -/
def injectAfter (req : Option Req) (s : State) : State :=
  match req with
  | some r => raiseFault (arg r 0 1) (arg r 2 2) (arg r 1 1) 0xFFFF (injectSnaps (arg r 2 2) s) s
  | none => s

/-- `FAULT_INJECT` (R504). -/
def execFaultInject (src : Src) (s : State) : Host.Outcome State Fault Refusal :=
  match runCmd 0x0C08 faultInjectCheck faultInjectRun src s with
  | .next t => .next (injectAfter (injecting src s) t)
  | o => o

/-! ### Reconciliation (R492, R493) -/

/-- The class and the units of the second mismatch of an item; no action for items 7 and 9. -/
def mismatchFault (m : Mismatch) : Option (Nat × List Nat) :=
  if m.item = 1 then some (supplyClass (unitDomain m.unit), unitsOf (unitDomain m.unit))
  else if m.item = 5 then some (2, [4])
  else if m.item = 8 then some (2, [5])
  else if m.item = 2 ∨ m.item = 3 ∨ m.item = 4 ∨ m.item = 6 then some (2, [m.unit])
  else none

/-- One mismatch (R493). On the first, the hardware takes the intent again, which is the configuration that the state holds. On
the second within 60 s, the fault of the last column; its record is the 0xC05 of the mismatch. -/
def mismatch (m : Mismatch) (s : State) : State :=
  let f := unitOf s m.unit
  if shownState s m.unit = .ready then
    let now := ageSec s
    let second := f.mismatches.any fun x => x.1 == m.item && decide (now < x.2 + 60)
    let others := f.mismatches.filter fun x => x.1 != m.item && decide (now < x.2 + 60)
    let s := setUnit m.unit { f with
      mismatches := if second then others else (m.item, now) :: others
      firstMismatch := if second then f.firstMismatch else tbVal s 0 } s
    let s := { s with log := { s.log with
      events := bitSet s.log.events 3, mismatchCount := (s.log.mismatchCount + 1) % 2 ^ 32 } }
    let snaps := [snapN m.item, snapN m.hardware, snapN m.intent, snapN (if second then 2 else 1)]
    let s := raiseV 236 (notice 0xC05 0 m.unit (snapBytes 5 snaps) s)
    match (if second then mismatchFault m else none) with
    | some (cls, us) => us.foldl (fun s u => raiseFault u 0xC05 cls 0xFFFF snaps s) s
    | none => logEv 0xC05 m.unit 0xFFFF snaps s
  else s

/-- `RECONCILIATION_PASS` (R492). -/
def reconcile (found : List Mismatch) (s : State) : State :=
  if fabricUp s then found.foldl (fun s m => if m.unit < 138 then mismatch m s else s) s else s

def execReconciliationPass (found : List Mismatch) (s : State) : Host.Outcome State Fault Refusal := .next (reconcile found s)

end Sys2Proof.Machine
end

