-- ==== Sys2Proof/Machine/Container.lean ====
section
/-! DEFINITION. The Fudeyr container: header, segment table, signature blocks, the plaintext of its segments, and the code of each engine
(spec/13_start_up_firmware.md, R456, R458–R460). -/

namespace Sys2Proof.Machine

/-- The longest container, 112 MiB (R456). -/
def bankSize : Nat := 117440512

/-- Fields of a container's header. -/
def imgFlags (c : Bytes) : Nat := fieldU c 5 1
def imgCount (c : Bytes) : Nat := fieldU c 10 2
def imgVersion (c : Bytes) : Nat := fieldU c 12 4
def imgSvn (c : Bytes) : Nat := fieldU c 16 2
def imgCe (c : Bytes) : Nat := fieldU c 18 1
def imgMpe (c : Bytes) : Nat := fieldU c 19 1
def imgCfgFmt (c : Bytes) : Nat := fieldU c 20 2
def imgCfgMin (c : Bytes) : Nat := fieldU c 22 2
def imgLegalApi (c : Bytes) : Nat := fieldU c 24 2
def imgLegalFmt (c : Bytes) : Nat := fieldU c 26 2

/-- The container carries legal segments: flag bit 1. -/
def imgHasLegal (c : Bytes) : Bool := bitOf (imgFlags c) 1

/-- Entry `i` of the segment table. -/
def segEntry (c : Bytes) (i : Nat) : Bytes := fieldB c (64 + 48 * i) 48

def segEngine (e : Bytes) : Nat := fieldU e 0 1
def segOffset (e : Bytes) : Nat := fieldU e 4 4
def segLength (e : Bytes) : Nat := fieldU e 8 4
def segLoad (e : Bytes) : Nat := fieldU e 12 4

def segEntries (c : Bytes) : List Bytes := (List.range (imgCount c)).map (segEntry c)

/-- Engines 0x07 and 0x08 are legal. -/
def legalEngine (k : Nat) : Bool := k == 7 || k == 8

/-- The end of the signed part: header and segment table. -/
def tableEnd (c : Bytes) : Nat := 64 + 48 * imgCount c

/-- The end of the signature blocks. -/
def blocksEnd (c : Bytes) : Nat := tableEnd c + (if bitOf (imgFlags c) 0 then 400 else 200)

/-- The most bytes that an engine's segments take together; the two legal engines share theirs. -/
def engineMax (k : Nat) : Nat :=
  if k = 1 then 8388608 else if k = 2 then 100663296 else if k = 3 then 524288 else if k = 4 then 1048576
  else if k = 5 then 524288 else if k = 6 then 262144 else 4128768

/-- The bytes that an engine's segments take. -/
def engineTotal (c : Bytes) (p : Nat → Bool) : Nat :=
  sumN ((segEntries c).map fun e => if p (segEngine e) then segLength e else 0)

def totalsOk (c : Bytes) : Bool :=
  ([1, 2, 3, 4, 5, 6].all fun k => decide (engineTotal c (· == k) ≤ engineMax k))
    && decide (engineTotal c legalEngine ≤ engineMax 7)

/-- One segment: engine code, flag bit 0 on the legal engines alone, 4 KiB-aligned offset, bounds. -/
def segOk (c : Bytes) (len : Nat) (e : Bytes) : Bool :=
  decide (1 ≤ segEngine e ∧ segEngine e ≤ 8) && (bitOf (fieldU e 1 1) 0 == legalEngine (segEngine e))
    && decide (segOffset e % 4096 = 0 ∧ blocksEnd c ≤ segOffset e ∧ 1 ≤ segLength e ∧ segOffset e + segLength e ≤ len)

/-- A reserved field of the header, of a segment entry or of a signature block at `o` is not 0 (R459, R460). -/
def headReserved (c : Bytes) : Bool := decide (4 ≤ imgFlags c ∨ 2 ≤ fieldU c 8 2)
def segReserved (e : Bytes) : Bool := decide (2 ≤ fieldU e 1 1 ∨ fieldU e 44 4 ≠ 0)
def blockReserved (c : Bytes) (o : Nat) : Bool := decide (fieldU c (o + 1) 3 ≠ 0 ∨ fieldU c (o + 197) 3 ≠ 0)

def reservedUsed (c : Bytes) : Bool :=
  headReserved c || (segEntries c).any segReserved || blockReserved c (tableEnd c)
    || (bitOf (imgFlags c) 0 && blockReserved c (tableEnd c + 200))

/-- Reason 1 (R470): the form of a container of `len` bytes. A reserved field that is not 0 is a reserved field value, which R470 refuses where
R10 would ignore it (DEDUCED, assumption log 28). -/
def imgFormOk (c : Bytes) (len : Nat) : Bool :=
  decide (fieldB c 0 4 = [0x46, 0x44, 0x59, 0x52]) && fieldU c 4 1 == 1 && fieldU c 28 4 == len
    && decide (len ≤ bankSize ∧ 1 ≤ imgCount c ∧ imgCount c ≤ 64) && decide (blocksEnd c ≤ len)
    && (segEntries c).all (segOk c len) && totalsOk c && !reservedUsed c
    && (imgHasLegal c == (segEntries c).any fun e => legalEngine (segEngine e))

/-- Signature block fields (R460), from the block's offset. -/
def sigKey (c : Bytes) (o : Nat) : Bytes := fieldB c (o + 4) 97
def sigBytes (c : Bytes) (o : Nat) : Bytes := fieldB c (o + 101) 96

/-- The Yarnogan signature (R460). -/
def yarnoganOk (c : Bytes) : Bool :=
  let o := tableEnd c
  let k := fieldU c o 1
  decide (k < 4) && decide (Config.sha384 (sigKey c o) = Config.yarnoganKey k)
    && Config.ecdsaVerify (sigKey c o) (Config.sha384 (c.take o)) (sigBytes c o)

/-- A segment in plaintext: AES-256-GCM under IK, with entry bytes 0–15 as AAD (R459). -/
def segPlain (c ik e : Bytes) : Option Bytes :=
  Config.gcmOpen ik (fieldB e 16 12) (fieldB e 0 16) (fieldB c (segOffset e) (segLength e)) (fieldB e 28 16)

/-- The plaintext legal segments in table order, where every one opens. -/
def legalPlain (c ik : Bytes) : Option Bytes :=
  (segEntries c).foldl (fun acc e =>
    if legalEngine (segEngine e) then
      match acc, segPlain c ik e with
      | some a, some p => some (a ++ p)
      | _, _ => none
    else acc) (some [])

/-- LEGAL_DIGEST (R459): 0 when there are no legal segments. -/
def legalDigestOk (c ik : Bytes) : Bool :=
  if imgHasLegal c then
    match legalPlain c ik with
    | some p => decide (Config.sha256 p = fieldB c 32 32)
    | none => false
  else true

/-- Every segment opens under the image key; without the key none does. -/
def segsOpen (c : Bytes) : Option Bytes → Bool
  | some ik => (segEntries c).all fun e => (segPlain c ik e).isSome
  | none => false

/-- The code of an engine in a container: the plaintext of its segments at their load offsets (R459). -/
def codeOf (c ik : Bytes) (k : Nat) : Code :=
  (segEntries c).filterMap fun e => if segEngine e = k then (segPlain c ik e).map fun p => (segLoad e, p) else none

/-- A half of the code store: the engines placed in it (R458, R459). -/
def imageHalf (c ik : Bytes) : Tab Code := [1, 3, 4, 5, 6].foldl (fun t k => put [] t k (codeOf c ik k)) []

/-- The code of legal engine `k` in a legal store copy: the plaintext segments follow the header copy in table order (R456). -/
def legalCode (head body : Bytes) (k : Nat) : Code :=
  ((segEntries head).foldl (fun (acc : Nat × Code) e =>
    if legalEngine (segEngine e) then
      (acc.1 + segLength e, if segEngine e = k then acc.2 ++ [(segLoad e, fieldB body acc.1 (segLength e))] else acc.2)
    else acc) (0, [])).2

end Sys2Proof.Machine
end

