-- ==== Sys2Proof/Machine/Pd10.lean ====
section
/-! DEFINITION. The start of PD10: the legal copy in force is hashed and compared, the registers are restored, and the
metrology DSP and the tariff engine run (spec/13_start_up_firmware.md, R463, R475; spec/05_tariffs_billing_legal.md, R206, R211;
spec/03_time_bases_milestones.md, R114, R556). -/

namespace Sys2Proof.Machine

/-- Plaintext legal segments held in a copy: 0 A, 1 B (R456). -/
def legalBytes (s : State) (k : Nat) : Bytes := if k = 0 then s.firm.legalA else s.firm.legalB

/-- The digest that the directory records for a copy (R457). -/
def legalDigest (s : State) (k : Nat) : Bytes := if k = 0 then s.firm.digestA else s.firm.digestB

/-- The code of a bank state (R457). -/
def bankCode : BankState → Nat
  | .empty => 0
  | .staging => 1
  | .staged => 2
  | .trial => 3
  | .confirmed => 4

/-- The 64 bytes of a bank record (R457). -/
def bankBytes (k : Bank) : Bytes :=
  le8 (bankCode k.state) ++ le8 k.trials ++ le16 k.svn ++ le32 k.version ++ le8 k.ce ++ le8 k.mpe ++ [0, 0] ++ le32 k.length
    ++ padTo 40 k.ik ++ List.replicate 8 0

/-- Bytes 4 to 199 of the directory (R457). -/
def directoryBytes (s : State) : Bytes :=
  le8 s.firm.active ++ le8 (s.firm.legalCopy.getD 0xFF) ++ [0, 0] ++ bankBytes s.firm.bank0 ++ bankBytes s.firm.bank1
    ++ padTo 32 s.firm.digestA ++ padTo 32 s.firm.digestB

/-- A directory copy as it stands in flash: sequence number, contents, and CRC-16 over the first 4,094 bytes (R457). -/
def directoryPage (s : State) : Bytes :=
  let b := padTo 4094 (le32 s.firm.dirSeq ++ directoryBytes s)
  b ++ leBytes 2 (crc16 b).toNat

/-- Every directory update writes the other copy, with the next sequence number (R457). A copy is written
whole in one step: no row of the table cuts a write short (assumption log 10). -/
def dirWrite (s : State) : State :=
  let k := 1 - s.firm.dirCopy
  let s := { s with firm := { s.firm with dirSeq := (s.firm.dirSeq + 1) % 2 ^ 32, dirCopy := k } }
  { s with firm := { s.firm with dirPages := put [] s.firm.dirPages k (directoryPage s) } }

/-- The state of a bank from its code; reserved codes read as EMPTY (R457, R10). -/
def bankStateOf (k : Nat) : BankState :=
  match k with
  | 1 => .staging
  | 2 => .staged
  | 3 => .trial
  | 4 => .confirmed
  | _ => .empty

/-- Bytes that are not all 0. -/
def filled (b : Bytes) : Bytes := if b.all (· == 0) then [] else b

/-- A bank record from its 64 bytes (R457). -/
def bankParse (b : Bytes) : Bank :=
  { state := bankStateOf (fieldU b 0 1), trials := fieldU b 1 1, svn := fieldU b 2 2, version := fieldU b 4 4, ce := fieldU b 8 1
    mpe := fieldU b 9 1, length := fieldU b 12 4, ik := filled (fieldB b 16 40) }

/-- A directory copy whose CRC is correct (R457). -/
def pageOk (p : Bytes) : Bool := decide (p.length = 4096) && fieldU p 4094 2 == (crc16 (p.take 4094)).toNat

/-- Sequence number `a` is later than `b`: 1 to 2^31 − 1 ahead, modulo 2^32 (R457, as R154). -/
def laterSeq (a b : Nat) : Bool :=
  let d := (a + 2 ^ 32 - b % 2 ^ 32) % 2 ^ 32
  decide (1 ≤ d ∧ d < 2 ^ 31)

/-- The directory copy that a start uses: the one with a correct CRC and the later sequence number (R457). -/
def chosenPage (s : State) : Option (Nat × Bytes) :=
  let a := look [] s.firm.dirPages 0
  let b := look [] s.firm.dirPages 1
  match pageOk a, pageOk b with
  | true, true => if laterSeq (fieldU b 0 4) (fieldU a 0 4) then some (1, b) else some (0, a)
  | true, false => some (0, a)
  | false, true => some (1, b)
  | false, false => none

/-- The directory is read at a start (R457, R463); with no correct copy nothing is read. -/
def loadDirectory (s : State) : State :=
  match chosenPage s with
  | none => s
  | some (k, p) =>
    { s with firm := { s.firm with
        dirCopy := k, dirSeq := fieldU p 0 4, active := fieldU p 4 1 % 2
        legalCopy := if fieldU p 5 1 < 2 then some (fieldU p 5 1) else none
        bank0 := bankParse (fieldB p 8 64), bank1 := bankParse (fieldB p 72 64)
        digestA := filled (fieldB p 136 32), digestB := filled (fieldB p 168 32) } }

/-- Hardware hashes a legal copy (R206); whether the digest is the recorded one (R475). -/
def hashCopy (k : Nat) (s : State) : Bool × State :=
  let d := Config.sha256 (legalBytes s k)
  (decide (legalDigest s k ≠ []) && decide (d = legalDigest s k),
    { s with legal := { s.legal with digest := d, digestTb2 := tbVal s 2 } })

/-- The header copy of a legal store copy (R456). -/
def legalHead (s : State) (k : Nat) : Bytes := if k = 0 then s.firm.headA else s.firm.headB

/-- Legal copy `k` is loaded into the metrology DSP and the tariff engine, and runs (R463, R466, R475). -/
def runLegal (k : Nat) (s : State) : State :=
  let head := legalHead s k
  let s := setImem 126 (legalCode head (legalBytes s k) 8) (setImem 125 (legalCode head (legalBytes s k) 7) s)
  { s with firm := { s.firm with legalRuns := true, legalApi := imgLegalApi head, legalFmt := imgLegalFmt head } }

/-- The legal check of a PD10 start (R475): the copy in force, else the other copy; neither, and PD10 runs no legal code. -/
def legalCheck (s : State) : State :=
  let s := setImem 126 [] (setImem 125 [] { s with firm := { s.firm with legalRuns := false } })
  match s.firm.legalCopy with
  | none => s
  | some k =>
    let (ok, s) := hashCopy k s
    if ok then runLegal k s
    else
      let s := legalAuto 0xB0B (le8 k) (logBoot 0xB0B 0xFFFF [snapN k] s)
      if legalDigest s (1 - k) = [] then s
      else
        let (ok, s) := hashCopy (1 - k) s
        if ok then dirWrite (runLegal (1 - k) { s with firm := { s.firm with legalCopy := some (1 - k) } }) else s

/-- TB3 at PD10 start (R114, R556): TB0 where it is VALID, else TB1. -/
def startTb3 (s : State) : State :=
  let v := (tb s 0).valid
  setTb 3 { tbReset 3 with acc := if v then (tb s 0).acc else (tb s 1).acc, valid := v, inc := (tb s 0).inc } s

/-- Logbook 0x40F: the legal state has changed (R213). -/
def logLegalState (opcode counter : Nat) (s : State) : State :=
  logEv 0x40F 126 0xFFFF [snapN opcode, snapN counter, snapN (look 0 s.legal.epochs 0)] s

/-- PD10 is IN_SERVICE from its first switch-on (R211). -/
def enterService (opcode counter : Nat) (s : State) : State :=
  if s.legal.state = .inService then s
  else logLegalState opcode counter { s with legal := { s.legal with state := .inService } }

/-- PD10 starts (R463, steps 3, 5 and 6). `commit` says that the start follows a power-fail commit. Without legal code
CAL_INVALID is raised on every metering point (R475). -/
def pd10Start (commit : Bool) (s : State) : State :=
  let s := startTb3 (legalCheck s)
  let s := tariffStart commit (meterStart s)
  if s.firm.legalRuns then showCvAll s else alarmAll 7 true (fun _ => true) s

end Sys2Proof.Machine
end

