-- ==== Sys2Proof/Machine/Images.lean ====
section
/-! DEFINITION. Fudeyr containers, image banks, the directory, and the checks of an image
(spec/13_start_up_firmware.md, R456–R462, R468–R470). -/

namespace Sys2Proof.Machine

/-! ### The checks of an image (R460, R470) -/

/-- The operator countersignature (R460): required while FW_OPKEY_SET has set a digest. -/
def operatorOk (s : State) (c : Bytes) : Bool :=
  let o := tableEnd c + 200
  decide (s.firm.opKey = []) ||
    (bitOf (imgFlags c) 0 && decide (Config.sha384 (sigKey c o) = s.firm.opKey)
      && Config.ecdsaVerify (sigKey c o) (Config.sha384 (c.take o)) (sigBytes c o))

/-- The checks of R470 in the order of their reasons. -/
def imageChecks (s : State) (c : Bytes) (ik : Option Bytes) (len : Nat) : List (Nat × Bool) :=
  [(1, imgFormOk c len), (2, fieldU c 6 2 == 0x1872), (3, yarnoganOk c), (4, operatorOk s c),
   (5, segsOpen c ik), (6, legalDigestOk c (ik.getD [])), (7, bitOf (fieldU c 8 2) 0),
   (8, decide (s.firm.svn ≤ imgSvn c)), (9, decide (imgCfgMin c ≤ s.firm.cfgFmt)),
   (10, Config.legalApiServed (imgLegalApi c) s.firm.legalApi)]

/-- The first reason that fails; 0 when none does. -/
def firstReason : List (Nat × Bool) → Nat
  | [] => 0
  | (k, ok) :: r => if ok then firstReason r else k

/-- The status of a reason (R470). -/
def reasonStatus (k : Nat) : Status := if k = 0 then .ok else if k ≤ 6 then .imgBad else .imgIncompat

/-! ### Banks and the directory (R456, R457, R461) -/

/-- The flash bytes of a bank. -/
def flashOf (s : State) (b : Nat) : Memory := if b = 0 then s.firm.flash0 else s.firm.flash1

def setFlash (b : Nat) (m : Memory) (s : State) : State :=
  if b = 0 then { s with firm := { s.firm with flash0 := m } } else { s with firm := { s.firm with flash1 := m } }

/-- The container that stands in a bank, of `len` bytes. -/
def container (s : State) (b len : Nat) : Bytes := readBytes (flashOf s b) 0 len

/-- The wrapping key WK_b of a root (R461). -/
def bankBlock (i b : Nat) : Bytes :=
  le8 i ++ [0x30, 0, 0x69, 0x6D, 0x61, 0x67, 0x65] ++ le8 b ++ List.replicate 5 0 ++ [1, 0]

def bankKey (root : Bytes) (b : Nat) : Bytes :=
  let k := derive256 root 0x22
  Config.cmac256 k (bankBlock 1 b) ++ Config.cmac256 k (bankBlock 2 b)

/-- IK of a bank, under the active root (R461). -/
def bankIk (s : State) (b : Nat) : Option Bytes :=
  match activeRoot s with
  | some root => Config.unwrap (bankKey root b) (bankOf s b).ik
  | none => none

/-- The first failing reason of a bank. -/
def bankReason (s : State) (b : Nat) : Nat :=
  let len := (bankOf s b).length
  firstReason (imageChecks s (container s b len) (bankIk s b) len)

/-- Write a bank record into the directory. -/
def writeBank (b : Nat) (k : Bank) (s : State) : State := dirWrite (setBank b k s)

/-- The bank that is not active: staging targets it (R470). -/
def otherBank (s : State) : Nat := 1 - s.firm.active

/-- The bank in state STAGED, if any. -/
def stagedBank (s : State) : Option Nat :=
  if (bankOf s 0).state = .staged then some 0 else if (bankOf s 1).state = .staged then some 1 else none

/-! ### Firmware operations (R470) -/

/-- A firmware operation runs: staging, a prepared or pending activation, or a legal activation (R470). -/
def fwBusy (s : State) : Bool := s.firm.staging.isSome || s.firm.act.isSome || s.firm.legalAct.isSome

/-- End staging: the bank becomes EMPTY and the envelope's IK is erased; a command of it that has not ended is answered with
`st`. -/
def endStaging (st : Status) (s : State) : State :=
  match s.firm.staging with
  | none => s
  | some x =>
    let s := writeBank x.bank {} { s with firm := { s.firm with staging := none } }
    let s := logBoot 0xB04 x.bank [] s
    match x.mb with
    | some m => finishMb m st [] s
    | none => s

/-- Free the milestone slot of an activation that waits for its instant. -/
def freeActSlot (a : Activation) (s : State) : State :=
  if a.scheduled ∧ a.step ≠ .pause then { s with clock := { s.clock with slots := put none s.clock.slots a.slot none } } else s

/-- An activation that has not reached its directory write ends with a status and a payload. -/
def endActivation (st : Status) (payload : Bytes) (s : State) : State :=
  match s.firm.act with
  | none => s
  | some a =>
    let s := freeActSlot a { s with firm := { s.firm with act := none } }
    match a.mb with
    | some m => finishMb m st payload s
    | none => s

/-- `a` lies before `b` (R473): b is 1 to 127 ahead, modulo 256. -/
def epochBefore (a b : Nat) : Bool :=
  let d := (b + 256 - a % 256) % 256
  decide (1 ≤ d ∧ d ≤ 127)

/-- INGEST_HOLD ends with an image whose CE is not before the MPE that set it (R474). -/
def releaseHold (s : State) : State :=
  match s.firm.hold with
  | some mpe =>
    if epochBefore s.firm.ce mpe then s
    else logBootNotice 0xB08 0xFFFF [] { s with firm := { s.firm with hold := none } }
  | none => s

/-- Enter INGEST_HOLD for a trigger's MPE (R473). -/
def enterHold (mpe : Nat) (s : State) : State :=
  if epochBefore s.firm.ce mpe then logBootNotice 0xB08 0xFFFF [] { s with firm := { s.firm with hold := some mpe } } else s

/-- The image of a bank runs: its version is ID_NULVO, its CE the running epoch, and it writes its own configuration format
(R48, R459). -/
def runImage (b : Nat) (s : State) : State :=
  let k := bankOf s b
  let c := container s b 64
  { s with firm := { s.firm with idNulvo := k.version, ce := k.ce, cfgFmt := imgCfgFmt c } }

/-- The whole container of a bank, and its key. -/
def bankImage (s : State) (b : Nat) : Bytes × Bytes := (container s b (bankOf s b).length, (bankIk s b).getD [])

/-- At a start the image of a bank is decrypted into the active half of the code store (R458). -/
def decryptImage (b : Nat) (s : State) : State :=
  let (c, ik) := bankImage s b
  { s with firm := { s.firm with half := 0, half0 := imageHalf c ik, half1 := [], service := [], serviceNext := [] } }

/-- Step 2 of R471: the bank is decrypted into the idle half and into DRAM. -/
def prepareImage (b : Nat) (s : State) : State :=
  let (c, ik) := bankImage s b
  let h := imageHalf c ik
  { s with firm := { s.firm with
      half0 := if s.firm.half = 0 then s.firm.half0 else h
      half1 := if s.firm.half = 0 then h else s.firm.half1
      serviceNext := if active s 6 then codeOf c ik 2 else [] } }

/-- Step 5 of R471: the idle half becomes the active one, and the engines that run are loaded from it. -/
def switchImage (s : State) : State :=
  let s := { s with firm := { s.firm with
    half := 1 - s.firm.half, service := if active s 6 then s.firm.serviceNext else [], serviceNext := [] } }
  [3, 4, 8, 9, 11].foldl (fun s d => if bitOf s.power.on d then loadDomain d s else s) s

/-- The Nulvo service code is decrypted into DRAM at each switch-on of PD6 while an image runs (R458). -/
def loadService (s : State) : State :=
  if s.firm.idNulvo = 0 then s
  else
    let (c, ik) := bankImage s s.firm.active
    { s with firm := { s.firm with service := codeOf c ik 2 } }

/-- Steps 3 of R471: the directory is written, the pause begins. -/
def beginPause (a : Activation) (s : State) : State :=
  let k := bankOf s a.bank
  let s := writeBank a.bank { k with state := .trial, trials := 0 } { s with firm := { s.firm with active := a.bank } }
  { s with firm := { s.firm with stage := .pause, act := some { a with step := .pause, pauseAt := tbVal s 1 } } }

/-- MISSED_ACTIVATION (R473). -/
def missed (s : State) : State := logBootNotice 0xB07 ((stagedBank s).getD 0xFFFF) [] s

/-- The activation instant of the scheduled activation in slot `k`, or of a chain's trigger (R473). One whose preparation has not
ended by then has missed it; its final status is that of the failed check, OK where there is none. -/
def activationInstant (k : Nat) (m : Scheduled) (s : State) : State :=
  let mpe := m.id / 256 % 256
  match s.firm.act with
  | some a =>
    let mine := a.scheduled && a.slot == k
    let s := if m.chain || (mine && a.chain) then enterHold mpe s else s
    if mine then
      if a.step = .prepared then beginPause a s
      else endActivation (reasonStatus a.reason) (le8 1 ++ le8 a.reason) (missed s)
    else if m.chain then missed s
    else s
  | none => if m.chain then missed (enterHold mpe s) else s

end Sys2Proof.Machine
end

