-- ==== Sys2Proof/Machine/Domains.lean ====
section
/-! DEFINITION. Power domains, the fabric and DRAM commands, and the root PLL (spec/01_module_organisation.md, R16–R38, R554,
R555, R557). -/

namespace Sys2Proof.Machine

/-! ### Dependencies and authority (R22–R24, R554) -/

/-- The domains that PDn depends on (R22). -/
def dependsOn (d : Nat) : List Nat :=
  if d = 3 ∨ d = 4 then [2, 5, 6]
  else if 5 ≤ d ∧ d ≤ 7 then [2]
  else if d = 8 ∨ d = 9 then [2, 6]
  else if d = 11 then [2, 10]
  else [0]

/-- The domain has power: PD0 while the auxiliary supply is there, PD1 and PD2 while main power is (R22). -/
def powered (s : State) (d : Nat) : Bool :=
  if d = 0 then s.power.aux else if d ≤ 2 then s.power.main else bitOf s.power.on d

/-- The switchable domains (R22). -/
def switchable : List Nat := [3, 4, 5, 6, 7, 8, 9, 10, 11]

/-- The domains that depend on PDn. -/
def dependents (d : Nat) : List Nat := switchable.filter fun e => (dependsOn e).contains d

/-- The domain is part of the transition that runs (R554, check 5). -/
def inTransition (s : State) (d : Nat) : Bool :=
  match s.power.transition with
  | some t => t.domains.contains d
  | none => false

/-- A `PD_SET` that puts PD10 back in service without a power transition (R211, R554). -/
def backInService (s : State) (d a : Nat) : Bool :=
  d == 10 && a == 1 && bitOf s.power.on 10 && decide (s.legal.state = .decommissioned) && !inTransition s 10

/-- The request is for the state already in force (R554, check 5). -/
def inForce (s : State) (d a : Nat) : Bool :=
  !inTransition s d && (bitOf s.power.on d == (a == 1)) && !backInService s d a

/-- The dependencies forbid the switch (R23). -/
def dependencyFails (s : State) (d a : Nat) : Bool :=
  if a = 1 then (dependsOn d).any fun e => !powered s e else (dependents d).any fun e => bitOf s.power.on e

/-- An activation runs between its steps 1 and 7 (R472); one that only waits for its instant does not hold domains. -/
def activating (s : State) : Bool :=
  match s.firm.act with
  | some a => decide (a.step = .pause) || (!a.scheduled && decide (a.step = .preparing))
  | none => false

/-- A transition runs, or the switch-on is closed to it (R24, R472, R522). -/
def transitionBusy (s : State) (a : Nat) : Bool :=
  s.power.transition.isSome || activating s || (a == 1 && s.power.removePending)

/-- Checks 3 to 7 of `PD_SET` (R554). -/
def pdSetCheck (_ : Src) (r : Req) (s : State) : Option Status :=
  let d := arg r 0 1
  let a := arg r 1 1
  firstFail [(decide (d < 3 ∨ 11 < d ∨ 1 < a), .badarg),
    (d == 10 && a == 0 && decide (s.legal.state ≠ .decommissioned), .legalLock),
    (!inForce s d a && !inTransition s d && dependencyFails s d a, .denied), (!inForce s d a && transitionBusy s a, .busy)]

/-! ### Time bases of a domain that goes off and on (R89, R90) -/

/-- The time bases of a domain, among TB4–TB10 (R90). -/
def basesOf (d : Nat) : List Nat := [4, 5, 6, 7, 8, 9, 10].filter fun n => tbDomain n == d

/-- A base reads 0 and is not VALID while its domain is off; its offset from TB1, the increment that it adds and its VALID bit are
kept (R89, R90). A step that waits takes effect before. -/
def keepBase (n : Nat) (s : State) : State :=
  let s := settleStep n s
  let t := tb s n
  let k : KeptBase :=
    { offset := tbTime t - tbVal s 1, tb1 := (tb s 1).acc, inc := tickInc s n, valid := t.valid, source := t.source }
  setTb n { t with acc := 0, latched := 0, valid := false, kept := some k } s

/-- The drift of a base over `n` fabric ticks on its increment (R90), toward zero. -/
def keptDrift (n inc : Nat) : Int :=
  let d : Int := n * ((inc : Int) - incNominal)
  if 0 ≤ d then ((d.toNat / 2 ^ 36 : Nat) : Int) else -(((-d).toNat / 2 ^ 36 : Nat) : Int)

/-- A base starts with its domain (R89, R90): under MAINS LOCKED is clear and the base is in HOLDOVER until 16 crossings. -/
def startBase (n : Nat) (s : State) : State :=
  let t := tb s n
  match t.kept with
  | some k =>
    let ticks := ((tb s 1).acc - k.tb1).toNat / incNominal
    let v := tbVal s 1 + k.offset + BitVec.ofInt 72 (keptDrift ticks k.inc)
    let mains := t.source == 3
    setTb n { t with
      acc := accOf v, valid := k.valid, kept := none, locked := t.locked && !mains, crossings := if mains then 0 else t.crossings,
      holdover := t.holdover || mains } s
  | none => setTb n { tbReset n with acc := (tb s 0).acc } s

/-! ### Switching off (R27, R557) -/

/-- Discard what a queue holds in the pond, as `HQ_FLUSH` discards it, and release its pond reservations (R557). -/
def dropPondOf (s : State) (q : Nat) : State :=
  let h := hqOf s q
  let s := setHq q { h with
    pond := [], pondResv := 0, pkts := if hqMode h.cfg = 0 then h.pkts else h.pkts - h.pond.length } s
  { s with host := { s.host with pondFree := s.host.pondFree + pondCells h + h.pondResv } }

/-- Drop the envelopes that await a DX ACK in the spare area (R557). -/
def dropUnacked (s : State) : State :=
  { s with ingest := { s.ingest with uplink := { s.ingest.uplink with unacked := [] } } }

/-- Step 1 of R27: the units of PDn leave steering and admission, and its time bases stop, TB3 among them (R89, R556). -/
def withdraw (d : Nat) (s : State) : State :=
  let s := (basesOf d).foldl (fun s n => keepBase n s) s
  let s := { s with power := { s.power with joined := bitClear s.power.joined d } }
  if d = 6 then dropUnacked ((hqKeys s).foldl dropPondOf s)
  else if d = 10 then setTb 3 { tb s 3 with acc := 0, latched := 0, valid := false } s
  else if d = 11 then prepayDomainOff (cpDropAll 7 .off s)
  else s

/-- Work of a domain that has not completed at 20 ms is discarded, with FENCE completions (R27). -/
def discardDomain (d : Nat) (s : State) : State :=
  (unitsOf d).foldl (fun s u => postFences u (discardUnit u s)) s

/-- What the units of PDn lose with their power (R557, R387, R435). The tables of PD8 and PD9 lie in
DRAM and stay (R253, R287). -/
def loseDomain (d : Nat) (s : State) : State :=
  if d = 3 ∨ d = 4 then
    let lo := 8 * (d - 3)
    let s := { s with ingest := { s.ingest with
      junction := s.ingest.junction.filter fun p => decide (p.1 / 32768 < lo ∨ lo + 8 ≤ p.1 / 32768) } }
    (List.range 8).foldl (fun s i => setFip (lo + i) { fipOf s (lo + i) with learn := [], parityTimes := [], closed := none } s) s
  else if d = 5 then
    let s := pkeDropAll s
    { s with
      lanes := { s.lanes with lanes := [], queues := [], sessions := [] }
      keys := { s.keys with laneRam := [], revocations := [] } }
  else if d = 6 then
    { s with
      ingest := { s.ingest with ctxs := [], directory := [], replies := [], replyHeld := false,
                                uplink := { s.ingest.uplink with inner := [], records := [], unacked := [] } }
      balance := { s.balance with groups := [], phases := [] }
      host := { s.host with delivered := [] } }
  else if d = 7 then setPause { s with ingest := { s.ingest with ingress := [] } }
  else if d = 8 then
    { s with line := { s.line with chans := s.line.chans.map fun p =>
        (p.1, { p.2 with parts := [], acks := [], sent := none, erasures := [], impulsive := 0 }) } }
  else if d = 9 then
    { s with radio := { s.radio with chans := s.radio.chans.map fun p =>
        (p.1, { p.2 with access := none, sent := none, tuned := none, downlink := none }) } }
  else s

/-- PL and RF tables lie in the DRAM of PD6 (R38, R557): they are lost with it. -/
def loseTables (s : State) : State :=
  { s with
    line := { s.line with
      chans := s.line.chans.map fun p => (p.1, { p.2 with nbrs := [], routes := [], parts := [] })
      nets := s.line.nets.map fun p => (p.1, { p.2 with rxCounters := [] }) }
    radio := { s.radio with
      chans := s.radio.chans.map fun p => (p.1, { p.2 with links := [] })
      nets := s.radio.nets.map fun p => (p.1, { p.2 with devices := [] }) } }

/-- A unit whose domain goes off is OFF, and starts READY at the next switch-on (R481). -/
def unitReset (u : Nat) (s : State) : State :=
  let f := unitOf s u
  if f.state = .ready then s else setUnit u { f with state := .ready, recoverMb := none, fenceWork := 0 } s

/-- The mailbox of a recovery that ends with its domain: the unit is not READY (R487). -/
def endRecovery (u : Nat) (s : State) : State :=
  match (unitOf s u).recoverMb with
  | some m => finishMb m .fenced [] s
  | none => s

/-- PCIe hot reset or link-down (R74): queue blocks, MSI-X and INT lines reset; the packets in pans and pond are gone, while the
reservations that frames hold stay with them. -/
def resetHq (h : Hq) : Hq :=
  { panA := { resv := h.panA.resv }, panB := { resv := h.panB.resv }, pondResv := h.pondResv, fillB := h.fillB }

def resetQueues (s : State) : State :=
  let cells := sumN (s.host.hqs.map fun p => pondCells p.2)
  { s with host := { s.host with
      hqs := (s.host.hqs.map fun p => (p.1, resetHq p.2)).filter fun p => decide (p.2 ≠ {})
      sqs := (s.host.sqs.map fun p => (p.1, ({ fetches := p.2.fetches } : Sq))).filter fun p => decide (p.2 ≠ {})
      cqs := [], msixEnable := false, msixTable := [], pba := 0, intMap := [], intPending := 0, delivered := []
      pondFree := s.host.pondFree + cells } }

/-- The effects of a link-down (R74, R81). -/
def linkDown (s : State) : State :=
  let s := resetQueues s
  { s with
    host := { s.host with linkUp := false, creditSeen := false, creditHeld := false }
    power := { s.power with rstCause := bitSet s.power.rstCause 3 } }

/-- Steps 3 and 4 of R27: isolation and removal of power. -/
def powerOff (d : Nat) (s : State) : State :=
  let s := discardDomain d s
  let s := (unitsOf d).foldl (fun s u => unitReset u (endRecovery u s)) s
  let s := loseDomain d s
  let s := if d = 6 then loseTables s else if d = 7 ∧ s.host.linkUp then linkDown s else s
  let s := if d = 6 then { s with firm := { s.firm with service := [], serviceNext := [] } } else s
  clearDomain d { s with power := { s.power with on := bitClear s.power.on d } }

/-! ### Switching on (R26) -/

/-- A unit of a domain that has come on: FENCED where it is retired (R481, R486). -/
def unitOn (u : Nat) (s : State) : State :=
  let f := unitOf s u
  if f.retired then setUnit u { f with state := .fenced } s else unitReset u s

/-- The lanes of PD5 pass their power-up test, but for those named: each is an F2 with code 0x921 (R364). -/
def lanesUp (failed : List Nat) (s : State) : State :=
  (List.range 64).foldl (fun s l =>
    let u := 24 + l
    if failed.contains l then
      let s := setLane l { laneOf s l with state := .fenced, faults := (laneOf s l).faults + 1 } s
      raiseFault u 0x921 2 0xFFFF [0, 0, snapN (lcCode (lcState s))] s
    else if (unitOf s u).state = .fenced then setLane l { laneOf s l with state := .fenced } s
    else s) s

/-- Steps 2 to 5 of R26: the reset of PDn is released, its engines are loaded from the active half of the code store, and its units
join. -/
def powerUp (d : Nat) (failed : List Nat) (s : State) : State :=
  let s := { s with power := { s.power with on := bitSet s.power.on d, joined := bitSet s.power.joined d } }
  let s := (unitsOf d).foldl (fun s u => unitOn u s) (loadDomain d s)
  let s := (basesOf d).foldl (fun s n => slotsFollow n (startBase n s)) s
  if d = 5 then lanesUp failed (loadAllRam s)
  else if d = 6 then loadService s
  else if d = 9 then
    (List.range 6).foldl (fun s n => resumeLinks n s) s
  else if d = 10 then
    enterService 0 0 (pd10Start false { s with power := { s.power with everMetro := true } })
  else if d = 11 then cpRestart s
  else s

/-! ### `PD_SET` (R26–R28) -/

/-- The domain's persisted state (R28). -/
def persist (d a : Nat) (s : State) : State :=
  { s with power := { s.power with persisted := if a = 1 then bitSet s.power.persisted d else bitClear s.power.persisted d } }

/-- An accepted `PD_SET` starts its transition: the persisted state is written; a switch-on clears F3_LIMIT (R490) and powers the
domain, a switch-off withdraws its units. -/
def startTransition (m d a : Nat) (s : State) : State :=
  let s := persist d a s
  let s := { s with power := { s.power with transition := some { domains := [d], on := a == 1, by_ := .pdSet m } } }
  if a = 1 then
    { s with
      log := { s.log with f3Limit := false }
      power := { s.power with on := bitSet s.power.on d } }
  else withdraw d s

def pdSetRun (src : Src) (r : Req) (s : State) : Reply × State :=
  let d := arg r 0 1
  let a := arg r 1 1
  let legal := if d = 10 ∧ a = 1 ∧ s.legal.state ≠ .inService then 0x40F else 0
  match src with
  | .mb m =>
    if inForce s d a then ({ payload := le8 d ++ le8 a }, s)
    else if backInService s d a then ({ payload := le8 d ++ le8 a, legal := legal }, enterService r.opcode r.counter s)
    else ({ status := .accepted, legal := legal }, startTransition m d a s)
  | .sq _ _ => (fail .denied, s)

/-- `PD_SET` (R554). -/
def execPdSet (src : Src) (s : State) : Host.Outcome State Fault Refusal := runCmd 0x0120 pdSetCheck pdSetRun src s

/-- `PD_OFF_WORK_DISCARD` (R27): work that is left 20 ms after the doorbell is discarded. -/
def offWorkDiscard (s : State) : State :=
  match s.power.transition with
  | some t =>
    if !t.on && !t.discarded then
      let s := t.domains.foldl (fun s d => discardDomain d s) s
      { s with power := { s.power with transition := some { t with discarded := true } } }
    else s
  | none => s

def execPdOffWorkDiscard (s : State) : Host.Outcome State Fault Refusal := .next (offWorkDiscard s)

/-- The end of a PD_SET transition (R26, R27): the power of the domain, then OK. -/
def endTransition (failed : List Nat) (s : State) : State :=
  match s.power.transition with
  | some t =>
    match t.by_ with
    | .pdSet m =>
      let s := t.domains.foldl (fun s d => if t.on then powerUp d failed s else powerOff d s) s
      let s := { s with power := { s.power with transition := none } }
      finishMb m .ok (le8 (t.domains.headD 0) ++ le8 (b2n t.on)) s
    | .removal => s
    | .resume _ => s
  | none => s

/-- `PD_STATUS` (R555). -/
def onWord (s : State) : Nat := ofBits ((List.range 12).map (powered s))

def transitionWord (s : State) : Nat := ofBits ((List.range 12).map (inTransition s))

def pdStatusRun (_ : Src) (_ : Req) (s : State) : Reply × State :=
  ({ payload := le16 (onWord s) ++ le16 (transitionWord s) ++ le16 s.power.supplyFault ++ le8 (b2n s.power.pllLocked)
      ++ le8 (b2n s.power.bypass) }, s)

def execPdStatus (src : Src) (s : State) : Host.Outcome State Fault Refusal := runCmd 0x0121 noCheck pdStatusRun src s

/-! ### DRAM and fabric (R32, R33, R38) -/

/-- One slot of the DRAM controller: of the requests that have waited to their promotion, one is served (R38). -/
def dramSlot (s : State) : State :=
  let p := s.power.promoted
  match arbitrate s.power.weights p p.contains { left := s.power.dramLeft, sinceLg := s.power.dramSinceLg } with
  | some (c, a) => { s with power := { s.power with promoted := p.filter (· != c), dramLeft := a.left, dramSinceLg := a.sinceLg } }
  | none => s

/-- `DRAM_ARB_SET` (R38): each weight 1–15. -/
def dramArbSetCheck (_ : Src) (r : Req) (s : State) : Option Status :=
  firstFail [(!active s 6, .nores), (isFenced s 92, .fenced),
    ((List.range 3).any fun i => decide (arg r i 1 < 1 ∨ 15 < arg r i 1), .badarg)]

def dramArbSetRun (_ : Src) (r : Req) (s : State) : Reply × State :=
  ({ payload := le8 (arg r 0 1) ++ le8 (arg r 1 1) ++ le8 (arg r 2 1) },
    { s with power := { s.power with weights := (arg r 0 1, arg r 1 1, arg r 2 1) } })

def execDramArbSet (src : Src) (s : State) : Host.Outcome State Fault Refusal :=
  runCmd 0x0122 dramArbSetCheck dramArbSetRun src s

/-- `DRAM_REQUEST_PROMOTION` (R38): an IN, HV or SP request that has waited 2 µs is promoted to the MT level until served. -/
def promote (cls : Nat) (s : State) : State :=
  if (cls = 2 ∨ cls = 3 ∨ cls = 4) ∧ active s 6 ∧ fabricUp s then
    { s with power := { s.power with promoted := cls :: s.power.promoted.filter (· != cls) } }
  else s

def execDramRequestPromotion (cls : Nat) (s : State) : Host.Outcome State Fault Refusal := .next (promote cls s)

/-- `FABRIC_STATUS` (R33): how many words stand in the buffers at one instant, how long the longest stall was and how many words
have passed are free values within their bounds (assumption log 2). -/
def fabricStatusCheck (_ : Src) (r : Req) (_ : State) : Option Status := firstFail [(decide (5 < arg r 0 1), .badarg)]

def fabricStatusRun (_ : Src) (r : Req) (s : State) : Reply × State :=
  let c := arg r 0 1
  let (a, s) := takeFree s
  let (b, s) := takeFree s
  let (t, s) := takeFree s
  let (w, s) := takeFree s
  ({ payload := le16 (a % (reservedWords c + 1)) ++ le16 (b % (sharedWords c + 1)) ++ le32 t ++ le64 w }, s)

def execFabricStatus (src : Src) (s : State) : Host.Outcome State Fault Refusal :=
  runCmd 0x0123 fabricStatusCheck fabricStatusRun src s

/-- `FABRIC_WORD_ERROR` (R32, R480): F1 of the link, the word is discarded and retransmission requested; a hop that needs more
than 16 retransmissions within 1 ms is an F3 of unit 3. -/
def fabricError (hop : Nat) (w : BitVec 72) (s : State) : State :=
  if wordBad w && fabricUp s then
    let now := tb1Us s
    let times := now :: (look [] s.log.retransmits hop).filter fun t => decide (now < t + 1000)
    let s := emit (.retransmit hop) { s with log := { s.log with retransmits := put [] s.log.retransmits hop times } }
    let snaps := [snapN hop, snapN (wordClass w)]
    let s := countedFault 3 0xC14 1 0xFFFF snaps s
    if 16 < times.length then raiseFault 3 0xC14 3 0xFFFF snaps s else s
  else s

def execFabricWordError (hop : Nat) (word : BitVec 72) (s : State) : Host.Outcome State Fault Refusal :=
  .next (fabricError hop word s)

/-! ### The root PLL (R21, R512) -/

/-- Logbook 0x30A: PD10 entered (1) or left (0) bypass (R180). -/
def logBypass (entered : Nat) (s : State) : State :=
  logMeter 0x30A 0xFFFF (joinAlarms s fun _ => true) [snapN entered] s

/-- `PLL_LOCK_LOSS` (R21): PD10 switches to bypass; an F3 for every other domain. A lost external reference gives way to the
TCXO, and logbook 0x136 carries its frequency as last measured (R512). -/
def lockLoss (refHz : Nat) (s : State) : State :=
  if s.power.pllLocked then
    let heldUs := (tbVal s 1 - s.power.lockAt).toNat * 1000000 / 2 ^ 36
    let s := { s with power := { s.power with pllLocked := false } }
    let s := if bitOf s.power.on 10 then logBypass 1 { s with power := { s.power with bypass := true } } else s
    let s := if s.power.refExternal then
        logEv 0x136 136 0xFFFF [snapN 2, snapN refHz] { s with power := { s.power with refExternal := false } }
      else s
    raiseFault 136 0xC17 3 0xFFFF [snapN heldUs] s
  else s

def execPllLockLoss (refHz : Nat) (s : State) : Host.Outcome State Fault Refusal := .next (lockLoss refHz s)

/-- The root PLL locks (R21, R463): PD10 returns to the root clocks at a sample boundary. -/
def lockRegain (s : State) : State :=
  let s := { s with power := { s.power with pllLocked := true, lockAt := if s.power.pllLocked then s.power.lockAt else tbVal s 1 } }
  if s.power.bypass then
    let s := logBypass 0 { s with power := { s.power with bypass := false } }
    if fabricUp s then followTb0 s else s
  else s

/-- `PLL_LOCK_REGAIN` (R21). -/
def execPllLockRegain (s : State) : Host.Outcome State Fault Refusal :=
  .next (if s.power.aux ∧ !s.power.pllLocked then lockRegain s else s)

end Sys2Proof.Machine
end

