-- ==== Sys2Proof/Machine/LifeOps.lean ====
section
/-! DEFINITION. Tokens, bundles, the zeroing of the key store, the completion of a life-cycle transition, and tamper trips
(spec/12_keys_life_cycle_tamper.md, R423–R433, R446–R450; spec/14_faults_logbook.md, R503). -/

namespace Sys2Proof.Machine

/-! ### Tokens and bundles (R430, R431) -/

/-- A Yarnogan token of a kind is valid (R430). -/
def tokenOk (s : State) (kind : Nat) (t : Bytes) : Bool :=
  let k := fieldU t 5 1
  let pub := fieldB t 32 97
  decide (t.length = 256) && decide (fieldB t 0 4 = [0x44, 0x58, 0x4C, 0x43]) && fieldU t 4 1 == kind && decide (k < 4)
    && decide (Config.sha384 pub = Config.yarnoganKey k)
    && Config.ecdsaVerify pub (Config.sha384 (t.take 129)) (fieldB t 129 96) && decide (fieldB t 8 16 = uidBytes)
    && (kind != 6 || fieldU t 24 4 == s.keys.alarmSeq)

/-- The bundle carries AUK_m (R431). -/
def bundleHas (b : Bytes) (m : Nat) : Bool := bitOf (fieldU b 97 1) (m - 1)

/-- The 96 bytes of authority keys in a bundle, unwrapped for the DIK of a root (R431). -/
def bundleKeys (root b : Bytes) : Option Bytes := unwrapFor root "DX1872 bundle" [] (b.take 97) (fieldB b 104 104)

/-- Import the authority keys of a bundle under the active root (R429, step 8). -/
def importBundle (b : Bytes) (s : State) : State :=
  if b = [] then s
  else
    match activeRoot s with
    | some root =>
      match bundleKeys root b with
      | some ks => [1, 2, 3].foldl (fun s m => if bundleHas b m then setAuk m (fieldB ks (32 * (m - 1)) 32) s else s) s
      | none => s
    | none => s

/-! ### The key store (R429, step 5) -/

/-- Every key store record and every share B is zeroed, and a new store mask is drawn. ALARM_SEQ and the tamper configuration
are kept. -/
def zeroStore (s : State) : State :=
  { s with keys := { s.keys with
      auks := [], sess := [], omkRecs := [], omks := [], gks := [], laneRam := [], storeMask := s.keys.rngCtr, rngCtr := s.keys.rngCtr + 1 } }

/-- The records that the key store holds: AUKs, OMK instances and general keys by record number. -/
def storeRecords (s : State) : List (Nat × KeyRec) :=
  s.keys.auks.map (fun p => (aukIndex p.1, p.2)) ++ s.keys.omkRecs.map (fun p => (51 + p.1, p.2))
    ++ s.keys.gks.map fun p => (gkIndex p.1, p.2)

/-- Logbook 0x904 for each record in which no A copy matches share B, or whose CRC is wrong (R434). -/
def checkStore (s : State) : State :=
  (storeRecords s).foldl (fun s p =>
    if p.2.typ ≠ 0 ∧ (shareA p.2).isNone then logKey 0x904 p.1 0 0 [] s else s) s

/-- The backup section has lost its supply: no share B is left (R525). -/
def loseShares (s : State) : State :=
  let bad := fun (r : KeyRec) => { r with b := [], eb := (max r.ea0 r.ea1 + 1) % 256 + 256 }
  { s with keys := { s.keys with
      auks := s.keys.auks.map fun p => (p.1, bad p.2)
      omkRecs := s.keys.omkRecs.map fun p => (p.1, bad p.2)
      gks := s.keys.gks.map fun p => (p.1, bad p.2) } }

/-! ### Completing a transition (R429, steps 6 to 8) -/

/-- The thermometer with both fuses of steps `src + 1` to `dst` blown (R425, R429). -/
def blowTo (thermo src dst : Nat) : Nat :=
  ((List.range dst).drop src).foldl (fun t k => bitSet (bitSet t (2 * k)) (2 * k + 1)) thermo

/-- Blow the fuses of a transition, DEBUG_DIS among them where it is required (R429, step 6). -/
def blowFuses (src dst : LifeCycle) (s : State) : State :=
  let dis := dst = .field ∨ (dst = .void ∧ s.keys.debugDis = 0)
  { s with keys := { s.keys with
      thermo := blowTo s.keys.thermo (lcCode src) (lcCode dst), debugDis := if dis then 3 else s.keys.debugDis } }

/-- The four roots are drawn and blown (R424). -/
def drawRoots (s : State) : State :=
  { s with keys := { s.keys with rootDraw := s.keys.rngCtr, rngCtr := s.keys.rngCtr + 1 } }

/-- An image key envelope: an ephemeral key, and IK wrapped for the DIK of a root (R461, R462). -/
def ikEnvelope (root ik : Bytes) (s : State) : Bytes × State :=
  let (e, s) := draw 48 s
  match Config.ecdh e (dikPublic root) with
  | some z => (Config.ecPublic 4 e ++ Config.wrap (importKek z "DX1872 image" []) ik, s)
  | none => ([], s)

/-- The envelopes of every bank that is STAGED, TRIAL or CONFIRMED (R462). -/
def carryIks (root : Bytes) (s : State) : List (Nat × Bytes) × State :=
  [0, 1].foldl (fun p b =>
    let k := bankOf p.2 b
    if k.state = .staged ∨ k.state = .trial ∨ k.state = .confirmed then
      match bankIk p.2 b with
      | some ik => let (e, s) := ikEnvelope root ik p.2; (p.1 ++ [(b, e)], s)
      | none => p
    else p) ([], s)

/-- Re-key a bank from its envelope (R462, step 7 of R429). -/
def rekeyBank (p : Nat × Bytes) (s : State) : State :=
  match activeRoot s with
  | some root =>
    match unwrapFor root "DX1872 image" [] (p.2.take 97) (fieldB p.2 97 40) with
    | some ik => setBank p.1 { bankOf s p.1 with ik := Config.wrap (bankKey root p.1) ik } s
    | none => setBank p.1 { bankOf s p.1 with ik := [] } s
  | none => s

/-- A bank in STAGING becomes EMPTY (R462). -/
def dropStagingBanks (s : State) : State :=
  [0, 1].foldl (fun s b => if (bankOf s b).state = .staging then setBank b {} s else s) s

/-- Entry to RMA clears both logbook areas (R503). -/
def clearLogbook (s : State) : State :=
  { s with log := { s.log with staging := [], ring := [], recs := [], next := 0, oldest := 2048, wrapped := false } }

/-- Steps 6 to 8 of R429, from the journal; `code` is 0xB21, or 0xB22 at a start. -/
def completeTransition (j : Journal) (code : Nat) (s : State) : State :=
  let s := if j.dst = .mfg then drawRoots s else s
  let s := blowFuses j.src j.dst s
  let s := if j.sig = [] then s else { s with keys := { s.keys with statements := s.keys.statements ++ [(lcCode j.dst, j.sig)] } }
  let s := if j.dst = .void then s else dirWrite (dropStagingBanks (j.iks.foldl (fun s p => rekeyBank p s) s))
  let s := if j.dst = .void then s else importBundle j.bundle s
  let s := { s with keys := { s.keys with journal := none } }
  let s := if j.dst = .rma then clearLogbook s else s
  legalAuto 0xB21 (le8 (lcCode j.src) ++ le8 (lcCode j.dst)) (logBoot code 0xFFFF [] s)

/-- The journal at a start (R429): discarded where no step beyond its from state is blown, completed where one is. -/
def resumeJournal (s : State) : State :=
  match s.keys.journal with
  | none => s
  | some j =>
    let beyond := (List.range 5).any fun k =>
      decide (lcCode j.src ≤ k) && (bitOf s.keys.thermo (2 * k) || bitOf s.keys.thermo (2 * k + 1))
    if beyond then completeTransition j 0xB22 (zeroStore s) else { s with keys := { s.keys with journal := none } }

/-! ### Tamper (R446–R448) -/

/-- The action of a class: true for ALARM (R447). -/
def alarms (s : State) (cls : Nat) : Bool := nthN s.keys.actions (cls - 4) == 1

/-- The source of a class is on: TMP0–TMP7 have a mode, the monitors always are (R446). -/
def sourceOn (s : State) (cls : Nat) : Bool :=
  decide (4 ≤ cls ∧ cls ≤ 16) && (decide (12 ≤ cls) || nthN s.keys.modes (cls - 4) != 0)

/-- The debug port is closed (R426). -/
def debugClosed (s : State) : Bool :=
  s.keys.debugDis != 0 ||
    match lcState s with
    | .blank => false
    | .mfg => false
    | .provision => !s.keys.debugOpen
    | _ => true

/-- A 0x9xx record of unit 137 with its MB0 notice. -/
def logKeyNotice (code obj discarded : Nat) (s : State) : State :=
  let snaps := [snapN 0, snapN discarded, snapN (lcCode (lcState s))]
  notice code (codeSeverity code) 137 (snapBytes 5 snaps) (logKey code obj 0 discarded [] s)

/-- The latch is set and ALARM_SEQ counts (R448). -/
def setLatch (s : State) : State :=
  { s with keys := { s.keys with latch := true, alarmSeq := (s.keys.alarmSeq + 1) % 2 ^ 32 } }

/-- The mesh streams are reseeded: at every start and on entry to backup-only operation (R446). -/
def reseedMesh (s : State) : State := { s with keys := { s.keys with meshSeed := s.keys.rngCtr, rngCtr := s.keys.rngCtr + 1 } }

/-- Operations that lanes run. -/
def laneOps (s : State) : Nat := ((List.range 64).filter fun l => (laneOf s l).op.isSome).length

/-- The actions of an alarm while the module runs (R448): every root revoked, every share and copy destroyed, sessions cleared,
staging ended, class, logbook 0x901, notice and V196. -/
def alarmRunning (cls : Nat) (s : State) : State :=
  let n := if active s 5 then laneOps s else 0
  let s := pkeDropAll (revoke none s)
  let s := zeroStore { s with keys := { s.keys with run := none, journal := none, recover := none } }
  let s := endStaging .discarded { s with lanes := { s.lanes with sessions := [] } }
  raiseV 196 (logKeyNotice 0x901 0xFFFF n (tamperSet cls s))

/-- A recorded event (R448). -/
def recordTrip (cls : Nat) (s : State) : State := raiseV 196 (logKeyNotice 0x902 0xFFFF 0 (tamperSet cls s))

/-- The backup section alone latches the class with its TB2 time; an ALARM also zeroes every share B (R448). -/
def sleepTrip (cls : Nat) (s : State) : State :=
  let s := { s with keys := { s.keys with sleepTrips := s.keys.sleepTrips ++ [(cls, tbVal s 2)] } }
  if alarms s cls then zeroStore (setLatch s) else s

/-- The classes that the backup section latched are updated with their times (R204); a RECORD among them writes 0x902. -/
def takeSleepTrips (s : State) : State :=
  let s := s.keys.sleepTrips.foldl (fun s p =>
    let s := logTamper p.1 (tamperCount p.1 p.2 (!(tb s 2).valid) s)
    if 16 < p.1 then s
    else
      let s := legalAuto 0x40D (le8 p.1) s
      if alarms s p.1 then s else raiseV 196 (logKeyNotice 0x902 0xFFFF 0 s)) s
  { s with keys := { s.keys with sleepTrips := [] } }

end Sys2Proof.Machine
end

