-- ==== Sys2Proof/Machine/Removal.lean ====
section
/-! DEFINITION. The steps of a removal and its resumption (spec/15_connector_hot_plug.md, R511, R520–R523, R529, R530). -/

namespace Sys2Proof.Machine

/-- HP_STATUS (R81). -/
def hpStatus (s : State) : Nat := ofBits [s.power.removePending, s.power.safe, s.power.prsnt]

/-- The source of a removal with its contact, as logbook 0x130 carries it (R530): contacts 1.1 and 420.1 are 1 and 2. -/
def sourceWord : RemovalSource → Nat
  | .removeReqN _ => 1
  | .hpCtrl => 2
  | .prsntN c => 3 + 256 * (c % 256)

/-- A hot-plug record, with and without an MB0 notice (R530). -/
def logHp (code : Nat) (snaps : List Time) (s : State) : State := logEv code 136 0xFFFF snaps s
def noticeHp (code : Nat) (snaps : List Time) (s : State) : State := logNotice code 136 0xFFFF snaps s

/-- The frames in flight in a pipeline are discarded, with their lane operations (R328); what waits in its FIFO stays. -/
def discardFlights (n : Nat) (s : State) : State :=
  let s := (fipOf s n).flights.foldl (fun s fl => discardFrame n fl .discarded s) s
  setLaneQueue n ((laneQueue s n).filter fun r => (sessionOf r.kind).isSome) (dropLaneOps n s)

def discardAllFlights (s : State) : State := (List.range 16).foldl (fun s n => discardFlights n s) s

/-- Packets that wait in a queue's pans and pond. -/
def undelivered (h : Hq) : Nat := h.panA.pkts.length + h.panB.pkts.length + h.pond.length

/-- The sums over every harvest queue: packets that wait, and cells in the pond. -/
def allUndelivered (s : State) : Nat := sumN (s.host.hqs.map fun p => undelivered p.2)
def allPondCells (s : State) : Nat := sumN (s.host.hqs.map fun p => pondCells p.2)

/-- The latch of a removal request, and step 1 of R521. -/
def latchRemoval (w : Nat) (s : State) : State :=
  let x : Removal := { step := .inflight, start := tbVal s 1, drain := s.power.drain, discarded := 0 }
  let s := { s with power := { s.power with removePending := true, removal := some x } }
  raiseV 199 (noticeHp 0x130 [snapN w, snapN (hpStatus s), snapN s.power.drain] s)

/-- An activation that has not written the directory ends with DISCARDED (R522). -/
def dropActivation (s : State) : State :=
  match s.firm.act with
  | some a => if a.step = .pause then s else endActivation .discarded [] s
  | none => s

/-- Steps 2 and 3 of R521: drives off and pilots low, sessions and prepayment; admission closes (`admissionOpen`), staging and a
prepared activation end (R522). -/
def closeForRemoval (s : State) : State := dropActivation (endStaging .discarded (prepayDomainOff (cpRemoved s)))

/-- A removal source acts (R520, R522): a further one is only counted. -/
def requestRemoval (src : RemovalSource) (s : State) : State :=
  let w := sourceWord src
  if s.power.removePending then noticeHp 0x130 [snapN w, snapN (hpStatus s), snapN s.power.drain] s
  else
    let s := latchRemoval w s
    if fabricUp s then closeForRemoval s else s

/-- The step of the removal in progress. -/
def atStep (k : RemovalStep) (s : State) : Bool :=
  match s.power.removal with
  | some x => x.step == k
  | none => false

def setStep (f : Removal → Removal) (s : State) : State :=
  { s with power := { s.power with removal := s.power.removal.map f } }

/-- Step 4 of R521: frames still in flight are discarded; the drain begins. -/
def endInflight (s : State) : State := setStep (fun x => { x with step := .drain }) (discardAllFlights s)

/-- The end of step 5 (R521): packets still waiting are discarded as by `HQ_FLUSH`, with logbook 0x132. -/
def endDrain (s : State) : State :=
  let n := allUndelivered s
  let cells := allPondCells s
  if n = 0 then s
  else
    let s := (hqKeys s).foldl (fun s q => dropUnringed q s) s
    noticeHp 0x132 [snapN n, snapN cells] (setStep (fun x => { x with discarded := n }) s)

/-- The domains that a removal switches off, dependents first (R521, step 7). -/
def removedDomains : List Nat := [3, 4, 8, 9, 11, 5, 6]

/-- Microseconds from an instant of TB1 to now. -/
def usSince (t : Time) (s : State) : Nat := (tbVal s 1 - t).toNat * 1000000 / 2 ^ 36

/-- Steps 7 and 8 of R521: the domains go off, and SAFE_TO_REMOVE is set. The persisted states are not changed. Logbook 0x131 names the domains by
one bit each, bit n = PDn (DESIGN CHOICE, assumption log 82). -/
def removalOff (s : State) : State :=
  let off := removedDomains.filter fun d => bitOf s.power.on d
  let s := off.foldl (fun s d => powerOff d (withdraw d s)) s
  let s := setStep (fun x => { x with step := .safe }) { s with power := { s.power with safe := true } }
  let (start, lost) := match s.power.removal with
    | some x => (x.start, x.discarded)
    | none => (tbVal s 1, 0)
  raiseV 199 (noticeHp 0x131 [snapN (usSince start s), snapN lost, snapN (ofBits ((List.range 12).map off.contains))] s)

/-- Steps 6 to 8 of R521: PD10 commits, the logbook is flushed, and the domains go off, after a transition that still runs (R24). -/
def finishRemoval (s : State) : State :=
  let s := flush (if bitOf s.power.on 10 then commitAll s else s)
  if s.power.transition.isSome then setStep (fun x => { x with step := .domains }) s else removalOff s

/-- A transition has ended: a removal that waited for it goes on with its step 7 (R24). -/
def awaitedOff (s : State) : State := if atStep .domains s && s.power.transition.isNone then removalOff s else s

/-- `PD_TRANSITION_COMPLETE` (R26, R27, R364): `failedLanes` are the lanes whose power-up test fails. -/
def execPdTransitionComplete (failedLanes : List Nat) (s : State) : Host.Outcome State Fault Refusal :=
  .next (if fabricUp s then awaitedOff (endTransition failedLanes s) else s)

/-- The removal has ended; the drives and time bases of the domains are as their switch-on leaves them. -/
def clearRemoval (s : State) : State :=
  { s with power := { s.power with removePending := false, safe := false, removal := none } }

/-- A removal source that still holds (R511, R520). -/
def heldSource (s : State) : Option RemovalSource :=
  if s.power.removeReq && s.power.prsnt then some (.removeReqN true)
  else if s.power.main && !s.power.prsnt then some (.prsntN s.power.lostContact)
  else none

/-- After MODULE_RESET or RST_IN_N the latch is set again at once if a source still holds (R520). -/
def relatch (s : State) : State :=
  match heldSource s with
  | some x => latchRemoval (sourceWord x) s
  | none => s

/-- The domains that a restore switches on, in dependency order (R28): those of `want` whose dependencies have power. -/
def restoreOrder : List Nat := [6, 5, 7, 3, 4, 8, 9, 10, 11]

/-- Switch the wanted domains on as one transition (R465). -/
def restoreDomains (want : Nat) (failed : List Nat) (s : State) : State :=
  restoreOrder.foldl (fun s d =>
    if bitOf want d && !active s d && (dependsOn d).all (powered s) then powerUp d failed s else s) s

end Sys2Proof.Machine
end

