-- ==== Sys2Proof/Machine/Start.lean ====
section
/-! DEFINITION. Resets, starts and restarts of the module, and the rows that cause them
(spec/13_start_up_firmware.md, R463–R468; spec/14_faults_logbook.md, R488–R490; spec/15_connector_hot_plug.md, R511–R519;
spec/02_host_interface_nulvo.md, R74, R81; spec/01_module_organisation.md, R17, R43). -/

namespace Sys2Proof.Machine

/-! ### What a reset of every domain except PD0 and PD10 leaves (R81, R488) -/

/-- The chains and time bases of PD2, PD8, PD9 and PD11 reset; TB2 lies in PD0 and TB3 in PD10. -/
def resetClock (s : State) : State :=
  { s with clock :=
    { tbs := s.clock.tbs.filter fun p => decide (p.1 = 2 ∨ p.1 = 3), crystalPhase := s.clock.crystalPhase
      trim := s.clock.trim, quad := s.clock.quad, temp := s.clock.temp, comp := s.clock.comp
      backupFail := s.clock.backupFail } }

/-- Instants of TB1 that outlive the reset of PD2 move with it, so that what they time goes on (assumption log 29). -/
def rebase (s : State) : State :=
  let t := tbVal s 1
  let keys := { s.keys with omks := s.keys.omks.map fun p => (p.1, { p.2 with commitTb1 := p.2.commitTb1 - t }) }
  { s with
    log := { s.log with tb1Base := ageSec s }
    keys := keys
    power := { s.power with removal := s.power.removal.map fun x => { x with start := x.start - t }, lockAt := s.power.lockAt - t } }

/-- The host interface: mailboxes, queue blocks, MSI-X table and INT control are kept through an F3 (R74). -/
def resetHost (full : Bool) (s : State) : State :=
  let h := s.host
  let kept : HostPart :=
    { lockout := h.lockout, linkUp := h.linkUp, perst := h.perst, creditHeld := h.creditHeld, msixEnable := h.msixEnable, out := h.out }
  if full then { s with host := kept }
  else
    { s with host := { kept with
        mbs := h.mbs, goOrder := h.goOrder, areas := h.areas, hqs := h.hqs, sqs := h.sqs, cqs := h.cqs, msixTable := h.msixTable, pba := h.pba
        intMap := h.intMap, intPending := h.intPending, pondFree := h.pondFree } }

/-- A unit of PD0 or PD10 keeps running; any other starts READY, or FENCED where it is retired (R486, R488). -/
def unitKept (u : Nat) (f : FaultUnit) : FaultUnit :=
  if unitDomain u = 0 ∨ unitDomain u = 10 then { f with recoverMb := none }
  else { state := if f.retired then .fenced else .ready, fences := f.fences, retired := f.retired }

/-- The registers of the logbook and of the fault region (R491, R498, R502). The areas of MRAM, the ring of PD10 and the set refill
periods are kept; FAULT_EVENTS is kept through an F3. -/
def resetLog (full : Bool) (s : State) : State :=
  let l := s.log
  { s with log := { l with
      units := (l.units.map fun p => (p.1, unitKept p.1 p.2)).filter fun p => decide (p.2 ≠ {})
      events := if full then 0 else l.events
      countF1 := 0, countF2 := 0, mismatchCount := 0, restart := none, corrected := [], retransmits := [], staging := []
      cursor := 0, window := none, gone := false, thresh := 0, ack := 0, suppressed := 0, fullEpisode := 0
      buckets := (l.buckets.map fun p => (p.1, ({ period := p.2.period } : Bucket))).filter fun p => decide (p.2 ≠ {}) } }

/-- Staging, activations and the running image end; the directory and INGEST_HOLD are kept (R466, R472, R474). -/
def resetFirm (s : State) : State :=
  { s with firm := { s.firm with
      stage := .reset, nulvoReady := false, idNulvo := 0, act := none, legalAct := none, staging := none
      half := 0, half0 := [], half1 := [], service := [], serviceNext := []
      imem := s.firm.imem.filter fun p => unitDomain p.1 == 10 } }

/-- Keys that lie in PD5, and operations of the key store controller (R435, R452). -/
def resetKeys (s : State) : State :=
  { s with keys := { s.keys with
      laneRam := [], pkeRun := [], pkeOps := [], pkeQueue := [], revocations := [], run := none, recover := none
      debugOpen := false } }

/-- What PD10 was doing for a mailbox. -/
def resetMeter (s : State) : State :=
  let check := match s.meter.check with
    | .test _ => .none
    | c => c
  { s with meter := { s.meter with capturing := none, check := check } }

/-- Power, fabric and DRAM arbitration (R38, R465): of the switchable domains, PD10 alone stays on. -/
def resetPower (s : State) : State :=
  let keep := fun v => if bitOf v 10 then 1024 else 0
  { s with power := { s.power with
      on := keep s.power.on, joined := keep s.power.joined, transition := none, weights := (4, 3, 2), promoted := [], dramLeft := (4, 3, 2)
      dramSinceLg := 0 } }

/-- Every domain except PD0 and PD10 is reset. `full` is the reset of MODULE_RESET, RST_IN_N and power-on, which resets the
mailboxes, queue blocks, MSI-X table and INT control as well (R74). -/
def resetDomains (full : Bool) (cause : Nat) (s : State) : State :=
  let s := cpLost cause (endStaging .discarded s)
  let s := if active s 11 then prepayDomainOff s else s
  let s := resetClock (rebase s)
  let s := resetPower (resetMeter (resetKeys (resetFirm (resetLog full (resetHost full s)))))
  { s with
    charge := { s.charge with sounds := [], records := unsign s.charge.records }
    ingest := {}, lanes := {}, line := {}, radio := {}, balance := {} }

/-! ### The boot chain (R463–R468) -/

/-- The thermometer is no run (R425): VOID without all five steps taken. -/
def thermoBroken (s : State) : Bool :=
  decide (lcState s = .void) && !((List.range 5).all fun k => bitOf s.keys.thermo (2 * k) || bitOf s.keys.thermo (2 * k + 1))

/-- The tamper classes are read from their records (R203). -/
def readTamper (s : State) : State :=
  { s with legal := { s.legal with
      tamper := (s.legal.tamper.map fun p => (p.1, restoreTamper p.2)).filter fun p => decide (p.2 ≠ {}) } }

/-- The classes and calendar loss that the backup section latched (R117, R204, R448, R525). -/
def takeBackup (s : State) : State :=
  let s := takeSleepTrips s
  if s.clock.backupFail then
    let s := setTb 2 { tb s 2 with backupFail := true, valid := false } s
    let s := logTb 0x205 2 [] { s with clock := { s.clock with backupFail := false } }
    loseShares (tariffTb2Lost s)
  else s

/-- The CRC of the active root: CRC-16 of polynomial 0x1021 and initial value 0xFFFF, against its field of ROOT_CRC (R423, R424). -/
def checkRoot (s : State) : State :=
  let bad := match rootIndex (lcState s) with
    | some k => crc16 (Config.root s.keys.rootDraw k) != Config.rootCrc s.keys.rootDraw k s.power.starts
    | none => false
  let s := { s with keys := { s.keys with rootFault := bad } }
  if bad then logKey 0x90E 0xFFFF 0 0 [] s else s

/-- ALARM_HOLD is entered with the latch set or the root failed (R424, R448). -/
def enterAlarm (s : State) : State :=
  let hold := s.keys.latch || s.keys.rootFault
  let s := { s with keys := { s.keys with alarmHold := hold } }
  let s := if s.keys.latch then zeroStore s else s
  if hold ∧ lcState s ≠ .blank ∧ lcState s ≠ .void then logKey 0x903 0xFFFF 0 0 [] s else s

/-- Steps 1 and 2 of R463. -/
def bootFuses (s : State) : State :=
  let s := loadDirectory (reseedMesh s)
  let s := { s with
    power := { s.power with starts := s.power.starts + 1 }
    firm := { s.firm with stage := .fuses } }
  let s := followTb0 (lockRegain s)
  let s := if thermoBroken s then logBoot 0xB25 0xFFFF [] s else s
  enterAlarm (checkRoot (resumeJournal (takeBackup (readTamper s))))

/-- Step 3, where PD10 is persisted on and not running (R28, R467). -/
def bootPd10 (s : State) : State :=
  if bitOf s.power.persisted 10 ∧ bitOf s.power.on 10 = false ∧ lcState s ≠ .blank then
    let s := { s with power := { s.power with on := bitSet s.power.on 10, joined := bitSet s.power.joined 10 } }
    let commit := match s.meter.outages with
      | o :: _ => o.restart == 0#72
      | [] => false
    pd10Start commit ((unitsOf 10).foldl (fun s u => unitReset u s) s)
  else s

/-- No image is decrypted in BLANK, VOID and ALARM_HOLD (R467). -/
def heldStage (s : State) : Option BootStage :=
  if lcState s = .blank then some .blank
  else if lcState s = .void then some .void
  else if s.keys.alarmHold then some .alarmHold
  else none

/-- A bank is used when its form, signatures, tags and SVN pass (R468, item 2). -/
def bankUsable (s : State) (b : Nat) : Bool :=
  let len := (bankOf s b).length
  (imageChecks s (container s b len) (bankIk s b) len).all fun p => p.2 || !([1, 3, 4, 5, 8].contains p.1)

/-- Item 1 of R468: the active bank; a TRIAL bank counts this start, or ends its trial. -/
def tryActive (s : State) : Bool × State :=
  let a := s.firm.active
  let k := bankOf s a
  match k.state with
  | .trial =>
    if 2 < k.trials + 1 then (false, logBoot 0xB03 a [] (writeBank a { k with state := .staged } s))
    else
      let s := writeBank a { k with trials := k.trials + 1 } s
      (bankUsable s a, s)
  | .confirmed => (bankUsable s a, s)
  | _ => (false, s)

/-- The choice of a bank (R468): 0xB02 names the reason of R470 for which the active bank was refused, 0 where its trial ended. -/
def chooseBank (s : State) : Option Nat × State :=
  let a := s.firm.active
  let (ok, s) := tryActive s
  if ok then (some a, s)
  else
    let b := 1 - a
    if (bankOf s b).state = .confirmed ∧ bankUsable s b then
      let why := if (bankOf s a).state = .staged then 0 else bankReason s a
      (some b, logBootNotice 0xB02 a [snapN why] (dirWrite { s with firm := { s.firm with active := b } }))
    else (none, s)

/-- Nulvo, or the boot ROM, serves mailboxes (R463, R467, R468). -/
def serves (st : BootStage) (s : State) : State := { s with firm := { s.firm with stage := st, nulvoReady := true } }

/-- The image of a bank runs: 0xB01 and the boot notice (R463, step 7). -/
def startImage (b : Nat) (s : State) : State :=
  let s := serves .nulvo (runImage b (decryptImage b s))
  let k := bankOf s b
  let named := [snapN b, snapN k.version, snapN k.trials]
  notice 0xB01 0 1 (snapBytes 5 (named ++ bootDefaults s b)) (logBoot 0xB01 b named s)

/-- The start is an F3 restart that is at least the fourth within 600 s: PD7 alone is restored (R490). -/
def lastAtLimit (s : State) : Bool := bitOf s.power.rstCause 1 && decide (4 ≤ s.log.lastF3 / 2 ^ 24)

/-- Steps 8 and 9 (R465, R490, R522): the persisted domains, PD7 alone in the restart that meets F3_LIMIT, none while a removal is pending. -/
def restoreAll (s : State) : State :=
  let s := { s with firm := { s.firm with stage := .restore } }
  let s :=
    if s.power.removePending then finishRemoval s
    else
      let want := if lastAtLimit s then 128 else s.power.persisted
      let failed := (List.range 64).filter fun l => !Config.laneTestOk s.power.starts l
      restoreDomains want failed s
  { s with firm := { s.firm with stage := .ready } }

/-- The credit supervision of R43 at a start: credits still withheld raise V235 once. -/
def armCredits (s : State) : State :=
  let s := { s with host := { s.host with creditSeen := s.host.linkUp && !s.host.creditHeld } }
  if s.host.linkUp ∧ s.host.creditHeld then raiseV 235 s else s

/-- A removal that a restart has met goes on at step 6 where step 8 of R463 does not take place (R522). -/
def resumeRemoval (s : State) : State := if s.power.removePending then finishRemoval s else s

/-- Steps 4 to 9 of R463. `after` is what an F3 or a tamper restart does once mailboxes are served (R488, step 5). -/
def bootImage (after : State → State) (s : State) : State :=
  match heldStage s with
  | some st => resumeRemoval (after (serves st s))
  | none =>
    let s := checkStore { s with firm := { s.firm with stage := .keyStore } }
    let (b, s) := chooseBank { s with firm := { s.firm with stage := .image } }
    match b with
    | some b => restoreAll (after (startImage b s))
    | none =>
      resumeRemoval (after (serves .noImage (logBoot 0xB0C 0xFFFF [] { s with firm := { s.firm with stage := .noImage } })))

/-- A start from reset release (R463). -/
def boot (cause : Nat) (after : State → State) (s : State) : State :=
  let s := bootFuses { s with power := { s.power with rstCause := cause } }
  armCredits (bootImage after (bootPd10 s))

/-! ### Restarts (R74, R488, R489) -/

/-- A DISCARDED response in every mailbox with OWN = 1 (R488, step 5). -/
def discardOwned (s : State) : State :=
  (List.range 64).foldl (fun s n =>
    let m := mbOf s n
    match m.own, m.taken with
    | true, some r => answerMb n r (if 1 ≤ n ∧ n ≤ 3 then tagKey s n r.session else none) .discarded [] s
    | _, _ => s) s

/-- The FENCE entries and discards of R74: pans and pond are emptied before fetching resumes. -/
def fatalDiscards (s : State) : State :=
  let s := (List.range 64).foldl (fun s sq => postFence sq .discarded (fun _ => false) s) s
  let s := (List.range 64).foldl (fun s sq =>
    let q := sqOf s sq
    setSq sq { q with running := [], en := q.en && !q.closing, closing := false } s) s
  discardOwned ((hqKeys s).foldl (fun s q => dropUnringed q s) s)

/-- Step 5 of R488 after an F3. -/
def afterF3 (r : Restart) (s : State) : State :=
  raiseV 193 (logNotice 0xC03 r.unit 0xFFFF [snapN r.code, snapN s.log.f3Count, snapN r.recent] (fatalDiscards s))

/-- PD10 restarts after an F3 of unit 125 or 126 (R489): commit, then the start from the legal store. The record and the legal log
entry follow with the first full tick. -/
def restartPd10 (s : State) : State :=
  match s.log.pd10Restart with
  | some (u, _) =>
    let s := commitAll s
    let at_ := tbVal s 2
    let s := (unitsOf 10).foldl (fun s u => unitReset u s) s
    pd10Start true { s with log := { s.log with pd10Restart := some (u, at_) } }
  | none => s

/-- Steps 3 to 5 of R488. -/
def releaseRestart (s : State) : State :=
  match s.log.restart with
  | some r =>
    let s := if bitOf s.power.on 10 then restartPd10 s else { s with log := { s.log with pd10Restart := none } }
    boot (if r.code = 0xB0E then 18 else 2) (afterF3 r) (resetDomains false 5 s)
  | none => s

/-- `RESTART_RESET_RELEASE` (R488); a thermal cutoff holds it (R543). -/
def execRestartResetRelease (s : State) : Host.Outcome State Fault Refusal :=
  .next (if s.power.main ∧ !s.power.thermalHold ∧ !s.power.rstIn then releaseRestart s else s)

/-- The restart of a life-cycle transition, a recovery or a tamper alarm (R429, step 9; R448): as on MODULE_RESET, but mailboxes and
queue blocks are kept, so that the response written before it can be read. -/
def softRestart (s : State) : State := boot 4 fatalDiscards (resetDomains false 5 (flush s))

/-- A MODULE_RESET (R81). It clears the latch of a removal, which is set again at once if a source still holds (R520); the start then
goes on with the removal as after an F3 (R522; assumption log 70). -/
def moduleReset (s : State) : State := boot 4 id (relatch (resetDomains true 5 (clearRemoval s)))

/-- `RST_CTRL_WRITE` (R81). -/
def execRstCtrlWrite (value : Word32) (s : State) : Host.Outcome State Fault Refusal :=
  .next (if fabricUp s ∧ value.toNat / 256 % 256 = 0xA5 ∧ value.toNat % 2 = 1 then moduleReset s else s)

/-- `RST_IN_N_ASSERT` (R511). -/
def execRstInNAssert (s : State) : Host.Outcome State Fault Refusal :=
  .next (if s.power.aux ∧ !s.power.rstIn then
    let s := if s.log.restart.isSome then restartPd10 s else s
    let s := if s.power.main then resetDomains true 5 (clearRemoval s) else s
    { s with power := { s.power with rstIn := true } }
  else s)

/-- `RST_IN_N_RELEASE` (R511): the module starts with RST_CAUSE bit 2; a thermal cutoff still holds it. -/
def execRstInNRelease (s : State) : Host.Outcome State Fault Refusal :=
  .next (if s.power.rstIn then
    let s := { s with power := { s.power with rstIn := false } }
    if s.power.main ∧ !s.power.thermalHold then boot 4 id (relatch s) else s
  else s)

/-! ### Power (R17, R463, R512, R517, R518) -/

/-- `AUX_SUPPLY_PRESENT` (R17): the PD0 service section starts. -/
def execAuxSupplyPresent (s : State) : Host.Outcome State Fault Refusal :=
  .next { s with power := { s.power with aux := true } }

/-- The state that a power-on clears beyond a reset of the domains (R165, R486, R490, R491, R520). The spec does not say when a supply_fault bit of
PD_STATUS clears again: here only a power-on clears it (DESIGN CHOICE, assumption log 72). -/
def powerOnClear (s : State) : State :=
  let s := clearRemoval s
  { s with
    log := { s.log with
      units := [], lastF3 := 0, f3Count := 0, f3Limit := false, f3Times := [], restart := none, pd10Restart := none, events := 0 }
    meter := { s.meter with checkPassed := false }
    power := { s.power with supplyFault := 0, hot := [], thermalHold := false, attempts := 0 }
    host := { s.host with linkUp := false, creditSeen := false, creditHeld := false, msixEnable := false } }

/-- REF_SEL at power good (R512): REF40_IN is used within ±50 ppm of 40 MHz; else the TCXO, with logbook 0x136. -/
def selectReference (refSel : Bool) (refHz : Nat) (s : State) : State :=
  let good := refSel && decide (39998000 ≤ refHz ∧ refHz ≤ 40002000)
  let s := { s with power := { s.power with refExternal := good } }
  if refSel && !good then logHp 0x136 [snapN 1, snapN refHz] s else s

/-- The records of the insertion, once the logbook runs (R517, R518). -/
def logInsertion (rampMv rampUs : Nat) (s : State) : State :=
  let s := logHp 0x134 [snapN rampMv, snapN rampUs] s
  if s.power.inrush = 0 then s
  else
    let s := logHp 0x135 [snapN s.power.inrush, snapN s.power.inrushPeak] s
    { s with power := { s.power with inrush := 0, inrushPeak := 0 } }

/-- The start of a power-on (R463); RST_IN_N held low holds it. -/
def startPowerOn (after : State → State) (s : State) : State :=
  if s.power.rstIn then s else boot 1 after s

/-- `POWER_GOOD` (R463, R517). -/
def execPowerGood (refSel : Bool) (refHz rampMv rampUs : Nat) (s : State) : Host.Outcome State Fault Refusal :=
  .next (if s.power.aux ∧ s.power.prsnt ∧ s.power.switch ∧ !s.power.main ∧ !s.firm.pfail then
    let s := powerOnClear (resetDomains true 6 s)
    let s := { s with power := { s.power with main := true } }
    startPowerOn id (logInsertion rampMv rampUs (selectReference refSel refHz s))
  else s)

/-- `INSERTION_PRESENT` (R517, R518): PRSNT becomes 1 and the 12 V switch starts its ramp. -/
def execInsertionPresent (s : State) : Host.Outcome State Fault Refusal :=
  .next (if s.power.aux ∧ !s.power.prsnt then
    { s with power := { s.power with prsnt := true, attempts := 0, switch := true } }
  else s)

/-- `INRUSH_FAULT` (R518): the switch opens and the fault is counted. -/
def execInrushFault (peakMa : Nat) (s : State) : Host.Outcome State Fault Refusal :=
  .next (if s.power.switch ∧ !s.power.main then
    { s with power := { s.power with
        switch := false, attempts := s.power.attempts + 1, inrush := s.power.inrush + 1
        inrushPeak := max s.power.inrushPeak peakMa } }
  else s)

/-- `INRUSH_RETRY` (R518): after three failed attempts the switch stays open. -/
def execInrushRetry (s : State) : Host.Outcome State Fault Refusal :=
  .next (if s.power.aux ∧ s.power.prsnt ∧ !s.power.switch ∧ !s.power.main ∧ 1 ≤ s.power.attempts ∧ s.power.attempts < 3 then
    { s with power := { s.power with switch := true } }
  else s)

/-! ### The PCIe link (R43, R74, R511, R519) -/

/-- `PERST_N_ASSERT` (R511): the PCIe function is held in reset, with the effects of a link-down. -/
def execPerstNAssert (s : State) : Host.Outcome State Fault Refusal :=
  .next (if s.power.aux ∧ !s.host.perst then
    let s := if s.power.main then linkDown s else s
    { s with host := { s.host with perst := true } }
  else s)

/-- `PERST_N_RELEASE` (R511, R519). -/
def execPerstNRelease (s : State) : Host.Outcome State Fault Refusal :=
  .next { s with host := { s.host with perst := false } }

/-- `PCIE_LINK_DOWN` (R74). -/
def execPcieLinkDown (s : State) : Host.Outcome State Fault Refusal :=
  .next (if s.host.linkUp then linkDown s else s)

/-- `PCIE_LINK_UP` (R519): the row says whether the host has set MSI-X Enable in the configuration space. -/
def execPcieLinkUp (msixEnable : Bool) (s : State) : Host.Outcome State Fault Refusal :=
  .next (if fabricUp s ∧ active s 7 ∧ !s.host.perst ∧ !s.host.linkUp then
    { s with host := { s.host with linkUp := true, msixEnable := msixEnable, creditSeen := true, creditHeld := false } }
  else s)

/-- `CREDIT_WITHHOLD_TIMEOUT` (R43): V235; an F3 of the host link while the supervision runs. -/
def execCreditWithholdTimeout (s : State) : Host.Outcome State Fault Refusal :=
  .next (if fabricUp s ∧ s.host.linkUp ∧ !s.host.creditHeld then
    let s := raiseV 235 s
    if s.host.creditSeen then
      raiseFault 97 0xC14 3 0xFFFF [snapN 97] { s with host := { s.host with creditHeld := true, creditSeen := false } }
    else s
  else s)

/-! ### Thermal cutoff (R543) -/

/-- Every sensor reads below 100 °C; `temps` are their readings by die, 0.1 °C. -/
def allCool (temps : List Int) : Bool := temps.all fun t => decide (t < 1000)

/-- Milliseconds for which the cutoff has held, by TB2, which PD0 keeps running. -/
def holdMs (s : State) : Nat := (tbVal s 2 - s.power.cutoffAt).toNat * 1000 / 2 ^ 36

/-- `THERMAL_HOLD_END` (R543): every sensor reads below 100 °C, and the restart goes on; logbook 0x138 with the reading of the die that caused the
cutoff and the hold time. -/
def thermalEnd (temps : List Int) (s : State) : State :=
  if s.power.thermalHold && allCool temps then
    let snaps := [snapN s.power.cutoffDie, snapI (temps.getD s.power.cutoffDie 0), snapN (holdMs s)]
    let s := { s with power := { s.power with thermalHold := false } }
    if s.power.main ∧ !s.power.rstIn then
      logHp 0x138 snaps (if s.log.restart.isSome then releaseRestart s else boot 4 id s)
    else s
  else s

def execThermalHoldEnd (temps : List Int) (s : State) : Host.Outcome State Fault Refusal := .next (thermalEnd temps s)

end Sys2Proof.Machine
end

