-- ==== Sys2Proof/Machine/Firmware.lean ====
section
/-! DEFINITION. The firmware commands, activation, scheduled activation and the legal update
(spec/13_start_up_firmware.md, R457, R468–R476; spec/03_time_bases_milestones.md, R103, R121). -/

namespace Sys2Proof.Machine

/-! ### `FW_STATUS` (R457) -/

/-- The operation code and the target of FW_STATUS. -/
def fwOperation (s : State) : Nat × Time :=
  match s.firm.act with
  | some a => if a.scheduled then (3, a.target) else (2, 0)
  | none => (b2n s.firm.staging.isSome, 0)

def fwStatusRun (_ : Src) (_ : Req) (s : State) : Reply × State :=
  let (op, t) := fwOperation s
  ({ payload := directoryBytes s ++ le16 s.firm.svn ++ le8 op ++ le72 t ++ le8 (b2n s.firm.hold.isSome) }, s)

def execFwStatus (src : Src) (s : State) : Host.Outcome State Fault Refusal := runCmd 0x0B01 noCheck fwStatusRun src s

/-! ### Staging (R470) -/

/-- IK of an image key envelope for the module (R461). -/
def envelopeIk (env : Bytes) (s : State) : Option Bytes :=
  match activeRoot s with
  | some root => unwrapFor root "DX1872 image" [] (env.take 97) (fieldB env 97 40)
  | none => none

/-- The public-key engines serve: with PD5 on, or to the boot ROM in NO_IMAGE, which powers PD5 for verification (R463, R468). -/
def imagePkeOff (s : State) : Bool := !active s 5 && decide (s.firm.stage ≠ .noImage)

def fwStageOpenCheck (_ : Src) (r : Req) (s : State) : Option Status :=
  let len := arg r 0 4
  firstFail [(imagePkeOff s, .nores), (pkeAllFenced s, .fenced),
    (decide (len = 0 ∨ bankSize < len) || (envelopeIk (fieldB r.payload 4 137) s).isNone, .badarg),
    (decide ((bankOf s s.firm.active).state = .trial) || fwBusy s, .busy)]

def fwStageOpenRun (src : Src) (r : Req) (s : State) : Reply × State :=
  match src with
  | .mb m =>
    let b := otherBank s
    let len := arg r 0 4
    let x : Staging := { bank := b, length := len, ik := (envelopeIk (fieldB r.payload 4 137) s).getD [], mb := some m }
    let s := writeBank b { state := .staging, length := len } { s with firm := { s.firm with staging := some x } }
    (fail .accepted, logBoot 0xB04 b [] (pkeAsk { cls := 1 } s))
  | .sq _ _ => (fail .denied, s)

def execFwStageOpen (src : Src) (s : State) : Host.Outcome State Fault Refusal :=
  runCmd 0x0B02 fwStageOpenCheck fwStageOpenRun src s

/-- `FW_STAGE_OPEN_DONE` (R470): the bank is erased. -/
def stageOpenDone (s : State) : State :=
  match s.firm.staging with
  | some x =>
    if x.erased then s
    else
      let s := setFlash x.bank [] { s with firm := { s.firm with staging := some { x with erased := true, mb := none } } }
      match x.mb with
      | some m => finishMb m .ok (le8 x.bank) s
      | none => s
  | none => s

def execFwStageOpenDone (s : State) : Host.Outcome State Fault Refusal := .next (if served s then stageOpenDone s else s)

/-- Staging is open for writes: the erase has ended and no check runs. -/
def stagingOpen (s : State) : Bool :=
  match s.firm.staging with
  | some x => x.erased && !x.closing
  | none => false

/-- A write lies in the container, 4 KiB-aligned unless it is the last one. -/
def stageWriteBad (r : Req) (s : State) : Bool :=
  let off := arg r 0 4
  let n := r.payload.length - 4
  match s.firm.staging with
  | some x => decide (x.length < off + n) || (decide (off % 4096 ≠ 0) && decide (off + n ≠ x.length))
  | none => false

def fwStageWriteCheck (_ : Src) (r : Req) (s : State) : Option Status :=
  firstFail [(stageWriteBad r s, .badarg), (!stagingOpen s, .busy)]

def fwStageWriteRun (_ : Src) (r : Req) (s : State) : Reply × State :=
  match s.firm.staging with
  | some x =>
    let bytes := r.payload.drop 4
    ({ payload := le32 bytes.length }, setFlash x.bank (writeBytes (flashOf s x.bank) (arg r 0 4) bytes) s)
  | none => (fail .busy, s)

def execFwStageWrite (src : Src) (s : State) : Host.Outcome State Fault Refusal :=
  runCmd 0x0B03 fwStageWriteCheck fwStageWriteRun src s

def fwStageCloseCheck (_ : Src) (_ : Req) (s : State) : Option Status := firstFail [(!stagingOpen s, .busy)]

def fwStageCloseRun (src : Src) (_ : Req) (s : State) : Reply × State :=
  match src, s.firm.staging with
  | .mb m, some x => (fail .accepted, { s with firm := { s.firm with staging := some { x with closing := true, mb := some m } } })
  | _, _ => (fail .busy, s)

def execFwStageClose (src : Src) (s : State) : Host.Outcome State Fault Refusal :=
  runCmd 0x0B04 fwStageCloseCheck fwStageCloseRun src s

/-- The record of a staged bank. -/
def stagedRecord (c ik : Bytes) (x : Staging) (s : State) : Bank :=
  { state := .staged, svn := imgSvn c, version := imgVersion c, ce := imgCe c, mpe := imgMpe c, length := x.length,
    ik := match activeRoot s with
      | some root => Config.wrap (bankKey root x.bank) ik
      | none => [] }

/-- A bank staged in NO_IMAGE starts as TRIAL (R468). -/
def startStaged (b : Nat) (s : State) : State :=
  let s := writeBank b { bankOf s b with state := .trial, trials := 0 } { s with firm := { s.firm with active := b } }
  restoreAll (startImage b s)

/-- `FW_STAGE_CLOSE_DONE` (R470): the bank becomes STAGED, or EMPTY with the first failing reason. -/
def stageCloseDone (s : State) : State :=
  match s.firm.staging with
  | some x =>
    if x.closing then
      let c := container s x.bank x.length
      let k := firstReason (imageChecks s c (some x.ik) x.length)
      let s := { s with firm := { s.firm with staging := none } }
      let s := writeBank x.bank (if k = 0 then stagedRecord c x.ik x s else {}) s
      let s := logBoot 0xB04 x.bank [] s
      let s := if k = 0 then s else logBoot 0xB05 x.bank [snapN k] s
      let s := match x.mb with
        | some m =>
          finishMb m (reasonStatus k) (le8 k ++ le32 (imgVersion c) ++ le16 (imgSvn c) ++ le8 (imgCe c) ++ le8 (imgMpe c)) s
        | none => s
      if k = 0 ∧ s.firm.stage = .noImage then startStaged x.bank s else s
    else s
  | none => s

def execFwStageCloseDone (s : State) : Host.Outcome State Fault Refusal := .next (if served s then stageCloseDone s else s)

/-- `FW_STAGE_ABORT` (R470): BUSY while the container is checked. -/
def fwStageAbortCheck (_ : Src) (_ : Req) (s : State) : Option Status :=
  firstFail [(match s.firm.staging with
    | some x => x.closing
    | none => false, .busy)]

def fwStageAbortRun (_ : Src) (_ : Req) (s : State) : Reply × State := ({}, endStaging .discarded s)

def execFwStageAbort (src : Src) (s : State) : Host.Outcome State Fault Refusal :=
  runCmd 0x0B05 fwStageAbortCheck fwStageAbortRun src s

/-! ### `ACTIVATE` (R471, R472) -/

/-- The bank that an argument names: a STAGED bank, or the other bank when it is CONFIRMED. -/
def activateBank (s : State) (b : Nat) : Option Nat :=
  if b = 0xFF then stagedBank s
  else if b < 2 then
    match (bankOf s b).state with
    | .staged => some b
    | .confirmed => if b = s.firm.active then none else some b
    | _ => none
  else none

def activateCheck (_ : Src) (r : Req) (s : State) : Option Status :=
  firstFail [((activateBank s (arg r 0 1)).isNone, .badarg), (fwBusy s || s.power.transition.isSome, .busy),
    (s.power.removePending, .discarded)]

def activateRun (src : Src) (r : Req) (s : State) : Reply × State :=
  match src, activateBank s (arg r 0 1) with
  | .mb m, some b => (fail .accepted, { s with firm := { s.firm with act := some { bank := b, mb := some m } } })
  | _, _ => (fail .badarg, s)

def execActivate (src : Src) (s : State) : Host.Outcome State Fault Refusal := runCmd 0x0B06 activateCheck activateRun src s

/-- The final payload of `ACTIVATE`. -/
def activatePayload (s : State) (b pause reason : Nat) : Bytes := le32 (bankOf s b).version ++ le32 pause ++ le8 reason

/-- `ACTIVATE_PREPARED` (R471): the bank has been verified and decrypted into the idle half. A scheduled activation waits for its
instant; a restart that a life-cycle transition is about to cause comes before T_A. -/
def activatePrepared (s : State) : State :=
  match s.firm.act with
  | some a =>
    if a.step = .preparing then
      let k := bankReason s a.bank
      if a.scheduled then
        let s := if k = 0 then prepareImage a.bank s else s
        { s with firm := { s.firm with act := some { a with step := if k = 0 then .prepared else .failed, reason := k } } }
      else if s.keys.run.isSome then s
      else if k = 0 then beginPause a (prepareImage a.bank s)
      else endActivation (reasonStatus k) (activatePayload s a.bank 0 k) (logBoot 0xB05 a.bank [snapN k] s)
    else s
  | none => s

def execActivatePrepared (s : State) : Host.Outcome State Fault Refusal := .next (if fabricUp s then activatePrepared s else s)

/-- Radio channels with frames that the pause held start channel access (R471, step 6). -/
def resumeRf (s : State) : State := (List.range 6).foldl (fun s n => if rfRuns s n then startAccess n s else s) s

/-- Operations that would answer a mailbox whose command the pause has discarded no longer name it. -/
def dropHolders (s : State) : State :=
  let s := resetMeter { s with clock := { s.clock with pps := [] } }
  { s with
    log := { s.log with
      units := (s.log.units.map fun p => (p.1, { p.2 with recoverMb := none })).filter fun p => decide (p.2 ≠ {}) }
    lanes := { s.lanes with lanes := (s.lanes.lanes.map fun p => (p.1, { p.2 with testMb := none })).filter fun p => decide (p.2 ≠ {}) }
    line := { s.line with chans := (s.line.chans.map fun p => (p.1, { p.2 with tmCommands := [] })).filter fun p => decide (p.2 ≠ {}) } }

/-- The commands ACCEPTED and not completed at T_A, but for the activation's own (R471). -/
def discardAccepted (own : Option Nat) (s : State) : State :=
  dropHolders ((List.range 64).foldl (fun s n => if own = some n then s else finishMb n .discarded [] s) s)

/-- `ACTIVATE_PAUSE_END` (R471, steps 4 to 7): the pause reported is the time from T_A; the Nulvo transmit queues resume. -/
def pauseEnd (pauseUs : Nat) (s : State) : State :=
  match s.firm.act with
  | some a =>
    if a.step = .pause ∧ usSince a.pauseAt s = pauseUs then
      let s := runImage a.bank (switchImage (discardAllFlights s))
      let s := resumeRf { s with firm := { s.firm with stage := .ready, act := none } }
      let s := releaseHold (logBootNotice 0xB06 a.bank [snapN pauseUs] s)
      let s := match a.mb with
        | some m =>
          finishMb m .ok (if a.scheduled then le8 0 ++ le8 0 else activatePayload s a.bank pauseUs 0) s
        | none => s
      discardAccepted a.mb s
    else s
  | none => s

def execActivatePauseEnd (pauseUs : Nat) (s : State) : Host.Outcome State Fault Refusal :=
  .next (if fabricUp s then pauseEnd pauseUs s else s)

/-! ### `ACTIVATE_AT` and the triggers (R103, R121, R473) -/

/-- One second in units of 2^-36 s. -/
def oneSecond : Nat := 2 ^ 36

/-- The trigger id of a bank: MPE × 256 + CE. -/
def triggerId (k : Bank) : Nat := k.mpe * 256 + k.ce

def activateAtCheck (_ : Src) (r : Req) (s : State) : Option Status :=
  let target := argT r 0
  let chain := arg r 9 1
  if target = 0 then firstFail [(decide (1 < chain), .badarg)]
  else
    firstFail [(isFenced s 4, .fenced), (!(tb s 0).valid, .timeLost),
      (decide (1 < chain) || decide (timeDiff target (tbVal s 0) < (oneSecond : Int)) || (stagedBank s).isNone, .badarg),
      (fwBusy s, .busy), (s.power.removePending, .discarded), ((freeSlot s).isNone, .nores)]

/-- A target of 0 cancels the pending activation: both commands end with outcome 2. -/
def cancelPending (s : State) : State :=
  match s.firm.act with
  | some a => if a.scheduled ∧ a.step ≠ .pause then endActivation .ok (le8 2 ++ le8 0) s else s
  | none => s

def activateAtRun (src : Src) (r : Req) (s : State) : Reply × State :=
  let target := argT r 0
  if target = 0 then ({ payload := le8 2 ++ le8 0 }, cancelPending s)
  else
    match src, stagedBank s, freeSlot s with
    | .mb m, some b, some k =>
      let chain := arg r 9 1 == 1
      let id := triggerId (bankOf s b)
      let a : Activation := { bank := b, mb := some m, scheduled := true, chain := chain, target := target, slot := k }
      let s := setSlot k (some { target := target, id := id, activate := true }) { s with firm := { s.firm with act := some a } }
      (fail .accepted, if chain then emit (.frame 64 (triggerFrame target id true)) s else s)
    | _, _, _ => (fail .nores, s)

def execActivateAt (src : Src) (s : State) : Host.Outcome State Fault Refusal :=
  runCmd 0x0B07 activateAtCheck activateAtRun src s

/-- Preparation on a trigger (R473): with a STAGED bank of the trigger's CE and MPE. -/
def prepareFor (f : AethTrigger) (k : Nat) (s : State) : State :=
  match stagedBank s with
  | some b =>
    if triggerId (bankOf s b) = f.id ∧ !fwBusy s then
      let a : Activation := { bank := b, scheduled := true, chain := true, target := f.target, slot := k }
      { s with firm := { s.firm with act := some a } }
    else s
  | none => s

/-- `AETHENO_TRIGGER_RECEIVE` (R121): forwarded and scheduled on TB11. -/
def triggerReceive (f : AethTrigger) (s : State) : State :=
  if aethenoUp s && s.clock.syncIn && f.crcOk then
    let s := emit (.frame 64 (triggerFrame f.target f.id f.activate)) s
    match freeSlot s with
    | some k =>
      let s := setSlot k (some { target := f.target, id := f.id, chain := true, activate := f.activate }) s
      if f.activate then prepareFor f k s else s
    | none => s
  else s

def execAethenoTriggerReceive (f : AethTrigger) (s : State) : Host.Outcome State Fault Refusal := .next (triggerReceive f s)

/-! ### Confirmation and the operator key (R460, R469) -/

def fwConfirmCheck (_ : Src) (_ : Req) (s : State) : Option Status := firstFail [(fwBusy s, .busy)]

/-- `FW_CONFIRM` (R469): without a TRIAL bank nothing changes. -/
def fwConfirmRun (_ : Src) (_ : Req) (s : State) : Reply × State :=
  let a := s.firm.active
  let k := bankOf s a
  if k.state = .trial then
    let svn := max s.firm.svn k.svn
    let s := writeBank a { k with state := .confirmed, trials := 0 } { s with firm := { s.firm with svn := svn } }
    ({ payload := le16 svn }, logBoot 0xB09 a [snapN svn] s)
  else ({ payload := le16 s.firm.svn }, s)

def execFwConfirm (src : Src) (s : State) : Host.Outcome State Fault Refusal := runCmd 0x0B08 fwConfirmCheck fwConfirmRun src s

/-- The digest is zero: no operator key. -/
def noDigest (r : Req) : Bool := r.payload.all (· == 0)

def fwOpkeySetCheck (_ : Src) (r : Req) (s : State) : Option Status :=
  firstFail [(noDigest r && decide (lcState s = .field ∨ lcState s = .rma), .lifecycle)]

def fwOpkeySetRun (_ : Src) (r : Req) (s : State) : Reply × State :=
  let d := if noDigest r then [] else r.payload
  ({ payload := padTo 48 d }, logBoot 0xB0D 0xFFFF [] { s with firm := { s.firm with opKey := d } })

def execFwOpkeySet (src : Src) (s : State) : Host.Outcome State Fault Refusal :=
  runCmd 0x0B0A fwOpkeySetCheck fwOpkeySetRun src s

/-! ### `ACTIVATE_LEGAL` (R476) -/

/-- The container of a bank, and the first failing reason of R470 with reason 11. -/
def legalReason (s : State) (b : Nat) : Nat :=
  let c := container s b (bankOf s b).length
  let k := bankReason s b
  if k ≠ 0 then k else if Config.legalFmtReads (imgLegalFmt c) s.firm.legalFmt then 0 else 11

/-- The bank named is the active one or STAGED, and carries legal segments. -/
def legalBankOk (s : State) (b : Nat) : Bool :=
  decide (b < 2) && (decide (b = s.firm.active ∧ (bankOf s b).state ≠ .empty) || decide ((bankOf s b).state = .staged))
    && imgHasLegal (container s b 64)

def activateLegalCheck (_ : Src) (r : Req) (s : State) : Option Status :=
  firstFail [(!active s 10, .nores), (isFenced s 125 || isFenced s 126, .fenced), (!legalBankOk s (arg r 0 1), .badarg),
    (decide (s.legal.state ≠ .inService) || legalFull s, .legalLock), (fwBusy s, .busy)]

/-- The legal store copy not in force. -/
def spareCopy (s : State) : Nat :=
  match s.firm.legalCopy with
  | some 0 => 1
  | _ => 0

/-- Write the header copy, the plaintext legal segments and their digest into a copy (R476, steps 1 to 3). -/
def writeCopy (k : Nat) (head plain digest : Bytes) (s : State) : State :=
  dirWrite (if k = 0 then { s with firm := { s.firm with headA := head, legalA := plain, digestA := digest } }
    else { s with firm := { s.firm with headB := head, legalB := plain, digestB := digest } })

def activateLegalRun (src : Src) (r : Req) (s : State) : Reply × State :=
  let b := arg r 0 1
  let k := legalReason s b
  if k ≠ 0 then ({ status := reasonStatus k, payload := List.replicate 36 0 ++ le8 k }, s)
  else
    match src with
    | .mb m =>
      let c := container s b (bankOf s b).length
      let plain := (legalPlain c ((bankIk s b).getD [])).getD []
      let digest := Config.sha256 plain
      let s := writeCopy (spareCopy s) (c.take (min 65536 (blocksEnd c))) plain digest s
      (fail .accepted,
        { s with firm := { s.firm with legalAct := some { bank := b, mb := m, digest := digest, fmt := imgLegalFmt c } } })
    | .sq _ _ => (fail .denied, s)

def execActivateLegal (src : Src) (s : State) : Host.Outcome State Fault Refusal :=
  runCmd 0x041B activateLegalCheck activateLegalRun src s

/-- Steps 5 to 8 of R476, at a tick boundary. -/
def legalSwitch (s : State) : State :=
  match s.firm.legalAct with
  | some x =>
    let old := cvOf s.legal.digest
    let new := cvOf x.digest
    let (session, counter) := match (mbOf s x.mb).taken with
      | some r => (r.session, r.counter)
      | none => (0xFF, 0)
    let k := spareCopy s
    let s := runLegal k s
    let s := dirWrite { s with
      firm := { s.firm with legalCopy := some k, legalAct := none }
      legal := { s.legal with digest := x.digest, digestTb2 := tbVal s 2 } }
    let s := legalEntry 0xB0A 0x041B session counter (le32 old ++ le32 new ++ x.digest.take 16) s
    let named : List Time := []
    let s := logBoot 0xB0A x.bank named (showCvAll s)
    let s := raiseV 234 (notice 0xB0A (codeSeverity 0xB0A) 1 (snapBytes 5 (named ++ bootDefaults s x.bank)) s)
    finishMb x.mb .ok (le32 new ++ padTo 32 x.digest ++ le8 0) s
  | none => s

end Sys2Proof.Machine
end

