-- ==== Sys2Proof/Machine/HotPlug.lean ====
section
/-! DEFINITION. The rows of a removal and of the temperature sensors (spec/15_connector_hot_plug.md, R518–R530;
spec/16_electrical_mechanical.md, R543). -/

namespace Sys2Proof.Machine

/-- A removal source acts on the module (R511, R518, R520): a PRSNT_N event before power good only opens the 12 V switch. -/
def removalSource (src : RemovalSource) (s : State) : State :=
  match src with
  | .removeReqN low =>
    let s := { s with power := { s.power with removeReq := low } }
    if low ∧ s.power.main ∧ s.power.prsnt then requestRemoval src s else s
  | .hpCtrl => if fabricUp s then requestRemoval src s else s
  | .prsntN c =>
    if s.power.aux ∧ s.power.prsnt then
      let s := { s with power := { s.power with prsnt := false, lostContact := c } }
      if s.power.main then requestRemoval src s else { s with power := { s.power with switch := false } }
    else s

/-- `REMOVAL_REQUEST` (R520). -/
def execRemovalRequest (source : RemovalSource) (s : State) : Host.Outcome State Fault Refusal :=
  .next (removalSource source s)

/-- `HP_CTRL_WRITE` (R81): bit 0 requests removal. -/
def execHpCtrlWrite (value : Word32) (s : State) : Host.Outcome State Fault Refusal :=
  .next (if value.toNat % 2 = 1 then removalSource .hpCtrl s else s)

/-- `ms` milliseconds have passed since the request of the removal in progress. -/
def removalAge (ms : Nat) (s : State) : Bool :=
  match s.power.removal with
  | some x => decide (ms * 1000 ≤ usSince x.start s)
  | none => false

/-- No pipeline holds a frame in flight. -/
def noFlights (s : State) : Bool := (List.range 16).all fun n => (fipOf s n).flights.isEmpty

/-- Step 4 of R521 ends: nothing is in flight, or 100 ms have passed. An activation past its directory write comes first (R522). -/
def inflightEnds (s : State) : Bool :=
  atStep .inflight s && decide (s.firm.stage ≠ .pause) && (noFlights s || removalAge 100 s)

/-- `REMOVAL_INFLIGHT_END` (R521). -/
def execRemovalInflightEnd (s : State) : Host.Outcome State Fault Refusal :=
  .next (if fabricUp s ∧ inflightEnds s then endInflight s else s)

/-- DRAIN of the removal in progress, ms. -/
def removalDrain (s : State) : Nat :=
  match s.power.removal with
  | some x => x.drain
  | none => 0

/-- The drain ends: every pan and the pond are empty, or DRAIN has passed since the request (R521, step 5). Step 6 waits for a legal activation or
a life-cycle transition (R522). -/
def drainEnds (s : State) : Bool :=
  atStep .drain s && s.keys.run.isNone && s.firm.legalAct.isNone
    && (decide (allUndelivered s = 0) || removalAge (removalDrain s) s)

/-- `REMOVAL_DRAIN_END` (R521). -/
def execRemovalDrainEnd (s : State) : Host.Outcome State Fault Refusal :=
  .next (if fabricUp s ∧ drainEnds s then finishRemoval (endDrain s) else s)

/-- `HP_CFG` (R521, R529). -/
def hpCfgCheck (_ : Src) (r : Req) (_ : State) : Option Status := firstFail [(decide (60000 < arg r 0 2), .badarg)]

/-- A removal that has not passed its step 4 takes the new DRAIN. -/
def hpCfgRun (_ : Src) (r : Req) (s : State) : Reply × State :=
  let d := arg r 0 2
  let s := { s with power := { s.power with drain := d } }
  ({ payload := le16 d }, if atStep .inflight s then setStep (fun x => { x with drain := d }) s else s)

def execHpCfg (src : Src) (s : State) : Host.Outcome State Fault Refusal := runCmd 0x0130 hpCfgCheck hpCfgRun src s

/-- `HP_RESUME` (R523): BUSY unless SAFE_TO_REMOVE and PRSNT are 1 and REMOVE_REQ_N is high. -/
def hpResumeCheck (_ : Src) (_ : Req) (s : State) : Option Status :=
  firstFail [(!s.power.safe || !s.power.prsnt || s.power.removeReq || s.power.transition.isSome, .busy)]

/-- Step 1 of R26 for every persisted domain whose dependencies have power, in dependency order (R28, R555). -/
def resumePower (s : State) : State :=
  restoreOrder.foldl (fun s d =>
    if bitOf s.power.persisted d && !bitOf s.power.on d && (dependsOn d).all (powered s) then
      { s with power := { s.power with on := bitSet s.power.on d } }
    else s) s

/-- The domains that HP_RESUME restores. -/
def resumed (s : State) : List Nat :=
  restoreOrder.filter fun d => bitOf (resumePower s).power.on d && !bitOf s.power.on d

def hpResumeRun (src : Src) (_ : Req) (s : State) : Reply × State :=
  match src with
  | .mb m =>
    let s := clearRemoval s
    let t := resumePower s
    (fail .accepted,
      { t with power := { t.power with transition := some { domains := resumed s, on := true, by_ := .resume m } } })
  | .sq _ _ => (fail .denied, s)

def execHpResume (src : Src) (s : State) : Host.Outcome State Fault Refusal := runCmd 0x0131 hpResumeCheck hpResumeRun src s

/-- `HP_RESUME_COMPLETE` (R523): the persisted domains are on; logbook 0x133. -/
def resumeComplete (s : State) : State :=
  match s.power.transition with
  | some t =>
    match t.by_ with
    | .resume m =>
      let failed := (List.range 64).filter fun l => !Config.laneTestOk s.power.starts l
      let s := t.domains.foldl (fun s d => powerUp d failed s) s
      let restored := ofBits ((List.range 12).map t.domains.contains)
      let s := logHp 0x133 [snapN restored] { s with power := { s.power with transition := none } }
      awaitedOff (finishMb m .ok (le16 (onWord s)) s)
    | .pdSet _ => s
    | .removal => s
  | none => s

def execHpResumeComplete (s : State) : Host.Outcome State Fault Refusal := .next (if fabricUp s then resumeComplete s else s)

/-! ### Die temperature (R543) -/

/-- The crossings of 110 °C, with 5 K of hysteresis. -/
def warmCrossing (die : Nat) (t c : Int) (s : State) : State :=
  let snaps := [snapN die, snapI t, snapI c]
  if 1100 < t ∧ !s.power.hot.contains die then
    let s := { s with power := { s.power with hot := die :: s.power.hot } }
    notice 0x137 1 136 (snapBytes 5 snaps) (raiseFault 136 0x137 0 0xFFFF snaps s)
  else if t < 1050 ∧ s.power.hot.contains die then
    let s := { s with power := { s.power with hot := s.power.hot.filter fun d => d != die } }
    raiseFault 136 0x137 0 0xFFFF snaps s
  else s

/-- The thermal cutoff: an F3 of unit 136 whose restart holds at step 3. -/
def cutoff (die : Nat) (t : Int) (s : State) : State :=
  if 1200 < t ∧ die ≠ Config.analogDie ∧ fabricUp s then
    let s := raiseFault 136 0x138 3 0xFFFF [snapN die, snapI t, 0] s
    { s with power := { s.power with thermalHold := true, cutoffDie := die, cutoffAt := tbVal s 2 } }
  else s

/-- The temperature monitor of tamper class 14 (R446, R543). -/
def tempTrips (t : Int) : Bool := decide (1350 < t ∨ t < -550)

/-- The monitor keeps tripping until the die is 5 K back within its threshold (R543). -/
def tempHolds (t : Int) : Bool := decide (1300 ≤ t ∨ t ≤ -500)

end Sys2Proof.Machine
end

