-- ==== Sys2Proof/Machine/Life.lean ====
section
/-! DEFINITION. The life-cycle commands, tamper trips and the debug port
(spec/12_keys_life_cycle_tamper.md, R425–R433, R446–R450, R454). -/

namespace Sys2Proof.Machine

/-! ### Tamper trips (R427, R446, R448) -/

/-- An ALARM while main power is on (R448): running, the module destroys its keys and restarts into ALARM_HOLD; in a start or a
reset, the latch is taken by the boot ROM. -/
def alarmTrip (cls : Nat) (s : State) : State :=
  let s := setLatch s
  if fabricUp s then softRestart (alarmRunning cls s) else tamperSet cls (zeroStore s)

/-- A tamper source of a class trips (R448). -/
def tamperTrip (cls : Nat) (s : State) : State :=
  if sourceOn s cls then
    if !s.power.aux then sleepTrip cls s
    else if s.keys.alarmHold ∨ lcState s = .void then tamperSet cls s
    else if alarms s cls then alarmTrip cls s
    else recordTrip cls s
  else s

/-- The class of a sample's source (R446). -/
def sampleClass : TamperSample → Nat
  | .input n _ _ => 4 + n
  | .mesh _ _ _ => 11
  | .supply _ _ _ => 12
  | .clock _ _ _ => 13
  | .temperature _ _ => 14
  | .shield _ _ => 15

/-- A level of TMPn that trips in its mode (R446). -/
def inputTrips (s : State) (n : Nat) (high : Bool) : Bool :=
  match nthN s.keys.modes n with
  | 1 => high
  | 2 => !high
  | _ => false

/-- Crystal ticks from sample to sample: 1 with main power, 32 on VBAT alone (R446). -/
def sampleTicks (s : State) : Nat := if s.power.main then 1 else 32

/-- The crystal tick of now, by TB2 (R115). -/
def crystalTick (s : State) : Nat := (tbVal s 2).toNat * 32768 / 2 ^ 36

/-- A level of TMESH_INn at a crystal tick that differs from TMESH_OUTn (R446). A level that is the other trace's stream and not the own one differs
from TMESH_OUTn too (DEDUCED, assumption log 81). -/
def meshDiffers (s : State) (n c : Nat) (high : Bool) : Bool := high != Config.meshBit s.keys.meshSeed n c

/-- Both samples lie in the tripping state of the source (R446). -/
def sampleTrips (s : State) : TamperSample → Bool
  | .input n a b => inputTrips s n a && inputTrips s n b
  | .mesh n a b =>
    nthN s.keys.modes 7 != 0 && meshDiffers s n (crystalTick s - sampleTicks s) a && meshDiffers s n (crystalTick s) b
  | .supply dev ns vbat => decide ((120 < dev.natAbs ∧ 5 ≤ ns) ∨ 3900 < vbat)
  | .clock period hz ms => decide (period < 80 ∨ ((hz < 28000 ∨ 38000 < hz) ∧ 1000 ≤ ms))
  | .temperature _ t => tempTrips t
  | .shield _ broken => broken

/-- A bit of a number, set or cleared. -/
def bitTo (v k : Nat) (b : Bool) : Nat := if b then bitSet v k else bitClear v k

/-- A die's sensor or shield trips, or no longer does; the class trips while one die does. -/
def noteDie (cls die : Nat) (trips : Bool) (s : State) : State :=
  let l := s.keys.diesTripping.filter fun p => p != (cls, die)
  let l := if trips then (cls, die) :: l else l
  { s with keys := { s.keys with
      diesTripping := l, tripping := bitTo s.keys.tripping (cls - 4) (l.any fun p => p.1 == cls) } }

/-- The input states and the classes that trip after a sample (R446). -/
def noteSample (x : TamperSample) (s : State) : State :=
  let trips := sampleTrips s x
  match x with
  | .input n _ b =>
    { s with keys := { s.keys with inputs := bitTo s.keys.inputs n b, tripping := bitTo s.keys.tripping n trips } }
  | .mesh n _ _ =>
    let m := bitTo s.keys.meshTrips n trips
    { s with keys := { s.keys with
        meshTrips := m, inputs := bitTo s.keys.inputs 7 (m != 0), tripping := bitTo s.keys.tripping 7 (m != 0) } }
  | .temperature die t => noteDie 14 die (trips || (s.keys.diesTripping.contains (14, die) && tempHolds t)) s
  | .shield die _ => noteDie 15 die trips s
  | _ => { s with keys := { s.keys with tripping := bitTo s.keys.tripping (sampleClass x - 4) trips } }

/-- `TAMPER_SAMPLE_TRIP` (R446): two consecutive samples in the tripping state are a trip; others show that the condition is gone. -/
def tamperSample (x : TamperSample) (s : State) : State :=
  let trips := sampleTrips s x
  let s := noteSample x s
  if trips then tamperTrip (sampleClass x) s else s

def execTamperSampleTrip (sample : TamperSample) (s : State) : Host.Outcome State Fault Refusal := .next (tamperSample sample s)

/-- `DEBUG_ACCESS_ATTEMPT` (R427). -/
def execDebugAccessAttempt (tckEdges : Nat) (s : State) : Host.Outcome State Fault Refusal :=
  .next (if 8 ≤ tckEdges ∧ debugClosed s ∧ s.power.aux then tamperTrip 16 s else s)

/-- `THERMAL_THRESHOLD` (R543). -/
def execThermalThreshold (die : Nat) (deciC caseDeciC : Int) (s : State) : Host.Outcome State Fault Refusal :=
  .next (if s.power.main then
    tamperSample (.temperature die deciC) (cutoff die deciC (warmCrossing die deciC caseDeciC s))
  else tamperSample (.temperature die deciC) s)

/-! ### `LC_STATUS` and `LC_NEXT_DIK` (R426, R432, R433) -/

def lcStatusRun (_ : Src) (_ : Req) (s : State) : Reply × State :=
  ({ payload := le8 (lcCode (lcState s)) ++ le32 s.keys.alarmSeq ++ le8 (b2n s.keys.journal.isSome)
      ++ le8 (b2n (!debugClosed s)) }, s)

def execLcStatus (src : Src) (s : State) : Host.Outcome State Fault Refusal := runCmd 0x0B20 noCheck lcStatusRun src s

/-- The state that follows in the order of R425. -/
def lcNext : LifeCycle → LifeCycle
  | .blank => .mfg
  | .mfg => .provision
  | .provision => .field
  | .field => .rma
  | .rma => .void
  | .void => .void

/-- The attestation of the next state's key by the outgoing one (R433); nothing where either state has no root. -/
def attest (dst : LifeCycle) (s : State) : Bytes :=
  match activeRoot s, rootFor s dst with
  | some old, some new => Config.ecdsaSign (dikOf old) (Config.sha384 (statementBytes dst (dikPublic new)))
  | _, _ => []

def lcNextDikCheck (_ : Src) (_ : Req) (s : State) : Option Status :=
  firstFail [(!active s 5, .nores), (pkeAllFenced s, .fenced),
    ((activeRoot s).isNone || (rootFor s (lcNext (lcState s))).isNone, .lifecycle), (rngStopped s, .busy)]

def lcNextDikEffect (_ : Src) (_ : Req) (s : State) : Reply × State :=
  let dst := lcNext (lcState s)
  ({ payload := le8 (lcCode dst) ++ dikPublic ((rootFor s dst).getD []) ++ attest dst s }, s)

def lcNextDikRun (src : Src) (r : Req) (s : State) : Reply × State := pkeCommand 1 src r s

def execLcNextDik (src : Src) (s : State) : Host.Outcome State Fault Refusal :=
  runCmd 0x0B22 lcNextDikCheck lcNextDikRun src s

/-! ### The end of a public-key operation (R451) -/

/-- The checks and the effect of a command that waits for an engine. -/
def pkeEffect (op : Nat) : (Src → Req → State → Option Status) × (Src → Req → State → Reply × State) :=
  match op with
  | 0x0901 => (omkLoadCheck, omkLoadEffect)
  | 0x0906 => (keyImportCheck, keyImportEffect)
  | 0x0907 => (keyGenerateCheck, keyGenerateEffect)
  | 0x090A => (dikReadCheck, dikReadEffect)
  | 0x090B => (keyAuthSetCheck, keyAuthSetEffect)
  | _ => (lcNextDikCheck, lcNextDikEffect)

/-- The command whose operation has ended is checked once more, so that what has changed while it waited counts, and completes. -/
def pkeAnswer (m : Nat) (r : Req) (s : State) : State :=
  if (mbOf s m).started then
    match (pkeEffect r.opcode).1 (.mb m) r s with
    | some st => respond (.mb m) r (srcKey s (.mb m) r) (fail st) s
    | none => carryOut (pkeEffect r.opcode).2 (.mb m) r s
  else s

/-- What waited for an operation that has ended well goes on. -/
def pkeDone (r : PkeReq) (s : State) : State :=
  match r.job with
  | .command m q => pkeAnswer m q s
  | .session id => sessionSigned id s
  | .other => s

/-- `PKE_OPERATION_END` (R451): the operation completes and the next request is served; a failed self-check suppresses the output
and fences the engine, and its requester is told DISCARDED (R484). -/
def pkeEnd (n : Nat) (ok : Bool) (s : State) : State :=
  match pkeRunning s n with
  | none => s
  | some r =>
    let s := setPke n none s
    let s := { s with keys := { s.keys with pkeOps := put 0 s.keys.pkeOps n ((look 0 s.keys.pkeOps n + 1) % 2 ^ 32) } }
    if ok then pkeServe (pkeDone r s)
    else
      let s := raiseFault (88 + n) 0x90C 2 0xFFFF [0, snapN 1, snapN (lcCode (lcState s))] s
      pkeServe (pkeDrop r (countWork (88 + n) 1 s))

def execPkeOperationEnd (pke : Nat) (selfCheckOk : Bool) (s : State) : Host.Outcome State Fault Refusal :=
  within "public-key engine" pke 4 (if fabricUp s && working s 5 then pkeEnd pke selfCheckOk s else s)

/-! ### `LC_ADVANCE` (R428, R429) -/

/-- The state of a code. -/
def lcOf (k : Nat) : Option LifeCycle :=
  match k with
  | 1 => some .mfg
  | 2 => some .provision
  | 3 => some .field
  | 4 => some .rma
  | 5 => some .void
  | _ => none

/-- The token of a request, empty when it has none. -/
def advToken (r : Req) : Bytes := if r.payload.length = 257 ∨ r.payload.length = 465 then fieldB r.payload 1 256 else []

/-- The bundle of a request, empty when it has none; a transition to MFG or VOID takes none. -/
def advBundle (r : Req) : Bytes :=
  let b := if r.payload.length = 465 then fieldB r.payload 257 208 else if r.payload.length = 209 then fieldB r.payload 1 208 else []
  if arg r 0 1 = 1 ∨ arg r 0 1 = 5 then [] else b

/-- A request correctly authenticated in MB3 under session 0 (R428). -/
def mb3Tag (src : Src) (r : Req) : Bool :=
  match src with
  | .mb n => n == 3 && r.session == 0
  | .sq _ _ => false

/-- The rows of R428; in ALARM_HOLD only a token of kind 4 or 5 serves (R448). -/
def rowMet (src : Src) (r : Req) (s : State) : Bool :=
  let tag := mb3Tag src r
  let token := fun k => tokenOk s k (advToken r)
  let toVoid := (tag && !s.keys.alarmHold) || token 5
  match lcState s, lcOf (arg r 0 1) with
  | .blank, some .mfg => r.smp && token 1
  | .mfg, some .provision => token 2 && !s.keys.alarmHold
  | .provision, some .field => tag && !s.keys.alarmHold
  | .field, some .rma => token 4 && (tag || s.keys.alarmHold)
  | .mfg, some .void => toVoid
  | .provision, some .void => toVoid
  | .field, some .void => toVoid
  | .rma, some .void => toVoid
  | _, _ => false

/-- The bundle's form (R428, R431): it unwraps under the key of the next state, and carries AUK_3 on the way to FIELD. -/
def bundleBad (r : Req) (s : State) : Bool :=
  let b := advBundle r
  let opens := match lcOf (arg r 0 1) with
    | some dst =>
      match rootFor s dst with
      | some root => (bundleKeys root b).isSome && !s.keys.latch
      | none => false
    | none => false
  (arg r 0 1 == 3 && (b.isEmpty || !bundleHas b 3)) || (!b.isEmpty && !opens)

def lcAdvanceCheck (src : Src) (r : Req) (s : State) : Option Status :=
  firstFail [(!rowMet src r s, .lifecycle), (bundleBad r s, .badarg), (rngStopped s || s.keys.run.isSome, .busy)]

/-- A pending ACTIVATE_AT is cancelled with outcome 2 (R473); an activation that prepares is discarded. -/
def cancelActivation (s : State) : State :=
  match s.firm.act with
  | some a =>
    if a.step = .pause then s
    else if a.scheduled then endActivation .ok (le8 2 ++ le8 0) s
    else endActivation .discarded [] s
  | none => s

/-- Steps 2 to 5 of R429. -/
def beginTransition (m : Nat) (dst : LifeCycle) (bundle : Bytes) (s : State) : State :=
  let src := lcState s
  let sig := attest dst s
  let (iks, s) := match rootFor s dst with
    | some root => if src = LifeCycle.blank then ([], s) else carryIks root s
    | none => ([], s)
  let s := { s with
    keys := { s.keys with revocations := s.keys.revocations ++ [none], run := some { dst := dst, mb := m } }
    lanes := { s.lanes with sessions := [] } }
  let s := cancelActivation (endStaging .discarded s)
  let s := { s with keys := { s.keys with journal := some { src := src, dst := dst, bundle := bundle, iks := iks, sig := sig } } }
  logBoot 0xB20 0xFFFF [] (zeroStore s)

def lcAdvanceRun (src : Src) (r : Req) (s : State) : Reply × State :=
  match src, lcOf (arg r 0 1) with
  | .mb m, some dst => (fail .accepted, pkeAsk { cls := 1 } (beginTransition m dst (advBundle r) s))
  | _, _ => (fail .lifecycle, s)

def execLcAdvance (src : Src) (s : State) : Host.Outcome State Fault Refusal := runCmd 0x0B21 lcAdvanceCheck lcAdvanceRun src s

/-- `LC_TRANSITION_COMPLETE` (R429): steps 6 to 9. A revocation that has not reached PD5 yet is carried out first. -/
def transitionComplete (s : State) : State :=
  match s.keys.run, s.keys.journal with
  | some x, some j =>
    let s := if s.keys.revocations.contains none then revoke none s else s
    let s := completeTransition j 0xB21 s
    softRestart (finishMb x.mb .ok (le8 (lcCode (lcState s))) s)
  | _, _ => s

def execLcTransitionComplete (s : State) : Host.Outcome State Fault Refusal :=
  .next (if fabricUp s then transitionComplete s else s)

/-! ### `LC_RECOVER` and `LC_DEBUG_OPEN` (R427, R449) -/

/-- The tripping condition persists (R449, R454): a class whose action is ALARM trips. -/
def tripHolds (s : State) : Bool := (List.range 13).any fun k => bitOf s.keys.tripping k && alarms s (k + 4)

def lcRecoverCheck (_ : Src) (r : Req) (s : State) : Option Status :=
  firstFail [(!s.keys.alarmHold, .lifecycle), (!tokenOk s 6 (r.payload.take 256), .badarg), (tripHolds s, .busy)]

def lcRecoverRun (src : Src) (r : Req) (s : State) : Reply × State :=
  match src with
  | .mb m => (fail .accepted, { s with keys := { s.keys with recover := some (m, r.payload.drop 256) } })
  | .sq _ _ => (fail .denied, s)

def execLcRecover (src : Src) (s : State) : Host.Outcome State Fault Refusal := runCmd 0x0B23 lcRecoverCheck lcRecoverRun src s

/-- `LC_RECOVER_COMPLETE` (R449): the bundle is imported after the restart. -/
def recoverComplete (s : State) : State :=
  match s.keys.recover with
  | some (m, bundle) =>
    let s := { s with keys := { s.keys with latch := false, alarmHold := false, recover := none } }
    let s := logBoot 0xB23 0xFFFF [] s
    let s := finishMb m .ok (le8 (lcCode (lcState s))) s
    importBundle bundle (softRestart (zeroStore s))
  | none => s

def execLcRecoverComplete (s : State) : Host.Outcome State Fault Refusal :=
  .next (if fabricUp s then recoverComplete s else s)

def lcDebugOpenCheck (_ : Src) (r : Req) (s : State) : Option Status :=
  firstFail [(decide (lcState s ≠ .provision), .lifecycle), (!tokenOk s 3 r.payload, .badarg), (rngStopped s, .busy)]

/-- The key store is zeroed before the port opens; it closes at the next start (R427). -/
def lcDebugOpenRun (_ : Src) (_ : Req) (s : State) : Reply × State :=
  let s := zeroStore s
  ({}, logBoot 0xB24 0xFFFF [] { s with keys := { s.keys with debugOpen := true } })

def execLcDebugOpen (src : Src) (s : State) : Host.Outcome State Fault Refusal :=
  runCmd 0x0B24 lcDebugOpenCheck lcDebugOpenRun src s

end Sys2Proof.Machine
end

