-- ==== Sys2Proof/Machine/Edges.lean ====
section
/-! DEFINITION. What happens at a fabric edge: scheduled milestones and the steps that wait, the PPS input, and one tick of every time
base (spec/03_time_bases_milestones.md, R84, R92, R95, R97, R100, R103, R121). -/

namespace Sys2Proof.Machine

/-! ### Scheduled milestones (R103, R121) -/

/-- The milestone in slot `k` fires, `off` after its target: the slot is free again, the capture is made, and a bound action takes
place (R102). A chain milestone is captured where trigger 3 is enabled and Aetheno runs with this module a member of the chain (R122). -/
def fireSlot (k : Nat) (m : Scheduled) (off : Nat) (s : State) : State :=
  let s := setSlot k none s
  let s :=
    if m.chain then
      (if bitOf s.clock.msEnable 2 && s.clock.aetheno && !chainMaster s then capture 3 (m.id % 256) m.id off s else s)
    else capture 6 (m.id % 256) m.id off s
  if m.activate then activationInstant k m s else s

/-- The slot's target has been reached. -/
def milestoneFire (k : Nat) (s : State) : State :=
  match look none s.clock.slots k with
  | some m =>
    let now := tbVal s (if m.chain then 11 else 0)
    if m.target ≤ now then fireSlot k m (now - m.target).toNat s else s
  | none => s

/-- `SCHEDULED_MILESTONE_FIRE` (R103, R121). -/
def execScheduledMilestoneFire (slot : Nat) (s : State) : Host.Outcome State Fault Refusal :=
  within "milestone slot" slot 4 (if fabricUp s then milestoneFire slot s else s)

/-- A forward step of TB0 by `d` passes the target of the milestone in slot `k` (R103). -/
def passes (d : Int) (s : State) (m : Scheduled) : Bool :=
  !m.chain && decide (tbVal s 0 < m.target) && decide (timeDiff m.target (tbVal s 0) ≤ d)

/-- The milestones that an accepted step of TB0 passes fire at its edge and capture the values before it (R95, item 1; R103). The
edge is the instant at which TB0 passes the target, so the trigger offset is 0 (DESIGN CHOICE, assumption log 69). -/
def firePassed (d : Int) (s : State) : State :=
  if stepsTaken s 0 && withinLimit (tb s 0) d then
    [0, 1, 2, 3].foldl (fun s k =>
      match look none s.clock.slots k with
      | some m => if passes d s m then fireSlot k m 0 s else s
      | none => s) s
  else s

/-- The steps that wait on base `n` take effect at this edge, after the milestones of the edge (R95). -/
def settleBase (n : Nat) (s : State) : State :=
  match (tb s n).pend with
  | some p => settleStep n (if n = 0 then firePassed p.sum s else s)
  | none => s

/-- Every step that waits takes effect (R92). -/
def settleAll (s : State) : State :=
  if fabricUp s then (List.range 12).foldl (fun s n => settleBase n s) s else s

/-! ### PPS_IN (R97, R100) -/

/-- A waiting TB_SET of a VALID TB0 passes milestones as a step does (R97, R103). -/
def ppsPassed (p : PpsSet) (s : State) : State :=
  if p.base = 0 then firePassed (timeDiff p.value (tbVal s 0)) s else s

/-- `PPS_IN_EDGE` (R97, R100): the milestone captures the values before any step at that edge (R95). A
`TB_SET` whose base has gone off ends with NORES (R4). -/
def ppsEdge (offset : Nat) (s : State) : State :=
  if fabricUp s then
    let s := if bitOf s.clock.msEnable 1 then capture 2 0 0 offset s else s
    let waiting := s.clock.pps
    waiting.foldl (fun s p => if tbOff s p.base then finishMb p.mb .nores [] s else applyPps p (ppsPassed p (settleBase p.base s))) { s with clock := { s.clock with pps := [] } }
  else s

def execPpsInEdge (offset : Word32) (s : State) : Host.Outcome State Fault Refusal := .next (ppsEdge offset.toNat s)

/-! ### The tick -/

/-- What the fabric does at an edge besides time: a slot of the DRAM controller, and an envelope that waits at an ETH port (R38, R316). -/
def fabricWork (s : State) : State := if fabricUp s then drainIngress (dramSlot s) else s

/-- One fabric tick (R84): the steps that wait take effect at the edge, and every time base advances. -/
def fabricTick (s : State) : State := tickAll (fabricWork (settleAll s))

end Sys2Proof.Machine
end

