-- ==== Sys2Proof/Machine/Tick.lean ====
section
/-! DEFINITION. The metrology tick as it reaches every engine, zero crossings, and power failure
(spec/04_metrology.md, R142, R155, R158, R162–R166; spec/03_time_bases_milestones.md, R100, R111, R112). -/

namespace Sys2Proof.Machine

/-! ### The tick (R142, R158) -/

/-- The module accumulates: PD10 runs its legal code in service, and no restart of PD10 holds it (R211, R475, R489). -/
def accumulates (s : State) : Bool :=
  bitOf s.power.on 10 && s.firm.legalRuns && decide (s.legal.state = .inService)
    && !(s.log.restart.isSome && s.log.pd10Restart.isSome)

/-- The MT messages reach the balance engine, or are lost at the isolation boundary (R22, R412, R484). -/
def feedBalance (s : State) : State :=
  let lost := isolated s
  allPoints.foldl (fun s m =>
    let p := pointOf s m
    if runs p then
      if lost then balTickLost m s
      else balTick m p.tick.dp (sumI (p.tick.i2t.take 3)).toNat (p.tick.rms.take 3) p.tick.n s
    else s) s

/-- The first full tick after a restart of PD10 alone (R489): the legal log entry with the TB2 values of the commit and of this
tick, and logbook 0xC0A. -/
def firstTick (s : State) : State :=
  match s.log.pd10Restart with
  | some (u, at_) =>
    let now := tbVal s 2
    let s := { s with log := { s.log with pd10Restart := none } }
    logEv 0xC0A u 0xFFFF [at_, now] (legalAuto 0xC0A (le72 at_ ++ le72 now) s)
  | none => s

/-- The tick in the order of R158: metrology, tariffs, balance, charge points, each with the binding that the tick was measured under; then,
at a regular boundary, the configuration and the legal code that wait take effect (R142, R476). Records that wait for the output are sent
(R157). -/
def tickEnd (samples : List ChannelSamples) (s : State) : State :=
  let n := min (tickSamples samples) (320 - s.meter.tickPos)
  if n = 0 then s
  else
    let (incs, s) := meterTick samples s
    let s := tariffTick n incs s
    let regular := decide (s.meter.tickPos = 0)
    let s := sendUnsent (cpTicks n (feedBalance (if regular then applySlots s else s)))
    if regular then legalSwitch (firstTick (applyConfig s)) else s

/-- `METROLOGY_TICK_END` (R142). -/
def execMetrologyTickEnd (samples : List ChannelSamples) (s : State) : Host.Outcome State Fault Refusal :=
  .next (if accumulates s then tickEnd samples s else s)

/-! ### Zero crossings (R100, R111, R112) -/

/-- Milestone trigger 1: every Nth crossing of the configured channel. -/
def crossingTrigger (mp ch offset : Nat) (s : State) : State :=
  if bitOf s.clock.msEnable 0 ∧ s.clock.zcMp = mp ∧ s.clock.zcCh = ch then
    let n := s.clock.zcCount + 1
    if max 1 s.clock.zcEvery ≤ n then
      capture 1 mp 0 offset { s with clock := { s.clock with zcCount := 0 } }
    else { s with clock := { s.clock with zcCount := n } }
  else s

/-- The instant of a crossing, interpolated between the band-passed samples on its two sides, 31.25 µs apart, in TB3 time (R111). -/
def crossingInstant (before after : Int) (instant : Time) : Time :=
  instant + BitVec.ofInt 72 ((2 ^ 36 * -before).tdiv (32000 * (after - before)))

/-- The crossings kept of channel `ch` of point `mp`, newest first. -/
def crossingsOf (s : State) (mp ch : Nat) : List Time := look [] s.meter.crossed (4 * mp + ch)

/-- A crossing is kept with those before it. -/
def keepCrossing (mp ch : Nat) (t : Time) (s : State) : State :=
  { s with meter := { s.meter with crossed := put [] s.meter.crossed (4 * mp + ch) (t :: (crossingsOf s mp ch).take 31) } }

/-- A positive-going crossing of a voltage channel at TB3 time `t`: a capture that waits for it, then the users in PD2 and PD8. -/
def crossing (mp ch : Nat) (t : Time) (s : State) : State :=
  let gap := (crossingsOf s mp ch).head?.map fun u => (t - u).toNat
  let late := (tbVal s 3 - t).toNat
  let s := captureCrossing (slotAin (pointOf s mp).bind ch) (keepCrossing mp ch t s)
  if isolated s then s
  else crossingTrigger mp ch late ((mainsBases s mp ch).foldl (fun s n => mainsCrossing n late gap s) s)

/-- `ZERO_CROSSING` (R111): the samples lie on the two sides of a positive-going crossing. -/
def execZeroCrossing (mp ch : Nat) (around : Straddle) (instant : Time) (s : State) : Host.Outcome State Fault Refusal :=
  within "metering point" mp 32
    (if bitOf s.power.on 10 ∧ runs (pointOf s mp) ∧ around.before < 0 ∧ 0 ≤ around.after then
       crossing mp ch (crossingInstant around.before around.after instant) s
     else s)

/-! ### Power failure (R162–R166) -/

/-- Steps 1 and 2 of R163: the outage record, PFAIL with its notice, the flush, and the removal of every domain but PD0 and PD10. -/
def powerFail (cause : Nat) (s : State) : State :=
  let s := if bitOf s.power.on 10 then openOutage cause s else s
  let up := fabricUp s
  let s := { s with firm := { s.firm with pfail := true } }
  let s := if up then
      let s := if active s 7 then raiseV 198 (notice 0x307 0 136 (le8 (cause % 4)) s) else s
      flush s
    else s
  let s := resetDomains true 6 s
  { s with
    log := { s.log with pd10Restart := none }
    meter := { s.meter with check := .none }
    power := { s.power with main := false, switch := false, thermalHold := false } }

/-- `POWER_FAIL_TRIGGER` (R162): bit 0 of the cause is PFAIL_N, bit 1 the 12 V monitor. A test of hold-up in progress is
abandoned (R165). -/
def execPowerFailTrigger (cause : Nat) (s : State) : Host.Outcome State Fault Refusal :=
  .next (if s.power.main then powerFail cause s else s)

/-- `POWER_FAIL_COMMIT_DONE` (R163): COMMIT_OK, the commit count, logbook 0x307; the ring of PD10 goes to MRAM with each commit
(R500). The count stops at 65,535: the spec does not say that it wraps (DESIGN CHOICE, assumption log 73). -/
def commitDone (s : State) : State :=
  let s := markCommit (commitAll (beforeCommit s))
  let now := tbVal s 2
  let s := newestOutage (fun o => { o with commitOk := true, commits := min 65535 (o.commits + 1), lastCommit := now }) s
  let n := match s.meter.outages with
    | o :: _ => o.commits
    | [] => 0
  let s := logMeter 0x307 0xFFFF (joinAlarms s fun _ => true) [snapN n] s
  { s with log := { storeRecs s.log s.log.ring with ring := [] } }

def execPowerFailCommitDone (s : State) : Host.Outcome State Fault Refusal :=
  .next (if s.meter.pfail ∧ bitOf s.power.on 10 then commitDone s else s)

/-- `HOLDUP_CUTOFF` (R163): PD10 and the PD0 service section go off; the backup section runs on. -/
def cutoffPower (s : State) : State :=
  let s := reseedMesh s
  { s with
    power := { s.power with
      aux := false, on := 0, joined := 0, prsnt := false, removePending := false, safe := false, removal := none, pllLocked := false
      bypass := false, refExternal := false, hot := [], attempts := 0 }
    log := { s.log with ring := [] }
    meter := { s.meter with pfail := false }
    firm := { s.firm with
      pfail := false, legalRuns := false, imem := [], half := 0, half0 := [], half1 := [], service := [], serviceNext := [] }
    keys := { s.keys with alarmHold := false, rootFault := false, rngHealthy := true } }

def execHoldupCutoff (s : State) : Host.Outcome State Fault Refusal :=
  .next (if !s.power.main ∧ s.firm.pfail then cutoffPower s else s)

/-- `SUPPLY_RETURN` (R164): a brownout; PD10 goes on, and the other domains start as after a power-on; records that wait for the output are
sent (R157). R166 fills in TB2 at restart: PD10 does not restart here, and it is TB2 at the supply's return (DESIGN CHOICE, assumption
log 73). -/
def supplyReturn (s : State) : State :=
  let s := newestOutage (fun o =>
    if o.restart = 0#72 ∧ s.meter.pfail then { o with brownout := true, restart := tbVal s 2 } else o) s
  let s := powerOnClear s
  let s := { s with
    power := { s.power with main := true, switch := true }
    meter := { s.meter with pfail := false }
    firm := { s.firm with pfail := false } }
  sendUnsent (startPowerOn id s)

def execSupplyReturn (s : State) : Host.Outcome State Fault Refusal :=
  .next (if s.power.aux ∧ !s.power.main ∧ s.firm.pfail then supplyReturn s else s)

end Sys2Proof.Machine
end

