-- ==== Sys2Proof/Machine/Parse.lean ====
section
/-! DEFINITION. The readings of a plaintext APDU under a parse template (spec/09_ingest_pipelines.md, R344, R345). The A-XDR
forms of COSEM data and the data-notification layout are those of the DLMS/COSEM standard that the spec names and does not
restate (assumption log 27). -/

namespace Sys2Proof.Machine

/-- A decoded COSEM value: a number, a string of bytes, a structure or an array, or anything else. -/
inductive Cosem where
  | num (v : Int)
  | bytes (b : Bytes)
  | struct (l : List Cosem)
  | arr (l : List Cosem)
  | other
  deriving Repr

/-- An A-XDR length: the number, and the bytes after it. -/
def axdrLen (b : Bytes) : Option (Nat × Bytes) :=
  match b with
  | [] => none
  | x :: r =>
    let n := x.toNat % 128
    if x.toNat < 128 then some (x.toNat, r)
    else if n = 0 ∨ 4 < n ∨ r.length < n then none
    else some (beNat (r.take n), r.drop n)

/-- Bytes of a value of fixed length, by its tag. -/
def fixedLen (t : Nat) : Option Nat :=
  if t = 0x03 ∨ t = 0x0D ∨ t = 0x0F ∨ t = 0x11 ∨ t = 0x16 then some 1
  else if t = 0x10 ∨ t = 0x12 then some 2
  else if t = 0x05 ∨ t = 0x06 ∨ t = 0x17 ∨ t = 0x1B then some 4
  else if t = 0x14 ∨ t = 0x15 ∨ t = 0x18 then some 8
  else if t = 0x19 then some 12
  else if t = 0x1A then some 5
  else none

/-- A tag of a whole number, and whether it is signed. -/
def wholeTag (t : Nat) : Option Bool :=
  if t = 0x05 ∨ t = 0x0F ∨ t = 0x10 ∨ t = 0x14 then some true
  else if t = 0x03 ∨ t = 0x06 ∨ t = 0x0D ∨ t = 0x11 ∨ t = 0x12 ∨ t = 0x15 ∨ t = 0x16 then some false
  else none

/-- A value without members: the value and the bytes after it. -/
def cosemLeaf (t : Nat) (r : Bytes) : Option (Cosem × Bytes) :=
  if t = 0 then some (.other, r)
  else
    match fixedLen t with
    | some n =>
      if r.length < n then none
      else
        let v := r.take n
        match wholeTag t with
        | some true => some (.num (signed (8 * n) (beNat v)), r.drop n)
        | some false => some (.num (beNat v), r.drop n)
        | none => some (.bytes v, r.drop n)
    | none =>
      if t = 0x04 ∨ t = 0x09 ∨ t = 0x0A ∨ t = 0x0C then
        match axdrLen r with
        | some (n, r) =>
          let n := if t = 0x04 then (n + 7) / 8 else n
          if r.length < n then none else some (.bytes (r.take n), r.drop n)
        | none => none
      else none

mutual
/-- One COSEM value; the fuel bounds the values read. -/
def cosem : Nat → Bytes → Option (Cosem × Bytes)
  | 0, _ => none
  | fuel + 1, b =>
    match b with
    | [] => none
    | x :: r =>
      let t := x.toNat
      if t = 1 ∨ t = 2 then
        match axdrLen r with
        | some (n, r) =>
          match cosems fuel n r with
          | some (l, r) => some (if t = 1 then .arr l else .struct l, r)
          | none => none
        | none => none
      else cosemLeaf t r
/-- `n` COSEM values. -/
def cosems : Nat → Nat → Bytes → Option (List Cosem × Bytes)
  | _, 0, b => some ([], b)
  | 0, _ + 1, _ => none
  | fuel + 1, n + 1, b =>
    match cosem fuel b with
    | some (v, r) =>
      match cosems fuel n r with
      | some (l, r) => some (v :: l, r)
      | none => none
    | none => none
end

/-- A DLMS date-time in TB2 seconds; 0 where it is not specified. A deviation is taken as local time minus UTC in minutes, and
an unspecified one as 0 (assumption log 27). -/
def dateTime (b : Bytes) : Nat :=
  let y := beNat (fieldB b 0 2)
  let m := fieldU b 2 1
  let d := fieldU b 3 1
  let h := fieldU b 5 1
  let mi := fieldU b 6 1
  let sec := fieldU b 7 1
  if b.length ≠ 12 ∨ y = 0xFFFF ∨ m < 1 ∨ 12 < m ∨ d < 1 ∨ 31 < d ∨ 23 < h ∨ 59 < mi ∨ 59 < sec then 0
  else
    let dev := signed 16 (beNat (fieldB b 9 2))
    let t := daysOf { year := y, month := m, day := d } * 86400 + (h * 3600 + mi * 60 + sec : Nat)
    ((if dev = -0x8000 then t else t - dev * 60)).toNat

/-- A reading of a frame (R344), with what validation needs of it. -/
structure Reading where
  obj : CaptureObj := {}
  /-- place of its element in the template (R392) -/
  idx : Nat := 0
  /-- number of its structure -/
  group : Nat := 0
  status : Nat := 0
  value : Int := 0
  /-- seconds from the meter time -/
  offset : Int := 0
  /-- TB2 seconds (R395) -/
  time : Int := 0
  /-- it has a meter time -/
  timed : Bool := false
  /-- place in the READING -/
  pos : Nat := 0
  /-- flags byte (R403) -/
  flags : Nat := 0
  deriving DecidableEq, Repr

/-- Clock, status byte and value readings of one structure; nothing where an element does not fit its object. -/
def structReadings (g : Nat) : Nat → List (CaptureObj × Cosem) → Nat → Nat → List Reading →
    Option (Nat × Nat × List Reading)
  | _, [], clock, status, acc => some (clock, status, acc)
  | i, (o, v) :: r, clock, status, acc =>
    match v with
    | .num x =>
      if o.kind = 0 then structReadings g (i + 1) r clock status (acc ++ [{ obj := o, idx := i, group := g, value := x }])
      else if o.kind = 2 then structReadings g (i + 1) r clock (unsigned 8 x) acc
      else none
    | .bytes b => if o.kind = 1 ∧ b.length = 12 then structReadings g (i + 1) r (dateTime b) status acc else none
    | _ => none

/-- The readings of a list of structures, each with its clock. -/
def groupReadings (t : List CaptureObj) : Nat → List Cosem → Option (List (Nat × List Reading))
  | _, [] => some []
  | g, .struct l :: r =>
    if l.length = t.length then
      match structReadings g 0 (t.zip l) 0 0 [], groupReadings t (g + 1) r with
      | some (clock, status, rs), some rest => some ((clock, rs.map fun x => { x with status := status }) :: rest)
      | _, _ => none
    else none
  | _, _ => none

/-- What a plaintext APDU yields (R344, R345): its tag, its meter time in TB2 seconds (0 if absent), and the readings of a
data-notification that fits the template. -/
structure Parsed where
  tag : Nat := 0
  meterTime : Nat := 0
  readings : Option (List Reading) := none
  deriving DecidableEq, Repr

/-- The readings of a data-notification body, with their offsets from the meter time. -/
def bodyReadings (t : List CaptureObj) (mt : Nat) (body : Bytes) : Option (Nat × List Reading) :=
  match cosem 4096 body with
  | some (v, []) =>
    let structs := match v with
      | .struct _ => some [v]
      | .arr l => some l
      | _ => none
    match structs with
    | none => none
    | some l =>
      if t = [] then none
      else
        match groupReadings t 0 l with
        | none => none
        | some gs =>
          let mt := if mt ≠ 0 then mt else
            match gs.find? fun p => p.1 != 0 with
            | some p => p.1
            | none => 0
          some (mt, gs.flatMap fun p => p.2.map fun x =>
            { x with offset := if p.1 ≠ 0 ∧ mt ≠ 0 then (p.1 : Int) - mt else 0 })
  | _ => none

/-- Parse a plaintext APDU under a template (R345). -/
def parseApdu (t : List CaptureObj) (b : Bytes) : Parsed :=
  let tag := fieldU b 0 1
  if tag = 0x0F then
    match axdrLen (b.drop 5) with
    | none => { tag := tag }
    | some (n, r) =>
      if r.length < n then { tag := tag }
      else
        let mt := dateTime (r.take n)
        match bodyReadings t mt (r.drop n) with
        | some (mt, rs) => { tag := tag, meterTime := mt, readings := some rs }
        | none => { tag := tag, meterTime := mt }
  else if tag = 0xC2 ∧ fieldU b 1 1 = 1 ∧ fieldU b 2 1 = 12 then { tag := tag, meterTime := dateTime (fieldB b 3 12) }
  else { tag := tag }

/-- The 24 bytes of a reading (R344). -/
def readingBytes (r : Reading) : Bytes :=
  padTo 6 r.obj.obis ++ le8 r.obj.attr ++ leInt 1 r.obj.scaler ++ le8 r.obj.unit ++ le8 r.status ++ leInt 9 r.value
    ++ leInt 4 r.offset ++ le8 r.flags

end Sys2Proof.Machine
end

