-- ==== Sys2Proof/Machine/Validate.lean ====
section
/-! DEFINITION. The checks on readings, the commit of line 2, the messages to the balance engine, and the records of a frame
(spec/11_validation_balance.md, R392–R405; spec/09_ingest_pipelines.md, R322, R343–R348). -/

namespace Sys2Proof.Machine

/-! ### Validation configuration (R392) -/

def cfgE (c : Ctx) : Nat := ctx3 c 204 1
def cfgU (c : Ctx) : Nat := ctx3 c 205 1
def cfgRange (c : Ctx) : Nat := if ctx3 c 206 1 = 0 then 0 else 10 ^ ctx3 c 206 1
def cfgFlatN (c : Ctx) : Nat := ctx3 c 207 1
def cfgPMax (c : Ctx) : Nat := ctx3 c 208 4
def cfgRevTol (c : Ctx) : Nat := ctx3 c 212 4
def cfgPeriod (c : Ctx) : Nat := ctx3 c 216 2
def cfgLateAge (c : Ctx) : Nat := ctx3 c 218 2
def cfgULo (c : Ctx) : Nat := ctx3 c 220 2
def cfgUHi (c : Ctx) : Nat := ctx3 c 222 2
def cfgSumMask (c : Ctx) : Nat := ctx3 c 224 4
def cfgSumTol (c : Ctx) : Nat := ctx3 c 228 2
def cfgAlarmMask (c : Ctx) : Nat := ctx3 c 230 2
def cfgClkTol (c : Ctx) : Nat := ctx3 c 232 2
def cfgTamperMask (c : Ctx) : Nat := ctx3 c 234 1
def cfgNegate (c : Ctx) : Bool := bitOf (ctx3 c 235 1) 2
def cfgZeroTime (c : Ctx) : Nat := ctx3 c 236 4

/-- x · 10^e, truncated toward zero (R394). -/
def scaleBy (x e : Int) : Int := if 0 ≤ e then x * ((10 ^ e.toNat : Nat) : Int) else truncDiv x (10 ^ (-e).toNat)
def uwh (r : Reading) (x : Int) : Int := scaleBy x (r.obj.scaler + 6)
def dvOf (r : Reading) : Int := scaleBy r.value (r.obj.scaler + 1)

/-- The role of a reading: energy with unit 30, voltage with unit 35 (R394). -/
def isE (c : Ctx) (r : Reading) : Bool := r.idx == cfgE c && r.obj.unit == 30
def isU (c : Ctx) (r : Reading) : Bool := r.idx == cfgU c && r.obj.unit == 35
def wrongUnit (c : Ctx) (r : Reading) : Bool := (r.idx == cfgE c && r.obj.unit != 30) || (r.idx == cfgU c && r.obj.unit != 35)

/-! ### The state of a validation -/

/-- A message of the BALANCE stage (R404). -/
inductive BalMsg where
  | energy (m : EMsg)
  | volts (t dv : Nat)
  deriving DecidableEq, Repr

/-- Validation under way: VSTATE, the flags of the frame, the causes raised with their positions, messages, and the flags bytes
of the readings so far. -/
structure Vst where
  c : Ctx := {}
  vflags : Nat := 0
  causes : List (Nat × Nat) := []
  msgs : List BalMsg := []
  done : List Reading := []
  deriving DecidableEq, Repr

/-- Set validation flag bit `b`, and raise `cause` where it is not 0, at position `pos`. -/
def flagV (b cause pos : Nat) (v : Vst) : Vst :=
  { v with vflags := bitSet v.vflags b, causes := if cause = 0 then v.causes else v.causes ++ [(cause, pos)] }

/-! ### The checks (R395–R399) -/

/-- Check 3 of an applied E reading with t > T_LAST and E_VALID (R398): the advance, whether it is excluded, its flag bit and
cause, and whether WRAPS or SPIKES counts it. -/
structure Advance where
  a : Int := 0
  excluded : Bool := false
  bit : Nat := 0
  cause : Nat := 0
  deriving DecidableEq, Repr

def advanceOf (c : Ctx) (r : Reading) (el : Nat) : Advance :=
  let range := cfgRange c
  let lim : Int := ((cfgPMax c * el * 1000000 / 3600 : Nat) : Int)
  let over_ (a : Int) : Bool := decide (lim < uwh r a) || (range != 0 && decide ((range : Int) ≤ r.value))
  if c.eLast ≤ r.value then
    let a := r.value - c.eLast
    if over_ a then { a := a, excluded := true, bit := 6, cause := 0x10 } else { a := a }
  else if c.eLast - r.value ≤ cfgRevTol c ∨ range = 0 then { a := 0, excluded := true, bit := 7, cause := 0x11 }
  else
    let a := r.value + range - c.eLast
    if over_ a then { a := a, excluded := true, bit := 8, cause := 0x12 } else { a := a, bit := 9 }

/-- RATE after an advance (R398). -/
def rateAfter (c : Ctx) (p : Int) : Nat :=
  unsigned 32 (if c.rateKnown then (c.rate : Int) + truncDiv (p - c.rate) 8 else p)

/-- Checks 3 to 5 of an applied E reading whose time is after T_LAST. -/
def advanceE (r : Reading) (v : Vst) : Vst :=
  let c := v.c
  let el := (r.time - c.tLast).toNat
  let x := advanceOf c r el
  let rate := if x.excluded then c.rate else rateAfter c (truncDiv (uwh r x.a * 3600) (el * 1000000))
  let v := if x.bit = 0 then v else flagV x.bit x.cause r.pos v
  let gap := decide (cfgPeriod c ≠ 0 ∧ 90 * cfgPeriod c < el)
  let v := if gap then flagV 10 0x14 r.pos v else v
  let run := if x.excluded ∨ x.a ≠ 0 then 0 else min (2 ^ 32 - 1) (c.zeroRun + el)
  let sign (i : Int) : Int := if cfgNegate c then -i else i
  let amt := if x.excluded then truncDiv ((c.rate : Int) * el * 1000000) 3600 else uwh r x.a
  let msg : EMsg := { prev := c.tLast, t := r.time.toNat, amt := sign amt, excluded := x.excluded, rOld := sign c.rate,
                      rNew := sign rate }
  { v with
    c := { v.c with
      rate := rate, rateKnown := c.rateKnown || !x.excluded,
      spikes := if x.bit = 6 ∨ x.bit = 8 then satAdd 65535 c.spikes 1 else c.spikes,
      wraps := if x.bit = 9 then satAdd 65535 c.wraps 1 else c.wraps,
      gaps := if gap then satAdd 65535 c.gaps 1 else c.gaps, zeroRun := run, zeroOn := c.zeroOn && decide (run ≠ 0) }
    msgs := v.msgs ++ [.energy msg] }

/-- Check 5 (R399), once ZERO_RUN is known. -/
def zeroCheck (r : Reading) (v : Vst) : Vst :=
  if cfgZeroTime v.c ≠ 0 ∧ cfgZeroTime v.c ≤ v.c.zeroRun then
    let v' := flagV 11 (if v.c.zeroOn then 0 else 0x15) r.pos v
    { v' with c := { v'.c with zeroOn := true } }
  else v

/-- The clock-step message of an applied E reading at or before T_LAST (R397, R405): it moves the meter's position to its time and carries no
energy; a step backward places nothing (R411). -/
def clockStep (r : Reading) (v : Vst) : Vst :=
  let rate : Int := if cfgNegate v.c then -(v.c.rate : Int) else v.c.rate
  { v with msgs := v.msgs ++ [.energy { prev := v.c.tLast, t := r.time.toNat, rOld := rate, rNew := rate }] }

/-- Checks 2 to 5 of an applied E reading (R397–R399). The flags byte gains BALANCED or EXCLUDED. -/
def checkE (ic : Nat) (r : Reading) (v : Vst) : Reading × Vst :=
  let c := v.c
  let after := decide ((c.tLast : Int) < r.time)
  let (r, v) :=
    if !c.eValid then (r, { v with c := { c with zeroRun := 0, zeroOn := false } })
    else if !after then (r, clockStep r (flagV 5 0x13 r.pos { v with c := { c with zeroRun := 0, zeroOn := false } }))
    else
      let ex := (advanceOf c r (r.time - c.tLast).toNat).excluded
      ({ r with flags := r.flags + (if ex then 8 else 4) }, advanceE r v)
  let v := zeroCheck r v
  (r, { v with c := { v.c with eLast := r.value, tLast := r.time.toNat % 2 ^ 36, eIc := ic, eValid := true } })

/-- Checks 6 and 7 of an applied U reading (R399). -/
def checkU (r : Reading) (v : Vst) : Vst :=
  let c := v.c
  let u := unsigned 32 r.value
  let same := c.uValid && u == c.uLast
  let cnt := if same then min 255 (c.flatCnt + 1) else 0
  let on := c.flatOn && same
  let flat := decide (cfgFlatN c ≠ 0 ∧ cfgFlatN c ≤ cnt + 1)
  let v := if flat then flagV 12 (if on then 0 else 0x16) r.pos v else v
  let v := { v with
    c := { v.c with flatCnt := cnt, flatOn := on || flat, uLast := u, uValid := true }
    msgs := v.msgs ++ [.volts r.time.toNat (dvOf r).toNat] }
  if cfgUHi c ≠ 0 ∧ (dvOf r < cfgULo c ∨ (cfgUHi c : Int) < dvOf r) then flagV 13 0x17 r.pos v else v

/-- Check 8 (R399): the sum of the rate registers of the structure that holds the E reading. -/
def sumDiff (c : Ctx) (all : List Reading) (r : Reading) : Bool :=
  let want := (List.range 32).filter fun k => bitOf (cfgSumMask c) k
  let got := all.filter fun x => x.group == r.group && want.contains x.idx
  isE c r && decide (want ≠ []) && decide (got.length = want.length)
    && decide ((cfgSumTol c * 1000000 : Nat) < (sumI (got.map fun x => uwh x x.value) - uwh r r.value).natAbs)

/-- Every check of one reading, in the order of R395. -/
def checkReading (c0 : Ctx) (ic tRx : Nat) (apply : Bool) (all : List Reading) (v : Vst) (r : Reading) : Vst :=
  let before := v.vflags
  let v := { v with vflags := 0 }
  let role := (if isE c0 r then 1 else 0) + (if isU c0 r then 2 else 0)
  let r := { r with flags := role + (if role ≠ 0 ∧ !apply then 16 else 0) }
  let (r, v) := if isE c0 r && apply then checkE ic r v else (r, v)
  let v := if isU c0 r && apply then checkU r v else v
  let v := if sumDiff c0 all r then flagV 14 0x18 r.pos v else v
  let v := if (r.status &&& cfgTamperMask c0) ≠ 0 then flagV 15 0x19 r.pos v else v
  let v := if r.timed ∧ cfgLateAge c0 ≠ 0 ∧ ((60 * cfgLateAge c0 : Nat) : Int) < (tRx : Int) - r.time then
      flagV 16 0x1A r.pos v else v
  let r := { r with flags := r.flags + (if v.vflags ≠ 0 then 32 else 0) }
  { v with vflags := v.vflags ||| before, done := v.done ++ [r] }

/-- Insert a reading in ascending order of time, after those of equal time. -/
def insertReading (r : Reading) : List Reading → List Reading
  | [] => [r]
  | x :: l => if r.time < x.time then r :: x :: l else x :: insertReading r l

/-- Readings in ascending order of time, template order among equals (R395). -/
def byTime (l : List Reading) : List Reading := l.foldl (fun acc r => insertReading r acc) []

/-- The readings in their order in the READING. -/
def byPos (l : List Reading) : List Reading := (List.range l.length).filterMap fun i => l.find? fun r => r.pos == i

/-- Number the readings. -/
def numbered : Nat → List Reading → List Reading
  | _, [] => []
  | i, r :: l => { r with pos := i } :: numbered (i + 1) l

/-- Check 2 on the frame's meter time (R397): CLKSTEP marks every reading. -/
def frameClock (c : Ctx) (mt tRx : Nat) : Ctx × Bool :=
  if mt = 0 then (c, false)
  else
    let d := (mt : Int) - tRx
    let step := decide (cfgClkTol c ≠ 0) && c.deltaValid && decide (cfgClkTol c < (d - c.delta).natAbs)
    ({ c with delta := signed 32 (unsigned 32 d), deltaValid := true }, step)

/-- The validation of a frame's readings (R395) from the context as it stands. -/
def validate (c : Ctx) (ic mt tRx : Nat) (rs : List Reading) : Vst :=
  let (c1, step) := frameClock c mt tRx
  let rs := numbered 0 (rs.map fun r =>
    { r with time := if mt ≠ 0 then (mt : Int) + r.offset else tRx, timed := decide (mt ≠ 0) })
  let apply := !(c.eValid && decide (ic ≤ c.eIc))
  let v := (byTime rs).foldl (checkReading c ic tRx apply rs) { c := c1 }
  if step ∧ rs ≠ [] then
    let done := v.done.map fun r => { r with flags := if bitOf r.flags 5 then r.flags else r.flags + 32 }
    flagV 5 0x13 0 { v with done := done }
  else v

/-- The ALARM of a frame (R401): the lowest cause that the mask lets through, at its first position. -/
def alarmOf (c : Ctx) (causes : List (Nat × Nat)) : Option (Nat × Nat) :=
  (causes.filter fun p => bitOf (cfgAlarmMask c) (p.1 - 0x10)).foldl (fun best p =>
    match best with
    | none => some p
    | some b => if p.1 < b.1 ∨ (p.1 = b.1 ∧ p.2 < b.2) then some p else some b) none

/-! ### COMMIT, BALANCE and EMIT -/

/-- t_rx (R395): seconds of RX_TB0 less the UTC offset in force. -/
def rxSeconds (s : State) (t : Time) : Nat := ((t.toNat / 2 ^ 36 : Nat) - s.clock.utcOffset).toNat

/-- Apply the messages of a frame to its group (R404, R405). -/
def applyMsgs (i : Nat) (fl : Flight) (msgs : List BalMsg) (s : State) : State :=
  let c := ctxOf s i
  match groupKey (ctxGroup c) with
  | none => s
  | some k =>
    let s := msgs.foldl (fun s m => match m with
      | .energy e => applyE k e s
      | .volts t dv => applyU k i (cfgPeriod c) t dv fl s) s
    applyVote k i fl s

/-- The acknowledgement of a frame that has an entry of its own (R348). -/
def ackBytes (s : State) (fl : Flight) : Option Bytes :=
  if fl.entry.isNone then none
  else
    match ackTemplate s fl.seen with
    | some (true, _) => fl.ack
    | some (false, b) => some b
    | none => none

/-- Store the acknowledgement in the frame's entry. -/
def storeAck (fl : Flight) (b : Option Bytes) (s : State) : State :=
  match fl.entry, b with
  | some e, some b =>
    (match replyOf s e with
     | some x => setReply e (some { x with bytes := b }) s
     | none => s)
  | _, _ => s

/-- The head of a READING or EVENT payload (R344). -/
def readingHead (count : Nat) (p : Parsed) (fl : Flight) : Bytes :=
  le16 count ++ le8 p.tag ++ le8 (ctxSuite fl.seen + 16 * b2n (dedicated fl.desc.bytes)) ++ leBytes 9 (p.meterTime * 2 ^ 36)
    ++ [0, 0, 0]

/-- Ingest's validation flags of an authenticated frame (R342). -/
def ingestFlags (fl : Flight) : Nat := ofBits [true, decide (fl.verdict = some .dup), false, fl.stale]

/-- Stages VALIDATE to EMIT of a frame that REPLAY has accepted. -/
def validateFrame (n : Nat) (fl : Flight) (s : State) : State :=
  let live := ctxOf s fl.ctx
  if ctxGen live ≠ ctxGen fl.seen then discardFrame n fl .discarded (logIng 0x805 n fl.tag fl s)
  else
    let b := fl.plain.getD []
    let t := if ctxParse live = 0xFF then [] else look [] s.ingest.templates (ctxParse live % 16)
    let p := parseApdu t b
    let most := min 294 (fl.desc.bytes.length / 4)
    let all := p.readings.getD []
    let trunc := decide (most < all.length)
    let rs := all.take most
    let v := match p.readings with
      | some _ => validate live (icOf fl.desc.bytes) p.meterTime (rxSeconds s fl.desc.rxTb0) rs
      | none => { c := (frameClock live p.meterTime (rxSeconds s fl.desc.rxTb0)).1 }
    let s := if trunc then logIng 0x80A n fl.tag fl s else s
    let s := if rs.any (wrongUnit live) then logBal 0xA09 ((groupKey (ctxGroup live)).getD 0xFFFF) 0 fl.ctx 0 s else s
    let s := applyMsgs fl.ctx fl v.msgs (setCtx fl.ctx { v.c with seq2 := (v.c.seq2 + 1) % 2 ^ 32 } s)
    let ack := ackBytes s fl
    let s := storeAck fl ack s
    let vf := v.vflags + ingestFlags fl
    let hf := frameFlags fl ack.isSome + 2 * b2n trunc
    let main := match p.readings with
      | some _ => harvestRecord (frameHeader fl 1 hf vf true) (readingHead rs.length p fl ++ (byPos v.done).flatMap readingBytes)
      | none =>
        harvestRecord (frameHeader fl 3 hf (ingestFlags fl) true) (readingHead b.length p fl ++ b)
    let alarm := match alarmOf live v.causes with
      | some (cause, pos) =>
        [harvestRecord (frameHeader fl 4 hf vf true) (alarmPayload cause (min 255 pos) live.icTop fl.desc.bytes)]
      | none => []
    let raw := if ctxUplink live then [harvestRecord (frameHeader fl 9 hf vf true) (rawPayload fl.desc)] else []
    let outcome := if fl.verdict = some .dup then 2 else if ctxLocal live then 0 else 1
    finishFrame n fl ((if ctxLocal live then [main] else []) ++ alarm) raw ack.isSome outcome s

/-- `FRAME_VALIDATE` (R395): a frame whose REPLAY has accepted it goes through VALIDATE, BALANCE, COMMIT and EMIT. -/
def frameValidate (n tag : Nat) (s : State) : State :=
  match flightOf s n tag with
  | none => s
  | some fl => if fl.verdict.isSome && fipServes s n then validateFrame n fl s else s

def execFrameValidate (fip tag : Nat) (s : State) : Host.Outcome State Fault Refusal :=
  within "pipeline" fip 16 (frameValidate fip tag s)

end Sys2Proof.Machine
end

