-- ==== Sys2Proof/Machine/Window.lean ====
section
/-! DEFINITION. The control window as it is read and written, and the sideband management port
(spec/02_host_interface_nulvo.md, R45–R53, R62, R63, R70, R76–R81; R91, R102, R491, R502 for the regions of other chapters). -/

namespace Sys2Proof.Machine

open Sys2Proof

/-! ### Reading registers -/

/-- Dword `k` of a number. -/
def dword (v k : Nat) : Nat := v / 2 ^ (32 * k) % 2 ^ 32

/-- ID_LIFECYCLE (R425). -/
def lifeCycleWord (s : State) : Nat :=
  lcCode (lcState s) + 8 * b2n (debugClosed s) + 16 * b2n s.keys.latch + 32 * b2n s.keys.rootFault + 64 * (s.keys.thermo % 1024)

/-- GLOBAL_STATUS (R48); ALARM_HOLD reads 1 in VOID as well (R426). -/
def globalStatus (s : State) : Nat :=
  ofBits [s.firm.nulvoReady, ingestReady s, s.keys.alarmHold || decide (lcState s = .void), s.firm.hold.isSome,
    decide (0 < fencedUnits s), s.firm.pfail, (tb s 2).valid]
    + 128 * (s.firm.active % 2) + 256 * stageCode s.firm.stage

/-- What the PCIe function reports of itself in its configuration space, fixed in the module (R45). -/
structure PciIdentity where
  vendor : Nat
  device : Nat
  revision : Nat
  classCode : Nat
  /-- windows by their first BAR: bytes, 64-bit, prefetchable; a BAR that is no part of one is not implemented -/
  bars : List (Nat × Nat × Bool × Bool)
  vectors : Nat
  maxPayload : Nat
  maxReadRequest : Nat
  /-- lanes to which the link can train -/
  widths : List Nat
  deriving DecidableEq, Repr

/-- The identity and the BARs of the endpoint function (R45): the control window in BAR0–BAR1, the bulk window in BAR2–BAR3. -/
def pciIdentity : PciIdentity :=
  { vendor := 0x1F3C, device := 0x1872, revision := 0x10, classCode := 0x0B4000
    bars := [(0, 2 ^ 24, true, false), (2, 2 ^ 28, true, true)]
    vectors := 256, maxPayload := 512, maxReadRequest := 4096, widths := [8, 4, 1] }

/-- The identity and global status registers (R48): ID_DEVICE is the device and the vendor identifier of R45. -/
def readIdent (s : State) (r : Nat) : Nat :=
  if r = 0 then pciIdentity.vendor + 65536 * pciIdentity.device
  else if r = 4 then 0x42 + 65536 * b2n Config.gradeN0
  else if 8 ≤ r ∧ r < 24 then dword Config.uid.toNat ((r - 8) / 4)
  else if r = 0x18 then s.firm.idNulvo
  else if r = 0x1C then lifeCycleWord s
  else if r = 0x20 then globalStatus s
  else if r = 0x24 then s.host.scratch.toNat
  else if r = 0x28 then s.host.bulkSel.toNat
  else 0

/-- MBn_CTRL (R50). -/
def readMbCtrl (s : State) (n : Nat) : Nat :=
  let m := mbOf s n
  ofBits [m.go, m.own, m.done, m.overrun] + 65536 * m.seq.toNat

/-- Dword at offset `r` of the block of queue `q` (R62, R63, R71). -/
def readQueue (s : State) (q r : Nat) : Nat :=
  if r = 0xC then qCtrlRead s q
  else if q < 128 then
    let h := hqOf s q
    if r = 0 ∨ r = 4 then dword h.ringBase.toNat (r / 4)
    else if r = 8 then h.cfg.toNat
    else if r = 0x10 then h.pkts
    else if r = 0x18 then h.written.toNat
    else if r = 0x1C then h.freed.toNat
    else if r = 0x20 then h.tailTimeout.toNat
    else if r = 0x24 then h.modTime.toNat
    else if r = 0x28 then h.seqNext
    else if r = 0x2C then pondCells h
    else if r = 0x30 ∨ r = 0x34 then dword h.wbAddr.toNat ((r - 0x30) / 4)
    else 0
  else if q < 192 then
    let h := sqOf s (q - 128)
    if r = 0 ∨ r = 4 then dword h.ringBase.toNat (r / 4)
    else if r = 8 then h.cfg.toNat
    else if r = 0x10 then h.tail
    else if r = 0x14 then h.head
    else 0
  else
    let h := cqOf s (q - 192)
    if r = 0 ∨ r = 4 then dword h.ringBase.toNat (r / 4)
    else if r = 8 then h.cfg.toNat
    else if r = 0x10 then h.tail
    else if r = 0x14 then h.head
    else if r = 0x18 then h.reserved
    else if r = 0x24 then h.modTime.toNat
    else 0

/-- Dword at offset `r` of the block of TBn (R91). -/
def readTb (s : State) (n r : Nat) : Nat :=
  let t := tb s n
  if r = 0 ∨ r = 4 ∨ r = 8 then dword t.latched.toNat (r / 4)
  else if r = 0xC then tbStatus t
  else if r = 0x10 ∨ r = 0x14 then dword t.inc ((r - 0x10) / 4)
  else if r = 0x24 then tbCtrl t
  else if r = 0x28 ∨ r = 0x2C ∨ r = 0x30 then dword t.limit.toNat ((r - 0x28) / 4)
  else if r = 0x34 then t.refused % 2 ^ 32
  else if r = 0x38 ∨ r = 0x3C then dword (tbAux s n) ((r - 0x38) / 4)
  else 0

/-- The milestone FIFO's registers, from 0x0030_0400 (R102). -/
def readMilestone (s : State) (r : Nat) : Nat :=
  if r = 0 then s.clock.fifo.length + 256 * b2n s.clock.msOverflow
  else if r = 4 then s.clock.msLost % 2 ^ 32
  else if 0x80 ≤ r ∧ r < 0x100 then
    match s.clock.fifo with
    | m :: _ => fieldU (milestoneBytes m) (r - 0x80) 4
    | [] => 0
  else 0

/-- The logbook window (R502). -/
def readLog (s : State) (r : Nat) : Nat :=
  if r = 0 then s.log.cursor
  else if r = 4 then logStatus s
  else if r = 8 then s.log.next % 2 ^ 32
  else if r = 0xC then s.log.oldest % 2 ^ 32
  else if r = 0x10 then s.log.thresh
  else if r = 0x14 then s.log.ack
  else if r = 0x18 then s.log.suppressed % 2 ^ 32
  else if r = 0x1C then s.log.staging.length
  else if 0x80 ≤ r ∧ r < 0x100 then fieldU (windowBytes s) (r - 0x80) 4
  else 0

/-- The fault status region (R491). -/
def readFaults (s : State) (r : Nat) : Nat :=
  if r = 0 then faultSummary s
  else if r = 4 then s.log.events % 16
  else if r = 8 then s.log.lastF3 % 2 ^ 32
  else if r = 0xC then s.log.f3Count % 2 ^ 32
  else if 0x10 ≤ r ∧ r < 0x30 then dword (fencedMap s) ((r - 0x10) / 4)
  else if r = 0x30 then s.log.countF1 % 2 ^ 32
  else if r = 0x34 then s.log.countF2 % 2 ^ 32
  else if r = 0x38 then s.log.mismatchCount % 2 ^ 32
  else if 0x100 ≤ r ∧ r < 0x400 then faultWord s ((r - 0x100) / 4)
  else 0

/-- The vector region: MSI-X table, PBA and INT lines, from 0x0020_0000 (R76, R77). -/
def readVectors (s : State) (r : Nat) : Nat :=
  if r < 0x1000 then msixWord s (r / 16) (r % 16 / 4)
  else if r < 0x1020 then dword s.host.pba.toNat ((r - 0x1000) / 4)
  else if 0x2000 ≤ r ∧ r < 0x2020 then look 0 s.host.intMap ((r - 0x2000) / 4)
  else if 0x2020 ≤ r ∧ r < 0x2040 then dword s.host.intPending.toNat ((r - 0x2020) / 4)
  else 0

/-- The aligned dword at a control-window offset (R46); an offset that is not defined reads as 0 (R47). No cell of the pop window is
read here. -/
def windowWord (s : State) (off : Nat) : Nat :=
  if off < 0x10000 then readIdent s off
  else if off < 0x20000 then leNat (readBytes s.host.areas (off - 0x10000) 4)
  else if off < 0x20100 then readMbCtrl s ((off - 0x20000) / 4)
  else if 0x100000 ≤ off ∧ off < 0x104000 then readQueue s ((off - 0x100000) / 64) (off % 64)
  else if 0x200000 ≤ off ∧ off < 0x203000 then readVectors s (off - 0x200000)
  else if 0x300000 ≤ off ∧ off < 0x300300 then readTb s ((off - 0x300000) / 64) (off % 64)
  else if 0x300400 ≤ off ∧ off < 0x300500 then readMilestone s (off - 0x300400)
  else if 0x400000 ≤ off ∧ off < 0x400100 then readLog s (off - 0x400000)
  else if 0x500000 ≤ off ∧ off < 0x500400 then readFaults s (off - 0x500000)
  else if off = 0x600004 then s.power.rstCause
  else if off = 0x600008 then b2n s.power.removePending
  else if off = 0x60000C then hpStatus s
  else 0

/-! ### The effects of a read -/

/-- The context that an offset of the bulk window shows (R49, R337): the half that BULK_SEL selects. -/
def bulkContext (s : State) (off : Nat) : Nat := 2 ^ 20 * (s.host.bulkSel.toNat % 2) + off % 2 ^ 28 / 256

/-- What a read of the bulk window returns at a byte: a view of the context area, 0 while PD6 is off (R49). Writes to the window
are ignored, so no row of the table changes anything through it. -/
def bulkByte (s : State) (off : Nat) : Byte :=
  if active s 6 then (ctxBytes (ctxOf s (bulkContext s off))).getD (off % 256) 0 else 0

/-- A 32-bit read of a read-clear register clears it (R12). -/
def clearRead (off : Nat) (s : State) : State :=
  if off = 0x600004 then { s with power := { s.power with rstCause := 0 } }
  else if off = 0x300404 then { s with clock := { s.clock with msLost := 0 } }
  else if off = 0x400018 then { s with log := { s.log with suppressed := 0 } }
  else if off = 0x500030 then { s with log := { s.log with countF1 := 0 } }
  else if off = 0x500034 then { s with log := { s.log with countF2 := 0 } }
  else if off = 0x500038 then { s with log := { s.log with mismatchCount := 0 } }
  else if 0x300000 ≤ off ∧ off < 0x300300 ∧ off % 64 = 0x34 then
    let n := (off - 0x300000) / 64
    setTb n { tb s n with refused := 0 } s
  else s

/-- A 32-bit read: the latch of a time base first, then the value, then what the read clears or advances (R12, R91, R502). -/
def readWord (off : Nat) (s : State) : Nat × State :=
  let s :=
    if 0x300000 ≤ off ∧ off < 0x300300 ∧ off % 64 = 0 then
      let n := (off - 0x300000) / 64
      setTb n { tb s n with latched := tbVal s n } s
    else s
  let v := windowWord s off
  let s := clearRead off s
  (v, if off = 0x4000FC then loadWindow ((s.log.cursor + 1) % 2 ^ 32) s else s)

/-- `k` words read one after the other. -/
def readWords : Nat → Nat → State → Bytes × State
  | 0, _, s => ([], s)
  | k + 1, off, s =>
    let (v, s) := readWord off s
    let (b, s) := readWords k (off + 4) s
    (le32 v ++ b, s)

/-- A read of 8 or 16 bits returns the addressed bytes of its dword (R47). It is a read of that register, so it latches and clears as
one does (DESIGN CHOICE, assumption log 68); the log window moves on only with its last byte (R502). -/
def readNarrow (off width : Nat) (s : State) : Bytes × State :=
  let base := off - off % 4
  let (v, t) := readWord base s
  (fieldB (le32 v) (off % 4) width, if base = 0x4000FC ∧ off + width ≠ 0x400100 then s else t)

/-- A read of the control window (R47): aligned reads of 8, 16, 32 and 64 bits. -/
def windowRead (off width : Nat) (s : State) : Bytes × State :=
  if width = 8 then readWords 2 off s else if width = 4 then readWords 1 off s else readNarrow off width s

/-- `RC_REGISTER_READ` (R12, R47). -/
def execRcRegisterRead (read : RegRead) (path : Path) (s : State) : Host.Outcome State Fault Refusal :=
  .next (if fabricUp s ∧ [1, 2, 4, 8].contains read.width ∧ read.off % read.width = 0 then
    let (b, s) := windowRead read.off read.width s
    emit (.readData (if path = .smp then 1 else 0) b) s
  else s)

/-! ### Writing registers -/

/-- GO of mailbox `n` has been accepted: its command is applied after those of earlier GO writes (R54). -/
def queueGo (n : Nat) (s : State) : State := { s with host := { s.host with goOrder := s.host.goOrder.filter (· != n) ++ [n] } }

/-- A write of MBn_CTRL (R50, R53, R55): GO is judged against OWN and DONE as they stood before the write. -/
def mbCtrl (n v : Nat) (path : Path) (s : State) : State :=
  let m := mbOf s n
  let busy := m.own || m.done || n == 0
  let m' := { m with done := m.done && !bitOf v 2, overrun := m.overrun && !bitOf v 3 }
  if bitOf v 0 then
    if busy then setMb n { m' with overrun := true } s
    else if m.go then setMb n m' s
    else setMb n { m' with go := true, goSmp := decide (path = .smp) } (queueGo n s)
  else setMb n m' s

/-- `MB_GO_WRITE` (R53). -/
def execMbGoWrite (mb : Nat) (value : Word32) (path : Path) (s : State) : Host.Outcome State Fault Refusal :=
  within "mailbox" mb 64 (if fabricUp s then mbCtrl mb value.toNat path s else s)

/-- A write to a mailbox area (R47, R51): taken in a request area while the module does not own the mailbox. -/
def writeArea (off width v : Nat) (s : State) : State :=
  let a := off - 0x10000
  if a % 0x400 < 0x200 ∧ (mbOf s (a / 0x400)).own = false then
    { s with host := { s.host with areas := writeBytes s.host.areas a (leBytes width v) } }
  else s

/-- A register that only a disabled harvest queue takes (R63). -/
def hqWhenOff (q : Nat) (f : Hq → Hq) (s : State) : State :=
  let h := hqOf s q
  setHq q (if h.en then { h with error := true } else f h) s

def sqWhenOff (q : Nat) (f : Sq → Sq) (s : State) : State :=
  let h := sqOf s q
  setSq q (if h.en then { h with error := true } else f h) s

def cqWhenOff (q : Nat) (f : Cq → Cq) (s : State) : State :=
  let h := cqOf s q
  setCq q (if h.en then { h with error := true } else f h) s

/-- A 32-bit write in a queue block (R62, R63, R71). -/
def writeQueue (q r v : Nat) (s : State) : State :=
  let w : Word32 := BitVec.ofNat 32 (v % 2 ^ 23)
  let half : Word32 := BitVec.ofNat 32 (v % 2 ^ 16)
  if r = 0xC then qCtrl q v s
  else if q < 128 then
    if r = 8 then hqWhenOff q (fun h => { h with cfg := w }) s
    else if r = 0x14 then consume q v s
    else if r = 0x20 then hqWhenOff q (fun h => { h with tailTimeout := half }) s
    else if r = 0x24 then setHq q { hqOf s q with modTime := half } s
    else s
  else if q < 192 then
    if r = 8 then sqWhenOff (q - 128) (fun h => { h with cfg := w }) s
    else if r = 0x10 then sqTail (q - 128) v [] s
    else s
  else if r = 8 then cqWhenOff (q - 192) (fun h => { h with cfg := w }) s
  else if r = 0x14 then cqHead (q - 192) v s
  else if r = 0x24 then setCq (q - 192) { cqOf s (q - 192) with modTime := half } s
  else s

/-- A 32-bit write in the vector region (R76, R77): vector control is held inverted, and an unmasked vector that is pending is
sent. -/
def writeVectors (r v : Nat) (s : State) : State :=
  if r < 0x1000 then
    let w := if r % 16 = 12 then (v + 1) % 2 else v
    sendPending 256 { s with host := { s.host with msixTable := put 0 s.host.msixTable (r / 4) w } }
  else if 0x2000 ≤ r ∧ r < 0x2020 then
    { s with host := { s.host with intMap := put 0 s.host.intMap ((r - 0x2000) / 4) (v % 2 ^ 11) } }
  else if 0x2020 ≤ r ∧ r < 0x2040 then
    let m : BitVec 256 := BitVec.ofNat 256 v <<< (8 * (r - 0x2020))
    { s with host := { s.host with intPending := s.host.intPending &&& ~~~m } }
  else s

/-- A 32-bit write in the block of TBn (R89, R91, R484): TBn_STATUS bits 8:5 are cleared by 1. -/
def writeTb (n r v : Nat) (s : State) : State :=
  if r = 0xC then
    if tbWritable s n then
      let t := tb s n
      setTb n { t with
        stepRefused := t.stepRefused && !bitOf v 5, incClamped := t.incClamped && !bitOf v 6
        ownerErr := t.ownerErr && !bitOf v 7, stepped := t.stepped && !bitOf v 8 } s
    else s
  else if r = 0x20 then writeStepHi n v s
  else s

/-- LOG_NEXT − LOG_ACK has reached LOG_THRESH (R502). -/
def threshDue (l : LogPart) : Bool := l.thresh != 0 && decide (l.thresh ≤ (l.next % 2 ^ 32 + 2 ^ 32 - l.ack) % 2 ^ 32)

/-- A write of LOG_THRESH or LOG_ACK with which the threshold is reached raises V231 (R502). -/
def writeThresh (f : LogPart → LogPart) (s : State) : State :=
  let l := f s.log
  let t := { s with log := l }
  if threshDue l && !threshDue s.log then raiseV 231 t else t

/-- A 32-bit write in the logbook window (R502). -/
def writeLog (r v : Nat) (s : State) : State :=
  if r = 0 then loadWindow v s
  else if r = 0x10 then writeThresh (fun l => { l with thresh := v }) s
  else if r = 0x14 then writeThresh (fun l => { l with ack := v }) s
  else s

/-- FAULT_EVENTS after a write (R491). -/
def clearEvents (e v : Nat) : Nat := ofBits ((List.range 4).map fun k => bitOf e k && !bitOf v k)

/-- A 32-bit write to a register that is not one half of a 64-bit register. -/
def writeReg32 (path : Path) (off v : Nat) (s : State) : State :=
  if off = 0x24 then { s with host := { s.host with scratch := BitVec.ofNat 32 v } }
  else if off = 0x28 then { s with host := { s.host with bulkSel := BitVec.ofNat 32 (v % 2) } }
  else if 0x20000 ≤ off ∧ off < 0x20100 then mbCtrl ((off - 0x20000) / 4) v path s
  else if 0x100000 ≤ off ∧ off < 0x104000 then writeQueue ((off - 0x100000) / 64) (off % 64) v s
  else if 0x200000 ≤ off ∧ off < 0x203000 then writeVectors (off - 0x200000) v s
  else if 0x300000 ≤ off ∧ off < 0x300300 then writeTb ((off - 0x300000) / 64) (off % 64) v s
  else if off = 0x300400 then
    { s with clock := { s.clock with msOverflow := s.clock.msOverflow && !bitOf v 8 } }
  else if off = 0x300408 then popMilestone v s
  else if 0x400000 ≤ off ∧ off < 0x400100 then writeLog (off - 0x400000) v s
  else if off = 0x500004 then { s with log := { s.log with events := clearEvents s.log.events v } }
  else if off = 0x600000 then (if v / 256 % 256 = 0xA5 ∧ v % 2 = 1 then moduleReset s else s)
  else if off = 0x600008 then (if v % 2 = 1 then removalSource .hpCtrl s else s)
  else s

/-- The offset of a writable 64-bit register (R62, R63, R91). -/
def isWide (off : Nat) : Bool :=
  (decide (0x100000 ≤ off ∧ off < 0x104000) &&
    (off % 64 == 0 || (off % 64 == 0x30 && decide (off < 0x102000))))
    || (decide (0x300000 ≤ off ∧ off < 0x300300) && (off % 64 == 0x10 || off % 64 == 0x18))

/-- A write of a whole 64-bit register. -/
def writeWide (off v : Nat) (s : State) : State :=
  if off < 0x200000 then
    let q := (off - 0x100000) / 64
    let w : Word64 := BitVec.ofNat 64 v
    if q < 128 then
      if off % 64 = 0 then hqWhenOff q (fun h => { h with ringBase := w }) s else hqWhenOff q (fun h => { h with wbAddr := w }) s
    else if q < 192 then sqWhenOff (q - 128) (fun h => { h with ringBase := w }) s
    else cqWhenOff (q - 192) (fun h => { h with ringBase := w }) s
  else
    let n := (off - 0x300000) / 64
    if off % 64 = 0x10 then writeInc n v s
    else if tbWritable s n then setTb n { tb s n with stepLo := BitVec.ofNat 64 v } s
    else s

/-- The lower half that a write of the upper half completes (R47): the one held, or else the register's own. -/
def lowerHalf (base : Nat) (s : State) : Nat :=
  let h := look 0 s.host.lowHalf base
  if h ≠ 0 then h - 1
  else if base % 64 = 0x18 ∧ 0x300000 ≤ base then (tb s ((base - 0x300000) / 64)).stepLo.toNat % 2 ^ 32
  else windowWord s base

def holdLow (base v : Nat) (s : State) : State := { s with host := { s.host with lowHalf := put 0 s.host.lowHalf base v } }

/-- One 32-bit write (R47): the lower half of a 64-bit register is held, the upper half makes the write. -/
def writeWord (path : Path) (off v : Nat) (s : State) : State :=
  if isWide (off - off % 8) then
    if off % 8 = 0 then holdLow off (v + 1) s
    else
      let base := off - 4
      holdLow base 0 (writeWide base (lowerHalf base s + 2 ^ 32 * v) s)
  else writeReg32 path off v s

/-- A write to the control window (R47). `width` is in bytes. Registers take aligned writes of 32 and 64 bits; a 64-bit write over
two 32-bit registers writes the lower one first. -/
def windowWrite (path : Path) (off width v : Nat) (s : State) : State :=
  if off % width ≠ 0 ∨ !([1, 2, 4, 8].contains width) then s
  else if 0x10000 ≤ off ∧ off < 0x20000 then writeArea off width v s
  else if width = 4 then writeWord path off (v % 2 ^ 32) s
  else if width = 8 then
    if isWide off then holdLow off 0 (writeWide off (v % 2 ^ 64) s)
    else writeWord path (off + 4) (dword v 1) (writeWord path off (dword v 0) s)
  else s

/-- `REGISTER_WRITE` (R47). -/
def execRegisterWrite (off width : Nat) (value : Word64) (path : Path) (s : State) : Host.Outcome State Fault Refusal :=
  .next (if fabricUp s then windowWrite path off width value.toNat s else s)

/-! ### The sideband management port (R78–R80) -/

/-- The port takes frames: PD1 is up and its unit is not fenced (R484, R519). -/
def smpServes (s : State) : Bool := fabricUp s && !isFenced s 2

def byteAt (b : Bytes) (i : Nat) : Nat := (b.getD i 0).toNat

/-- The window offset of a frame, most significant byte first. -/
def frameOff (f : Bytes) : Nat := beNat (fieldB f 1 4)

/-- The words of a frame. -/
def frameWords (f : Bytes) : Nat := byteAt f 5 + 1

def setSmp (keep v : Nat) (s : State) : State :=
  { s with host := { s.host with smpStatus := ofBits ((List.range 3).map fun k => if bitOf keep k then bitOf s.host.smpStatus k else bitOf v k) } }

/-- What the target sends after its marker: the data and the CRC over command, address, length and data. -/
def smpAnswer (header data : Bytes) (s : State) : State :=
  emit (.readData 1 (0xA5#8 :: data ++ [crc8 (header ++ data)])) s

/-- 0xE1 in place of the marker (R79). -/
def smpRefuse (s : State) : State := emit (.readData 1 [0xE1#8]) s

/-- The words of a WRITE frame, one 32-bit write each; a reset of the module in between ends them. -/
def smpWords : Nat → Nat → Bytes → State → State
  | 0, _, _, s => s
  | k + 1, off, b, s =>
    let t := windowWrite .smp off 4 (fieldU b 0 4) s
    if t.power.starts = s.power.starts then smpWords k (off + 4) (b.drop 4) t else t

/-- A WRITE frame is whole and its CRC is right. -/
def writeGood (f : Bytes) : Bool :=
  let n := 6 + 4 * frameWords f
  decide (frameWords f ≤ 64) && f.length == n + 1 && crc8 (f.take n) == f.getD n 0

/-- A cell of the oldest packet that is available, and the queue without it (R70). -/
def popCell (q : Nat) (s : State) : Option (Bytes × State) :=
  let h := hqOf s q
  let take (p : Packet) : Option (Bytes × State) :=
    let cell := cellBytes p h.popCell
    if h.popCell + 1 < packetCells p then some (cell, setHq q { h with popCell := h.popCell + 1 } s)
    else some (cell, markDelivered q p (countRead q (takeNext q (nextPacket h) s)))
  if h.en && hqMode h.cfg == 1 then
    match nextPacket h with
    | .pond p => take p
    | .panA p => take p
    | .panB p => take p
    | .none => none
  else none

/-- The header of the POP frame of queue `q`. -/
def popHeader (q : Nat) : Bytes := 0x0B#8 :: (leBytes 4 (0x700000 + 64 * q)).reverse ++ [15#8]

/-- A stalled POP is answered once a cell is available (R70). -/
def servePop (s : State) : State :=
  match s.host.popStall with
  | some q =>
    if smpServes s then
      match popCell q s with
      | some (cell, t) => smpAnswer (popHeader q) cell (setSmp 3 0 { t with host := { t.host with popStall := none } })
      | none => s
    else s
  | none => s

/-- What the module does when no command waits: a fabric tick, and the answer of a stalled POP. -/
def idle (s : State) : State := servePop (fabricTick s)

/-- A frame of the port with command byte `c`: none is taken while a POP stalls or the port does not serve. -/
def smpFrame (c : Nat) (f : Bytes) (run : State → State) (s : State) : State :=
  let s := servePop s
  if smpServes s && s.host.popStall.isNone && byteAt f 0 == c && decide (6 ≤ f.length) then run s else s

/-- `SMP_WRITE` (R78). -/
def execSmpWrite (frame : Bytes) (s : State) : Host.Outcome State Fault Refusal :=
  .next (smpFrame 0x02 frame (fun s =>
    if writeGood frame then smpWords (frameWords frame) (frameOff frame) (frame.drop 6) (setSmp 4 0 s)
    else setSmp 4 3 s) s)

/-- `SMP_READ` (R79). -/
def execSmpRead (frame : Bytes) (s : State) : Host.Outcome State Fault Refusal :=
  .next (smpFrame 0x03 frame (fun s =>
    if frameWords frame ≤ 64 then
      let (b, t) := if frameOff frame % 4 = 0 then readWords (frameWords frame) (frameOff frame) s
        else (List.replicate (4 * frameWords frame) 0#8, s)
      smpAnswer (frame.take 6) b t
    else smpRefuse s) s)

/-- `SMP_STATUS` (R78): the status byte and its CRC. -/
def execSmpStatus (frame : Bytes) (s : State) : Host.Outcome State Fault Refusal :=
  .next (smpFrame 0x05 frame (fun s =>
    let b : Byte := BitVec.ofNat 8 (s.host.smpStatus % 8 + 8 * b2n s.host.linkUp)
    emit (.readData 1 [b, crc8 (frame.take 6 ++ [b])]) s) s)

/-- The queue that a POP frame may read: the start of a pop block, one cell, an enabled MODE 1 queue (R79). -/
def popQueue (f : Bytes) (s : State) : Option Nat :=
  let a := frameOff f
  let q := (a - 0x700000) / 64
  if 0x700000 ≤ a ∧ a < 0x702000 ∧ a % 64 = 0 ∧ frameWords f = 16 ∧ (hqOf s q).en = true ∧ hqMode (hqOf s q).cfg = 1 then some q
  else none

/-- `SMP_POP` (R79): the next cell, or a stall until one is available. -/
def execSmpPop (frame : Bytes) (s : State) : Host.Outcome State Fault Refusal :=
  .next (smpFrame 0x0B frame (fun s =>
    match popQueue frame s with
    | some q => servePop { s with host := { s.host with popStall := some q } }
    | none => smpRefuse (setSmp 3 4 s)) s)

/-- `SMP_POP_CANCEL` (R70). -/
def execSmpPopCancel (s : State) : Host.Outcome State Fault Refusal :=
  let s := servePop s
  .next (if s.host.popStall.isSome then setSmp 3 4 { s with host := { s.host with popStall := none } } else s)

end Sys2Proof.Machine
end

