-- ==== Sys2Proof/Machine/Dispatch.lean ====
section
/-! DEFINITION. One arm for each command: a direct call of its meaning. -/

namespace Sys2Proof.Machine

open Sys2Proof

def exec (i : Instr) (s : State) : Host.Outcome State Fault Refusal :=
  match i with
  | .mbGoWrite mb value path => Sys2Proof.Machine.execMbGoWrite mb value path s
  | .mailboxRequestTake mb => Sys2Proof.Machine.execMailboxRequestTake mb s
  | .registerWrite off width value path => Sys2Proof.Machine.execRegisterWrite off width value path s
  | .rcRegisterRead read path => Sys2Proof.Machine.execRcRegisterRead read path s
  | .qCtrlEnWrite q value => Sys2Proof.Machine.execQCtrlEnWrite q value s
  | .hqConsumedWrite hq count => Sys2Proof.Machine.execHqConsumedWrite hq count s
  | .sqTailWrite sq bell => Sys2Proof.Machine.execSqTailWrite sq bell s
  | .cqHeadWrite cq head => Sys2Proof.Machine.execCqHeadWrite cq head s
  | .sqEntryFetch sq cell buffer => Sys2Proof.Machine.execSqEntryFetch sq cell buffer s
  | .tbNowReadLatch tb width => Sys2Proof.Machine.execTbNowReadLatch tb width s
  | .tbIncWrite tb value => Sys2Proof.Machine.execTbIncWrite tb value s
  | .tbStepHiWrite tb value => Sys2Proof.Machine.execTbStepHiWrite tb value s
  | .msPopWrite value => Sys2Proof.Machine.execMsPopWrite value s
  | .rstCtrlWrite value => Sys2Proof.Machine.execRstCtrlWrite value s
  | .hpCtrlWrite value => Sys2Proof.Machine.execHpCtrlWrite value s
  | .logCursorWrite value => Sys2Proof.Machine.execLogCursorWrite value s
  | .logWindowLastRead width => Sys2Proof.Machine.execLogWindowLastRead width s
  | .smpWrite frame => Sys2Proof.Machine.execSmpWrite frame s
  | .smpRead frame => Sys2Proof.Machine.execSmpRead frame s
  | .smpStatus frame => Sys2Proof.Machine.execSmpStatus frame s
  | .smpPop frame => Sys2Proof.Machine.execSmpPop frame s
  | .smpPopCancel => Sys2Proof.Machine.execSmpPopCancel s
  | .packetWriteToRing hq => Sys2Proof.Machine.execPacketWriteToRing hq s
  | .panTailTimeout hq => Sys2Proof.Machine.execPanTailTimeout hq s
  | .vectorModerationTimeout q => Sys2Proof.Machine.execVectorModerationTimeout q s
  | .creditWithholdTimeout => Sys2Proof.Machine.execCreditWithholdTimeout s
  | .pcieLinkDown => Sys2Proof.Machine.execPcieLinkDown s
  | .perstNAssert => Sys2Proof.Machine.execPerstNAssert s
  | .rstInNAssert => Sys2Proof.Machine.execRstInNAssert s
  | .rstInNRelease => Sys2Proof.Machine.execRstInNRelease s
  | .pdSet src => Sys2Proof.Machine.execPdSet src s
  | .pdTransitionComplete failedLanes => Sys2Proof.Machine.execPdTransitionComplete failedLanes s
  | .pdOffWorkDiscard => Sys2Proof.Machine.execPdOffWorkDiscard s
  | .pdStatus src => Sys2Proof.Machine.execPdStatus src s
  | .dramArbSet src => Sys2Proof.Machine.execDramArbSet src s
  | .fabricStatus src => Sys2Proof.Machine.execFabricStatus src s
  | .plCouplingSet src => Sys2Proof.Machine.execPlCouplingSet src s
  | .fabricWordError hop word => Sys2Proof.Machine.execFabricWordError hop word s
  | .dramRequestPromotion cls => Sys2Proof.Machine.execDramRequestPromotion cls s
  | .pllLockLoss refHz => Sys2Proof.Machine.execPllLockLoss refHz s
  | .pllLockRegain => Sys2Proof.Machine.execPllLockRegain s
  | .qInfo src => Sys2Proof.Machine.execQInfo src s
  | .hqFlush src => Sys2Proof.Machine.execHqFlush src s
  | .sqNop src => Sys2Proof.Machine.execSqNop src s
  | .intTest src => Sys2Proof.Machine.execIntTest src s
  | .tbInfo src => Sys2Proof.Machine.execTbInfo src s
  | .tbSet src => Sys2Proof.Machine.execTbSet src s
  | .tbStep src => Sys2Proof.Machine.execTbStep src s
  | .tbLimitSet src => Sys2Proof.Machine.execTbLimitSet src s
  | .tbSourceSet src => Sys2Proof.Machine.execTbSourceSet src s
  | .tbUtcOffsetSet src => Sys2Proof.Machine.execTbUtcOffsetSet src s
  | .utcOffsetEffective => Sys2Proof.Machine.execUtcOffsetEffective s
  | .tbDeclareLost src => Sys2Proof.Machine.execTbDeclareLost src s
  | .tb2TrimSet src => Sys2Proof.Machine.execTb2TrimSet src s
  | .msTriggerSet src => Sys2Proof.Machine.execMsTriggerSet src s
  | .msCapture src => Sys2Proof.Machine.execMsCapture src s
  | .msSchedule src => Sys2Proof.Machine.execMsSchedule src s
  | .ptpPortCfg src => Sys2Proof.Machine.execPtpPortCfg src s
  | .aethenoCfg src => Sys2Proof.Machine.execAethenoCfg src s
  | .ppsInEdge offset => Sys2Proof.Machine.execPpsInEdge offset s
  | .tbSetPpsTimeout mb => Sys2Proof.Machine.execTbSetPpsTimeout mb s
  | .zeroCrossing mp ch around instant => Sys2Proof.Machine.execZeroCrossing mp ch around instant s
  | .mainsCrossingMissing tb => Sys2Proof.Machine.execMainsCrossingMissing tb s
  | .ptpEventMessage m => Sys2Proof.Machine.execPtpEventMessage m s
  | .ptpSyncTimeout => Sys2Proof.Machine.execPtpSyncTimeout s
  | .scheduledMilestoneFire slot => Sys2Proof.Machine.execScheduledMilestoneFire slot s
  | .aethenoTimeSend => Sys2Proof.Machine.execAethenoTimeSend s
  | .aethenoTimeReceive f => Sys2Proof.Machine.execAethenoTimeReceive f s
  | .aethenoTimeMissed => Sys2Proof.Machine.execAethenoTimeMissed s
  | .aethenoDelayExchange => Sys2Proof.Machine.execAethenoDelayExchange s
  | .aethenoTriggerReceive f => Sys2Proof.Machine.execAethenoTriggerReceive f s
  | .tb2TemperatureSample centi => Sys2Proof.Machine.execTb2TemperatureSample centi s
  | .vbatLowDetect => Sys2Proof.Machine.execVbatLowDetect s
  | .metrologyTickEnd samples => Sys2Proof.Machine.execMetrologyTickEnd samples s
  | .spareSlotPhase m => Sys2Proof.Machine.execSpareSlotPhase m s
  | .spareRetry zero reference => Sys2Proof.Machine.execSpareRetry zero reference s
  | .measurementWindowEnd mp block crossings => Sys2Proof.Machine.execMeasurementWindowEnd mp block crossings s
  | .phasorReport block => Sys2Proof.Machine.execPhasorReport block s
  | .metrologyAlarmTimer mp bit => Sys2Proof.Machine.execMetrologyAlarmTimer mp bit s
  | .writeThrough => Sys2Proof.Machine.execWriteThrough s
  | .meteringIntervalBoundary offset => Sys2Proof.Machine.execMeteringIntervalBoundary offset s
  | .powerFailTrigger cause => Sys2Proof.Machine.execPowerFailTrigger cause s
  | .powerFailCommitDone => Sys2Proof.Machine.execPowerFailCommitDone s
  | .holdupCutoff => Sys2Proof.Machine.execHoldupCutoff s
  | .supplyReturn => Sys2Proof.Machine.execSupplyReturn s
  | .holdupCheckStart => Sys2Proof.Machine.execHoldupCheckStart s
  | .holdupCheckEnd predictedUs capacitanceUf esrMilliohm => Sys2Proof.Machine.execHoldupCheckEnd predictedUs capacitanceUf esrMilliohm s
  | .metCaptureDone block => Sys2Proof.Machine.execMetCaptureDone block s
  | .metInfo src => Sys2Proof.Machine.execMetInfo src s
  | .metChanCfg src => Sys2Proof.Machine.execMetChanCfg src s
  | .metBind src => Sys2Proof.Machine.execMetBind src s
  | .metCalSet src => Sys2Proof.Machine.execMetCalSet src s
  | .metCalGet src => Sys2Proof.Machine.execMetCalGet src s
  | .metRegCfg src => Sys2Proof.Machine.execMetRegCfg src s
  | .metRead src => Sys2Proof.Machine.execMetRead src s
  | .metInstant src => Sys2Proof.Machine.execMetInstant src s
  | .metHarmonics src => Sys2Proof.Machine.execMetHarmonics src s
  | .metOutputCfg src => Sys2Proof.Machine.execMetOutputCfg src s
  | .metIntervalSet src => Sys2Proof.Machine.execMetIntervalSet src s
  | .metTpoCfg src => Sys2Proof.Machine.execMetTpoCfg src s
  | .metThreshSet src => Sys2Proof.Machine.execMetThreshSet src s
  | .metCapture src => Sys2Proof.Machine.execMetCapture src s
  | .metCaptureRead src => Sys2Proof.Machine.execMetCaptureRead src s
  | .holdupTest src => Sys2Proof.Machine.execHoldupTest src s
  | .metOutageRead src => Sys2Proof.Machine.execMetOutageRead src s
  | .metRotation src => Sys2Proof.Machine.execMetRotation src s
  | .rateSwitch table => Sys2Proof.Machine.execRateSwitch table s
  | .dstChange table => Sys2Proof.Machine.execDstChange table s
  | .demandSubintervalEnd mp => Sys2Proof.Machine.execDemandSubintervalEnd mp s
  | .billingPeriodClose table => Sys2Proof.Machine.execBillingPeriodClose table s
  | .tariffActivationDue table => Sys2Proof.Machine.execTariffActivationDue table s
  | .prepayFeedbackChange mp closed => Sys2Proof.Machine.execPrepayFeedbackChange mp closed s
  | .prepayFeedbackTimeout mp => Sys2Proof.Machine.execPrepayFeedbackTimeout mp s
  | .prepayBypassDetect mp => Sys2Proof.Machine.execPrepayBypassDetect mp s
  | .legalDisplayPing display reply => Sys2Proof.Machine.execLegalDisplayPing display reply s
  | .legalDisplayScroll display => Sys2Proof.Machine.execLegalDisplayScroll display s
  | .ldreqNFall => Sys2Proof.Machine.execLdreqNFall s
  | .cvShowExpiry => Sys2Proof.Machine.execCvShowExpiry s
  | .tarStatus src => Sys2Proof.Machine.execTarStatus src s
  | .tarDaySet src => Sys2Proof.Machine.execTarDaySet src s
  | .tarWeekSet src => Sys2Proof.Machine.execTarWeekSet src s
  | .tarSeasonSet src => Sys2Proof.Machine.execTarSeasonSet src s
  | .tarSpecialSet src => Sys2Proof.Machine.execTarSpecialSet src s
  | .tarTableSet src => Sys2Proof.Machine.execTarTableSet src s
  | .tarActivate src => Sys2Proof.Machine.execTarActivate src s
  | .tarAssign src => Sys2Proof.Machine.execTarAssign src s
  | .billRegCfg src => Sys2Proof.Machine.execBillRegCfg src s
  | .billClose src => Sys2Proof.Machine.execBillClose src s
  | .billRead src => Sys2Proof.Machine.execBillRead src s
  | .billHistoryRead src => Sys2Proof.Machine.execBillHistoryRead src s
  | .demCfg src => Sys2Proof.Machine.execDemCfg src s
  | .demRead src => Sys2Proof.Machine.execDemRead src s
  | .prepayCfg src => Sys2Proof.Machine.execPrepayCfg src s
  | .prepayCredit src => Sys2Proof.Machine.execPrepayCredit src s
  | .prepaySwitch src => Sys2Proof.Machine.execPrepaySwitch src s
  | .prepayReconnect src => Sys2Proof.Machine.execPrepayReconnect src s
  | .prepayStatus src => Sys2Proof.Machine.execPrepayStatus src s
  | .tamperRead src => Sys2Proof.Machine.execTamperRead src s
  | .legalCvRead src => Sys2Proof.Machine.execLegalCvRead src s
  | .legalCvShow src => Sys2Proof.Machine.execLegalCvShow src s
  | .legalDisplayCfg src => Sys2Proof.Machine.execLegalDisplayCfg src s
  | .legalLogRead src => Sys2Proof.Machine.execLegalLogRead src s
  | .legalDecommission src => Sys2Proof.Machine.execLegalDecommission src s
  | .legalStatus src => Sys2Proof.Machine.execLegalStatus src s
  | .pilotMeasurement cp high low => Sys2Proof.Machine.execPilotMeasurement cp high low s
  | .proximityWindow cp code => Sys2Proof.Machine.execProximityWindow cp code s
  | .cpFeedbackChange cp second closed => Sys2Proof.Machine.execCpFeedbackChange cp second closed s
  | .cpFeedbackTimeout cp => Sys2Proof.Machine.execCpFeedbackTimeout cp s
  | .cpPullInEnd cp => Sys2Proof.Machine.execCpPullInEnd cp s
  | .cpStoppingTimeout cp => Sys2Proof.Machine.execCpStoppingTimeout cp s
  | .rcdSelfTestEnd cp recent => Sys2Proof.Machine.execRcdSelfTestEnd cp recent s
  | .imdPeriodEnd cp positive negative saturated => Sys2Proof.Machine.execImdPeriodEnd cp positive negative saturated s
  | .authTimeout cp => Sys2Proof.Machine.execAuthTimeout cp s
  | .nulvoHeartbeatLoss cp => Sys2Proof.Machine.execNulvoHeartbeatLoss cp s
  | .nulvoEnergyRequest cp kind => Sys2Proof.Machine.execNulvoEnergyRequest cp kind s
  | .slacSoundFrame pl runId groups => Sys2Proof.Machine.execSlacSoundFrame pl runId groups s
  | .slacRunEnd runId => Sys2Proof.Machine.execSlacRunEnd runId s
  | .sessionRecordEmit => Sys2Proof.Machine.execSessionRecordEmit s
  | .cpCfg src => Sys2Proof.Machine.execCpCfg src s
  | .cpStatus src => Sys2Proof.Machine.execCpStatus src s
  | .cpAuthorise src => Sys2Proof.Machine.execCpAuthorise src s
  | .cpLimit src => Sys2Proof.Machine.execCpLimit src s
  | .cpStop src => Sys2Proof.Machine.execCpStop src s
  | .cpAvailability src => Sys2Proof.Machine.execCpAvailability src s
  | .cpReset src => Sys2Proof.Machine.execCpReset src s
  | .cpRcdCfg src => Sys2Proof.Machine.execCpRcdCfg src s
  | .cpImdCfg src => Sys2Proof.Machine.execCpImdCfg src s
  | .cpSessionRead src => Sys2Proof.Machine.execCpSessionRead src s
  | .cpSlacStatus src => Sys2Proof.Machine.execCpSlacStatus src s
  | .cpV2gCfg src => Sys2Proof.Machine.execCpV2gCfg src s
  | .cpTrustSet src => Sys2Proof.Machine.execCpTrustSet src s
  | .cpPilotRead src => Sys2Proof.Machine.execCpPilotRead src s
  | .cpRecordCfg src => Sys2Proof.Machine.execCpRecordCfg src s
  | .plFrameReceive ch f => Sys2Proof.Machine.execPlFrameReceive ch f s
  | .plTransmitTurn ch g => Sys2Proof.Machine.execPlTransmitTurn ch g s
  | .plAckReceive ch => Sys2Proof.Machine.execPlAckReceive ch s
  | .plAckTimeout ch accessFailed seq => Sys2Proof.Machine.execPlAckTimeout ch accessFailed seq s
  | .plRefreshTimer ch short slot => Sys2Proof.Machine.execPlRefreshTimer ch short slot s
  | .plReassemblyTimeout ch tag => Sys2Proof.Machine.execPlReassemblyTimeout ch tag s
  | .plNeighbourAgeing ch short => Sys2Proof.Machine.execPlNeighbourAgeing ch short s
  | .plRouteLapse ch dest => Sys2Proof.Machine.execPlRouteLapse ch dest s
  | .plCfg src => Sys2Proof.Machine.execPlCfg src s
  | .plNetCfg src => Sys2Proof.Machine.execPlNetCfg src s
  | .plStatus src => Sys2Proof.Machine.execPlStatus src s
  | .plNbrRead src => Sys2Proof.Machine.execPlNbrRead src s
  | .plNbrDelete src => Sys2Proof.Machine.execPlNbrDelete src s
  | .plTmRead src => Sys2Proof.Machine.execPlTmRead src s
  | .plTmRefresh src => Sys2Proof.Machine.execPlTmRefresh src s
  | .plRouteSet src => Sys2Proof.Machine.execPlRouteSet src s
  | .plRouteRead src => Sys2Proof.Machine.execPlRouteRead src s
  | .plRouteFlush src => Sys2Proof.Machine.execPlRouteFlush src s
  | .plTx src => Sys2Proof.Machine.execPlTx src s
  | .plBeaconSet src => Sys2Proof.Machine.execPlBeaconSet src s
  | .rfFrameReceive ch f => Sys2Proof.Machine.execRfFrameReceive ch f s
  | .rfBackoffExpiry ch cca listen => Sys2Proof.Machine.execRfBackoffExpiry ch cca listen s
  | .rfAckReceive ch => Sys2Proof.Machine.execRfAckReceive ch s
  | .rfAckTimeout ch => Sys2Proof.Machine.execRfAckTimeout ch s
  | .rfWindowTune ch link => Sys2Proof.Machine.execRfWindowTune ch link s
  | .rfWindowEnd ch link => Sys2Proof.Machine.execRfWindowEnd ch link s
  | .rfSupervisionTimeout ch link => Sys2Proof.Machine.execRfSupervisionTimeout ch link s
  | .rfDutyLimitChange ch ack => Sys2Proof.Machine.execRfDutyLimitChange ch ack s
  | .rfDeviceAgeing net eui => Sys2Proof.Machine.execRfDeviceAgeing net eui s
  | .rfCfg src => Sys2Proof.Machine.execRfCfg src s
  | .rfNetCfg src => Sys2Proof.Machine.execRfNetCfg src s
  | .rfStatus src => Sys2Proof.Machine.execRfStatus src s
  | .rfLinkAdd src => Sys2Proof.Machine.execRfLinkAdd src s
  | .rfLinkUpdate src => Sys2Proof.Machine.execRfLinkUpdate src s
  | .rfLinkRemove src => Sys2Proof.Machine.execRfLinkRemove src s
  | .rfLinkRead src => Sys2Proof.Machine.execRfLinkRead src s
  | .rfTx src => Sys2Proof.Machine.execRfTx src s
  | .rfDevDelete src => Sys2Proof.Machine.execRfDevDelete src s
  | .smbFrameReceive bus line apdu addr bytes => Sys2Proof.Machine.execSmbFrameReceive bus line apdu addr bytes s
  | .dxDataReceive eth addr udpPort fcsOk sumOk bytes => Sys2Proof.Machine.execDxDataReceive eth addr udpPort fcsOk sumOk bytes s
  | .frameAdmit fip => Sys2Proof.Machine.execFrameAdmit fip s
  | .admissionReopen fip => Sys2Proof.Machine.execAdmissionReopen fip s
  | .laneGrant lane => Sys2Proof.Machine.execLaneGrant lane s
  | .laneOperationEnd lane mismatch => Sys2Proof.Machine.execLaneOperationEnd lane mismatch s
  | .laneQueueTimeout fip => Sys2Proof.Machine.execLaneQueueTimeout fip s
  | .frameValidate fip tag => Sys2Proof.Machine.execFrameValidate fip tag s
  | .junctionLearn fip => Sys2Proof.Machine.execJunctionLearn fip s
  | .junctionScrub fip bucket => Sys2Proof.Machine.execJunctionScrub fip bucket s
  | .recordDelivered hq seq => Sys2Proof.Machine.execRecordDelivered hq seq s
  | .replyEntryExpiry entry => Sys2Proof.Machine.execReplyEntryExpiry entry s
  | .dxAckReceive eth bytes => Sys2Proof.Machine.execDxAckReceive eth bytes s
  | .dxEnvelopeTimeout => Sys2Proof.Machine.execDxEnvelopeTimeout s
  | .dxRetransmitTimeout seq => Sys2Proof.Machine.execDxRetransmitTimeout seq s
  | .ingStatus src => Sys2Proof.Machine.execIngStatus src s
  | .fipCfg src => Sys2Proof.Machine.execFipCfg src s
  | .ingSteerSet src => Sys2Proof.Machine.execIngSteerSet src s
  | .ingPortCfg src => Sys2Proof.Machine.execIngPortCfg src s
  | .ingParseSet src => Sys2Proof.Machine.execIngParseSet src s
  | .ingAckTemplate src => Sys2Proof.Machine.execIngAckTemplate src s
  | .ctxWrite src => Sys2Proof.Machine.execCtxWrite src s
  | .ctxRead src => Sys2Proof.Machine.execCtxRead src s
  | .ctxDelete src => Sys2Proof.Machine.execCtxDelete src s
  | .jtInvalidate src => Sys2Proof.Machine.execJtInvalidate src s
  | .jtRead src => Sys2Proof.Machine.execJtRead src s
  | .ingSubmit src => Sys2Proof.Machine.execIngSubmit src s
  | .dxPeerCfg src => Sys2Proof.Machine.execDxPeerCfg src s
  | .dxUplinkCfg src => Sys2Proof.Machine.execDxUplinkCfg src s
  | .smbCfg src => Sys2Proof.Machine.execSmbCfg src s
  | .smbTx src => Sys2Proof.Machine.execSmbTx src s
  | .revocation omk => Sys2Proof.Machine.execRevocation omk s
  | .graceWindowEnd omk => Sys2Proof.Machine.execGraceWindowEnd omk s
  | .remaskPeriod => Sys2Proof.Machine.execRemaskPeriod s
  | .rngReseed => Sys2Proof.Machine.execRngReseed s
  | .rngHealthFail passing => Sys2Proof.Machine.execRngHealthFail passing s
  | .tamperSampleTrip sample => Sys2Proof.Machine.execTamperSampleTrip sample s
  | .debugAccessAttempt tckEdges => Sys2Proof.Machine.execDebugAccessAttempt tckEdges s
  | .pkeOperationEnd pke selfCheckOk => Sys2Proof.Machine.execPkeOperationEnd pke selfCheckOk s
  | .pkeQueueAgeing index => Sys2Proof.Machine.execPkeQueueAgeing index s
  | .mailboxLockoutEnd mb => Sys2Proof.Machine.execMailboxLockoutEnd mb s
  | .clStatus src => Sys2Proof.Machine.execClStatus src s
  | .clTest src => Sys2Proof.Machine.execClTest src s
  | .clTestEnd lane failing => Sys2Proof.Machine.execClTestEnd lane failing s
  | .clBorrowCfg src => Sys2Proof.Machine.execClBorrowCfg src s
  | .keygenStatus src => Sys2Proof.Machine.execKeygenStatus src s
  | .keyGraceSet src => Sys2Proof.Machine.execKeyGraceSet src s
  | .sessStatus src => Sys2Proof.Machine.execSessStatus src s
  | .sessClear src => Sys2Proof.Machine.execSessClear src s
  | .balIntervalOpen group => Sys2Proof.Machine.execBalIntervalOpen group s
  | .balDeadline group => Sys2Proof.Machine.execBalDeadline group s
  | .balRecordEmit group => Sys2Proof.Machine.execBalRecordEmit group s
  | .phaseRecordEmit ctx => Sys2Proof.Machine.execPhaseRecordEmit ctx s
  | .balGroupCfg src => Sys2Proof.Machine.execBalGroupCfg src s
  | .balFeed src => Sys2Proof.Machine.execBalFeed src s
  | .balStatus src => Sys2Proof.Machine.execBalStatus src s
  | .balClose src => Sys2Proof.Machine.execBalClose src s
  | .balHistoryRead src => Sys2Proof.Machine.execBalHistoryRead src s
  | .phaseCfg src => Sys2Proof.Machine.execPhaseCfg src s
  | .phaseRead src => Sys2Proof.Machine.execPhaseRead src s
  | .phaseReset src => Sys2Proof.Machine.execPhaseReset src s
  | .balOutputCfg src => Sys2Proof.Machine.execBalOutputCfg src s
  | .omkLoad src => Sys2Proof.Machine.execOmkLoad src s
  | .omkVerify src => Sys2Proof.Machine.execOmkVerify src s
  | .omkCommit src => Sys2Proof.Machine.execOmkCommit src s
  | .omkRevoke src => Sys2Proof.Machine.execOmkRevoke src s
  | .keyImport src => Sys2Proof.Machine.execKeyImport src s
  | .keyGenerate src => Sys2Proof.Machine.execKeyGenerate src s
  | .keyErase src => Sys2Proof.Machine.execKeyErase src s
  | .keyInfo src => Sys2Proof.Machine.execKeyInfo src s
  | .dikRead src => Sys2Proof.Machine.execDikRead src s
  | .keyAuthSet src => Sys2Proof.Machine.execKeyAuthSet src s
  | .keyAuthRotate src => Sys2Proof.Machine.execKeyAuthRotate src s
  | .tmpCfg src => Sys2Proof.Machine.execTmpCfg src s
  | .tmpStatus src => Sys2Proof.Machine.execTmpStatus src s
  | .secStatus src => Sys2Proof.Machine.execSecStatus src s
  | .lcStatus src => Sys2Proof.Machine.execLcStatus src s
  | .lcAdvance src => Sys2Proof.Machine.execLcAdvance src s
  | .lcTransitionComplete => Sys2Proof.Machine.execLcTransitionComplete s
  | .lcNextDik src => Sys2Proof.Machine.execLcNextDik src s
  | .lcRecover src => Sys2Proof.Machine.execLcRecover src s
  | .lcDebugOpen src => Sys2Proof.Machine.execLcDebugOpen src s
  | .fwStatus src => Sys2Proof.Machine.execFwStatus src s
  | .fwStageOpen src => Sys2Proof.Machine.execFwStageOpen src s
  | .fwStageOpenDone => Sys2Proof.Machine.execFwStageOpenDone s
  | .fwStageWrite src => Sys2Proof.Machine.execFwStageWrite src s
  | .fwStageClose src => Sys2Proof.Machine.execFwStageClose src s
  | .fwStageCloseDone => Sys2Proof.Machine.execFwStageCloseDone s
  | .fwStageAbort src => Sys2Proof.Machine.execFwStageAbort src s
  | .activate src => Sys2Proof.Machine.execActivate src s
  | .activatePrepared => Sys2Proof.Machine.execActivatePrepared s
  | .activatePauseEnd pauseUs => Sys2Proof.Machine.execActivatePauseEnd pauseUs s
  | .activateAt src => Sys2Proof.Machine.execActivateAt src s
  | .fwConfirm src => Sys2Proof.Machine.execFwConfirm src s
  | .fwOpkeySet src => Sys2Proof.Machine.execFwOpkeySet src s
  | .activateLegal src => Sys2Proof.Machine.execActivateLegal src s
  | .watchdogExpiry pair => Sys2Proof.Machine.execWatchdogExpiry pair s
  | .eccError e => Sys2Proof.Machine.execEccError e s
  | .lockstepMismatch pair pc checkpoint => Sys2Proof.Machine.execLockstepMismatch pair pc checkpoint s
  | .busTimeout unit source transaction => Sys2Proof.Machine.execBusTimeout unit source transaction s
  | .mramVerifyFailure addr attempts => Sys2Proof.Machine.execMramVerifyFailure addr attempts s
  | .domainSupplyFault domain rail => Sys2Proof.Machine.execDomainSupplyFault domain rail s
  | .f1HandlingComplete unit => Sys2Proof.Machine.execF1HandlingComplete unit s
  | .f1RepeatTimeout unit => Sys2Proof.Machine.execF1RepeatTimeout unit s
  | .fenceComplete unit => Sys2Proof.Machine.execFenceComplete unit s
  | .unitRecoveryEnd unit passed => Sys2Proof.Machine.execUnitRecoveryEnd unit passed s
  | .restartResetRelease => Sys2Proof.Machine.execRestartResetRelease s
  | .reconciliationPass found => Sys2Proof.Machine.execReconciliationPass found s
  | .logFlushTimer => Sys2Proof.Machine.execLogFlushTimer s
  | .logTokenRefill code => Sys2Proof.Machine.execLogTokenRefill code s
  | .logInfo src => Sys2Proof.Machine.execLogInfo src s
  | .logRead src => Sys2Proof.Machine.execLogRead src s
  | .logFlush src => Sys2Proof.Machine.execLogFlush src s
  | .logRateSet src => Sys2Proof.Machine.execLogRateSet src s
  | .logClear src => Sys2Proof.Machine.execLogClear src s
  | .faultStatus src => Sys2Proof.Machine.execFaultStatus src s
  | .unitRecover src => Sys2Proof.Machine.execUnitRecover src s
  | .faultInject src => Sys2Proof.Machine.execFaultInject src s
  | .auxSupplyPresent => Sys2Proof.Machine.execAuxSupplyPresent s
  | .insertionPresent => Sys2Proof.Machine.execInsertionPresent s
  | .powerGood refSel refHz rampMv rampUs => Sys2Proof.Machine.execPowerGood refSel refHz rampMv rampUs s
  | .inrushFault peakMa => Sys2Proof.Machine.execInrushFault peakMa s
  | .inrushRetry => Sys2Proof.Machine.execInrushRetry s
  | .removalRequest source => Sys2Proof.Machine.execRemovalRequest source s
  | .removalInflightEnd => Sys2Proof.Machine.execRemovalInflightEnd s
  | .removalDrainEnd => Sys2Proof.Machine.execRemovalDrainEnd s
  | .hpCfg src => Sys2Proof.Machine.execHpCfg src s
  | .hpResume src => Sys2Proof.Machine.execHpResume src s
  | .hpResumeComplete => Sys2Proof.Machine.execHpResumeComplete s
  | .thermalThreshold die deciC caseDeciC => Sys2Proof.Machine.execThermalThreshold die deciC caseDeciC s
  | .thermalHoldEnd temps => Sys2Proof.Machine.execThermalHoldEnd temps s
  | .perstNRelease => Sys2Proof.Machine.execPerstNRelease s
  | .pcieLinkUp msixEnable => Sys2Proof.Machine.execPcieLinkUp msixEnable s
  | .aethenoDelayReceive f => Sys2Proof.Machine.execAethenoDelayReceive f s
  | .lcRecoverComplete => Sys2Proof.Machine.execLcRecoverComplete s

end Sys2Proof.Machine
end

