-- ==== Sys2Proof/Safety.lean ====
section
/-! DEFINITION. The terms in which claims are stated: a request that waits to be carried out, its answer, a run that nothing stops,
and the canonical form of the memories. -/

namespace Sys2Proof.Machine

open Sys2Proof

/-- The source holds request `r` with opcode `op`, taken or fetched and not yet carried out, and the legal log does not hold an
MB1 command back (R51, R71, R210). -/
def Ready (op : Nat) (src : Src) (r : Req) (s : State) : Prop :=
  src.exists = true ∧ takenReq s src = some r ∧ r.opcode = op ∧ (isMb1 src = true → legalFull s = false)

/-- The logbook code under which an MB1 command enters the legal log (R209). -/
def changeCode (r : Req) (rep : Reply) : Nat :=
  match opRow r.opcode with
  | some row => if rep.legal = 0 then row.legal else rep.legal
  | none => rep.legal

/-- The answer of a command whose effect on `s` gave `t`: the legal log entry of an accepted MB1 command, then the response or the
completion (R51, R58, R72, R209). -/
def answer (src : Src) (r : Req) (rep : Reply) (s t : State) : State :=
  respond src r (srcKey s src r) rep (if accepted rep.status && !rep.later then mb1Entry src r (changeCode r rep) t else t)

/-- The command `c` of opcode `op` completes: where the source and the request meet `pre`, a waiting request is answered with `rep`,
and the rest of the state is `eff`. -/
def Completes (op : Nat) (c : Src → Instr) (pre : Src → Req → State → Prop) (rep : Src → Req → State → Reply)
    (eff : Src → Req → State → State) : Prop :=
  ∀ src r s, Ready op src r s → pre src r s → exec (c src) s = .next (answer src r (rep src r s) s (eff src r s))

/-- A command of opcode `op` that waited for a public-key engine is carried out at the end of its operation: where source and request
still meet `pre`, it is answered with `rep`, and its effect is `eff` (R451, R452). -/
def Signed (op : Nat) (pre : Src → Req → State → Prop) (rep : Src → Req → State → Reply) (eff : Src → Req → State → State) : Prop :=
  ∀ m r q s, q.job = .command m r → r.opcode = op → (mbOf s m).started = true → (m = 1 → legalFull s = false) →
    pre (.mb m) r s → pkeDone q s = answer (.mb m) r (rep (.mb m) r s) s (eff (.mb m) r s)

/-- The command `c` of opcode `op` is turned away: where the source and the request meet `pre`, a waiting request is answered with
the status `st`, and nothing but that answer happens. -/
def TurnsAway (op : Nat) (c : Src → Instr) (pre : Src → Req → State → Prop) (st : Status) : Prop :=
  ∀ src r s, Ready op src r s → pre src r s → exec (c src) s = .next (respond src r (srcKey s src r) (fail st) s)

/-- The step does not stop: it answers a next state. -/
def Runs (s : State) : Prop := ∃ t, step s = .next t

/-- Every waiting command is well formed. -/
def QueueWellFormed (s : State) : Prop := ∀ c ∈ s.pending, c.wellFormed = true

/-- The memories have their canonical form: mailbox areas, image banks and the capture memory (R50, R456, R177). -/
def MemoriesCanonical (s : State) : Prop :=
  s.host.areas.wf = true ∧ s.firm.flash0.wf = true ∧ s.firm.flash1.wf = true ∧ tabWf 0 s.meter.capture = true

/-- No index of the table is listed twice. -/
def DistinctKeys {α : Type} (t : Tab α) : Prop := (t.map Prod.fst).Nodup

/-- What is never taken back (R204, R210, R425): an entry of the legal log, a count of a tamper class, a blown fuse of the
thermometer. -/
structure LastingKept (s t : State) : Prop where
  entries : s.legal.entries <:+ t.legal.entries
  tamper : ∀ c, min (look {} s.legal.tamper c).count (2 ^ 36 - 1) ≤ (look {} t.legal.tamper c).count
  fuses : ∀ k, bitOf s.keys.thermo k = true → bitOf t.keys.thermo k = true

/-- The newer valid record of every tamper class holds the count in force (R203), which fits its 36 bits. -/
def TamperStored (s : State) : Prop :=
  ∀ p ∈ s.legal.tamper, p.2.count < 2 ^ 36 ∧ (restoreTamper p.2).count = p.2.count

/-- The verdicts on a sequence of verified frames of one context, each a counter and a fingerprint (R378). -/
def verdicts : Ctx → List (Nat × Nat) → List Verdict
  | _, [] => []
  | c, (ic, f) :: l => (replayDecide c ic f).1 :: verdicts (replayDecide c ic f).2 l

end Sys2Proof.Machine
end

