-- ==== Sys2Proof/Certificates/Slice0/Obligations.lean ====
section
/-! DEFINITION. The statements for the provers: what each command row does where it completes, and what the module keeps to whatever it is
told. Each docstring names the rules of spec/ it rests on. -/

open Sys2Proof Sys2Proof.Machine

/-- Power domains, DRAM and fabric (R20–R44). PD_SET, PD_STATUS, DRAM_ARB_SET, FABRIC_STATUS (R26–R28, R33, R38, R554, R555): where
their checks pass they are answered with the fields of their table. PD_SET of another state starts a transition with ACCEPTED;
the end of the transition, its 20 ms limit and the promotion of a DRAM request have their effect. The fabric word error, the
root PLL rows, the withheld credits and the coupling groups have their effect (R21, R32, R40, R43, R480). -/
def Obligations.PowerAndFabricRowsTakeEffect : Prop :=
  -- a switch-on: persisted, powered, F3_LIMIT cleared, the transition runs
  (∀ m d, 3 ≤ d ∧ d ≤ 11 → Completes 0x0120 .pdSet
    (fun src r s => src = .mb m ∧ arg r 0 1 = d ∧ arg r 1 1 = 1 ∧ bitOf s.power.on d = false ∧ s.power.transition = none
      ∧ (∀ e ∈ dependsOn d, powered s e = true) ∧ activating s = false ∧ s.power.removePending = false)
    (fun _ _ s => { status := .accepted, legal := if d = 10 ∧ s.legal.state ≠ .inService then 0x40F else 0 })
    (fun _ _ s => { s with
      log := { s.log with f3Limit := false }
      power := { s.power with
        on := bitSet s.power.on d, persisted := bitSet s.power.persisted d,
        transition := some { domains := [d], on := true, by_ := .pdSet m } } }))
  -- a switch-off: persisted, the units leave steering and admission, the transition runs
  ∧ (∀ m d, 3 ≤ d ∧ d ≤ 11 → Completes 0x0120 .pdSet
    (fun src r s => src = .mb m ∧ arg r 0 1 = d ∧ arg r 1 1 = 0 ∧ bitOf s.power.on d = true ∧ s.power.transition = none
      ∧ (∀ e ∈ dependents d, bitOf s.power.on e = false) ∧ activating s = false
      ∧ (d = 10 → s.legal.state = .decommissioned))
    (fun _ _ _ => { status := .accepted })
    (fun _ _ s => withdraw d { s with power := { s.power with
      persisted := bitClear s.power.persisted d, transition := some { domains := [d], on := false, by_ := .pdSet m } } }))
  ∧ Completes 0x0121 .pdStatus (fun _ _ _ => True)
    (fun _ _ s =>
      { payload := le16 (ofBits ((List.range 12).map (powered s))) ++ le16 (ofBits ((List.range 12).map (inTransition s)))
          ++ le16 s.power.supplyFault ++ le8 (b2n s.power.pllLocked) ++ le8 (b2n s.power.bypass) })
    (fun _ _ s => s)
  ∧ Completes 0x0122 .dramArbSet
    (fun _ r s => active s 6 = true ∧ isFenced s 92 = false ∧ (1 ≤ arg r 0 1 ∧ arg r 0 1 ≤ 15) ∧ (1 ≤ arg r 1 1 ∧ arg r 1 1 ≤ 15)
      ∧ (1 ≤ arg r 2 1 ∧ arg r 2 1 ≤ 15))
    (fun _ r _ => { payload := le8 (arg r 0 1) ++ le8 (arg r 1 1) ++ le8 (arg r 2 1) })
    (fun _ r s => { s with power := { s.power with weights := (arg r 0 1, arg r 1 1, arg r 2 1) } })
  -- FABRIC_STATUS: the occupancies and counts are free values within the bounds of R33
  ∧ (∀ src r s, Ready 0x0123 src r s → arg r 0 1 ≤ 5 →
    ∃ a b t w t', a ≤ reservedWords (arg r 0 1) ∧ b ≤ sharedWords (arg r 0 1) ∧ t'.power = s.power ∧ t'.host = s.host ∧
      exec (.fabricStatus src) s = .next (answer src r { payload := le16 a ++ le16 b ++ le32 t ++ le64 w } s t'))
  -- a transition of PD_SET ends: power follows, the final response is OK with the domain and its state, and a removal that
  -- waited for it switches the domains off
  ∧ (∀ failed s m d on, fabricUp s = true → (∃ x, s.power.transition = some { domains := [d], on := on, by_ := .pdSet m, discarded := x }) →
    exec (.pdTransitionComplete failed) s =
      .next (awaitedOff (finishMb m .ok (le8 d ++ le8 (b2n on))
        (let t := if on then powerUp d failed s else powerOff d s
         { t with power := { t.power with transition := none } }))))
  ∧ (∀ s d by_, s.power.transition = some { domains := [d], on := false, by_ := by_, discarded := false } →
    exec .pdOffWorkDiscard s = .next (let t := discardDomain d s
      { t with power := { t.power with transition := some { domains := [d], on := false, by_ := by_, discarded := true } } }))
  ∧ (∀ c s, c = 2 ∨ c = 3 ∨ c = 4 → active s 6 = true → fabricUp s = true →
    exec (.dramRequestPromotion c) s = .next { s with power := { s.power with
      promoted := c :: s.power.promoted.filter (· != c) } })
  -- a bad word: it is discarded, retransmission is asked of the sending hop, and an F1 of the link is counted
  ∧ (∀ hop w s, wordBad w = true → fabricUp s = true → s.log.restart = none →
    ((look [] s.log.retransmits hop).filter fun t => decide (tb1Us s < t + 1000)).length < 16 →
    exec (.fabricWordError hop w) s = .next
      (countedFault 3 0xC14 1 0xFFFF [snapN hop, snapN (wordClass w)] (emit (.retransmit hop) { s with log := { s.log with
          retransmits := put [] s.log.retransmits hop
            (tb1Us s :: (look [] s.log.retransmits hop).filter fun t => decide (tb1Us s < t + 1000)) } })))
  -- lock is lost: PD10 goes to bypass, an external reference gives way, and an F3 of unit 136 is taken
  ∧ (∀ hz s, s.power.pllLocked = true → bitOf s.power.on 10 = true → s.power.refExternal = true →
    exec (.pllLockLoss hz) s = .next (raiseFault 136 0xC17 3 0xFFFF
        [snapN ((tbVal s 1 - s.power.lockAt).toNat * 1000000 / 2 ^ 36)]
      (logEv 0x136 136 0xFFFF [snapN 2, snapN hz]
        (let t := logBypass 1 { s with power := { s.power with pllLocked := false, bypass := true } }
         { t with power := { t.power with refExternal := false } }))))
  ∧ (∀ s, s.power.aux = true → s.power.pllLocked = false → s.power.bypass = true →
    exec .pllLockRegain s = .next
      (let t := logBypass 0 { s with power := { s.power with pllLocked := true, lockAt := tbVal s 1, bypass := false } }
       if fabricUp t then followTb0 t else t))
  -- withheld credits: V235, then an F3 of the host link while the supervision runs
  ∧ (∀ s, fabricUp s = true → s.host.linkUp = true → s.host.creditHeld = false → s.host.creditSeen = true →
    exec .creditWithholdTimeout s = .next (raiseFault 97 0xC14 3 0xFFFF [snapN 97]
      (let t := raiseV 235 s
       { t with host := { t.host with creditHeld := true, creditSeen := false } })))
  -- a coupling group takes exactly the named members
  ∧ (∀ src r s, Ready 0x0610 src r s → plOff s = false → arg r 0 1 ≤ 7 →
    (∀ n ∈ maskChannels (arg r 1 2), plFenced s n = false ∧ transmitting (plOf s n) = false
      ∧ (groupOf s n = none ∨ groupOf s n = some (arg r 0 1))) →
    ∃ table, exec (.plCouplingSet src) s = .next (answer src r
        { payload := (List.range 8).flatMap fun k => le16 (membersOf { s with line := { s.line with coupling := table } } k) } s
        { s with line := { s.line with coupling := table } })
      ∧ table = (List.range 16).foldl (fun t n =>
          if bitOf (arg r 1 2) n then put 0 t n (arg r 0 1 + 1)
          else if look 0 t n = arg r 0 1 + 1 then put 0 t n 0 else t) s.line.coupling)

/-- The mailboxes (R47, R50, R51, R53, R55, R59, R60): a GO hands over a request or sets OVERRUN, and the module takes a request. -/
def Obligations.MailboxesTakeRequests : Prop :=
  -- GO while OWN = 0 and DONE = 0 is set, with its path and its place in the order of arrival (R54); the other bits of the write take effect
  (∀ n v path s, 0 < n → n < 64 → fabricUp s = true → v.getLsbD 0 = true → (mbOf s n).own = false → (mbOf s n).done = false →
    (mbOf s n).go = false →
    exec (.mbGoWrite n v path) s = .next (setMb n { mbOf s n with
      go := true, goSmp := decide (path = .smp), overrun := (mbOf s n).overrun && !v.getLsbD 3 } (queueGo n s)))
  -- GO while OWN or DONE was 1, or in MB0, sets OVERRUN and is not taken; DONE written as 1 clears in the same write
  ∧ (∀ n v path s, n < 64 → fabricUp s = true → v.getLsbD 0 = true → ((mbOf s n).own = true ∨ (mbOf s n).done = true ∨ n = 0) →
    exec (.mbGoWrite n v path) s = .next (setMb n { mbOf s n with
      overrun := true, done := (mbOf s n).done && !v.getLsbD 2 } s))
  -- a request that passes steps 1 to 5 is copied; OWN is set and GO clears
  ∧ (∀ n s, 4 ≤ n → n < 64 → served s = true → (mbOf s n).go = true → (mbOf s n).own = false →
    (∀ r, r = parseReq (readBytes s.host.areas (0x400 * n) 512) (mbOf s n).goSmp →
      earlyCheck (setMb n { mbOf s n with go := false, own := true, taken := some r, started := false } s) n
          (fieldU (readBytes s.host.areas (0x400 * n) 512) 4 2) r = none →
      lifecycleFails (setMb n { mbOf s n with go := false, own := true, taken := some r, started := false } s) r true = false →
      exec (.mailboxRequestTake n) s = .next
        (setMb n { mbOf s n with go := false, own := true, taken := some r, started := false } s)))
  -- while the module owns a mailbox, a write to its request area changes nothing; otherwise the bytes are stored
  ∧ (∀ n k w v path s, n < 64 → w ∈ [1, 2, 4, 8] → k < 512 → k % w = 0 → fabricUp s = true →
    exec (.registerWrite (0x10000 + 0x400 * n + k) w v path) s = .next
      (if (mbOf s n).own then s
       else { s with host := { s.host with areas := writeBytes s.host.areas (0x400 * n + k) (leBytes w v.toNat) } }))

/-- The queues (R62, R63, R66–R68, R70–R72, R75): what enabling, indices, consumption, fetching and delivery do. -/
def Obligations.QueueAccessesTakeEffect : Prop :=
  -- enabling a harvest queue resets its counters, indices and sequence number
  (∀ q s, q < 128 → fabricUp s = true → (hqOf s q).en = false → cellsLegal (hqOf s q).cfg = true → hqMode (hqOf s q).cfg < 3 →
    exec (.qCtrlEnWrite q 1#32) s = .next (setHq q { hqOf s q with
      en := true, pkts := 0, written := 0, freed := 0, seqNext := 0, ring := [], counted := 0, popCell := 0 } s))
  -- a size outside 6 to 20, or a reserved MODE, is refused with ERROR
  ∧ (∀ q s, q < 128 → fabricUp s = true → (hqOf s q).en = false →
    (cellsLegal (hqOf s q).cfg = false ∨ 3 ≤ hqMode (hqOf s q).cfg) →
    exec (.qCtrlEnWrite q 1#32) s = .next (setHq q { hqOf s q with error := true } s))
  -- consumption of n packets frees the cells of the n oldest ones
  ∧ (∀ q (n : Word32) s, q < 128 → fabricUp s = true → 0 < n.toNat → n.toNat ≤ (hqOf s q).pkts → hqMode (hqOf s q).cfg = 0 →
    flushOpen s q = false →
    exec (.hqConsumedWrite q n) s = .next (writeBack q (setHq q { hqOf s q with
      pkts := (hqOf s q).pkts - n.toNat, ring := (hqOf s q).ring.drop n.toNat
      freed := (hqOf s q).freed + BitVec.ofNat 32 (sumN ((hqOf s q).ring.take n.toNat)) } s)))
  -- a write of 0, or of more than HQn_PKTS, changes nothing and sets ERROR
  ∧ (∀ q (n : Word32) s, q < 128 → fabricUp s = true → (n = 0 ∨ (hqOf s q).pkts < n.toNat) →
    exec (.hqConsumedWrite q n) s = .next (setHq q { hqOf s q with error := true } s))
  -- a tail within the ring that does not pass the head is taken, and the flushes among the posted entries open (R69); one outside the ring sets ERROR
  ∧ (∀ q (v : Word32) fl s, q < 64 → fabricUp s = true → v.toNat < ringSize (sqOf s q).cfg →
    (v.toNat + ringSize (sqOf s q).cfg - (sqOf s q).tail) % ringSize (sqOf s q).cfg
      ≤ ((sqOf s q).head + ringSize (sqOf s q).cfg - (sqOf s q).tail - 1) % ringSize (sqOf s q).cfg →
    exec (.sqTailWrite q ⟨v, fl⟩) s = .next (setSq q { sqOf s q with tail := v.toNat, flushes := (sqOf s q).flushes ++ fl } s))
  ∧ (∀ q (v : Word32) fl s, q < 64 → fabricUp s = true → ringSize (sqOf s q).cfg ≤ v.toNat →
    exec (.sqTailWrite q ⟨v, fl⟩) s = .next (setSq q { sqOf s q with error := true } s))
  -- a head outside the ring sets ERROR; one within the written span returns the entries and ends the flush intervals among them
  ∧ (∀ q (v : Word32) s, q < 64 → fabricUp s = true → ringSize (cqOf s q).cfg ≤ v.toNat →
    exec (.cqHeadWrite q v) s = .next (setCq q { cqOf s q with error := true } s))
  ∧ (∀ q (v : Word32) s, q < 64 → fabricUp s = true → v.toNat < ringSize (cqOf s q).cfg →
    (v.toNat + ringSize (cqOf s q).cfg - (cqOf s q).head) % ringSize (cqOf s q).cfg
      ≤ ((cqOf s q).tail + ringSize (cqOf s q).cfg - (cqOf s q).head) % ringSize (cqOf s q).cfg →
    exec (.cqHeadWrite q v) s = .next (endFlushes q (cqOf s q).head
      ((v.toNat + ringSize (cqOf s q).cfg - (cqOf s q).head) % ringSize (cqOf s q).cfg) (ringSize (cqOf s q).cfg) (hqKeys s)
      (setCq q { cqOf s q with head := v.toNat } s)))
  -- an entry is fetched while the queue is enabled and not drained, a completion entry can be reserved, and admission is open
  ∧ (∀ q cell buffer s, q < 64 → served s = true → pcieServes s = true → (sqOf s q).en = true → (sqOf s q).closing = false →
    (sqOf s q).head ≠ (sqOf s q).tail → cqHasRoom (cqOf s (cqNum (sqOf s q).cfg)) = true →
    submitOpen (parseEntry cell buffer) s = true →
    exec (.sqEntryFetch q cell buffer) s = .next (takeEntry q (fieldU cell 4 2) (parseEntry cell buffer) s))
  -- the next packet of a MODE 0 queue goes to the ring when its cells are free
  ∧ (∀ q p s, q < 128 → (hqOf s q).en = true → hqMode (hqOf s q).cfg = 0 → fabricUp s = true → pcieServes s = true →
    nextPacket (hqOf s q) = .pond p → packetCells p + ringInUse (hqOf s q) ≤ ringSize (hqOf s q).cfg →
    exec (.packetWriteToRing q) s = .next (ringWrite q p (takeNext q (.pond p) s)))
  -- TAIL_TIMEOUT closes the filling pan, after a pan that cannot go on has spilled to the pond (R68); MOD_TIME raises the vector of a queue with a counted item
  ∧ (∀ q s t, q < 128 → t = spillStuck q s → (hqOf t q).en = true → (fillPan (hqOf t q)).pkts ≠ [] →
    (fillPan (hqOf t q)).handed = false →
    exec (.panTailTimeout q) s = .next (handOff q (setHq q
      (setFill (hqOf t q) { fillPan (hqOf t q) with closing := true }) t)))
  ∧ (∀ q s, q < 128 → (hqOf s q).counted ≠ 0 →
    exec (.vectorModerationTimeout q) s = .next (raiseV q (setHq q { hqOf s q with counted := 0 } s)))
  ∧ (∀ q s, q < 64 → (cqOf s q).counted ≠ 0 →
    exec (.vectorModerationTimeout (192 + q)) s = .next (raiseV (128 + q) (setCq q { cqOf s q with counted := 0 } s)))

/-- The commands of the queues and the plain registers complete (R12, R47, R62, R69, R71, R75): Q_INFO, HQ_FLUSH, SQ_NOP, INT_TEST, a
register write and the read of a read-clear register. -/
def Obligations.QueueCommandsAndRegistersComplete : Prop :=
  Completes 0x0D01 .qInfo (fun _ r _ => arg r 0 1 < 128)
    (fun _ r s =>
      { payload := le32 (qCtrlRead s (arg r 0 1)) ++ le32 (hqOf s (arg r 0 1)).pkts ++ le32 (pondCells (hqOf s (arg r 0 1)))
          ++ le32 (hqOf s (arg r 0 1)).seqNext })
    (fun _ _ s => s)
  -- HQ_FLUSH discards every whole packet that waits in ring, pans and pond, and INFO carries their number
  ∧ (∀ sq idx r s, Ready 0x0D02 (.sq sq idx) r s → arg r 0 1 < 128 →
    exec (.hqFlush (.sq sq idx)) s = .next (answer (.sq sq idx) r { info := waiting (hqOf s (arg r 0 1)) } s
      (flushHq (arg r 0 1) s)))
  ∧ Completes 0x0D03 .sqNop (fun _ _ _ => True) (fun _ _ _ => {}) (fun _ _ s => s)
  ∧ Completes 0x0D04 .intTest (fun _ r _ => arg r 0 1 ≤ 236) (fun _ _ _ => {}) (fun _ r s => raiseV (arg r 0 1) s)
  -- SCRATCH holds the last value written and has no other effect
  ∧ (∀ (v : Word64) path s, fabricUp s = true → v.toNat < 2 ^ 32 →
    exec (.registerWrite 0x24 4 v path) s = .next { s with host := { s.host with scratch := BitVec.ofNat 32 v.toNat } })
  -- a write narrower than 32 bits to a register is ignored
  ∧ (∀ off w v path s, (w = 1 ∨ w = 2) → (off < 0x10000 ∨ 0x20000 ≤ off) → exec (.registerWrite off w v path) s = .next s)
  -- a ring base is taken while the queue is disabled; while it is enabled the write is ignored with ERROR
  ∧ (∀ q (v : Word64) path s, q < 128 → fabricUp s = true →
    ∃ t, exec (.registerWrite (0x100000 + 64 * q) 8 v path) s = .next t ∧
      t = holdLow (0x100000 + 64 * q) 0 (setHq q
        (if (hqOf s q).en then { hqOf s q with error := true } else { hqOf s q with ringBase := v }) s))
  -- the 32-bit read of FAULT_COUNT_F1 answers the count and clears it
  ∧ (∀ s, fabricUp s = true → exec (.rcRegisterRead ⟨0x500030, 4⟩ .pcie) s = .next
      (emit (.readData 0 (le32 (s.log.countF1 % 2 ^ 32))) { s with log := { s.log with countF1 := 0 } }))
  -- the read of RST_CAUSE answers the causes and clears them
  ∧ (∀ s, fabricUp s = true → exec (.rcRegisterRead ⟨0x600004, 4⟩ .pcie) s = .next
      (emit (.readData 0 (le32 s.power.rstCause)) { s with power := { s.power with rstCause := 0 } }))

/-- The frames of the sideband port (R70, R78, R79): WRITE, READ, STATUS, POP and its cancellation. -/
def Obligations.SidebandFramesAreServed : Prop :=
  -- a WRITE with a correct CRC is applied; any other is discarded whole, with SMP_STATUS bits 0 and 1
  (∀ f s, smpServes s = true → s.host.popStall = none → byteAt f 0 = 2 → 6 ≤ f.length → writeGood f = true →
    exec (.smpWrite f) s = .next (smpWords (frameWords f) (frameOff f) (f.drop 6) (setSmp 4 0 s)))
  ∧ (∀ f s, smpServes s = true → s.host.popStall = none → byteAt f 0 = 2 → 6 ≤ f.length → writeGood f = false →
    exec (.smpWrite f) s = .next (setSmp 4 3 s))
  -- a READ answers the marker 0xA5, the words from its offset on, and the CRC over header and data
  ∧ (∀ f s, smpServes s = true → s.host.popStall = none → byteAt f 0 = 3 → 6 ≤ f.length → frameWords f ≤ 64 → frameOff f % 4 = 0 →
    exec (.smpRead f) s = .next
      (let d := readWords (frameWords f) (frameOff f) s
       emit (.readData 1 (0xA5#8 :: d.1 ++ [crc8 (f.take 6 ++ d.1)])) d.2))
  -- STATUS answers SMP_STATUS with the link bit, and its CRC
  ∧ (∀ f s, smpServes s = true → s.host.popStall = none → byteAt f 0 = 5 → 6 ≤ f.length →
    ∃ b : Byte, b = BitVec.ofNat 8 (s.host.smpStatus % 8 + 8 * b2n s.host.linkUp) ∧
      exec (.smpStatus f) s = .next (emit (.readData 1 [b, crc8 (f.take 6 ++ [b])]) s))
  -- a POP of an enabled MODE 1 queue with a cell available answers the cell
  ∧ (∀ f q cell t s, smpServes s = true → s.host.popStall = none → byteAt f 0 = 0x0B → 6 ≤ f.length → popQueue f s = some q →
    popCell q { s with host := { s.host with popStall := some q } } = some (cell, t) →
    exec (.smpPop f) s = .next (smpAnswer (popHeader q) cell (setSmp 3 0 { t with host := { t.host with popStall := none } })))
  -- on an empty queue it stalls
  ∧ (∀ f q s, smpServes s = true → s.host.popStall = none → byteAt f 0 = 0x0B → 6 ≤ f.length → popQueue f s = some q →
    nextPacket (hqOf s q) = .none →
    exec (.smpPop f) s = .next { s with host := { s.host with popStall := some q } })
  -- a POP that is not served answers 0xE1, consumes no cell and sets SMP_STATUS bit 2
  ∧ (∀ f s, smpServes s = true → s.host.popStall = none → byteAt f 0 = 0x0B → 6 ≤ f.length → popQueue f s = none →
    exec (.smpPop f) s = .next (emit (.readData 1 [0xE1#8]) (setSmp 3 4 s)))
  -- a stalled POP that is cancelled consumes no cell and sets SMP_STATUS bit 2
  ∧ (∀ q s, s.host.popStall = some q → nextPacket (hqOf s q) = .none →
    exec .smpPopCancel s = .next (setSmp 3 4 { s with host := { s.host with popStall := none } }))

/-- The time-base commands complete (R86, R91–R98, R110, R116, R122): TB_INFO, TB_SET, TB_STEP, TB_LIMIT_SET, TB_SOURCE_SET,
TB_UTC_OFFSET_SET, TB_DECLARE_LOST and TB2_TRIM_SET. -/
def Obligations.TimeBaseCommandsComplete : Prop :=
  Completes 0x0201 .tbInfo
    (fun _ r s => arg r 0 1 < 12 ∧ active s (tbDomain (arg r 0 1)) = true)
    (fun _ r s =>
      let n := arg r 0 1
      { payload := le32 (tbStatus (tb s n)) ++ le32 (tbCtrl (tb s n)) ++ le72 (tbTime (tb s n)) ++ le64 (tb s n).inc
          ++ le72 (tb s n).limit ++ le64 (tbAux s n) })
    (fun _ _ s => s)
  -- TB_SET of a base that is not VALID is an initial set
  ∧ (∀ m, Completes 0x0202 .tbSet
    (fun src r s => src = .mb m ∧ settable (arg r 0 1) = true ∧ active s (tbDomain (arg r 0 1)) = true
      ∧ isFenced s (tbUnit (arg r 0 1)) = false ∧ sourceDenies s (arg r 0 1) = false ∧ arg r 10 1 = 0
      ∧ ppsWaits s (arg r 0 1) = false ∧ (tb s (arg r 0 1)).valid = false)
    (fun _ r _ => { payload := le72 (argT r 1) ++ le8 1, legal := 0x204 })
    (fun _ r s => initialSet (arg r 0 1) (argT r 1) s))
  -- TB_SET of a VALID base is a step: it waits for the next fabric edge, and joins a step that waits there already (R92, R95)
  ∧ (∀ m, Completes 0x0202 .tbSet
    (fun src r s => src = .mb m ∧ settable (arg r 0 1) = true ∧ active s (tbDomain (arg r 0 1)) = true
      ∧ isFenced s (tbUnit (arg r 0 1)) = false ∧ sourceDenies s (arg r 0 1) = false ∧ arg r 10 1 = 0
      ∧ ppsWaits s (arg r 0 1) = false ∧ (tb s (arg r 0 1)).valid = true)
    (fun _ _ _ => { later := true })
    (fun _ r s => addPend (arg r 0 1) (timeDiff (argT r 1) (tbVal s (arg r 0 1))) (some m) s))
  -- TB_SET with WHEN 1 waits for the next PPS_IN edge
  ∧ (∀ m, Completes 0x0202 .tbSet
    (fun src r s => src = .mb m ∧ settable (arg r 0 1) = true ∧ active s (tbDomain (arg r 0 1)) = true
      ∧ isFenced s (tbUnit (arg r 0 1)) = false ∧ sourceDenies s (arg r 0 1) = false ∧ arg r 10 1 = 1
      ∧ ppsWaits s (arg r 0 1) = false)
    (fun _ _ _ => { status := .accepted })
    (fun _ r s => { s with clock := { s.clock with pps := s.clock.pps ++ [{ base := arg r 0 1, value := argT r 1, mb := m }] } }))
  -- TB_STEP of a VALID base waits for the next fabric edge; of a base that is lost or not VALID it is refused with TIME_LOST
  ∧ (∀ m, Completes 0x0203 .tbStep
    (fun src r s => src = .mb m ∧ settable (arg r 0 1) = true ∧ active s (tbDomain (arg r 0 1)) = true
      ∧ isFenced s (tbUnit (arg r 0 1)) = false ∧ sourceDenies s (arg r 0 1) = false
      ∧ ppsWaits s (arg r 0 1) = false ∧ (tb s (arg r 0 1)).valid = true ∧ (tb s (arg r 0 1)).lost = false)
    (fun _ _ _ => { later := true })
    (fun _ r s => addPend (arg r 0 1) (argS r 1 9) (some m) s))
  ∧ (∀ m, Completes 0x0203 .tbStep
    (fun src r s => src = .mb m ∧ settable (arg r 0 1) = true ∧ active s (tbDomain (arg r 0 1)) = true
      ∧ isFenced s (tbUnit (arg r 0 1)) = false ∧ sourceDenies s (arg r 0 1) = false
      ∧ ((tb s (arg r 0 1)).lost = true ∨ (tb s (arg r 0 1)).valid = false)
      ∧ ((tb s (arg r 0 1)).valid = true → ppsWaits s (arg r 0 1) = false))
    (fun _ _ _ => { status := .timeLost })
    (fun _ r s => refuseStep (arg r 0 1) (argS r 1 9) s))
  ∧ Completes 0x0204 .tbLimitSet
    (fun _ r s => settable (arg r 0 1) = true ∧ active s (tbDomain (arg r 0 1)) = true
      ∧ isFenced s (tbUnit (arg r 0 1)) = false ∧ (argT r 1).getLsbD 71 = false)
    (fun _ r _ => { payload := le72 (argT r 1) })
    (fun _ r s => setTb (arg r 0 1) { tb s (arg r 0 1) with limit := argT r 1 } s)
  -- TB_SOURCE_SET of TB8 to FREE: what the source it leaves had to report is logged, and it is locked to TB0 at once
  ∧ Completes 0x0205 .tbSourceSet
    (fun _ r s => arg r 0 1 = 8 ∧ arg r 1 1 = 4 ∧ active s 9 = true ∧ isFenced s 4 = false ∧ ppsWaits s 8 = false)
    (fun _ _ s => { payload := le32 (tbCtrl { tb (leaveSource 8 s) 8 with source := 4, locked := true, holdover := false, crossings := 0 }) })
    (fun _ _ s => setTb 8 { tb (leaveSource 8 s) 8 with source := 4, locked := true, holdover := false, crossings := 0 } (leaveSource 8 s))
  -- TB_UTC_OFFSET_SET at instant 0 applies at once; at another instant it waits
  ∧ Completes 0x0206 .tbUtcOffsetSet (fun _ r _ => argT r 2 = 0#72)
    (fun _ r s => { payload := leInt 2 (applyUtc (argS r 0 2) s).clock.utcOffset ++ le8 0 })
    (fun _ r s => applyUtc (argS r 0 2) s)
  ∧ Completes 0x0206 .tbUtcOffsetSet (fun _ r _ => argT r 2 ≠ 0#72)
    (fun _ _ s => { payload := leInt 2 s.clock.utcOffset ++ le8 1 })
    (fun _ r s => { s with clock := { s.clock with utcPending := some (argS r 0 2, argT r 2) } })
  ∧ Completes 0x0207 .tbDeclareLost
    (fun _ r s => settable (arg r 0 1) = true ∧ active s (tbDomain (arg r 0 1)) = true ∧ isFenced s (tbUnit (arg r 0 1)) = false)
    (fun _ r s => { payload := le72 (tbVal s (arg r 0 1)) })
    (fun _ r s => declareLost (arg r 0 1) s)
  ∧ Completes 0x0208 .tb2TrimSet
    (fun _ r _ => (argS r 0 4).natAbs ≤ 50000 ∧ (argS r 4 2).natAbs ≤ 1000)
    (fun _ r _ => { payload := leInt 2 Config.crystalT0 ++ le16 Config.crystalK ++ leInt 4 (argS r 0 4) ++ leInt 2 (argS r 4 2) })
    (fun _ r s => compensate { s with clock := { s.clock with trim := argS r 0 4, quad := argS r 4 2 } })

/-- The time-base accesses and events have their effect (R85, R91, R92, R97, R108, R110, R112, R113, R116, R117): TB_NOW_READ_LATCH,
TB_INC_WRITE, TB_STEP_HI_WRITE, UTC_OFFSET_EFFECTIVE, TB2_TEMPERATURE_SAMPLE, VBAT_LOW_DETECT, PPS_IN_EDGE, TB_SET_PPS_TIMEOUT,
ZERO_CROSSING, MAINS_CROSSING_MISSING, PTP_EVENT_MESSAGE and PTP_SYNC_TIMEOUT. -/
def Obligations.TimeBaseEventsTakeEffect : Prop :=
  (∀ n s, n < 12 → fabricUp s = true → exec (.tbNowReadLatch n 8) s =
      .next (emit (.readData 0 (leBytes 8 (tbVal s n).toNat)) (setTb n { tb s n with latched := tbVal s n } s)))
  -- an increment outside the limits of the host is clamped, INC_CLAMPED set, 0x202 written
  ∧ (∀ n (v : Word64) s, n < 12 → tbWritable s n = true → hostOwns s n = true → clampInc (v.toNat % 2 ^ 54) ≠ v.toNat % 2 ^ 54 →
      exec (.tbIncWrite n v) s = .next (logTb 0x202 n []
        (setTb n { tb s n with inc := clampInc (v.toNat % 2 ^ 54), incClamped := true } s)))
  -- an increment within them is taken as it is
  ∧ (∀ n (v : Word64) s, n < 12 → tbWritable s n = true → hostOwns s n = true → clampInc (v.toNat % 2 ^ 54) = v.toNat % 2 ^ 54 →
      exec (.tbIncWrite n v) s = .next (setTb n { tb s n with inc := v.toNat % 2 ^ 54 } s))
  -- the write of STEP_HI makes the held step wait for the next fabric edge; on a base that is lost or not VALID it is refused
  ∧ (∀ n (v : Word32) s, n < 12 → tbWritable s n = true → hostOwns s n = true → 
      exec (.tbStepHiWrite n v) s = .next
        (if (tb s n).valid = true ∧ (tb s n).lost = false
         then addPend n (signed 72 ((tb s n).stepLo.toNat + 2 ^ 64 * (v.toNat % 256))) none s
         else refuseStep n (signed 72 ((tb s n).stepLo.toNat + 2 ^ 64 * (v.toNat % 256))) s))
  -- at the edge a waiting step within STEP_LIMIT is applied to the base, and one beyond it is refused (R92, R93); each mailbox is answered
  ∧ (∀ n p s t, (tb s n).pend = some p → t = setTb n { tb s n with pend := none } s → (tb t n).valid = true → (tb t n).lost = false →
      settleStep n s = p.mbs.foldl (fun t' m => endStep n (if withinLimit (tb t n) p.sum then .ok else .timeRefused) m t')
        (if withinLimit (tb t n) p.sum then applyStep n p.sum t else refuseStep n p.sum t))
  ∧ (∀ o at_ s, s.clock.utcPending = some (o, at_) → at_.toNat ≤ (tbVal s 0).toNat →
      exec .utcOffsetEffective s = .next (logTb 0x20A 0 [] { s with clock := { s.clock with utcOffset := o, utcPending := none } }))
  ∧ (∀ t s, exec (.tb2TemperatureSample t) s = .next (compensate { s with clock := { s.clock with temp := t } }))
  ∧ (∀ s, s.power.main = false → s.clock.backupFail = false → exec .vbatLowDetect s = .next { s with
      clock := { s.clock with backupFail := true }, keys := { s.keys with sleepTrips := s.keys.sleepTrips ++ [(18, tbVal s 2)] } })
  -- a PPS edge captures milestone 2 where it is enabled, then applies every waiting TB_SET whose base is there
  ∧ (∀ (off : Word32) s, fabricUp s = true → bitOf s.clock.msEnable 1 = true → exec (.ppsInEdge off) s = .next
      (let t := capture 2 0 0 off.toNat s
       t.clock.pps.foldl (fun t p => if tbOff t p.base then finishMb p.mb .nores [] t
           else applyPps p (ppsPassed p (settleBase p.base t))) { t with clock := { t.clock with pps := [] } }))
  ∧ (∀ m p s, m < 64 → p ∈ s.clock.pps → p.mb = m → exec (.tbSetPpsTimeout m) s =
      .next (finishMb m .badarg [] { s with clock := { s.clock with pps := s.clock.pps.filter fun p => p.mb != m } }))
  -- a zero crossing reaches a waiting capture, the mains loops of its channel and the milestone trigger
  ∧ (∀ mp ch before after at_ c s, mp < 32 → bitOf s.power.on 10 = true → runs (pointOf s mp) = true → before < 0 → 0 ≤ after →
      c = crossingInstant before after at_ →
      exec (.zeroCrossing mp ch ⟨before, after⟩ at_) s = .next
        (let t := captureCrossing (slotAin (pointOf s mp).bind ch) (keepCrossing mp ch c s)
         let late := (tbVal s 3 - c).toNat
         if isolated t then t
         else crossingTrigger mp ch late ((mainsBases t mp ch).foldl
           (fun t n => mainsCrossing n late ((crossingsOf s mp ch).head?.map fun u => (c - u).toNat) t) t)))
  ∧ (∀ n s, n < 12 → (tb s n).source = 3 → ((tb s n).holdover = false ∨ (tb s n).crossings ≠ 0) →
      active s (tbDomain n) = true →
      exec (.mainsCrossingMissing n) s = .next
        (logTb 0x207 n [] (slotsFollow n (setTb n { tb s n with holdover := true, locked := false, inc := (tb s n).incF, crossings := 0 } s))))
  -- a delay request at a master port of profile 0 is answered with its receive time, corrected by the port's ingress delay; a Sync at
  -- the client port drives TB0
  ∧ (∀ m s, m.port < 4 → fabricUp s = true → active s 7 = true → isFenced s (93 + m.port) = false → ptpGives s m.port = true →
      (ptpOf s m.port).profile = 0 → m.kind = 1 →
      exec (.ptpEventMessage m) s = .next (emit (.frame (32 + m.port) (le8 9 ++ beBytes 2 m.seq ++ beBytes 8 (unsigned 64 m.correction)
        ++ ptpStamp (tbVal s 0 - BitVec.ofInt 72 (psTime (ptpOf s m.port).ingress)))) s))
  ∧ (∀ m s, m.port < 4 → fabricUp s = true → active s 7 = true → isFenced s (93 + m.port) = false → (ptpOf s m.port).role = 1 → m.kind = 0 →
      (tb s 0).source = 1 → m.valid = true → m.secondsHigh = 0 → exec (.ptpEventMessage m) s = .next (ptpSync (ptpOffset m s) s))
  ∧ (∀ s, (tb s 0).source = 1 → (tb s 0).holdover = false → exec .ptpSyncTimeout s =
      .next (logTb 0x209 0 [] (setTb 0 { tb s 0 with holdover := true, locked := false } s)))

/-- Milestones, PTP and Aetheno (R100, R102–R104, R118, R119, R121, R122): MS_TRIGGER_SET, MS_CAPTURE, MS_SCHEDULE, PTP_PORT_CFG,
AETHENO_CFG complete, and MS_POP_WRITE and the Aetheno frames have their effect. -/
def Obligations.MilestoneAndChainRowsComplete : Prop :=
  Completes 0x0209 .msTriggerSet
    (fun _ r s => isFenced s 4 = false ∧ arg r 0 1 = 2)
    (fun _ _ _ => { payload := le8 2 })
    (fun _ _ s => { s with clock := { s.clock with msEnable := 2 } })
  ∧ Completes 0x0209 .msTriggerSet
    (fun _ r s => isFenced s 4 = false ∧ active s 10 = true ∧ arg r 0 1 = 1 ∧ arg r 1 1 < 32 ∧ arg r 2 1 < 4 ∧ arg r 3 2 ≠ 0)
    (fun _ _ _ => { payload := le8 1 })
    (fun _ r s => { s with clock := { s.clock with
      msEnable := 1, zcMp := arg r 1 1, zcCh := arg r 2 1, zcEvery := arg r 3 2, zcCount := 0 } })
  -- MS_CAPTURE: the milestone takes the next sequence number, which is answered
  ∧ Completes 0x020A .msCapture (fun _ _ _ => True)
    (fun _ _ s => { payload := le16 s.clock.msSeq }) (fun _ r s => capture 4 0 (arg r 0 2) 0 s)
  ∧ (∀ k, Completes 0x020B .msSchedule
    (fun _ r s => arg r 11 1 = 0 ∧ isFenced s 4 = false ∧ (tb s 0).valid = true ∧ freeSlot s = some k)
    (fun _ _ _ => { payload := le8 k })
    (fun _ r s => setSlot k (some { target := argT r 0, id := arg r 9 2 }) s))
  -- on the chain the master also sends a TRIGGER frame
  ∧ (∀ k, Completes 0x020B .msSchedule
    (fun _ r s => arg r 11 1 = 1 ∧ chainMaster s = true ∧ isFenced s 4 = false ∧ (tb s 0).valid = true ∧ freeSlot s = some k
      ∧ oneMs ≤ timeDiff (argT r 0) (tbVal s 0))
    (fun _ _ _ => { payload := le8 k })
    (fun _ r s => emit (.frame 64 (triggerFrame (argT r 0) (arg r 9 2) false))
      (setSlot k (some { target := argT r 0, id := arg r 9 2 }) s)))
  ∧ Completes 0x020C .ptpPortCfg
    (fun _ r s => active s 7 = true ∧ arg r 0 1 < 4 ∧ isFenced s (93 + arg r 0 1) = false ∧ arg r 1 1 = 2 ∧ arg r 2 1 ≤ 1
      ∧ (arg r 3 1 = 1 ∨ arg r 3 1 = 2))
    (fun _ r _ => { payload := r.payload })
    (fun _ r s =>
      let c : PtpPort := { role := 2, profile := arg r 2 1, steps := arg r 3 1, ingress := argS r 4 4, egress := argS r 8 4 }
      { s with clock := { s.clock with ptp := put {} s.clock.ptp (arg r 0 1) c } })
  ∧ Completes 0x020D .aethenoCfg
    (fun _ r s => active s 7 = true ∧ isFenced s 98 = false ∧ arg r 0 1 = 1)
    (fun _ _ s => { payload := le8 s.clock.position ++ le8 (b2n (tb s 11).locked) ++ le32 s.clock.roundTrip })
    (fun _ r s => { s with clock := { s.clock with aetheno := true, asymIn := argS r 1 2, asymOut := argS r 3 2 } })
  ∧ (∀ (v : Word32) s, bitOf v.toNat 0 = true → fabricUp s = true →
      exec (.msPopWrite v) s = .next { s with clock := { s.clock with fifo := s.clock.fifo.tail } })
  ∧ (∀ s, aethenoUp s = true → exec .aethenoTimeSend s = .next (emit (.frame 64 (timeFrame s)) s))
  -- a frame with a wrong CRC breaks the run of good frames
  ∧ (∀ f s, aethenoUp s = true → f.crcOk = false →
      exec (.aethenoTimeReceive f) s = .next { s with clock := { s.clock with goodFrames := 0 } })
  -- a first good frame acquires TB11 in one hardware step and makes the module a member of the chain
  ∧ (∀ f s, aethenoUp s = true → f.crcOk = true → s.clock.syncIn = false → 32 ≤ f.hop →
      exec (.aethenoTimeReceive f) s = .next (followTb11
        (let t := acquireTb11 f.value { s with clock := { s.clock with
           syncIn := true, position := f.hop % 64, masterValid := f.masterValid } }
         { t with clock := { t.clock with goodFrames := 0 } })))
  -- a missed TIME frame: HOLDOVER with 0x208, VALID unchanged
  ∧ (∀ s, aethenoUp s = true → s.clock.syncIn = true → (tb s 11).holdover = false → exec .aethenoTimeMissed s = .next (followTb11
      (let t := { s with clock := { s.clock with goodFrames := 0 } }
       logTb 0x208 11 [] (setTb 11 { tb t 11 with holdover := true, locked := false } t))))
  ∧ (∀ s, aethenoUp s = true → exec .aethenoDelayExchange s = .next (emit (.frame 65 (le8 0 ++ le72 (tbVal s 11)))
      { s with clock := { s.clock with delaySent := some (tbVal s 11) } }))
  -- a response completes the round trip (t4 − t1) − (t3 − t2)
  ∧ (∀ f s, aethenoUp s = true → f.response = true → f.syncIn = true → s.clock.delaySent.isSome = true →
      exec (.aethenoDelayReceive f) s = .next { s with clock := { s.clock with
        roundTrip := unsigned 32 (((f.t4 : Int) - f.t1) - ((f.t3 : Int) - f.t2)), delaySent := none } })

/-- The configuration commands of metrology complete (R126, R137–R141, R147, R149, R159, R171, R173, R155): MET_CHAN_CFG, MET_BIND,
MET_CAL_SET, MET_REG_CFG, MET_OUTPUT_CFG, MET_INTERVAL_SET, MET_TPO_CFG and MET_THRESH_SET. Channel, binding, calibration and
register settings wait for the next tick boundary. -/
def Obligations.MetrologyConfigurationCompletes : Prop :=
  Completes 0x0302 .metChanCfg
    (fun _ r s => active s 10 = true ∧ isFenced s 125 = false ∧ arg r 0 1 < 96 ∧ arg r 1 1 ≤ 3 ∧ arg r 2 1 ≤ 5
      ∧ (arg r 1 1 = 1 → arg r 2 1 = 0) ∧ (arg r 1 1 ≠ kindNext s (arg r 0 1) → chanBound s (arg r 0 1) = false))
    (fun _ r s =>
      let t := setChan (arg r 0 1) { chanOf s (arg r 0 1) with pending := some (arg r 1 1, arg r 2 1, arg r 3 6) } s
      { payload := r.payload ++ le72 (nextTickTb3 (logMeter 0x302 0xFFFF (joinAlarms t (binds (arg r 0 1))) [] t)) })
    (fun _ r s =>
      let t := setChan (arg r 0 1) { chanOf s (arg r 0 1) with pending := some (arg r 1 1, arg r 2 1, arg r 3 6) } s
      logMeter 0x302 0xFFFF (joinAlarms t (binds (arg r 0 1))) [] t)
  ∧ Completes 0x0303 .metBind
    (fun _ r s => active s 10 = true ∧ isFenced s 125 = false ∧ arg r 0 1 < 32 ∧ arg r 1 1 ≤ 4
      ∧ (arg r 19 1 = 50 ∨ arg r 19 1 = 60) ∧ (∀ k < 9, slotBad s (arg r 0 1) (bindingOf r) k = false))
    (fun _ r s =>
      let t := setPoint (arg r 0 1) { pointOf s (arg r 0 1) with pendingBind := some (bindingOf r) } s
      { payload := r.payload ++ le72 (nextTickTb3 (logMeter 0x302 (arg r 0 1) (pointOf t (arg r 0 1)).alarms [] t)) })
    (fun _ r s =>
      let t := setPoint (arg r 0 1) { pointOf s (arg r 0 1) with pendingBind := some (bindingOf r) } s
      logMeter 0x302 (arg r 0 1) (pointOf t (arg r 0 1)).alarms [] t)
  ∧ Completes 0x0304 .metCalSet
    (fun _ r s => active s 10 = true ∧ isFenced s 125 = false ∧ arg r 0 1 < 96 ∧ (argS r 1 4).natAbs ≤ 107374182
      ∧ (argS r 5 4).natAbs ≤ 65536 ∧ (argS r 9 4).natAbs ≤ 131072)
    (fun _ r s =>
      let t := setChan (arg r 0 1) { chanOf s (arg r 0 1) with pendingCal := some (argS r 1 4, argS r 5 4, argS r 9 4) } s
      { payload := r.payload ++ le72 (nextTickTb3 (logMeter 0x305 (arg r 0 1) (joinAlarms t (binds (arg r 0 1))) [] t)) })
    (fun _ r s =>
      let t := setChan (arg r 0 1) { chanOf s (arg r 0 1) with pendingCal := some (argS r 1 4, argS r 5 4, argS r 9 4) } s
      logMeter 0x305 (arg r 0 1) (joinAlarms t (binds (arg r 0 1))) [] t)
  ∧ Completes 0x0306 .metRegCfg
    (fun _ r s => active s 10 = true ∧ isFenced s 125 = false ∧ arg r 0 1 < 32 ∧ arg r 1 1 < 16 ∧ arg r 2 1 ≤ 12 ∧ arg r 3 1 ≤ 3
      ∧ arg r 4 1 < 16 ∧ arg r 5 1 ≤ 1
      ∧ (arg r 3 1 = 0 → absoluteNeeded s (arg r 0 1) (arg r 1 1) = false))
    (fun _ r _ => { payload := r.payload })
    (fun _ r s =>
      let p := pointOf s (arg r 0 1)
      let c : RegCfg := { qty := arg r 2 1, mode := arg r 3 1, mask := arg r 4 1 }
      let t := setPoint (arg r 0 1) (setReg (arg r 1 1)
        { regOf p (arg r 1 1) with pendingCfg := some (c, arg r 5 1 == 1) } p) s
      logMeter 0x306 (arg r 0 1) (pointOf t (arg r 0 1)).alarms [] t)
  -- MET_OUTPUT_CFG with a rate of 0: no phasors; the records that waited are sent
  ∧ Completes 0x030A .metOutputCfg
    (fun _ r s => active s 10 = true ∧ isFenced s 125 = false ∧ arg r 0 1 < 128 ∧ arg r 9 1 = 0)
    (fun _ r _ => { payload := r.payload })
    (fun _ r s => sendUnsent { s with meter := { s.meter with
      outHq := arg r 0 1, intervalMask := arg r 1 4, phasorMask := arg r 5 4, phasorRate := 0 } })
  ∧ Completes 0x030B .metIntervalSet
    (fun _ r s => active s 10 = true ∧ isFenced s 125 = false ∧ [1, 5, 10, 15, 30, 60].contains (arg r 0 1) = true
      ∧ breaksGroup s (arg r 0 1) = false)
    (fun _ _ s =>
      { payload := le8 s.meter.minutes
          ++ leBytes 9 ((tb2Sec s / (60 * s.meter.minutes) + 1) * (60 * s.meter.minutes) * 2 ^ 36) })
    (fun _ r s => { s with meter := { s.meter with minutesNext := some (arg r 0 1) } })
  ∧ Completes 0x030C .metTpoCfg
    (fun _ r s => active s 10 = true ∧ isFenced s 126 = false ∧ arg r 0 1 < 8 ∧ arg r 1 1 < 32 ∧ arg r 2 1 < 16 ∧ arg r 3 6 ≠ 0
      ∧ arg r 9 2 ≠ 0 ∧ arg r 9 2 ≤ 1600 ∧ arg r 11 1 ≤ 1 ∧ arg r 12 1 ≤ 1 ∧ modeNext s (arg r 1 1) (arg r 2 1) ≠ 0)
    (fun _ r _ => { payload := r.payload })
    (fun _ r s => setTpo (arg r 0 1) { tpoOf s (arg r 0 1) with
      mp := arg r 1 1, reg := arg r 2 1, weight := arg r 3 6, width := arg r 9 2, polarity := arg r 11 1,
      enable := arg r 12 1 == 1 } s)
  ∧ Completes 0x030D .metThreshSet
    (fun _ r s => active s 10 = true ∧ isFenced s 125 = false ∧ arg r 0 1 < 32 ∧ 20 ≤ arg r 1 2 ∧ arg r 1 2 ≤ 80 ∧ arg r 3 1 ≤ 1)
    (fun _ r _ => { payload := r.payload })
    (fun _ r s => setPoint (arg r 0 1) { pointOf s (arg r 0 1) with start := arg r 1 2, revAlarm := arg r 3 1 == 1 } s)

/-- The reading commands of metrology complete (R128, R129, R135, R145, R146, R148, R165, R166, R178): MET_INFO, MET_CAL_GET,
MET_READ, MET_INSTANT, MET_HARMONICS, MET_CAPTURE, MET_CAPTURE_READ, HOLDUP_TEST, MET_OUTAGE_READ and MET_ROTATION. -/
def Obligations.MetrologyReadingCompletes : Prop :=
  Completes 0x0301 .metInfo (fun _ r s => active s 10 = true ∧ arg r 0 1 < 32)
    (fun _ r s =>
      let p := pointOf s (arg r 0 1)
      { payload := le8 p.bind.wiring ++ le8 (b2n (runs p)) ++ le16 p.alarms ++ le8 (b2n (pointAged s p)) ++ le8 p.gates })
    (fun _ _ s => s)
  ∧ Completes 0x0305 .metCalGet (fun _ r s => active s 10 = true ∧ arg r 0 1 < 96 ∧ arg r 1 1 ≤ 5)
    (fun _ r s =>
      let a := arg r 0 1
      let g := arg r 1 1
      { payload := le32 (Config.gainFac a g) ++ leInt 4 (Config.offFac a g) ++ leInt 4 (Config.phFac a g)
          ++ leInt 4 (Config.phPath a g) ++ leInt 4 (chanOf s a).trim ++ leInt 4 (chanOf s a).off ++ leInt 4 (chanOf s a).ph
          ++ leInt 4 (bgOf s a g).off ++ le32 (bgOf s a g).gain ++ le32 ((s.meter.samples - (bgOf s a g).since) / 32)
          ++ le8 (b2n s.meter.otpOk) })
    (fun _ _ s => s)
  -- the sixteen registers and four I2T registers, and the TB3 instant of the reading
  ∧ Completes 0x0307 .metRead (fun _ r s => active s 10 = true ∧ arg r 0 1 < 32)
    (fun _ r s => { payload := (regValues (pointOf s (arg r 0 1))).flatMap (leInt 9) ++ le72 (tbVal s 3) })
    (fun _ _ s => s)
  ∧ Completes 0x0308 .metInstant (fun _ r s => active s 10 = true ∧ arg r 0 1 < 32)
    (fun _ r s => { payload := instantPayload (pointOf s (arg r 0 1)) }) (fun _ _ s => s)
  ∧ Completes 0x0309 .metHarmonics (fun _ r s => active s 10 = true ∧ arg r 0 1 < 96)
    (fun _ r s =>
      let c := chanOf s (arg r 0 1)
      { payload := le32 c.freq ++ le32 c.thd ++ padTo 378 (c.harmonics.flatMap fun (m, a) => le32 m ++ leInt 2 a) })
    (fun _ _ s => s)
  ∧ (∀ m, Completes 0x030E .metCapture
    (fun src r s => src = .mb m ∧ active s 10 = true ∧ isFenced s 125 = false ∧ captureAins r ≠ []
      ∧ (∀ a ∈ captureAins r, a < 96) ∧ (1 ≤ arg r 8 2 ∧ arg r 8 2 ≤ 2048) ∧ arg r 10 1 = 0 ∧ s.meter.capturing = none)
    (fun _ _ _ => { status := .accepted })
    (fun _ r s => { s with meter := { s.meter with
      capturing := some { ains := captureAins r, samples := arg r 8 2, atCrossing := false, mb := m } } }))
  -- 120 words of the capture memory from an offset
  ∧ Completes 0x030F .metCaptureRead
    (fun _ r s => active s 10 = true ∧ arg r 0 2 + 120 ≤ 16384 ∧ s.meter.capturing = none)
    (fun _ r s => { payload := (List.range 120).flatMap fun i => le32 (look 0 s.meter.capture (arg r 0 2 + i)) })
    (fun _ _ s => s)
  ∧ (∀ m, Completes 0x0310 .holdupTest
    (fun src _ s => src = .mb m ∧ s.meter.check = .none)
    (fun _ _ _ => { status := .accepted })
    (fun _ _ s => { s with meter := { s.meter with check := .test m } }))
  ∧ Completes 0x0311 .metOutageRead (fun _ r s => active s 10 = true ∧ arg r 0 1 < 16)
    (fun _ r s => { payload := outageBytes (s.meter.outages.getD (arg r 0 1) {}) }) (fun _ _ s => s)
  ∧ Completes 0x0312 .metRotation (fun _ _ s => active s 10 = true)
    (fun _ _ s =>
      { payload := le8 (b2n s.meter.rot.suspended) ++ le8 s.meter.rot.ain ++ le32 s.meter.rot.rotations
          ++ le32 s.meter.rot.failures })
    (fun _ _ s => s)

/-- The events of metrology take effect (R128–R133, R142, R145, R153, R155, R158, R161–R166, R176): ticks, measurement windows, phasor
reports, interval boundaries, alarm timers, the rotating spare, captures, hold-up checks and power failure. -/
def Obligations.MetrologyEventsTakeEffect : Prop :=
  -- a tick runs metrology, tariffs, the balance engine and the charge points in this order; at a regular boundary the
  -- configuration and the legal code that wait take effect
  (∀ xs s, accumulates s = true → 0 < tickSamples xs → s.meter.tickPos < 320 → exec (.metrologyTickEnd xs) s = .next
      (let n := min (tickSamples xs) (320 - s.meter.tickPos)
       let (incs, t) := meterTick xs s
       let t := tariffTick n incs t
       let regular := decide (t.meter.tickPos = 0)
       let t := sendUnsent (cpTicks n (feedBalance (if regular then applySlots t else t)))
       if regular then legalSwitch (firstTick (applyConfig t)) else t))
  ∧ (∀ m s, bitOf s.power.on 10 = true → exec (.spareSlotPhase m) s = .next (sparePhase m s))
  -- the spare passes again: the rotation resumes with the next channel, CAL_STALE clears, 0x304
  ∧ (∀ z r s, bitOf s.power.on 10 = true → s.meter.rot.suspended = true →
      spareBad (freshFrom (chanOf s s.meter.rot.ain).gainExp (injectedSum z) (injectedSum r)) = false → exec (.spareRetry z r) s = .next
        (let t := endSlot (setRot { s.meter.rot with suspended := false } s)
         let t := alarmAll 6 false (fun _ => true) (setRot { t.meter.rot with start := nextSlot t } t)
         logMeter 0x304 0xFFFF (joinAlarms t fun _ => true) [] t))
  -- a window's results are formed from its primary samples, and nothing outside the meter changes but the free values drawn
  ∧ (∀ m x ts s, m < 32 → bitOf s.power.on 10 = true → runs (pointOf s m) = true →
      ∃ t, exec (.measurementWindowEnd m x ts) s = .next t ∧ t.log = s.log ∧ t.host = s.host ∧
        (pointOf t m).window.rms = (List.range 9).map fun k =>
          rmsOf (slotPrimary s (pointOf s m).bind x.first x.chans k))
  ∧ (∀ xs s, exec (.phasorReport xs) s = .next (phasorReport xs s))
  -- an alarm whose condition has held for its time is set with its element and value, and clears with the same element and the
  -- value that cleared it
  ∧ (∀ m b e v s, m < 32 → bitOf s.power.on 10 = true → runs (pointOf s m) = true → bitOf (pointOf s m).alarms b = false →
      alarmSets s (pointOf s m) b = some (e, v) → exec (.metrologyAlarmTimer m b) s = .next (alarmTo m b true e v s))
  ∧ (∀ m b s, m < 32 → bitOf s.power.on 10 = true → runs (pointOf s m) = true → bitOf (pointOf s m).alarms b = true →
      alarmClears s (pointOf s m) b = true → exec (.metrologyAlarmTimer m b) s =
        .next (alarmTo m b false (look 0 (pointOf s m).alarmElem b) (clearValue s (pointOf s m) b) s))
  ∧ (∀ s, bitOf s.power.on 10 = true → exec .writeThrough s = .next (writeAll s))
  -- a boundary later than the last one taken closes the open interval
  ∧ (∀ (off : Word32) s, bitOf s.power.on 10 = true → boundaryDue s = true → exec (.meteringIntervalBoundary off) s =
      .next (closeInterval (boundaryAt s (calSec s)) off.toNat s))
  -- a capture with enough samples completes its command with its count of words
  ∧ (∀ first times xs c s, s.meter.capturing = some c → c.atCrossing = false → (∀ a ∈ c.ains, c.samples ≤ (codesOf xs a).length) →
      exec (.metCaptureDone ⟨first, times, xs⟩) s = .next (finishMb c.mb .ok (le16 (c.samples * c.ains.length))
        { s with meter := { s.meter with capture := captureWords c first xs s, capturing := none } }))
  ∧ (∀ c s, s.power.main = true → exec (.powerFailTrigger c) s = .next (powerFail c s))
  ∧ (∀ s, s.meter.pfail = true → bitOf s.power.on 10 = true → exec .powerFailCommitDone s = .next (commitDone s))
  ∧ (∀ s, s.power.main = false → s.firm.pfail = true → exec .holdupCutoff s = .next (cutoffPower s))
  ∧ (∀ s, s.power.aux = true → s.power.main = false → s.firm.pfail = true → exec .supplyReturn s = .next (supplyReturn s))
  ∧ (∀ s, s.meter.check = .none → s.power.main = true → s.meter.pfail = false → exec .holdupCheckStart s =
      .next { s with meter := { s.meter with check := .periodic } })
  -- a passed test answers pass, the predicted hold-up, capacitance and series resistance
  ∧ (∀ us cap esr m s, s.meter.check = .test m → 4000 ≤ us → s.meter.degraded = false → exec (.holdupCheckEnd us cap esr) s =
      .next (finishMb m .ok (le8 0 ++ le32 us ++ le32 cap ++ le16 esr)
        { s with meter := { s.meter with check := .none, checkPassed := true } }))

/-- The tariff and billing commands complete (R181–R190, R193, R212): each TAR_ command that sets a part of the passive copy, TAR_STATUS,
TAR_ACTIVATE, TAR_ASSIGN, the BILL_ commands, DEM_CFG and DEM_READ. -/
def Obligations.TariffCommandsComplete : Prop :=
  Completes 0x0401 .tarStatus (fun _ r s => active s 10 = true ∧ arg r 0 1 < 32)
    (fun _ r s =>
      let t := assignOf s (arg r 0 1)
      let x := tableOf s t
      { payload := le8 t ++ le8 x.rate ++ le8 (b2n x.friendly) ++ leInt 8 (localTime x.active (tb2Sec s)) ++ le8 (b2n x.dst)
          ++ le72 (x.activation.getD 0#72) })
    (fun _ _ s => s)
  -- the five commands that change the passive copy alone
  ∧ Completes 0x0402 .tarDaySet (fun _ r s => active s 10 = true ∧ isFenced s 126 = false ∧ tarDayBad r s = false)
    (fun _ r _ => { payload := le8 (arg r 2 1) })
    (fun _ r s => editPassive r (fun c => { c with days := put [] c.days (arg r 1 1) (dayActions r) }) s)
  ∧ Completes 0x0403 .tarWeekSet
    (fun _ r s => active s 10 = true ∧ isFenced s 126 = false ∧ arg r 0 1 < 8 ∧ arg r 1 1 < 8 ∧ (∀ d ∈ weekDays r, d < 16))
    (fun _ r _ => { payload := r.payload })
    (fun _ r s => editPassive r (fun c => { c with weeks := put [] c.weeks (arg r 1 1) (weekDays r) }) s)
  ∧ Completes 0x0404 .tarSeasonSet
    (fun _ r s => active s 10 = true ∧ isFenced s 126 = false ∧ arg r 0 1 < 8 ∧ arg r 1 1 < 8 ∧ (1 ≤ arg r 2 1 ∧ arg r 2 1 ≤ 12)
      ∧ (1 ≤ arg r 3 1 ∧ arg r 3 1 ≤ 31) ∧ arg r 4 1 < 8)
    (fun _ r _ => { payload := r.payload })
    (fun _ r s => editPassive r (fun c => { c with
      seasons := put none c.seasons (arg r 1 1) (some { month := arg r 2 1, day := arg r 3 1, week := arg r 4 1 }) }) s)
  ∧ Completes 0x0405 .tarSpecialSet
    (fun _ r s => active s 10 = true ∧ isFenced s 126 = false ∧ arg r 0 1 < 8 ∧ arg r 1 1 < 64 ∧ (1 ≤ arg r 4 1 ∧ arg r 4 1 ≤ 12)
      ∧ (1 ≤ arg r 5 1 ∧ arg r 5 1 ≤ 31) ∧ arg r 6 1 < 16)
    (fun _ r _ => { payload := r.payload })
    (fun _ r s => editPassive r (fun c => { c with
      specials := put none c.specials (arg r 1 1)
        (some { year := arg r 2 2, month := arg r 4 1, day := arg r 5 1, profile := arg r 6 1 }) }) s)
  ∧ Completes 0x0406 .tarTableSet (fun _ r s => active s 10 = true ∧ isFenced s 126 = false ∧ tarTableBad r s = false)
    (fun _ r _ => { payload := r.payload })
    (fun _ r s => editPassive r (fun c => { c with
      defaultRate := arg r 1 1, stdOffset := argS r 2 2, dstShift := arg r 4 1, dstStart := dstRuleAt r 5,
      dstEnd := dstRuleAt r 10, billDay := arg r 15 1, billMinute := arg r 16 2 }) s)
  -- TAR_ACTIVATE at once, after the boundaries that are due (R195), and at an instant
  ∧ Completes 0x0407 .tarActivate
    (fun _ r s => active s 10 = true ∧ isFenced s 126 = false ∧ arg r 0 1 < 8 ∧ undefinedProfile (tableOf s (arg r 0 1)).passive = false
      ∧ (tableOf s (arg r 0 1)).activation = none ∧ argT r 1 = 0#72)
    (fun _ _ s => { payload := le72 (tbVal s 2) })
    (fun _ r s => activateTable (arg r 0 1) (beforeSwitch s))
  ∧ Completes 0x0407 .tarActivate
    (fun _ r s => active s 10 = true ∧ isFenced s 126 = false ∧ arg r 0 1 < 8 ∧ undefinedProfile (tableOf s (arg r 0 1)).passive = false
      ∧ (tableOf s (arg r 0 1)).activation = none ∧ argT r 1 ≠ 0#72)
    (fun _ r _ => { payload := le72 (argT r 1) })
    (fun _ r s => setTable (arg r 0 1) { tableOf s (arg r 0 1) with activation := some (argT r 1) } s)
  ∧ Completes 0x0408 .tarAssign
    (fun _ r s => active s 10 = true ∧ isFenced s 126 = false ∧ arg r 0 1 < 32 ∧ arg r 1 1 < 8)
    (fun _ r _ => { payload := r.payload })
    (fun _ r s => logTariff 0x404 (arg r 1 1) (arg r 1 1) r.opcode r.counter []
      { s with tariff := { s.tariff with assign := put 0 s.tariff.assign (arg r 0 1) (arg r 1 1) } })
  ∧ Completes 0x0409 .billRegCfg
    (fun _ r s => active s 10 = true ∧ isFenced s 126 = false ∧ arg r 0 1 < 32 ∧ arg r 1 1 < 4 ∧ arg r 2 1 < 16
      ∧ (5 ≤ arg r 3 1 ∧ arg r 3 1 ≤ 9) ∧ arg r 4 1 ≤ 3 ∧ modeNext s (arg r 0 1) (arg r 2 1) ≠ 0)
    (fun _ r _ => { payload := r.payload })
    (fun _ r s => logTariff 0x405 (assignOf s (arg r 0 1)) (assignOf s (arg r 0 1)) r.opcode r.counter []
      (setSlotOf (arg r 0 1) (arg r 1 1)
        { slotOf s (arg r 0 1) (arg r 1 1) with digits := arg r 3 1, decimals := arg r 4 1, regNext := some (arg r 2 1) } s))
  -- BILL_CLOSE closes the open period of the table at TB2, after the boundaries that are due (R195); its epoch is the response
  ∧ Completes 0x040A .billClose
    (fun _ r s => active s 10 = true ∧ isFenced s 126 = false ∧ arg r 0 1 < 8)
    (fun _ r s => { payload := le32 (epochOf (closePeriod (arg r 0 1) .command 0 (tbVal s 2) (scheduledClose (arg r 0 1) (beforeClose s)))
      (arg r 0 1)) })
    (fun _ r s => closePeriod (arg r 0 1) .command 0 (tbVal s 2) (scheduledClose (arg r 0 1) (beforeClose s)))
  ∧ Completes 0x040B .billRead (fun _ r s => active s 10 = true ∧ arg r 0 1 < 32 ∧ arg r 1 1 < 4)
    (fun src r s => (billReadRun src r s).1) (fun _ _ s => s)
  ∧ Completes 0x040C .billHistoryRead
    (fun _ r s => active s 10 = true ∧ arg r 0 1 < 32 ∧ arg r 1 1 < (look [] s.tariff.history (arg r 0 1)).length)
    (fun _ r s => { payload := historyBytes ((look [] s.tariff.history (arg r 0 1)).getD (arg r 1 1) {}) }) (fun _ _ s => s)
  ∧ Completes 0x040D .demCfg
    (fun _ r s => active s 10 = true ∧ isFenced s 126 = false ∧ demBad r s = false)
    (fun _ r _ => { payload := r.payload })
    (fun _ r s =>
      let c : DemandCfg := { method := arg r 1 1, minutes := arg r 2 1, count := arg r 3 1, include_ := arg r 4 1 }
      logTariff 0x406 (assignOf s (arg r 0 1)) (assignOf s (arg r 0 1)) r.opcode r.counter []
        (setDemand (arg r 0 1) { demandOf s (arg r 0 1) with cfgNext := some c } s))
  ∧ Completes 0x040E .demRead (fun _ r s => active s 10 = true ∧ arg r 0 1 < 32 ∧ arg r 1 1 < 4)
    (fun _ r s =>
      let k := arg r 1 1
      let d := demandOf s (arg r 0 1)
      { payload := leBytes 6 (nthN d.last k) ++ le8 d.lastFlags ++ le72 d.lastTb2
          ++ ((List.range 17).flatMap fun i => maximumBytes (look (0, 0#72) d.maxima (17 * k + i))) })
    (fun _ _ s => s)

/-- The prepayment and legal commands complete (R198–R200, R203, R206–R212): PREPAY_CFG, PREPAY_CREDIT, PREPAY_SWITCH,
PREPAY_RECONNECT, PREPAY_STATUS, TAMPER_READ, the LEGAL_CV commands, LEGAL_DISPLAY_CFG, LEGAL_LOG_READ, LEGAL_DECOMMISSION and
LEGAL_STATUS. -/
def Obligations.PrepaymentAndLegalCommandsComplete : Prop :=
  -- PREPAY_CFG that leaves a disabled point disabled keeps its prices and limits
  Completes 0x040F .prepayCfg
    (fun _ r s => active s 10 = true ∧ active s 11 = true ∧ isFenced s 126 = false ∧ isFenced s (128 + arg r 90 1 / 2) = false
      ∧ prepayBad r s = false ∧ arg r 1 1 = 0 ∧ (prepayOf s (arg r 0 1)).enable = false)
    (fun _ r _ => { payload := r.payload })
    (fun _ r s => logPrepay 0x408 (arg r 0 1) r.opcode r.counter (setPrepay (arg r 0 1) { prepayOf s (arg r 0 1) with
        enable := false, prices := (List.range 16).map (fun k => arg r (2 + 4 * k) 4), low := argS r 66 8, emergency := argS r 74 8,
        reconnect := argS r 82 8, ctd := arg r 90 1, cfb := arg r 91 1, tfb := arg r 92 2, auto := arg r 94 1 == 1 }
      (releaseDrives (.point (arg r 0 1)) s)))
  -- a token id greater than the last one adds its credit
  ∧ Completes 0x0410 .prepayCredit
    (fun _ r s => active s 10 = true ∧ isFenced s 126 = false ∧ arg r 0 1 < 32 ∧ (prepayOf s (arg r 0 1)).token < arg r 1 4)
    (fun _ r s =>
      let p := prepayOf s (arg r 0 1)
      let t := setPrepay (arg r 0 1) { p with credit := p.credit + argS r 5 8 * 2 ^ 32, token := arg r 1 4 } s
      { payload := leInt 8 (creditWhole (prepayOf (prepayEval (arg r 0 1) (logPrepay 0x409 (arg r 0 1) r.opcode r.counter t))
          (arg r 0 1))) })
    (fun _ r s =>
      let p := prepayOf s (arg r 0 1)
      prepayEval (arg r 0 1) (logPrepay 0x409 (arg r 0 1) r.opcode r.counter
        (setPrepay (arg r 0 1) { p with credit := p.credit + argS r 5 8 * 2 ^ 32, token := arg r 1 4 } s)))
  -- PREPAY_SWITCH with action 1 opens the contactor and holds it open
  ∧ Completes 0x0411 .prepaySwitch
    (fun _ r s => active s 10 = true ∧ isFenced s 126 = false ∧ arg r 0 1 < 32 ∧ arg r 1 1 = 1)
    (fun _ r s =>
      let t := enterOpening (arg r 0 1) (setPrepay (arg r 0 1) { prepayOf s (arg r 0 1) with forced := true } s)
      { payload := le8 (prepayCode (prepayOf t (arg r 0 1)).state) })
    (fun _ r s => enterOpening (arg r 0 1) (setPrepay (arg r 0 1) { prepayOf s (arg r 0 1) with forced := true } s))
  ∧ Completes 0x0412 .prepayReconnect
    (fun _ r s => active s 10 = true ∧ isFenced s 126 = false ∧ arg r 0 1 < 32
      ∧ (prepayOf s (arg r 0 1)).state = .reconnectReady ∧ creditBack (prepayOf s (arg r 0 1)) = true)
    (fun _ r s => { payload := le8 (prepayCode (prepayOf (enterClosing (arg r 0 1) s) (arg r 0 1)).state) })
    (fun _ r s => enterClosing (arg r 0 1) s)
  ∧ Completes 0x0413 .prepayStatus (fun _ r s => active s 10 = true ∧ arg r 0 1 < 32)
    (fun _ r s =>
      let p := prepayOf s (arg r 0 1)
      { payload := le8 (prepayCode p.state) ++ le8 p.cause ++ le8 (b2n p.forced) ++ leInt 8 (creditWhole p) ++ le32 p.token })
    (fun _ _ s => s)
  ∧ Completes 0x0414 .tamperRead (fun _ r _ => arg r 0 1 < 32)
    (fun _ r s => { payload := tamperBytes (look {} s.legal.tamper (arg r 0 1)) }) (fun _ _ s => s)
  ∧ Completes 0x0415 .legalCvRead (fun _ _ s => active s 10 = true)
    (fun _ _ s => { payload := padTo 32 s.legal.digest ++ le32 (cvOf s.legal.digest) ++ le72 s.legal.digestTb2 }) (fun _ _ s => s)
  ∧ Completes 0x0416 .legalCvShow (fun _ _ s => active s 10 = true) (fun _ _ _ => {}) (fun _ _ s => showCvAll s)
  ∧ Completes 0x0417 .legalDisplayCfg
    (fun _ r s => active s 10 = true ∧ isFenced s 126 = false ∧ displayBad r s = false)
    (fun _ r _ => { payload := r.payload })
    (fun _ r s => refresh (arg r 0 1) (setDisplay (arg r 0 1) { displayOf s (arg r 0 1) with
      enable := arg r 1 1 == 1, scroll := arg r 2 1, items := displayItems r, shown := 0, missed := 0 } s))
  ∧ (∀ e, Completes 0x0418 .legalLogRead (fun _ r s => entryNumber s (arg r 0 2) = some e)
    (fun _ _ s => { payload := entryBytes e ++ le16 s.legal.entries.length }) (fun _ _ s => s))
  -- every period closes, every register is committed, and the legal state is DECOMMISSIONED for good
  ∧ Completes 0x0419 .legalDecommission
    (fun _ _ s => active s 10 = true ∧ isFenced s 126 = false ∧ s.legal.state = .inService)
    (fun src r s => (decommissionRun src r s).1)
    (fun _ r s =>
      let t := commitAll (allTables.foldl (fun s t => closePeriod t .decommission 0 (tbVal s 2) s) (beforeClose s))
      let t := { t with legal := { t.legal with state := .decommissioned } }
      logEv 0x40F 126 0xFFFF [snapN r.opcode, snapN r.counter, snapN (epochOf t 0), snapN (tableOf t 0).rate] t)
  ∧ Completes 0x041A .legalStatus (fun _ _ _ => True)
    (fun _ _ s =>
      { payload := le8 (legalStateCode s.legal.state) ++ le16 s.legal.entries.length ++ le32 (cvOf s.legal.digest)
          ++ le8 (ofBits ((List.range 8).map fun d => (displayOf s d).fault)) })
    (fun _ _ s => s)

/-- The events of tariffs, billing, prepayment and the legal displays take effect (R182–R185, R189, R193, R195, R200, R208). -/
def Obligations.TariffEventsTakeEffect : Prop :=
  (∀ t s, t < 8 → bitOf s.power.on 10 = true → (tb s 2).valid = true →
    exec (.rateSwitch t) s = .next (evalTable t (beforeSwitch s)))
  ∧ (∀ t s, t < 8 → bitOf s.power.on 10 = true → (tb s 2).valid = true →
    exec (.dstChange t) s = .next (evalTable t (beforeSwitch s)))
  -- a subinterval ends after the interval that is due, a billing period after interval and subintervals, an activation after all of them
  ∧ (∀ m s u, m < 32 → u = dueInterval s → bitOf u.power.on 10 = true → subDue u m = true → exec (.demandSubintervalEnd m) s =
      .next (closeSub m (subAt (demandOf u m) (calSec u)) 0 u))
  ∧ (∀ t b s, t < 8 → bitOf s.power.on 10 = true → closeDue (beforeClose s) t = some b → exec (.billingPeriodClose t) s =
      .next (closePeriod t .schedule 0 (timeOfSec b) (beforeClose s)))
  ∧ (∀ t at_ s, t < 8 → bitOf s.power.on 10 = true → (tableOf s t).activation = some at_ → (tb s 2).valid = true →
      at_.toNat ≤ (calTime s).toNat → exec (.tariffActivationDue t) s = .next (activateTable t (beforeSwitch s)))
  -- the feedback of an opening contactor shows open: DISCONNECTED; that of a closing one shows closed: CONNECTED with 0x40B
  ∧ (∀ m s, m < 32 → (prepayOf s m).enable = true → isClosed s (prepayOf s m).cfb = true → (prepayOf s m).state = .opening →
      exec (.prepayFeedbackChange m false) s = .next (enterDisconnected m 0 (setClosed (prepayOf s m).cfb false s)))
  ∧ (∀ m s, m < 32 → (prepayOf s m).enable = true → isClosed s (prepayOf s m).cfb = false → (prepayOf s m).state = .closing →
      exec (.prepayFeedbackChange m true) s = .next (logPrepay 0x40B m 0 0 (setPrepay m
        { prepayOf s m with state := .connected, cause := 0 } (setClosed (prepayOf s m).cfb true s))))
  -- t_fb without the change: FAULT 1 with class 22 for a contactor that did not open, FAULT 2 for one that did not close
  ∧ (∀ m s, m < 32 → (prepayOf s m).enable = true → (prepayOf s m).state = .opening → isClosed s (prepayOf s m).cfb = true →
      exec (.prepayFeedbackTimeout m) s = .next (notice234 0x40C m [snapN 1] (tamperSet 22 (enterFault m 1 s))))
  ∧ (∀ m s, m < 32 → (prepayOf s m).enable = true → (prepayOf s m).state = .closing → isClosed s (prepayOf s m).cfb = false →
      exec (.prepayFeedbackTimeout m) s = .next (enterFault m 2 s))
  -- current while DISCONNECTED: class 23 with 0x40C
  ∧ (∀ m s, m < 32 → (prepayOf s m).enable = true → (prepayOf s m).state = .disconnected → (pointOf s m).gates ≠ 0 →
      exec (.prepayBypassDetect m) s = .next (logPrepay 0x40C m 0 0 (tamperSet 23 s)))
  -- a display that answers 0xA5 has no missed ping; the third ping without it is a fault with class 24 and 0x40E
  ∧ (∀ d r s, d < 8 → (displayOf s d).enable = true → bitOf s.power.on 10 = true → r.head? = some 0xA5#8 →
      (displayOf s d).fault = false → exec (.legalDisplayPing d r) s =
        .next (setDisplay d { displayOf s d with missed := 0, fault := false } (toDisplay d 3 0 [] s)))
  ∧ (∀ d r s, d < 8 → (displayOf s d).enable = true → bitOf s.power.on 10 = true → r.head? ≠ some 0xA5#8 →
      (displayOf s d).fault = false → (displayOf s d).missed = 2 → exec (.legalDisplayPing d r) s =
        .next (logTariff 0x40E 0xFFFF 0 0 0 [snapN d, snapN 1] (tamperSet 24
          (setDisplay d { displayOf s d with missed := 3, fault := true } (toDisplay d 3 0 [] s)))))
  ∧ (∀ d s, d < 8 → (displayOf s d).enable = true → bitOf s.power.on 10 = true → (displayOf s d).items ≠ [] →
      exec (.legalDisplayScroll d) s = .next (refresh d (setDisplay d
        { displayOf s d with shown := ((displayOf s d).shown + 1) % (displayOf s d).items.length } s)))
  ∧ (∀ s, bitOf s.power.on 10 = true → exec .ldreqNFall s = .next (showCvAll s))
  ∧ (∀ s, s.tariff.cvShown = true → exec .cvShowExpiry s = .next
      ((List.range 8).foldl (fun s d => refresh d s) { s with tariff := { s.tariff with cvShown := false } }))

/-- The charge-point commands complete (R214, R218, R221–R224, R228–R245): CP_CFG to CP_RECORD_CFG, each where its checks pass. A
command that acts on a sequencer also counts as Nulvo's heartbeat. -/
def Obligations.ChargePointCommandsComplete : Prop :=
  -- CP_CFG that leaves an OFF charge point disabled releases its drives
  Completes 0x0501 .cpCfg
    (fun _ r s => active s 11 = true ∧ arg r 0 1 < 8 ∧ isFenced s (128 + arg r 0 1) = false ∧ arg r 1 1 = 0
      ∧ (cpOf s (arg r 0 1)).state = .off ∧ (cpOf (heard (arg r 0 1) s) (arg r 0 1)).state = .off)
    (fun _ r _ => { payload := r.payload })
    (fun _ r s => releaseDrives (.charge (arg r 0 1)) (heard (arg r 0 1) s))
  -- CP_CFG that enables an OFF charge point: drive taken, configuration kept, pilot and cable decode start afresh, IDLE
  ∧ Completes 0x0501 .cpCfg
    (fun src r s =>
      let n := arg r 0 1
      let t := takeDrive (.charge n) (arg r 5 1) (arg r 7 1) (releaseDrives (.charge n) (heard n s))
      let u := setCp n { cpOf t n with cfg := cpCfgOf r } t
      cpCheck cpCfgBad cpCfgBusy src r s = none ∧ arg r 1 1 = 1 ∧ arg r 6 1 = 255 ∧ (cpOf u n).state = .off
        ∧ (cpGo n .idle (setCp n (freshDecode (cpOf u n)) u)).power.removal = none)
    (fun _ r _ => { payload := r.payload })
    (fun _ r s =>
      let n := arg r 0 1
      let t := takeDrive (.charge n) (arg r 5 1) (arg r 7 1) (releaseDrives (.charge n) (heard n s))
      let u := setCp n { cpOf t n with cfg := cpCfgOf r } t
      cpRun n (cpGo n .idle (setCp n (freshDecode (cpOf u n)) u)))
  ∧ Completes 0x0502 .cpStatus (fun _ r s => active s 11 = true ∧ arg r 0 1 < 8)
    (fun src r s => (cpStatusRun src r s).1) (fun _ _ s => s)
  -- the authorisation of the open session is kept with its method and identifier, 0x50A, and the sequencer runs on
  ∧ (∀ x, Completes 0x0503 .cpAuthorise
    (fun _ r s => active s 11 = true ∧ arg r 0 1 < 8 ∧ isFenced s (128 + arg r 0 1) = false ∧ arg r 5 1 = 1 ∧ arg r 6 1 = 1
      ∧ (cpOf s (arg r 0 1)).session = some x ∧ x.id = arg r 1 4 ∧ (cpOf (heard (arg r 0 1) s) (arg r 0 1)).session = some x)
    (fun src r s => (authoriseRun src r s).1)
    (fun _ r s =>
      let c := cpOf (heard (arg r 0 1) s) (arg r 0 1)
      cpRun (arg r 0 1) (logCp 0x50A (arg r 0 1) c.state [] (setCp (arg r 0 1) { c with
        session := some { x with method := 1, identifier := fieldB r.payload 7 24 }, authorised := true,
        authPending := false } (heard (arg r 0 1) s)))))
  ∧ Completes 0x0504 .cpLimit
    (fun _ r s => active s 11 = true ∧ arg r 0 1 < 8 ∧ isFenced s (128 + arg r 0 1) = false ∧ 60 ≤ arg r 1 2 ∧ arg r 1 2 ≤ 800)
    (fun src r s => (limitRun src r s).1)
    (fun _ r s =>
      let t := heard (arg r 0 1) s
      cpRun (arg r 0 1) (setCp (arg r 0 1) { cpOf t (arg r 0 1) with limit := arg r 1 2 } t))
  -- CP_STOP in ENERGISED enters STOPPING with the session marked as stopped
  ∧ (∀ x, Completes 0x0505 .cpStop
    (fun _ r s => active s 11 = true ∧ arg r 0 1 < 8 ∧ isFenced s (128 + arg r 0 1) = false
      ∧ (cpOf (heard (arg r 0 1) s) (arg r 0 1)).state = .energised ∧ (cpOf (heard (arg r 0 1) s) (arg r 0 1)).session = some x)
    (fun src r s => (stopRun src r s).1)
    (fun _ r s =>
      let t := heard (arg r 0 1) s
      cpRun (arg r 0 1) (cpGo (arg r 0 1) .stopping
        (setCp (arg r 0 1) { cpOf t (arg r 0 1) with session := some { x with stopped := true } } t))))
  ∧ Completes 0x0506 .cpAvailability
    (fun _ r s => active s 11 = true ∧ arg r 0 1 < 8 ∧ isFenced s (128 + arg r 0 1) = false ∧ arg r 1 1 = 0)
    (fun src r s => (availRun src r s).1)
    (fun _ r s =>
      let t := heard (arg r 0 1) s
      cpRun (arg r 0 1) (setCp (arg r 0 1) { cpOf t (arg r 0 1) with unavail := true } t))
  -- CP_RESET in FAULT, 3 s after it was entered, with every feedback open and the cause gone
  ∧ Completes 0x0507 .cpReset
    (fun _ r s => active s 11 = true ∧ arg r 0 1 < 8 ∧ isFenced s (128 + arg r 0 1) = false
      ∧ (cpOf s (arg r 0 1)).state = .fault ∧ s.power.removal = none ∧ (cpOf s (arg r 0 1)).faultAt + 3000000 ≤ tb1Us s
      ∧ allOpen s (cpOf s (arg r 0 1)) = true ∧ tripGone (cpOf s (arg r 0 1)) = true)
    (fun src r s => (cpResetRun src r s).1)
    (fun _ r s =>
      let n := arg r 0 1
      let t := endSession n 2 (heard n s)
      cpGo n .idle (setCp n { cpOf t n with
        cause := 0, agreed := 0, pilot := .a, cableCount := 0, checkA := false, checkB := false } t))
  ∧ Completes 0x0508 .cpRcdCfg
    (fun _ r s => active s 11 = true ∧ arg r 0 1 < 8 ∧ isFenced s (128 + arg r 0 1) = false
      ∧ (cpOf s (arg r 0 1)).state = .idle ∧ (100000 ≤ arg r 1 4 ∧ arg r 1 4 ≤ 200000) ∧ (30000 ≤ arg r 5 4 ∧ arg r 5 4 ≤ 60000)
      ∧ (3000 ≤ arg r 9 4 ∧ arg r 9 4 ≤ 6000) ∧ (5000 ≤ arg r 13 2 ∧ arg r 13 2 ≤ 30000))
    (fun _ r _ => { payload := r.payload })
    (fun _ r s =>
      let t := heard (arg r 0 1) s
      setCp (arg r 0 1) { cpOf t (arg r 0 1) with
        tier1 := arg r 1 4, tier2 := arg r 5 4, tier3 := arg r 9 4, testNom := arg r 13 2 } t)
  ∧ Completes 0x0509 .cpImdCfg
    (fun _ r s => active s 11 = true ∧ arg r 0 1 < 8 ∧ isFenced s (128 + arg r 0 1) = false
      ∧ (cpOf s (arg r 0 1)).state = .idle ∧ (500 ≤ arg r 1 2 ∧ arg r 1 2 ≤ 4000) ∧ arg r 15 1 ≤ 1)
    (fun _ r _ => { payload := r.payload })
    (fun _ r s =>
      let t := heard (arg r 0 1) s
      setCp (arg r 0 1) { cpOf t (arg r 0 1) with
        imdPeriod := arg r 1 2, uInj := arg r 3 2, rI := arg r 5 4, imdGain := arg r 9 4, uMax := arg r 13 2,
        warnOk := arg r 15 1 == 1 } t)
  ∧ Completes 0x050A .cpSessionRead
    (fun _ r s => active s 11 = true ∧ arg r 0 1 < 64 ∧ arg r 0 1 < s.charge.records.length)
    (fun _ r s =>
      let x := s.charge.records.getD (arg r 0 1) {}
      { payload := sessionPayload x ++ le8 (b2n x.emitted) })
    (fun _ _ s => s)
  ∧ Completes 0x050B .cpSlacStatus (fun _ r s => active s 11 = true ∧ arg r 0 1 < 8)
    (fun _ r s =>
      let c := cpOf s (arg r 0 1)
      { payload := padTo 8 c.slacRun ++ ((List.range 8).flatMap fun k => leInt 2 (nthI c.slacMeans k))
          ++ le8 (b2n c.slacAnswered) })
    (fun _ _ s => s)
  ∧ Completes 0x050C .cpV2gCfg
    (fun _ r s => active s 11 = true ∧ arg r 0 1 < 8 ∧ isFenced s (128 + arg r 0 1) = false
      ∧ (cpOf s (arg r 0 1)).state = .idle ∧ v2gBad r s = false)
    (fun _ r _ => { payload := r.payload })
    (fun _ r s =>
      let t := heard (arg r 0 1) s
      setCp (arg r 0 1) { cpOf t (arg r 0 1) with
        slotA := arg r 1 2, slotB := arg r 3 2, pnc := arg r 5 1 == 1, authTimeout := arg r 6 1 } t)
  ∧ Completes 0x050D .cpTrustSet (fun _ r s => active s 11 = true ∧ arg r 0 1 < 8)
    (fun _ r _ => { payload := padTo 32 (Config.subjectHash (r.payload.drop 1)) })
    (fun _ r s => { s with charge := { s.charge with trust := put [] s.charge.trust (arg r 0 1) (r.payload.drop 1) } })
  -- the last sixteen plateau pairs, zeros where fewer have been measured
  ∧ Completes 0x050E .cpPilotRead (fun _ r s => active s 11 = true ∧ arg r 0 1 < 8)
    (fun _ r s =>
      { payload := (List.range 16).flatMap fun k =>
          leInt 2 ((cpOf s (arg r 0 1)).plateaus.getD k (0, 0)).1 ++ leInt 2 ((cpOf s (arg r 0 1)).plateaus.getD k (0, 0)).2 })
    (fun _ _ s => s)
  ∧ Completes 0x050F .cpRecordCfg
    (fun _ r s => active s 11 = true ∧ arg r 0 1 < 128 ∧ arg r 2 1 = 0)
    (fun _ r _ => { payload := r.payload })
    (fun _ r s => { s with charge := { s.charge with recHq := arg r 0 1, recSlot := arg r 1 1, recCurve := 0 } })

/-- The events of the charge points take effect (R218, R220, R222, R223, R226, R230, R232, R233, R235, R236, R238, R242, R243). -/
def Obligations.ChargePointEventsTakeEffect : Prop :=
  -- the fourth agreeing measurement of a pilot state is accepted
  (∀ n hi lo vh vl p s, n < 8 → cpWorks s n = true → (cpOf s n).duty ≠ 0 → driveLow (cpOf s n).state = false →
      pilotPlateaus (cpOf s n) (hi ++ lo) = (vh, vl) → pilotHolds (cpOf s n).pilot (pwmNow (cpOf s n)) vh vl = false →
      pilotDecode (pwmNow (cpOf s n)) vh vl = p → (cpOf s n).candidate = p → (cpOf s n).agreed = 3 → p ≠ (cpOf s n).pilot →
      exec (.pilotMeasurement n hi lo) s = .next (newDuty n (pilotAccept n p (setCp n { cpOf s n with
        plateaus := ((vh.tdiv 1000, vl.tdiv 1000) :: (cpOf s n).plateaus).take 16, candidate := p, agreed := 4 } s))))
  -- the tenth window in a new band of the proximity resistance is accepted
  ∧ (∀ n v rp s, n < 8 → cpWorks s n = true → (cpOf s n).cfg.socket = true → (cpOf s n).state ≠ .off →
      proximityOhms (cpOf s n) v = some rp → (cpOf s n).cableSeen = cableBand rp → (cpOf s n).cableCount = 9 →
      cableBand rp ≠ (cpOf s n).cable → exec (.proximityWindow n v) s = .next (cableAccept n (cableBand rp)
        (setCp n { cpOf s n with rp := min rp 4294967295, cableSeen := cableBand rp, cableCount := 10 } s)))
  -- the feedback of an energised contactor opens while its drive is on: FAULT
  ∧ (∀ n s, n < 8 → cpWorks s n = true → (cpOf s n).cfg.cfbA < 16 → isClosed s (cpOf s n).cfg.cfbA = true →
      (cpOf s n).state = .energised → driveOn (setClosed (cpOf s n).cfg.cfbA false s) (cpOf s n).cfg.ctdA = true →
      exec (.cpFeedbackChange n false false) s = .next (cpFault n causeUncommanded (setClosed (cpOf s n).cfg.cfbA false s)))
  -- t_fb in CLOSING without every feedback closed: FAILED TO CLOSE; in OPENING without every feedback open: WELD
  ∧ (∀ n s, n < 8 → cpWorks s n = true → (cpOf s n).state = .closing → (cpOf s n).closePending = false →
      allClosed s (cpOf s n) = false → exec (.cpFeedbackTimeout n) s = .next (cpFault n causeFailToClose s))
  ∧ (∀ n s, n < 8 → cpWorks s n = true → (cpOf s n).state = .opening → allOpen s (cpOf s n) = false →
      exec (.cpFeedbackTimeout n) s = .next (cpFault n causeWeld s))
  ∧ (∀ n s, n < 8 → cpWorks s n = true → exec (.cpPullInEnd n) s = .next
      ((cpDrives (cpOf s n)).foldl (fun t k => if driveOn t k then setDuty k (cpOf s n).cfg.hold t else t) s))
  ∧ (∀ n s, n < 8 → cpWorks s n = true → (cpOf s n).state = .stopping → exec (.cpStoppingTimeout n) s =
      .next (cpRun n (startOpening n (logCp 0x507 n .stopping [] s))))
  -- the residual self-test passes within 30 % of TEST_NOM, and else is a FAULT
  ∧ (∀ n l s, n < 8 → cpWorks s n = true → (cpOf s n).selfTest = .running →
      exec (.rcdSelfTestEnd n l) s = .next
        (if 10 * (windowSum id 6400 (residualNow s (cpOf s n) l) - (6400 * (cpOf s n).testNom : Nat)).natAbs ≤ 3 * 6400 * (cpOf s n).testNom
         then cpRun n (setCp n { cpOf s n with selfTest := .passed } s)
         else cpFault n causeRcdTest (setCp n { cpOf s n with selfTest := .none } s)))
  -- a second insulation fault in a row is a FAULT of the charge point
  ∧ (∀ n p q r s, n < 8 → cpWorks s n = true → imdRuns (cpOf s n) = true → insulation (cpOf s n) p q = some r →
      imdClass (cpOf s n) (some r) = 2 → (cpOf s n).imd.head? = some 2 → exec (.imdPeriodEnd n p q false) s =
        .next (cpFault n causeImdFault (setCp n { cpOf s n with
          imd := (2 :: (cpOf s n).imd).take 2, imdStart := tb1Us s, rIso := unsigned 32 r } s)))
  ∧ (∀ n s, n < 8 → cpWorks s n = true → (cpOf s n).authPending = true → exec (.authTimeout n) s =
      .next (logCp 0x50A n (cpOf s n).state [] (setCp n { cpOf s n with authPending := false } s)))
  ∧ (∀ n s, n < 8 → cpWorks s n = true → (cpOf s n).cfg.digital = true →
      exec (.nulvoHeartbeatLoss n) s = .next (cpRun n (setCp n { cpOf s n with nulvoLost := true } s)))
  -- and an energised charge point whose heartbeat or demand is gone stops, whatever else waits
  ∧ (∀ n s, (cpOf s n).state = .energised → pilotA (cpOf s n) = false → pilotStops (cpOf s n) = false →
      (deliveryEnds (cpOf s n) = true ∨ heartbeatStops (cpOf s n) = true) →
      cpStep n s = cpGo n .stopping (setCp n { cpOf s n with
        session := some { (cpOf s n).session.getD {} with stopped := deliveryEnds (cpOf s n) } } s))
  ∧ (∀ n s, n < 8 → cpWorks s n = true → (cpOf s n).cfg.digital = true → (cpOf s n).session.isSome = true →
      exec (.nulvoEnergyRequest n .powerDelivery) s = 
        .next (let t := cpRun n (setCp n { cpOf s n with nulvoLost := false, requested := true } s)
          v2gSend n 1 ((cpOf t n).state == .energised) t))
  -- a first sound of a run on a channel opens its sums
  ∧ (∀ pl run gs s, 8 ≤ pl → pl < 16 → (cpOf s (pl - 8)).cfg.digital = true → cpWorks s (pl - 8) = true → active s 8 = true →
      isFenced s (103 + pl) = false → (plOf s pl).mode = 3 → (∀ x ∈ s.charge.sounds, x.pl ≠ pl) → exec (.slacSoundFrame pl run gs) s =
        .next { s with charge := { s.charge with sounds := s.charge.sounds ++
          [{ runId := run, pl := pl, count := 1, sums := (List.range 58).map fun k => nthN gs k }] } })
  -- the end of a run heard on one channel that may answer: its profile is sent and 0x50C written
  ∧ (∀ run x s, s.charge.sounds = [x] → x.runId = run → slacEligible s x.pl = true → exec (.slacRunEnd run) s = .next
      (let n := x.pl - 8
       let t := { s with charge := { s.charge with sounds := [] } }
       let means := (List.range 8).map fun k => if x.pl = 8 + k then slacMean x else 32767
       let t := setCp n { cpOf t n with slacRun := run, slacMeans := means, slacAnswered := true } t
       emit (.frame x.pl (run ++ x.sums.map fun (v : Nat) => BitVec.ofNat 8 (min 255 (openDiv (v : Int) (10 * x.count)).toNat)))
         (logCp 0x50C n (cpOf t n).state [] t)))
  -- the oldest record that waits is first handed to the PKE to be signed; signed, it is emitted when its queue grants it
  ∧ (∀ r s, waitingSession s = some r → active s 5 = true → active s 11 = true → r.signature = [] → (signSession s r).isSome = true →
      r.signing = false → exec .sessionRecordEmit s =
        .next (pkeAsk { cls := 3, job := .session r.session.id } (setWaiting { r with signing := true } s)))
  ∧ (∀ r t s, waitingSession s = some r → active s 5 = true → active s 11 = true → r.signature ≠ [] → emitSession r s = some t →
      exec .sessionRecordEmit s = .next (setWaiting { r with emitted := true } t))

/-- The powerline commands complete (R247, R248, R252–R254, R262, R268, R272, R275, R276, R281): PL_CFG to PL_BEACON_SET. -/
def Obligations.PowerlineCommandsComplete : Prop :=
  -- PL_CFG without a change of mode, band or network: the limits are taken, the tables stay
  Completes 0x0601 .plCfg
    (fun _ r s => active s 8 = true ∧ arg r 0 1 < 16 ∧ isFenced s (103 + arg r 0 1) = false
      ∧ plCfgChanges (plOf s (arg r 0 1)) r = false ∧ arg r 1 1 = 0 ∧ arg r 2 1 ≤ 2 ∧ arg r 3 1 ≤ 3 ∧ arg r 4 1 ≤ 63
      ∧ (6 ≤ arg r 5 1 ∧ arg r 5 1 ≤ 24) ∧ arg r 6 1 ≤ 7 ∧ (10 ≤ arg r 7 2 ∧ arg r 7 2 ≤ 3600))
    (fun _ r _ => { payload := r.payload })
    (fun _ r s => logPl 0x601 (arg r 0 1) 0xFFFF 0xFF [] (setPl (arg r 0 1) { plOf s (arg r 0 1) with
      mode := 0, band := arg r 2 1, net := arg r 3 1, atten := arg r 4 1, impThresh := arg r 5 1, maxRetries := arg r 6 1,
      tmMaxAge := arg r 7 2 } s))
  -- PL_NET_CFG that names no key slot: the frame counters stay
  ∧ Completes 0x0602 .plNetCfg
    (fun _ r s => active s 8 = true ∧ arg r 0 1 < 4 ∧ arg r 15 1 ≤ 127 ∧ arg r 17 2 ≤ 1023 ∧ (5 ≤ arg r 19 1 ∧ arg r 19 1 ≤ 100)
      ∧ arg r 13 1 = 0xFF ∧ arg r 14 1 = 0xFF ∧ (∀ n ∈ netChannels s (arg r 0 1), transmitting (plOf s n) = false))
    (fun _ r _ => { payload := r.payload })
    (fun _ r s =>
      let k := arg r 0 1
      let t := setPlNet k { plNetOf s k with
        pan := arg r 1 2, short := arg r 3 2, eui := arg r 5 8, key0 := 0xFF, key1 := 0xFF, hq := arg r 15 1,
        wAir := arg r 16 1, wHop := arg r 17 2, tollDelta := arg r 19 1 } s
      logEv 0x602 (103 + ((netChannels t k).headD 0)) k [0, 0, 0, 0] t)
  ∧ Completes 0x0603 .plStatus (fun _ r s => active s 8 = true ∧ arg r 0 1 < 16)
    (fun src r s => (plStatusRun src r s).1) (fun _ _ s => s)
  -- the neighbour at an index of the table
  ∧ Completes 0x0604 .plNbrRead
    (fun _ r s => active s 8 = true ∧ arg r 0 1 < 16 ∧ (plOf s (arg r 0 1)).mode ≠ 3 ∧ arg r 1 2 < (plOf s (arg r 0 1)).nbrs.length)
    (fun src r s => (plNbrReadRun src r s).1) (fun _ _ s => s)
  -- a neighbour that is no next hop is removed
  ∧ Completes 0x0605 .plNbrDelete
    (fun _ r s => active s 8 = true ∧ arg r 0 1 < 16 ∧ isFenced s (103 + arg r 0 1) = false ∧ (plOf s (arg r 0 1)).mode ≠ 3
      ∧ (nbrOf (plOf s (arg r 0 1)) (arg r 1 2)).isSome = true ∧ isNextHop (plOf s (arg r 0 1)) (arg r 1 2) = false)
    (fun _ _ _ => {}) (fun _ r s => removeNbr (arg r 0 1) (arg r 1 2) 3 s)
  ∧ Completes 0x0606 .plTmRead
    (fun _ r s => active s 8 = true ∧ arg r 0 1 < 16 ∧ (plOf s (arg r 0 1)).mode ≠ 3
      ∧ (nbrOf (plOf s (arg r 0 1)) (arg r 1 2)).isSome = true ∧ arg r 3 1 = 0 ∧ arg r 4 1 ≤ 5)
    (fun _ r s =>
      { payload := tmBytes s (plOf s (arg r 0 1)) true
          (look {} ((nbrOf (plOf s (arg r 0 1)) (arg r 1 2)).getD {}).fwd (arg r 4 1)) })
    (fun _ _ s => s)
  -- a refresh of named slots is pending, and the command waits for it
  ∧ (∀ m, Completes 0x0607 .plTmRefresh
    (fun src r s => src = .mb m ∧ active s 8 = true ∧ arg r 0 1 < 16 ∧ isFenced s (103 + arg r 0 1) = false
      ∧ (plOf s (arg r 0 1)).mode ≠ 3 ∧ (nbrOf (plOf s (arg r 0 1)) (arg r 1 2)).isSome = true ∧ arg r 3 1 ≤ 5
      ∧ (∀ i ∈ refreshSlots s (plOf s (arg r 0 1)).net (arg r 3 1),
          (look {} ((nbrOf (plOf s (arg r 0 1)) (arg r 1 2)).getD {}).fwd i).pending = false))
    (fun _ _ _ => { status := .accepted })
    (fun _ r s =>
      let n := arg r 0 1
      let slots := refreshSlots s (plOf s n).net (arg r 3 1)
      let t := slots.foldl (fun t i => setPending n (arg r 1 2) i t) s
      let w : TmCommand := { mb := m, short := arg r 1 2, since := tb1Sec t, wait := ofBits ((List.range 6).map slots.contains) }
      setPl n { plOf t n with tmCommands := (plOf t n).tmCommands ++ [w] } t))
  -- the routes of the request enter the table with their expiry; the response is the count of routes
  ∧ Completes 0x0608 .plRouteSet
    (fun _ r s => active s 8 = true ∧ arg r 0 1 < 16 ∧ isFenced s (103 + arg r 0 1) = false ∧ (plOf s (arg r 0 1)).mode ≠ 3
      ∧ (∀ x ∈ routeArgs r, x.2.2 ≠ 0 → (nbrOf (plOf s (arg r 0 1)) x.2.1.next).isSome = true)
      ∧ (applyRoutes 0 (plOf s (arg r 0 1)).routes (routeArgs r)).length ≤ 2048)
    (fun _ r s => { payload := le16 (applyRoutes (tb1Sec s) (plOf s (arg r 0 1)).routes (routeArgs r)).length })
    (fun _ r s => setPl (arg r 0 1) { plOf s (arg r 0 1) with
      routes := applyRoutes (tb1Sec s) (plOf s (arg r 0 1)).routes (routeArgs r) } s)
  -- the routes go to the buffer of a submission queue entry, or, of one without a buffer, into the completion entry
  ∧ (∀ b : Bool, Completes 0x0609 .plRouteRead
    (fun _ r s => active s 8 = true ∧ arg r 0 1 < 16 ∧ (plOf s (arg r 0 1)).mode ≠ 3 ∧ r.buffer.isSome = b)
    (fun _ r s =>
      let routes := (((plOf s (arg r 0 1)).routes.drop (arg r 1 2)).take (arg r 3 2)).flatMap fun p =>
          le16 p.1 ++ le16 (p.2.getD {}).next ++ le16 (p.2.getD {}).toll ++ le8 (p.2.getD {}).hops ++ le32 (p.2.getD {}).expiry
      if b then { buffer := routes } else { payload := routes })
    (fun _ _ s => s))
  ∧ Completes 0x060A .plRouteFlush
    (fun _ r s => active s 8 = true ∧ arg r 0 1 < 16 ∧ isFenced s (103 + arg r 0 1) = false ∧ (plOf s (arg r 0 1)).mode ≠ 3)
    (fun _ r s => { payload := le16 (plOf s (arg r 0 1)).routes.length })
    (fun _ r s => setPl (arg r 0 1) { plOf s (arg r 0 1) with routes := [] } s)
  -- PL_TX towards a next hop whose host queue has room: the entry runs until the frame is settled
  ∧ (∀ q i h t, Completes 0x060B .plTx
    (fun src r s => src = .sq q i ∧ active s 8 = true ∧ arg r 0 1 < 16 ∧ isFenced s (103 + arg r 0 1) = false
      ∧ (plOf s (arg r 0 1)).mode = 1 ∧ nextHop s (plOf s (arg r 0 1)).net (arg r 1 2) = some h
      ∧ (let f : PlTx :=
          { dest := arg r 1 2, payload := r.payload.drop 4, hopsLeft := Config.plHops, secure := bitOf (arg r 3 1) 0,
            ack := bitOf (arg r 3 1) 1, high := bitOf (arg r 3 1) 2, queue := 3, host := some (q, i) }
         routePl h f s = some t))
    (fun _ _ _ => { status := .accepted }) (fun _ _ _ => t))
  ∧ Completes 0x060C .plBeaconSet
    (fun _ r s => active s 8 = true ∧ arg r 0 1 < 4 ∧ arg r 1 1 ≤ 64)
    (fun _ _ _ => {})
    (fun _ r s => setPlNet (arg r 0 1) { plNetOf s (arg r 0 1) with beacon := r.payload.drop 2 } s)

/-- The events of the powerline channels take effect (R41, R258, R268–R270, R272, R275). -/
def Obligations.PowerlineEventsTakeEffect : Prop :=
  -- an unsecured frame with a good FCS for the module, of a sender that is no neighbour yet, is counted and accepted
  (∀ n f s t, n < 16 → plRuns s n = true → active s 8 = true → f.fcsOk = true → f.secured = false →
      t = (frameSlots s n f).foldl (fun t x => countSlot n x t) s →
      f.pan = (plNetOf t (plOf s n).net).pan → (2 ≤ f.kind ∨ f.dest = (plNetOf t (plOf s n).net).short) →
      nbrOf (plOf t n) f.source = none →
      exec (.plFrameReceive n f) s = .next (acceptPl n f f.payload (setPl n { plOf t n with rx := (plOf t n).rx + 1 } t)))
  -- an acknowledgement turn sends the oldest acknowledgement, or drops it with 0x60B when it cannot start in time
  ∧ (∀ n g s a rest, n < 16 → plRuns s n = true → ackTurn s n = some n → (plOf s n).acks = a :: rest →
      exec (.plTransmitTurn n g) s = .next
        (if g.ackInTime then emit (.linkAck n a.seq) (setPl n { plOf s n with acks := rest, acked := (plOf s n).acked + 1 } s)
         else logPl 0x60B n a.dest 0xFF [] (setPl n { plOf s n with acks := rest } s)))
  -- a data turn on an idle line sends the head frame, unless only frames of high priority may contend in its window; a frame that
  -- was not acknowledged takes its turn again in the same way
  ∧ (∀ n g f c s, n < 16 → plRuns s n = true → ackTurn s n = none →
      (∀ m ∈ couplers s n, transmitting (plOf s m) = false) → dataTurn s n = some n → (plOf s n).sent = none →
      takeData s (plOf s n) = some (f, c) → (g.highWindow = true → f.high = true) → keyLost (turnTaken n (setPl n c s)) n f = false →
      exec (.plTransmitTurn n g) s = .next (sendPl n g f (turnTaken n (setPl n c s))))
  ∧ (∀ n g x s, n < 16 → plRuns s n = true → ackTurn s n = none →
      (∀ m ∈ couplers s n, transmitting (plOf s m) = false) → dataTurn s n = some n → (plOf s n).sent = some x →
      (g.highWindow = true → x.frame.high = true) → keyLost (turnTaken n s) n x.frame = false →
      exec (.plTransmitTurn n g) s = .next (resendPl n g x (turnTaken n s)))
  ∧ (∀ n x e s, n < 16 → plRuns s n = true → (plOf s n).sent = some x → nbrOf (plOf s n) x.frame.next = some e →
      exec (.plAckReceive n) s = .next (completePl n x true 0 (putNbr x.frame.next { e with misses := 0 } n s)))
  -- a frame without its acknowledgement waits for another turn; after its last retry it has failed with result 1; a failed channel
  -- access is result 2
  ∧ (∀ n x s, n < 16 → plRuns s n = true → (plOf s n).sent = some x →
      exec (.plAckTimeout n true x.frame.seq) s = .next (completePl n x false 2 s))
  ∧ (∀ n x s t, n < 16 → plRuns s n = true → (plOf s n).sent = some x → x.retry = false → t = countMiss n x.frame.next x.slot s →
      exec (.plAckTimeout n false x.frame.seq) s = .next
        (if (plOf t n).maxRetries < x.sent then completePl n x false 1 t
         else setPl n { plOf t n with sent := some { x with retry := true } } t))
  -- a pending refresh without a queued frame queues a frame that carries only the request; commands older than 10 s end
  ∧ (∀ n short slot e t s, n < 16 → plRuns s n = true → nbrOf (plOf (endOldRefresh n s) n) short = some e →
      (look {} e.fwd slot).pending = true →
      (let c := plOf (endOldRefresh n s) n
       (c.reply ++ c.fwd ++ c.nulvo ++ c.host).any fun f => f.next == short) = false →
      enqueuePl n { dest := short, next := short, queue := 2,
                    secure := (plKeyIndex (endOldRefresh n s) (plOf (endOldRefresh n s) n).net).isSome }
        (endOldRefresh n s) = some t →
      exec (.plRefreshTimer n short slot) s = .next t)
  ∧ (∀ n tag p s, n < 16 → plRuns s n = true → p ∈ (plOf s n).parts → p.tag = tag → p.last + 60 ≤ tb1Sec s →
      exec (.plReassemblyTimeout n tag) s = .next (logPl 0x60C n 0xFFFF 0xFF [] (setPl n { plOf s n with
        parts := (plOf s n).parts.filter fun p => !(p.tag == tag && decide (p.last + 60 ≤ tb1Sec s)) } s)))
  ∧ (∀ n short e s, n < 16 → plRuns s n = true → nbrOf (plOf s n) short = some e → e.heard + 86400 ≤ tb1Sec s →
      isNextHop (plOf s n) short = false → exec (.plNeighbourAgeing n short) s = .next (removeNbr n short 2 s))
  ∧ (∀ n d x s, n < 16 → plRuns s n = true → routeOf (plOf s n) d = some x → x.expiry ≤ tb1Sec s →
      exec (.plRouteLapse n d) s = .next
        (let t := setPl n { plOf s n with routes := put none (plOf s n).routes d none } s
         linkRecord n 5 0xFF 0 x.next d ((nbrOf (plOf s n) x.next).getD {}) (logPl 0x609 n x.next 0xFF [] t)))

/-- The radio commands complete (R283, R286, R291, R294, R299, R300, R303, R307, R308, R310): RF_CFG to RF_DEV_DELETE. -/
def Obligations.RadioCommandsComplete : Prop :=
  -- RF_CFG without a change of PHY, network or home channel: the access parameters are taken, queues and links stay
  Completes 0x0701 .rfCfg
    (fun _ r s => active s 9 = true ∧ arg r 0 1 < 6 ∧ isFenced s (119 + arg r 0 1) = false
      ∧ rfCfgChanges (rfOf s (arg r 0 1)) r = false ∧ arg r 1 1 = 0 ∧ arg r 6 1 ≤ 1 ∧ arg r 3 1 ≤ 1 ∧ arg r 4 1 ≤ 1
      ∧ arg r 5 1 ≤ 4 ∧ rfAccessBad r = false)
    (fun _ r _ => { payload := r.payload })
    (fun _ r s => logRf 0x701 (arg r 0 1) 0xFFFF (setRf (arg r 0 1) { rfOf s (arg r 0 1) with
      phy := 0, rate := arg r 2 1, modIndex := arg r 3 1, gfsk := arg r 4 1, fec := arg r 5 1, net := arg r 6 1,
      home := arg r 7 1, txPower := argS r 8 1, feTx := argS r 9 2, feRx := argS r 11 2, minBe := arg r 13 1,
      maxBe := arg r 14 1, maxBackoffs := arg r 15 1, unitBackoff := arg r 16 2, cca := argS r 18 1, lbt := arg r 19 1,
      lbtMin := arg r 20 2, lbtRand := arg r 22 2, txOnMax := arg r 24 2, txOffMin := arg r 26 2, maxRetries := arg r 28 1,
      evtLbt := arg r 29 1 } s))
  -- RF_NET_CFG of a plan inside a band that names no key slot: the frame counters stay
  ∧ Completes 0x0702 .rfNetCfg
    (fun _ r s => active s 9 = true ∧ arg r 0 1 ≤ 1 ∧ (1 ≤ arg r 7 1 ∧ arg r 7 1 ≤ 129) ∧ arg r 22 1 ≤ 127
      ∧ arg r 23 2 ≤ 10000 ∧ arg r 25 2 ≤ arg r 23 2 ∧ planFits (arg r 1 4) (arg r 5 2) (arg r 7 1) = true
      ∧ arg r 20 1 = 0xFF ∧ arg r 21 1 = 0xFF ∧ (∀ n ∈ rfNetChannels s (arg r 0 1), rfTransmitting (rfOf s n) = false ∧ rfSending s n = false))
    (fun _ r _ => { payload := r.payload })
    (fun _ r s =>
      let k := arg r 0 1
      let t := setRfNet k { rfNetOf s k with
        f0 := arg r 1 4, spacing := arg r 5 2, nCh := arg r 7 1, pan := arg r 8 2, short := arg r 10 2, eui := arg r 12 8,
        key1 := 0xFF, key2 := 0xFF, hq := arg r 22 1, dutyLimit := arg r 23 2, ackReserve := arg r 25 2 } s
      logEv 0x702 (119 + ((rfNetChannels t k).headD 0)) k [snapN 0xFFFF, 0, 0, 0] t)
  ∧ Completes 0x0703 .rfStatus (fun _ r s => active s 9 = true ∧ arg r 0 1 < 6)
    (fun src r s => (rfStatusRun src r s).1) (fun _ _ s => s)
  -- RF_LINK_ADD with a device that has no link and room for it: the link takes the first free index, and
  -- starts in RE_ACQUIRE where its first window would already be too wide
  ∧ (∀ t, Completes 0x0704 .rfLinkAdd
    (fun src r s => rfLinkAddCheck src r s = none ∧ ensureDev (rfOf s (arg r 0 1)).net (linkArg r).eui (linkArg r).short s = some t)
    (fun _ r s => { payload := le16 (freeLink (rfOf s (arg r 0 1))) })
    (fun _ r s =>
      let n := arg r 0 1
      let l := linkArg r
      let k := (rfOf s n).net
      let i := freeLink (rfOf s n)
      let u := putDev k l.eui { (devOf (rfNetOf t k) l.eui).getD {} with short := l.short, c0 := 0, link := some (n, i) } t
      let v := rfLinkRecord n 1 0 i l (logRf 0x704 n i (setLink n i (some l) u))
      if tooWide l then enterReAcquire n i l v else v))
  -- RF_LINK_UPDATE at an event at least two ahead waits for that event
  ∧ (∀ l, Completes 0x0705 .rfLinkUpdate
    (fun _ r s => active s 9 = true ∧ arg r 0 1 < 6 ∧ isFenced s (119 + arg r 0 1) = false ∧ namedLink s r = some l
      ∧ 2 ≤ (arg r 3 4 + 2 ^ 32 - l.e) % 2 ^ 32 ∧ (arg r 3 4 + 2 ^ 32 - l.e) % 2 ^ 32 < 2 ^ 31
      ∧ hopBad (rfNetAt s (arg r 0 1)).nCh (arg r 7 17) (arg r 24 1) (arg r 25 1) = false ∧ l.update = none)
    (fun _ r _ => { payload := le32 (arg r 3 4) })
    (fun _ r s =>
      let u : LinkUpdate := { at_ := arg r 3 4, map := BitVec.ofNat 136 (arg r 7 17), seed := arg r 24 1, inc := arg r 25 1 }
      logRf 0x704 (arg r 0 1) (arg r 1 2) (setLink (arg r 0 1) (arg r 1 2) (some { l with update := some u }) s)))
  ∧ Completes 0x0706 .rfLinkRemove
    (fun _ r s => active s 9 = true ∧ arg r 0 1 < 6 ∧ isFenced s (119 + arg r 0 1) = false ∧ (namedLink s r).isSome = true)
    (fun _ _ _ => {}) (fun _ r s => removeLink (arg r 0 1) (arg r 1 2) 2 s)
  ∧ Completes 0x0707 .rfLinkRead (fun _ r s => active s 9 = true ∧ (namedLink s r).isSome = true)
    (fun src r s => (rfLinkReadRun src r s).1) (fun _ _ s => s)
  -- RF_TX whose queue has room: the entry runs until the frame is settled
  ∧ (∀ q i t, Completes 0x0708 .rfTx
    (fun src r s => src = .sq q i ∧ active s 9 = true ∧ arg r 0 1 < 6 ∧ isFenced s (119 + arg r 0 1) = false
      ∧ (rfOf s (arg r 0 1)).phy ≠ 0
      ∧ Config.rfAirtimeUs (rfOf s (arg r 0 1)).phy (rfOf s (arg r 0 1)).rate (r.payload.length - 11)
          ≤ (rfOf s (arg r 0 1)).txOnMax * 1000
      ∧ enqueueRf (arg r 0 1) (rfTxArg q i r) s = some t)
    (fun _ _ _ => { status := .accepted }) (fun _ _ _ => t))
  ∧ (∀ d, Completes 0x0709 .rfDevDelete
    (fun _ r s => active s 9 = true ∧ arg r 0 1 < 2 ∧ devOf (rfNetOf s (arg r 0 1)) (arg r 1 8) = some d ∧ d.link = none)
    (fun _ _ _ => {})
    (fun _ r s => setRfNet (arg r 0 1) { rfNetOf s (arg r 0 1) with
      devices := dropKey (rfNetOf s (arg r 0 1)).devices (arg r 1 8) } s))

/-- The events of the radio channels take effect (R291–R295, R303, R305–R307). -/
def Obligations.RadioEventsTakeEffect : Prop :=
  -- a broadcast frame of the network from a known sender is counted and goes on to the further checks of R294
  (∀ n f e s, n < 6 → rfRuns s n = true → active s 9 = true → f.fcsOk = true → f.pan = (rfNetOf s (rfOf s n).net).pan → f.broadcast = true →
      senderEui (rfNetOf s (rfOf s n).net) f = some e → exec (.rfFrameReceive n f) s =
        .next (checkRf n e f (setRf n { rfOf s n with rx := (rfOf s n).rx + 1 } s)))
  -- a frame for another node is handed to Nulvo
  ∧ (∀ n f s, n < 6 → rfRuns s n = true → active s 9 = true → f.fcsOk = true → f.pan = (rfNetOf s (rfOf s n).net).pan → f.broadcast = false →
      f.dest ≠ (rfNetOf s (rfOf s n).net).short → exec (.rfFrameReceive n f) s =
        .next (toNulvo (0x30 + n) f.payload (setRf n { rfOf s n with rx := (rfOf s n).rx + 1 } s)))
  -- a channel whose measured energy shows it busy MAX_BACKOFFS times is result 2; a free one carries the frame
  ∧ (∀ n y z x a s, n < 6 → rfRuns s n = true → x = accessLevels (rfOf s n) y z → (rfOf s n).access = some a → rfBusy (rfOf s n) x = true →
      (rfOf s n).maxBackoffs ≤ a.busy + 1 → exec (.rfBackoffExpiry n y z) s = .next (completeRf n a.frame 2 s))
  ∧ (∀ n y z x a s, n < 6 → rfRuns s n = true → x = accessLevels (rfOf s n) y z → (rfOf s n).access = some a → rfBusy (rfOf s n) x = false → rfKeyLost s n a.frame = false →
      csmaMayStart s n (csmaUs (rfOf s n) a.frame) = true → a.frame.ack = true →
      exec (.rfBackoffExpiry n y z) s = .next
        (let f := { a.frame with sent := a.frame.sent + 1 }
         let t := rfOnAir n 0 f.payload.length (emit (.frame (16 + n) (rfFrameBytes s n f)) s)
         setRf n { rfOf t n with tx := (rfOf t n).tx + 1, access := none, sent := some f } t))
  ∧ (∀ n f s, n < 6 → rfRuns s n = true → (rfOf s n).downlink = none → (rfOf s n).sent = some f →
      exec (.rfAckReceive n) s = .next (completeRf n f 0 s))
  -- without an acknowledgement and with no retry left the frame has failed with result 1
  ∧ (∀ n f s, n < 6 → rfRuns s n = true → (rfOf s n).downlink = none → (rfOf s n).sent = some f →
      (rfOf s n).maxRetries < f.sent → exec (.rfAckTimeout n) s = .next (completeRf n f 1 s))
  -- the receiver goes to a window that nothing holds
  ∧ (∀ n i l s, n < 6 → rfRuns s n = true → linkOf (rfOf s n) i = some l → l.state = .synced →
      (rfOf s n).tuned = none → (rfOf s n).downlink = none → (rfOf s n).sent = none → rfSending s n = false →
      exec (.rfWindowTune n i) s = .next (setRf n { rfOf s n with tuned := some i } s))
  -- the window of an acknowledged anchor ends: the next event
  ∧ (∀ n i l s, n < 6 → rfRuns s n = true → linkOf (rfOf s n) i = some l → (rfOf s n).tuned = none → l.hit = true →
      l.state = .synced → tooWide (applyUpdate { l with e := (l.e + 1) % 2 ^ 32, hit := false }) = false →
      exec (.rfWindowEnd n i) s = .next (startAccess n
        (setLink n i (some (applyUpdate { l with e := (l.e + 1) % 2 ^ 32, hit := false })) s)))
  ∧ (∀ n i l s, n < 6 → rfRuns s n = true → linkOf (rfOf s n) i = some l →
      (l.sup : Int) * 1000000000 ≤ nsBetween (rfNow s n) l.aLast → exec (.rfSupervisionTimeout n i) s = .next (removeLink n i 1 s))
  -- the transmit time of the last 3,600 s passes both limits: data and acknowledgements are held, with a record and 0x709 for each
  ∧ (∀ n s, n < 6 → rfRuns s n = true → (rfNetAt s n).dutyLimit < 10000 → (rfNetAt s n).dutyLimit * 360000 ≤ dutyUs s n →
      exec (.rfDutyLimitChange n true) s = .next
        (dutyEvent n 2 (rfOf s n).ackHeld true (setRf n { rfOf s n with ackHeld := true } s))
      ∧ exec (.rfDutyLimitChange n false) s = .next
        (dutyEvent n 1 (rfOf s n).dataHeld true (setRf n { rfOf s n with dataHeld := true } s)))
  ∧ (∀ k e d s, k < 2 → fabricUp s = true → active s 9 = true → devOf (rfNetOf s k) e = some d → d.link = none →
      d.heard + 86400 ≤ tb1Sec s → exec (.rfDeviceAgeing k e) s =
        .next (setRfNet k { rfNetOf s k with devices := dropKey (rfNetOf s k).devices e } s))

/-- The ingest commands complete (R313, R314, R319, R321, R330, R334, R338, R339, R345, R348, R356, R358): ING_STATUS to SMB_TX. -/
def Obligations.IngestCommandsComplete : Prop :=
  Completes 0x0801 .ingStatus (fun _ r s => arg r 0 1 < 16 ∧ active s (fipDomain (arg r 0 1)) = true)
    (fun src r s => (ingStatusRun src r s).1) (fun _ _ s => s)
  ∧ Completes 0x0802 .fipCfg
    (fun _ r s => arg r 0 1 < 16 ∧ active s (fipDomain (arg r 0 1)) = true ∧ isFenced s (8 + arg r 0 1) = false
      ∧ arg r 1 1 < 128 ∧ (arg r 2 1 < 128 ∨ arg r 2 1 = 0xFF) ∧ arg r 3 1 ≤ 1 ∧ arg r 4 1 ≤ 1
      ∧ (fipOf s (arg r 0 1)).flights = [])
    (fun _ r _ => { payload := r.payload })
    (fun _ r s => setFip (arg r 0 1) { fipOf s (arg r 0 1) with
      hq := arg r 1 1, uhq := arg r 2 1, evict := arg r 3 1, uplinkUnknown := arg r 4 1 } s)
  -- ING_STEER_SET: the whole map changes, with the credit limit
  ∧ Completes 0x0803 .ingSteerSet
    (fun _ r s => (∀ i < 64, arg r i 1 < 16 ∧ active s (fipDomain (arg r i 1)) = true) ∧ 8 ≤ arg r 64 1 ∧ arg r 64 1 ≤ 128)
    (fun _ r _ => { payload := r.payload })
    (fun _ r s =>
      let m := (List.range 64).foldl (fun t i => put 0 t i (arg r i 1 + 1)) s.ingest.steerMap
      { s with ingest := { s.ingest with steerMap := m, steerLow := arg r 64 1 } })
  ∧ Completes 0x0804 .ingPortCfg
    (fun _ r s => (∃ u, portUnit (arg r 0 1) = some u ∧ isFenced s u = false)
      ∧ (portNeeds7 (arg r 0 1) = true → active s 7 = true) ∧ arg r 1 1 ≤ 1 ∧ arg r 2 1 ≤ 1 ∧ arg r 5 1 ≤ 7 ∧ anyFlight s = false)
    (fun _ r _ => { payload := r.payload })
    (fun _ r s =>
      let c : PortCfg := { framing := arg r 1 1, ack := arg r 2 1, udp := arg r 3 2, pfc := arg r 5 1 }
      { s with ingest := { s.ingest with ports := put {} s.ingest.ports (arg r 0 1) c } })
  ∧ Completes 0x0805 .ingParseSet
    (fun _ r s => arg r 0 1 < 16 ∧ arg r 1 1 ≤ 32 ∧ (∀ k < arg r 1 1, (objectOf r k).kind ≤ 2) ∧ anyFlight s = false)
    (fun _ r _ => { payload := r.payload })
    (fun _ r s =>
      let l := (List.range (arg r 1 1)).map (objectOf r)
      { s with ingest := { s.ingest with templates := put [] s.ingest.templates (arg r 0 1) l } })
  ∧ Completes 0x0806 .ingAckTemplate
    (fun _ r s => arg r 0 1 < 16 ∧ arg r 1 1 ≤ 1 ∧ 1 ≤ arg r 2 1 ∧ arg r 2 1 ≤ 96 ∧ anyFlight s = false)
    (fun _ r _ => { payload := r.payload })
    (fun _ r s =>
      let a := (arg r 1 1 == 1, fieldB r.payload 3 (arg r 2 1))
      { s with ingest := { s.ingest with ackTemplates := put (false, []) s.ingest.ackTemplates (arg r 0 1) a } })
  -- CTX_WRITE of a VALID context whose title the directory can take: GEN comes back, groups follow the change
  ∧ (∀ t, Completes 0x0807 .ctxWrite
    (fun src r s => ctxWriteCheck src r s = none ∧ ctxValid (ctxWritten r (ctxOf s (arg r 0 4))) = true
      ∧ ctxTitle (ctxWritten r (ctxOf s (arg r 0 4))) = ctxTitle (ctxOf s (arg r 0 4))
      ∧ dirInsert { title := ctxTitle (ctxWritten r (ctxOf s (arg r 0 4))), ctx := arg r 0 4,
                    gen := ctxGen (ctxWritten r (ctxOf s (arg r 0 4))) } s = some t)
    (fun _ r s => { payload := le8 (ctxGen (ctxWritten r (ctxOf s (arg r 0 4)))) })
    (fun _ r s => membersUpdate (arg r 0 4) (ctxOf s (arg r 0 4)) (ctxWritten r (ctxOf s (arg r 0 4)))
      (setCtx (arg r 0 4) (ctxWritten r (ctxOf s (arg r 0 4))) t)))
  -- CTX_WRITE whose title the directory cannot take: NORES and 0x804, nothing else changes
  ∧ Completes 0x0807 .ctxWrite
    (fun src r s => ctxWriteCheck src r s = none ∧ ctxValid (ctxWritten r (ctxOf s (arg r 0 4))) = true
      ∧ dirInsert { title := ctxTitle (ctxWritten r (ctxOf s (arg r 0 4))), ctx := arg r 0 4,
                    gen := ctxGen (ctxWritten r (ctxOf s (arg r 0 4))) }
          (if ctxTitle (ctxWritten r (ctxOf s (arg r 0 4))) = ctxTitle (ctxOf s (arg r 0 4)) then s
           else dirRemove (ctxTitle (ctxOf s (arg r 0 4))) (arg r 0 4) s) = none)
    (fun _ _ _ => fail .nores) (fun _ r s => logEv 0x804 0xFFFF 0xFFFF [snapN (arg r 0 4), 0, 0] s)
  ∧ Completes 0x0808 .ctxRead (fun _ r s => active s 6 = true ∧ isFenced s 92 = false ∧ arg r 0 4 < 2097152)
    (fun _ r s => { payload := ctxBytes (ctxOf s (arg r 0 4)) }) (fun _ _ s => s)
  ∧ Completes 0x0809 .ctxDelete (fun _ r s => active s 6 = true ∧ isFenced s 92 = false ∧ arg r 0 4 < 2097152)
    (fun src r s => (ctxDeleteRun src r s).1) (fun src r s => (ctxDeleteRun src r s).2)
  -- JT_INVALIDATE drops the entries it names, of one context or all, and counts them
  ∧ Completes 0x080A .jtInvalidate (fun _ r _ => arg r 0 1 = 0 ∧ arg r 1 4 < 2097152)
    (fun _ r s => { payload := le32 (s.ingest.junction.filter fun p => jtValid p.2 && jtCtx p.2 == arg r 1 4).length })
    (fun _ r s => { s with ingest := { s.ingest with
      junction := s.ingest.junction.filter fun p => !(jtValid p.2 && jtCtx p.2 == arg r 1 4) } })
  ∧ Completes 0x080B .jtRead
    (fun _ r s => arg r 0 1 < 16 ∧ active s (fipDomain (arg r 0 1)) = true ∧ isFenced s (8 + arg r 0 1) = false
      ∧ 1 ≤ arg r 3 2 ∧ arg r 3 2 ≤ 1023 ∧ arg r 1 2 + arg r 3 2 ≤ 8192)
    (fun src r s => (jtReadRun src r s).1) (fun _ _ s => s)
  -- ING_SUBMIT of a frame that steering finds room for: the frame waits in the FIFO of its pipeline and the entry runs on
  ∧ (∀ n i e f, Completes 0x080C .ingSubmit
    (fun src r s => src = .sq n i ∧ entryAt s n i = some e ∧ submitWaits src s = false ∧ ingSubmitCheck src r s = none
      ∧ steerTo s (submitDesc n i r e.fetched e.untrusted).steer (submitDesc n i r e.fetched e.untrusted).bytes.length = some f)
    (fun _ _ _ => { status := .accepted })
    (fun _ r s => claimEntry (some (n, i)) (8 + f) (placeIn f (submitDesc n i r e.fetched e.untrusted) s)))
  ∧ Completes 0x080D .dxPeerCfg
    (fun _ r s => active s 7 = true ∧ arg r 0 2 < 4096 ∧ arg r 2 1 ≤ 1 ∧ dtlsSlotBad (arg r 27 2) = false)
    (fun _ r _ => { payload := r.payload })
    (fun _ r s =>
      let p : Peer :=
        { enable := arg r 2 1 == 1, title := beNat (fieldB r.payload 3 8), addr := fieldB r.payload 11 16, dtls := arg r 27 2 }
      { s with ingest := { s.ingest with peers := put {} s.ingest.peers (arg r 0 2) p } })
  ∧ Completes 0x080E .dxUplinkCfg
    (fun _ r s => active s 7 = true ∧ arg r 1 1 < 4 ∧ isFenced s (93 + arg r 1 1) = false ∧ arg r 0 1 < 128
      ∧ dtlsSlotBad (arg r 20 2) = false ∧ 512 ≤ arg r 22 2 ∧ arg r 22 2 ≤ 8960 ∧ 100 ≤ arg r 24 4 ∧ arg r 24 4 ≤ 100000
      ∧ 10 ≤ arg r 28 2 ∧ arg r 28 2 ≤ 10000)
    (fun _ r _ => { payload := r.payload })
    (fun _ r s => setUplink { s.ingest.uplink with
      enable := true, hq := arg r 0 1, eth := arg r 1 1, addr := fieldB r.payload 2 16, udp := arg r 18 2, dtls := arg r 20 2,
      max := arg r 22 2, timeout := arg r 24 4, retransmit := arg r 28 2 } s)
  ∧ Completes 0x080F .smbCfg
    (fun _ r s => active s 7 = true ∧ arg r 0 1 < 4 ∧ isFenced s (99 + arg r 0 1) = false ∧ smbCfgBad r = false
      ∧ (smbOf s (arg r 0 1)).requests = [])
    (fun _ r _ => { payload := r.payload })
    (fun _ r s => setSmb (arg r 0 1) { smbOf s (arg r 0 1) with mode := arg r 1 1, baud := arg r 2 4, parity := arg r 6 1 } s)
  -- SMB_TX on an idle bus: the request is on the wire (in RS-485 with the driver enabled for its bits) and the entry runs until its answer
  ∧ (∀ q i, Completes 0x0810 .smbTx
    (fun src r s => src = .sq q i ∧ active s 7 = true ∧ arg r 0 1 < 4 ∧ isFenced s (99 + arg r 0 1) = false
      ∧ (smbOf s (arg r 0 1)).mode ≠ 0 ∧ (smbOf s (arg r 0 1)).requests = [])
    (fun _ _ _ => { status := .accepted })
    (fun _ r s =>
      let n := arg r 0 1
      let b := r.payload.drop 1
      let t := setSmb n { smbOf s n with requests := [{ sq := q, idx := i, bytes := b }] } s
      claimEntry (some (q, i)) (99 + n) (emit (.frame (48 + n) b)
        (if (smbOf t n).mode = 1 then emit (.driverEnable n (enableBits (smbOf t n) b.length)) t else t))))

/-- The events of ingest take effect (R314, R321, R325, R332, R335, R347, R348, R354–R356, R395). -/
def Obligations.IngestEventsTakeEffect : Prop :=
  -- a serial frame that fails its framing or check is counted and logged; a good one without an APDU goes to Nulvo
  (∀ n ok coll apdu a b s, n < 4 → fabricUp s = true → active s 7 = true → isFenced s (99 + n) = false → (smbOf s n).mode ≠ 0 →
      (ok = false ∨ (coll = true ∧ (smbOf s n).mode = 2)) →
      exec (.smbFrameReceive n ⟨ok, coll⟩ apdu a b) s = .next (logEv 0x80C (99 + n) 0xFFFF [0, 0, snapN (0x10 + n)]
        (setSmb n { smbOf s n with errors := ((smbOf s n).errors + 1) % 2 ^ 32 } s)))
  ∧ (∀ n coll a b s, n < 4 → fabricUp s = true → active s 7 = true → isFenced s (99 + n) = false → (smbOf s n).mode ≠ 0 →
      (coll = true → (smbOf s n).mode ≠ 2) →
      exec (.smbFrameReceive n ⟨true, coll⟩ false a b) s = .next (toNulvo (0x10 + n) b (endRequest n true s)))
  -- a datagram for another UDP port goes to Nulvo; an envelope from an unknown peer is rejected with 0x808
  ∧ (∀ n a u b s, n < 4 → ethRuns s n = true → u ≠ udpPort s (0x40 + n) →
      exec (.dxDataReceive n a u true true b) s = .next (toNulvo (0x40 + n) b s))
  ∧ (∀ n a b s, n < 4 → ethRuns s n = true → dtlsRecord b = false → peerOf s (beNat (fieldB b 4 8)) a = none →
      exec (.dxDataReceive n a (udpPort s (0x40 + n)) true true b) s =
        .next (logEv 0x808 (93 + n) 0xFFFF [0, 0, snapN (0x40 + n)] s))
  -- a DTLS record goes to the session of its sender's slot, to be opened by its lane
  ∧ (∀ n a b i s, n < 4 → ethRuns s n = true → dtlsRecord b = true → dtlsSlotOf s a = some i →
      exec (.dxDataReceive n a (udpPort s (0x40 + n)) true true b) s =
        .next (queueSession i (.openRec i b (some { eth := n, addr := a, rx := tbVal s 0, untrusted := timeUntrusted s })) s))
  -- a good envelope of a peer without DTLS, on an empty ingress buffer: a repeat is answered by its SENT entry, a new one is placed whole
  ∧ (∀ n a b p x l i e s, n < 4 → ethRuns s n = true → dtlsRecord b = false → peerOf s (beNat (fieldB b 4 8)) a = some (p, x) →
      x.dtls = 0xFFFF → innerFrames (fieldU b 16 2) (b.drop 32) = some l → headerOk b 1 = true → (60 ≤ b.length ∧ b.length ≤ 8960) →
      (1 ≤ fieldU b 16 2 ∧ fieldU b 16 2 ≤ 255) → s.ingest.ingress = [] →
      findReply s (.envelope p (fieldU b 12 4)) none = some (i, e) → e.sent = true →
      exec (.dxDataReceive n a (udpPort s (0x40 + n)) true true b) s = .next (queueAck e s))
  ∧ (∀ n a b p x l i w s' t s, n < 4 → ethRuns s n = true → dtlsRecord b = false → peerOf s (beNat (fieldB b 4 8)) a = some (p, x) →
      x.dtls = 0xFFFF → innerFrames (fieldU b 16 2) (b.drop 32) = some l → headerOk b 1 = true → (60 ≤ b.length ∧ b.length ≤ 8960) →
      (1 ≤ fieldU b 16 2 ∧ fieldU b 16 2 ≤ 255) → s.ingest.ingress = [] → findReply s (.envelope p (fieldU b 12 4)) none = none →
      w = { eth := n, peer := p, seq := fieldU b 12 4, frames := l, size := b.length, rx := tbVal s 0, untrusted := timeUntrusted s } →
      reserveReply { key := .envelope p (fieldU b 12 4), port := 0x40 + n, addr := p, open_ := l.length } s = some (i, s') →
      placeAll (innerDescs w i 0 l) s' = some t →
      exec (.dxDataReceive n a (udpPort s (0x40 + n)) true true b) s = .next t)
  -- one that no FIFO can take whole waits in the ingress buffer, and the port's PFC pause follows the buffer
  ∧ (∀ w s, s.ingest.ingress ≠ [] → ingressUsed s + w.size ≤ 1048576 →
      takeEnvelope w s = setPause { s with ingest := { s.ingest with ingress := s.ingest.ingress ++ [w] } })
  -- an ACK releases its envelope and delivers its records
  ∧ (∀ n b e s, n < 4 → ethRuns s n = true → headerOk b 2 = true → b.length = 32 → fieldU b 16 2 = 0 →
      (s.ingest.uplink.unacked.find? fun x => x.seq == fieldU b 12 4) = some e → s.ingest.uplink.eth = n →
      exec (.dxAckReceive n b) s = .next (deliverRecords e.records (setUplink { s.ingest.uplink with
        unacked := s.ingest.uplink.unacked.filter fun x => x.seq != fieldU b 12 4 } s)))
  ∧ (∀ s, uplinkRuns s = true → s.ingest.uplink.inner ≠ [] → s.ingest.uplink.unacked.length < 16384 →
      exec .dxEnvelopeTimeout s = .next (closeEnvelope s))
  -- an unacknowledged envelope is sent again, unchanged, and its time doubles up to 10 s
  ∧ (∀ k e s, uplinkRuns s = true → (s.ingest.uplink.unacked.find? fun x => x.seq == k) = some e → e.attempts ≠ 7 →
      exec (.dxRetransmitTimeout k) s = .next (sendEnvelope s.ingest.uplink e.bytes (setUplink { s.ingest.uplink with
        unacked := s.ingest.uplink.unacked.map fun x => if x.seq = k then
          { e with attempts := e.attempts + 1, wait := min 10000 (2 * e.wait) } else x } s)))
  -- admission: the head frame leaves the FIFO with its reservations, tag and sequence number and enters the stages
  ∧ (∀ n d rest tag fl t s, n < 16 → mayAdmit s n = true → (fipOf s n).fifo = d :: rest → freeTag (fipOf s n) = some tag →
      reserveAll n d s = .ok (fl, t) → exec (.frameAdmit n) s = .next (enterStages n
        { fl with tag := tag, seq := t.ingest.nextSeq }
        (setFip n { fipOf t n with
            fifo := rest, flights := (fipOf t n).flights ++ [{ fl with tag := tag, seq := t.ingest.nextSeq }],
            admitted := (fipOf t n).admitted + 1 }
          { t with ingest := { t.ingest with nextSeq := nextIngestSeq t.ingest.nextSeq } })))
  ∧ (∀ n d rest tag c t s, n < 16 → mayAdmit s n = true → (fipOf s n).fifo = d :: rest → freeTag (fipOf s n) = some tag →
      reserveAll n d s = .error (c, t) → exec (.frameAdmit n) s = .next (closeAdmission n c { desc := d } t))
  -- pond credit is back above its hysteresis: admission opens with 0x801
  ∧ (∀ n q c s, n < 16 → fabricUp s = true → active s (fipDomain n) = true → (fipOf s n).closed = some (.cells q c true) →
      (hqOf s q).en = true → c + 4096 ≤ s.host.pondFree → exec (.admissionReopen n) s =
        .next (logIng 0x801 n 0xFFFF {} (setFip n { fipOf s n with closed := none } s)))
  -- a frame that is no READING and has a context for local use only: one EVENT record, the clock of its meter time, and SEQ2 moves
  ∧ (∀ n fl tag s, n < 16 → flightOf s n tag = some fl → fl.verdict.isSome = true → fipServes s n = true → fl.entry = none →
      ctxGen (ctxOf s fl.ctx) = ctxGen fl.seen → ctxParse (ctxOf s fl.ctx) = 0xFF →
      (parseApdu [] (fl.plain.getD [])).readings = none →
      ctxLocal (ctxOf s fl.ctx) = true → ctxUplink (ctxOf s fl.ctx) = false → exec (.frameValidate n tag) s = .next
        (let b := fl.plain.getD []
         let c := (frameClock (ctxOf s fl.ctx) (parseApdu [] b).meterTime (rxSeconds s fl.desc.rxTb0)).1
         let t := applyMsgs fl.ctx fl [] (setCtx fl.ctx { c with seq2 := (c.seq2 + 1) % 2 ^ 32 } s)
         finishFrame n fl [harvestRecord (frameHeader fl 3 (frameFlags fl false) (ingestFlags fl) true)
             (readingHead b.length (parseApdu [] b) fl ++ b)] [] false (if fl.verdict = some .dup then 2 else 0) t))
  -- a frame whose context was rewritten meanwhile is discarded with 0x805
  ∧ (∀ n fl tag s, n < 16 → flightOf s n tag = some fl → fl.verdict.isSome = true → fipServes s n = true →
      ctxGen (ctxOf s fl.ctx) ≠ ctxGen fl.seen →
      exec (.frameValidate n tag) s = .next (discardFrame n fl .discarded (logIng 0x805 n tag fl s)))
  ∧ (∀ n k c g r s, n < 16 → fipServes s n = true → (fipOf s n).learn = (k, c, g) :: r →
      exec (.junctionLearn n) s = .next (insertJt n k c g (setFip n { fipOf s n with learn := r } s)))
  -- a scrub checks the bucket in whose span of the second TB1 stands
  ∧ (∀ n s, n < 16 → fipServes s n = true → exec (.junctionScrub n (scrubBucket s)) s = .next (checkBucket n (scrubBucket s) s))
  -- the last record of a frame is delivered: its acknowledgement is queued and the entry is SENT
  ∧ (∀ q k i e s, q < 128 → fabricUp s = true →
      (s.host.delivered.find? fun x => x.1 == q && x.2.1 == k) = some (q, k, i) → replyOf s i = some e →
      exec (.recordDelivered q k) s = .next (settleReply i (setReply i (some { e with records := e.records - 1 })
        { s with host := { s.host with delivered := s.host.delivered.filter fun y => y != (q, k, i) } })))
  ∧ (∀ i e s, fabricUp s = true → replyOf s i = some e → e.sent = true →
      exec (.replyEntryExpiry i) s = .next (setReply i none s))

/-- Lanes, session slots and revocation (R362–R367, R384, R387, R390): CL_STATUS, CL_TEST, CL_BORROW_CFG, SESS_STATUS and SESS_CLEAR
complete, and REVOCATION, CL_TEST_END, LANE_GRANT, LANE_OPERATION_END and LANE_QUEUE_TIMEOUT have their effect. -/
def Obligations.LaneRowsComplete : Prop :=
  Completes 0x0920 .clStatus
    (fun _ r s => active s 5 = true ∧ arg r 0 1 < 64)
    (fun _ r s =>
      let x := laneOf s (arg r 0 1)
      { payload := le8 (laneCode s (arg r 0 1)) ++ le8 (arg r 0 1 / 4)
          ++ le8 (match x.op with
            | some o => if x.state = .lent then o.fip else 0xFF
            | none => 0xFF)
          ++ le32 x.ops ++ le32 x.lentOps ++ le32 x.faults ++ le32 x.discarded })
    (fun _ _ s => s)
  ∧ (∀ m, Completes 0x0921 .clTest
    (fun src r s => src = .mb m ∧ active s 5 = true ∧ arg r 0 1 < 64 ∧ (unitOf s (24 + arg r 0 1)).retired = false
      ∧ testable s (arg r 0 1) = true)
    (fun _ _ _ => { status := .accepted })
    (fun _ r s => setLane (arg r 0 1) { laneOf s (arg r 0 1) with state := .test, testMb := some m } s))
  -- no test failed: the lane is IDLE and its unit READY again, and the command is answered with pass
  ∧ (∀ l m s, l < 64 → fabricUp s = true → working s 5 = true → (laneOf s l).state = .test → (laneOf s l).testMb = some m →
      (unitOf s (24 + l)).state = .fenced → exec (.clTestEnd l 0) s = .next
        (finishMb m .ok (le8 0 ++ le8 0) (logLane 0x921 (some l) 0xFFFF 0 0 []
          (setUnit (24 + l) { unitOf s (24 + l) with state := .ready } (setLane l { laneOf s l with state := .idle, testMb := none } s)))))
  -- CL_BORROW_CFG of one pipeline
  ∧ (∀ n, n < 16 → Completes 0x0922 .clBorrowCfg
    (fun _ r s => active s 5 = true ∧ arg r 0 1 = n ∧ arg r 1 1 ≤ 4)
    (fun _ r s =>
      let t := { s with lanes := { s.lanes with borrowMax := put 2 s.lanes.borrowMax n (arg r 1 1) } }
      { payload := (List.range 16).flatMap fun i => le8 (borrowMax t i) })
    (fun _ r s => { s with lanes := { s.lanes with borrowMax := put 2 s.lanes.borrowMax n (arg r 1 1) } }))
  ∧ Completes 0x0925 .sessStatus (fun _ _ s => active s 5 = true)
    (fun _ r s => { payload := sessBytes (sessSlot s (arg r 0 1)) }) (fun _ _ s => s)
  ∧ Completes 0x0926 .sessClear (fun _ _ s => active s 5 = true)
    (fun _ r s => { payload := le8 (sessSlot s (arg r 0 1)).kind })
    (fun _ r s => logSession (arg r 0 1) (setSession (arg r 0 1) {} s))
  -- a revocation reaches PD5: each lane loses or restarts its operation, with 0x922, its notice and V232
  ∧ (∀ k s, fabricUp s = true → active s 5 = true → s.keys.revocations.contains (some k) = true →
      exec (.revocation (some k)) s = .next
        (let t := { s with keys := { s.keys with revocations := s.keys.revocations.filter fun x => x != some k } }
         let p := (List.range 64).foldl (fun p l => revokeLane (some k) l p) (0, t)
         raiseV 232 (logNotice 0x922 0xFFFF k [snapN p.1, snapN (omkOf p.2 k).gen, snapN p.1, snapN (lcCode (lcState p.2))] p.2)))
  -- an idle lane starts the head operation of the pipeline it goes to
  ∧ (∀ l s, l < 64 → laneTarget s l = some (l / 4) → exec (.laneGrant l) s = .next (startOp l (l / 4) s))
  -- an operation ends: key material is cleared whatever the outcome; a session result is released
  ∧ (∀ l o i s, l < 64 → fabricUp s = true → working s 5 = true → (laneOf s l).op = some o → sessionOf o.kind = some i →
      exec (.laneOperationEnd l false) s = .next (sessionDone (laneOf s l) o i (setLane l (clearLane (laneOf s l)) s)))
  ∧ (∀ l o s, l < 64 → fabricUp s = true → working s 5 = true → (laneOf s l).op = some o →
      exec (.laneOperationEnd l true) s = .next (laneMismatch l o s))
  -- a session operation that has waited 10 ms at the head of its queue fails, with 0x92B
  ∧ (∀ n q rest i s, n < 16 → fabricUp s = true → laneQueue s n = q :: rest → sessionOf q.kind = some i →
      q.since.toNat * 1000000 / 2 ^ 36 + 10000 ≤ tb1Us s → exec (.laneQueueTimeout n) s = .next
        (sessionFails i q.kind (logLane 0x92B (some (4 * n)) i 0 1 [] (setLaneQueue n (dequeue s rest) s))))

/-- The balance and phase commands complete (R408–R410, R413, R414, R419–R421): BAL_GROUP_CFG to BAL_OUTPUT_CFG. -/
def Obligations.BalanceCommandsComplete : Prop :=
  -- BAL_GROUP_CFG of a group that was not enabled: the configuration is taken and intervals before the boundary stay shut
  Completes 0x0A01 .balGroupCfg
    (fun _ r s => active s 6 = true ∧ (isLocal (arg r 0 4) = true → active s 10 = true) ∧ isFenced s 5 = false
      ∧ groupBad r = false ∧ (isLocal (arg r 0 4) = true → localBad s (arg r 0 4) (groupAsked r {}) = false)
      ∧ (grpOf s (arg r 0 4)).enable = false)
    (fun _ r s => { payload := groupBytes (arg r 0 4) (groupAsked r (grpOf s (arg r 0 4))) })
    (fun _ r s => setGrp (arg r 0 4) { groupAsked r (grpOf s (arg r 0 4)) with
      last := tb2Sec s / (60 * arg r 6 2) * (60 * arg r 6 2) } s)
  -- BAL_FEED of an open interval replaces its feeder side; coverage may close it
  ∧ (∀ i, Completes 0x0A02 .balFeed
    (fun src r s => balFeedCheck src r s = none ∧ openAt (grpOf s (arg r 0 4)) (arg r 4 9 / 2 ^ 36) = some i)
    (fun src r s => (balFeedRun src r s).1)
    (fun _ r s => coverClose (arg r 0 4) (setOpen (arg r 0 4) { i with
      feed := signed 72 (arg r 13 9) * 2 ^ 32, feedSeen := true, i2t := arg r 22 9 * 2 ^ 32,
      volts := [arg r 31 4, arg r 35 4, arg r 39 4], weight := 1 } s)))
  -- BAL_FEED of a closed interval is STALE and logged
  ∧ Completes 0x0A02 .balFeed
    (fun src r s => balFeedCheck src r s = none ∧ openAt (grpOf s (arg r 0 4)) (arg r 4 9 / 2 ^ 36) = none
      ∧ mayOpen s (grpOf s (arg r 0 4)) (arg r 4 9 / 2 ^ 36) = false)
    (fun _ _ _ => fail .stale) (fun _ r s => logBal 0xA07 (arg r 0 4) (arg r 4 9 / 2 ^ 36) 0 0 s)
  ∧ Completes 0x0A03 .balStatus (fun _ r s => active s 6 = true ∧ arg r 0 4 < 65568)
    (fun src r s => (balStatusRun src r s).1) (fun _ _ s => s)
  -- BAL_CLOSE closes the oldest open interval with cause 2
  ∧ (∀ i l, Completes 0x0A04 .balClose
    (fun _ r s => active s 6 = true ∧ isFenced s 5 = false ∧ arg r 0 4 < 65568 ∧ (grpOf s (arg r 0 4)).opens = i :: l)
    (fun _ _ _ => { payload := leBytes 9 (i.start * 2 ^ 36) }) (fun _ r s => closeBal (arg r 0 4) i 2 s))
  ∧ Completes 0x0A05 .balHistoryRead (fun _ r s => active s 6 = true ∧ arg r 0 4 < 65568)
    (fun src r s => (balHistoryReadRun src r s).1) (fun _ _ s => s)
  ∧ Completes 0x0A06 .phaseCfg (fun _ r s => active s 6 = true ∧ isFenced s 5 = false ∧ phaseCfgBad r = false)
    (fun _ r _ =>
      let b := le16 (arg r 0 2) ++ le16 (arg r 2 2) ++ le16 (arg r 4 2) ++ le16 (arg r 6 2) ++ le16 (arg r 8 2) ++ le8 (arg r 10 1)
      { payload := b })
    (fun _ r s => { s with balance := { s.balance with
      nMin := arg r 0 2, nHalf := arg r 2 2, rMin := arg r 4 2, rMargin := arg r 6 2, rTopo := arg r 8 2, zcMin := arg r 10 1 } })
  ∧ Completes 0x0A07 .phaseRead (fun _ r s => active s 6 = true ∧ arg r 0 4 < 2097152)
    (fun src r s => (phaseReadRun src r s).1) (fun _ _ s => s)
  ∧ Completes 0x0A08 .phaseReset (fun _ r s => active s 6 = true ∧ isFenced s 5 = false ∧ arg r 0 4 < 2097152)
    (fun _ _ _ => {})
    (fun _ r s => setPhase (arg r 0 4) { phaseOf s (arg r 0 4) with
      n := 0, sx := 0, sxx := 0, s1 := {}, s2 := {}, s3 := {}, votes := [0, 0, 0, 0], phase := 0, mismatch := false } s)
  ∧ Completes 0x0A09 .balOutputCfg (fun _ r s => active s 6 = true ∧ isFenced s 5 = false ∧ arg r 0 1 < 128)
    (fun _ r _ => { payload := le8 (arg r 0 1) })
    (fun _ r s => { s with balance := { s.balance with outHq := some (arg r 0 1) } })

/-- The events of the balance engine take effect (R410, R414–R416, R420). -/
def Obligations.BalanceEventsTakeEffect : Prop :=
  -- TB2 has passed a boundary that no interval of the group has opened
  (∀ k s, k < 65568 → groupServes s k = true → (grpOf s k).enable = true → (grpOf s k).last < groupBoundary s (grpOf s k) →
      exec (.balIntervalOpen k) s = .next (openInterval k (groupBoundary s (grpOf s k)) s))
  -- the oldest interval past its deadline closes with cause 1
  ∧ (∀ k i l s, k < 65568 → groupServes s k = true → (grpOf s k).opens = i :: l →
      i.start + 60 * (grpOf s k).len + (grpOf s k).deadline ≤ tb2Sec s → exec (.balDeadline k) s = .next (closeBal k i 1 s))
  -- before its deadline an interval stays open
  ∧ (∀ k i l s, k < 65568 → groupServes s k = true → (grpOf s k).opens = i :: l → 0 < (grpOf s k).deadline →
      tb2Sec s < i.start → (∀ x ∈ l, tb2Sec s < x.start) → exec (.balDeadline k) s = .next s)
  -- the payload that was closed first is emitted once its record has its reservation
  ∧ (∀ k c q t s, k < 65568 → groupServes s k = true → waitingClosed (grpOf s k) = some c → s.balance.outHq = some q →
      firstClosed s c = true → emitRecord q (c.header ++ c.payload) s = some t → exec (.balRecordEmit k) s =
        .next (setGrp k { grpOf t k with ring := (grpOf t k).ring.map fun x =>
          if x.order = c.order then { x with emitted := true } else x } t))
  ∧ (∀ i b q t s, i < 2097152 → balServes s = true → active s 6 = true → (phaseOf s i).pending = some b →
      s.balance.outHq = some q → emitRecord q b s = some t →
      exec (.phaseRecordEmit i) s = .next (setPhase i { phaseOf t i with pending := none, updated := false } t))

/-- Life cycle, tamper, random numbers and engines (R423–R455). The life-cycle commands and events complete (R426–R429, R433, R448,
R449, R543): LC_STATUS, LC_NEXT_DIK, LC_ADVANCE, LC_TRANSITION_COMPLETE, LC_RECOVER, LC_RECOVER_COMPLETE, LC_DEBUG_OPEN,
TAMPER_SAMPLE_TRIP, DEBUG_ACCESS_ATTEMPT and THERMAL_THRESHOLD. Tamper configuration, status, random numbers, re-masking and the
public-key engines (R435, R447, R448, R451–R453): TMP_CFG, TMP_STATUS, SEC_STATUS and the events of these units have their
effect. -/
def Obligations.LifeCycleAndTamperRowsTakeEffect : Prop :=
  Completes 0x0B20 .lcStatus (fun _ _ _ => True)
    (fun _ _ s =>
      { payload := le8 (lcCode (lcState s)) ++ le32 s.keys.alarmSeq ++ le8 (b2n s.keys.journal.isSome)
          ++ le8 (b2n (!debugClosed s)) })
    (fun _ _ s => s)
  -- LC_NEXT_DIK asks a public-key engine; when it has ended, the public key of the next state, attested by the outgoing key
  ∧ (∀ m, Completes 0x0B22 .lcNextDik
    (fun src _ s => src = .mb m ∧ active s 5 = true ∧ isFenced s 88 = false ∧ (activeRoot s).isSome = true
      ∧ (rootFor s (lcNext (lcState s))).isSome = true ∧ s.keys.rngHealthy = true)
    (fun _ _ _ => { later := true }) (fun _ r s => pkeAsk { cls := 1, job := .command m r } s))
  ∧ (∀ old new, Signed 0x0B22
    (fun _ _ s => active s 5 = true ∧ isFenced s 88 = false ∧ activeRoot s = some old ∧ rootFor s (lcNext (lcState s)) = some new
      ∧ s.keys.rngHealthy = true)
    (fun _ _ s =>
      { payload := le8 (lcCode (lcNext (lcState s))) ++ dikPublic new
          ++ Config.ecdsaSign (dikOf old) (Config.sha384 (statementBytes (lcNext (lcState s)) (dikPublic new))) })
    (fun _ _ s => s))
  -- PROVISION to FIELD, authenticated in MB3 under session 0, with a bundle that opens under the FIELD key and carries AUK_3
  ∧ (∀ root ks, Completes 0x0B21 .lcAdvance
    (fun src r s => src = .mb 3 ∧ r.session = 0 ∧ lcState s = .provision ∧ arg r 0 1 = 3 ∧ r.payload.length = 209
      ∧ rootFor s .field = some root ∧ bundleKeys root (fieldB r.payload 1 208) = some ks
      ∧ bundleHas (fieldB r.payload 1 208) 3 = true ∧ s.keys.latch = false ∧ s.keys.alarmHold = false ∧ s.keys.rngHealthy = true ∧ s.keys.run = none)
    (fun _ _ _ => { status := .accepted })
    (fun _ r s => pkeAsk { cls := 1 } (beginTransition 3 .field (fieldB r.payload 1 208) s)))
  -- a transition whose revocation has reached PD5 blows its fuses, answers OK with the new state and restarts
  ∧ (∀ x j s, fabricUp s = true → s.keys.run = some x → s.keys.journal = some j → s.keys.revocations.contains none = false →
    exec .lcTransitionComplete s = .next (softRestart
      (finishMb x.mb .ok (le8 (lcCode (lcState (completeTransition j 0xB21 s)))) (completeTransition j 0xB21 s))))
  -- in ALARM_HOLD a token of kind 6 is accepted once the tripping condition is gone
  ∧ (∀ m, Completes 0x0B23 .lcRecover
    (fun src r s => src = .mb m ∧ s.keys.alarmHold = true ∧ tokenOk s 6 (r.payload.take 256) = true
      ∧ tripHolds s = false)
    (fun _ _ _ => { status := .accepted })
    (fun _ r s => { s with keys := { s.keys with recover := some (m, r.payload.drop 256) } }))
  -- the latch is cleared, 0xB23 written, the command answered, and the bundle imported after the restart
  ∧ (∀ m b s, fabricUp s = true → s.keys.recover = some (m, b) → exec .lcRecoverComplete s = .next
      (let t := logBoot 0xB23 0xFFFF [] { s with keys := { s.keys with latch := false, alarmHold := false, recover := none } }
       importBundle b (softRestart (zeroStore (finishMb m .ok (le8 (lcCode (lcState t))) t)))))
  -- the port opens after the key store is zeroed
  ∧ Completes 0x0B24 .lcDebugOpen
    (fun _ r s => lcState s = .provision ∧ tokenOk s 3 r.payload = true ∧ s.keys.rngHealthy = true)
    (fun _ _ _ => {})
    (fun _ _ s => logBoot 0xB24 0xFFFF []
      { zeroStore s with keys := { (zeroStore s).keys with debugOpen := true } })
  -- a tripping sample of a source that is on is noted; an ALARM of a running module revokes, zeroes and restarts; a RECORD is logged with
  -- V196; the backup section latches the class
  ∧ (∀ x s u, sampleTrips s x = true → u = noteSample x s → sourceOn u (sampleClass x) = true → u.power.aux = true →
    u.keys.alarmHold = false → lcState u ≠ .void → fabricUp u = true → exec (.tamperSampleTrip x) s = .next
      (if alarms u (sampleClass x) then softRestart (alarmRunning (sampleClass x) (setLatch u)) else recordTrip (sampleClass x) u))
  ∧ (∀ x s u, sampleTrips s x = true → u = noteSample x s → sourceOn u (sampleClass x) = true → u.power.aux = false →
    exec (.tamperSampleTrip x) s = .next (sleepTrip (sampleClass x) u))
  ∧ (∀ x s, sampleTrips s x = false → exec (.tamperSampleTrip x) s = .next (noteSample x s))
  -- eight TCK edges on a closed port are tamper class 16
  ∧ (∀ k s, 8 ≤ k → debugClosed s = true → s.power.aux = true → exec (.debugAccessAttempt k) s = .next (tamperTrip 16 s))
  -- a die above 115 °C is cut off; a temperature outside the tamper limits is class 14 as well
  ∧ (∀ die t c s u, u = (if s.power.main then cutoff die t (warmCrossing die t c s) else s) →
    exec (.thermalThreshold die t c) s = .next
      (if tempTrips t then tamperTrip 14 (noteSample (.temperature die t) u) else noteSample (.temperature die t) u))
  -- TMP_CFG with a changed configuration, in PROVISION or where it only tightens
  ∧ Completes 0x090D .tmpCfg
    (fun _ r s => isFenced s 137 = false ∧ (∀ i < 8, arg r i 1 ≤ 2) ∧ (∀ i < 13, arg r (8 + i) 1 ≤ 1)
      ∧ (lcState s = .provision ∨ tightens s (cfgModes r) (cfgActions r) = true) ∧ cfgModes r ≠ s.keys.modes)
    (fun _ r _ => { payload := r.payload })
    (fun _ r s => logKey 0x90B 0xFFFF 0 0 [] { s with keys := { s.keys with modes := cfgModes r, actions := cfgActions r } })
  -- TMP_STATUS: latch, alarm number, the last inputs and the classes that trip
  ∧ Completes 0x090E .tmpStatus (fun _ _ _ => True)
    (fun _ _ s => { payload := le8 (b2n s.keys.latch) ++ le32 s.keys.alarmSeq ++ le8 s.keys.inputs ++ le16 s.keys.tripping })
    (fun _ _ s => s)
  ∧ Completes 0x090F .secStatus (fun _ _ _ => True)
    (fun _ _ s =>
      { payload := (List.range 4).flatMap (fun n =>
          le8 (pkeCode s n) ++ le16 s.keys.pkeQueue.length ++ le32 (look 0 s.keys.pkeOps n))
          ++ le8 (b2n s.keys.rngHealthy) ++ le32 s.keys.remaskSkips })
    (fun _ _ s => s)
  ∧ (∀ s, s.power.aux = true → s.keys.rngHealthy = true →
    exec .rngReseed s = .next { s with keys := { s.keys with reseeds := s.keys.reseeds + 1 } })
  -- a failed health test stops secret uses, with 0x90D and V232
  ∧ (∀ s, s.power.aux = true → s.keys.rngHealthy = true → exec (.rngHealthFail false) s =
      .next (raiseV 232 (logKey 0x90D 0xFFFF 0 0 [] { s with keys := { s.keys with rngHealthy := false } })))
  -- a re-masking period draws new masks for every key record and for the lane keys, and no key changes; a pass that cannot draw is
  -- skipped and counted, with 0x905
  ∧ (∀ s, s.power.aux = true → s.power.main = true → s.keys.rngHealthy = true → ∀ t u v w,
    t = (remaskTab s.keys.auks s).2 → u = (remaskTab t.keys.omkRecs t).2 →
    v = (remaskTab u.keys.gks u).2 → w = (remaskRam v.keys.laneRam v).2 →
    exec .remaskPeriod s = .next { w with keys := { w.keys with
      auks := (remaskTab s.keys.auks s).1, omkRecs := (remaskTab t.keys.omkRecs t).1,
      gks := (remaskTab u.keys.gks u).1, laneRam := (remaskRam v.keys.laneRam v).1 } })
  ∧ (∀ s, s.power.aux = true → s.power.main = true → s.keys.rngHealthy = false → exec .remaskPeriod s =
      .next (logKey 0x905 0xFFFF 0 0 [] { s with keys := { s.keys with remaskSkips := (s.keys.remaskSkips + 1) % 2 ^ 32 } }))
  -- an operation of a public-key engine ends: it is counted, what asked for it goes on, and the next request is served; one that fails
  -- its self-check fences the engine with 0x90C and what asked is discarded
  ∧ (∀ n q s t, n < 4 → fabricUp s = true → working s 5 = true → pkeRunning s n = some q →
      t = (let u := setPke n none s
           { u with keys := { u.keys with pkeOps := put 0 u.keys.pkeOps n ((look 0 u.keys.pkeOps n + 1) % 2 ^ 32) } }) →
      exec (.pkeOperationEnd n true) s = .next (pkeServe (pkeDone q t))
      ∧ exec (.pkeOperationEnd n false) s = .next (pkeServe (pkeDrop q (countWork (88 + n) 1
          (raiseFault (88 + n) 0x90C 2 0xFFFF [0, snapN 1, snapN (lcCode (lcState t))] t)))))
  -- a request that has waited 100 ms rises one class, once
  ∧ (∀ i q s, fabricUp s = true → working s 5 = true → s.keys.pkeQueue[i]? = some q → q.risen = false →
      pkeWait ≤ tbVal s 1 - q.since → exec (.pkeQueueAgeing i) s =
      .next { s with keys := { s.keys with pkeQueue := setAt s.keys.pkeQueue i { q with cls := max 1 (q.cls - 1), risen := true } } })

/-- Operator keys, general keys and authority keys (R381–R384, R436–R446). The operator key commands complete (R440–R443, R383,
R553): OMK_LOAD, OMK_VERIFY, OMK_COMMIT, OMK_REVOKE, KEYGEN_STATUS and KEY_GRACE_SET, with the end of a grace window. The
general key and authority key commands complete (R433, R436, R438, R445, R59): KEY_IMPORT, KEY_GENERATE, KEY_ERASE, KEY_INFO,
DIK_READ, KEY_AUTH_SET, KEY_AUTH_ROTATE, and the end of a mailbox lockout. -/
def Obligations.KeyCommandsComplete : Prop :=
  -- OMK_LOAD under a root (mode 0) asks a public-key engine
  (∀ m, Completes 0x0901 .omkLoad
    (fun src r s => src = .mb m ∧ active s 5 = true ∧ isFenced s 137 = false ∧ isFenced s 88 = false ∧ arg r 0 1 < 64 ∧ arg r 1 1 = 0
      ∧ s.keys.rngHealthy = true ∧ s.keys.revocations.contains (some (arg r 0 1)) = false ∧ (omkImport s r).isSome = true)
    (fun _ _ _ => { later := true }) (fun _ r s => pkeAsk { cls := 2, job := .command m r } s))
  -- at the end of its operation the unwrapped key becomes the candidate, unverified; a former candidate is erased
  ∧ (∀ key, Signed 0x0901
    (fun _ r s => active s 5 = true ∧ isFenced s 137 = false ∧ isFenced s 88 = false ∧ arg r 0 1 < 64 ∧ arg r 1 1 = 0
      ∧ s.keys.rngHealthy = true ∧ s.keys.revocations.contains (some (arg r 0 1)) = false ∧ omkImport s r = some key
      ∧ (omkOf s (arg r 0 1)).candidate = none)
    (fun _ _ _ => {})
    (fun _ r s =>
      let slot := arg r 0 1
      let o := omkOf s slot
      let k := keepKey (omkIndex slot (spareInst o)) 2 0 key s
      logKey 0x906 slot o.gen 0 [] (setOmk slot { o with candidate := some (spareInst o), verified := false }
        (setOmkRec slot (spareInst o) k.1 k.2))))
  -- OMK_LOAD under a key of the store (mode 1) needs no engine and has the same effect at once; a former candidate is erased
  ∧ (∀ key i, Completes 0x0901 .omkLoad
    (fun _ r s => isFenced s 137 = false ∧ arg r 0 1 < 64 ∧ arg r 1 1 = 1 ∧ s.keys.rngHealthy = true
      ∧ s.keys.revocations.contains (some (arg r 0 1)) = false ∧ gkFits s (arg r 2 1) [2] 4 = true ∧ omkImport s r = some key
      ∧ (omkOf s (arg r 0 1)).candidate = some i)
    (fun _ _ _ => {})
    (fun _ r s =>
      let slot := arg r 0 1
      let o := omkOf s slot
      let k := keepKey (omkIndex slot i) 2 0 key (eraseOpt slot (some i) s)
      logKey 0x906 slot o.gen 0 [] (setOmk slot { o with candidate := some i, verified := false } (setOmkRec slot i k.1 k.2))))
  -- OMK_VERIFY: a check value that matches verifies the candidate
  ∧ (∀ key, Completes 0x0902 .omkVerify
    (fun _ r s => isFenced s 137 = false ∧ arg r 0 1 < 64 ∧ s.keys.revocations.contains (some (arg r 0 1)) = false
      ∧ candidateKey s (arg r 0 1) = some key ∧ kcvOf key = arg r 1 3)
    (fun _ _ _ => { payload := le8 1 })
    (fun _ r s => logKey 0x907 (arg r 0 1) (omkOf s (arg r 0 1)).gen 0 []
      (setOmk (arg r 0 1) { omkOf s (arg r 0 1) with verified := true } s)))
  -- OMK_COMMIT of a first key: generation 0, no grace instance
  ∧ (∀ i, Completes 0x0903 .omkCommit
    (fun _ r s => isFenced s 137 = false ∧ arg r 0 1 < 64 ∧ s.keys.revocations.contains (some (arg r 0 1)) = false
      ∧ (omkOf s (arg r 0 1)).candidate = some i ∧ (omkOf s (arg r 0 1)).verified = true
      ∧ (omkOf s (arg r 0 1)).current = none ∧ (omkOf s (arg r 0 1)).grace = none ∧ (omkOf s (arg r 0 1)).graceSecs ≠ 0)
    (fun _ _ _ => { payload := le8 0 })
    (fun _ r s =>
      let slot := arg r 0 1
      let o := omkOf s slot
      let t := setOmk slot { o with
        current := some i, grace := none, candidate := none, verified := false, gen := 0, graceGen := o.gen, commitTb2 := tbVal s 2, commitTb1 := tbVal s 1, opsCurrent := 0, opsGrace := 0, staleRetries := 0 } s
      logKey 0x923 slot 0 0 [] (if active s 5 then loadRam slot i t else t)))
  -- OMK_COMMIT over a current key: the generation advances and the former current key enters its grace window
  ∧ (∀ i c, Completes 0x0903 .omkCommit
    (fun _ r s => isFenced s 137 = false ∧ arg r 0 1 < 64 ∧ s.keys.revocations.contains (some (arg r 0 1)) = false
      ∧ (omkOf s (arg r 0 1)).candidate = some i ∧ (omkOf s (arg r 0 1)).verified = true
      ∧ (omkOf s (arg r 0 1)).current = some c ∧ (omkOf s (arg r 0 1)).grace = none ∧ (omkOf s (arg r 0 1)).graceSecs ≠ 0)
    (fun _ r s => { payload := le8 (((omkOf s (arg r 0 1)).gen + 1) % 256) })
    (fun _ r s =>
      let slot := arg r 0 1
      let o := omkOf s slot
      let t := setOmk slot { o with
        current := some i, grace := some c, candidate := none, verified := false, gen := (o.gen + 1) % 256, graceGen := o.gen, commitTb2 := tbVal s 2, commitTb1 := tbVal s 1, opsCurrent := 0, opsGrace := 0,
        staleRetries := 0 } s
      logKey 0x923 slot ((o.gen + 1) % 256) 0 [] (if active s 5 then loadRam slot i t else t)))
  -- OMK_REVOKE: every instance is erased, the operations under the slot are counted and the revocation reaches PD5
  ∧ Completes 0x0904 .omkRevoke
    (fun _ r s => isFenced s 137 = false ∧ arg r 0 1 < 64 ∧ s.keys.revocations.contains (some (arg r 0 1)) = false
      ∧ omkBlank (omkOf s (arg r 0 1)) = false)
    (fun _ r s => { payload := le32 (if active s 5 then opsUnder s (arg r 0 1) else 0) })
    (fun _ r s =>
      let slot := arg r 0 1
      let o := omkOf s slot
      let n := if active s 5 then opsUnder s slot else 0
      let t := setOmk slot { o with current := none, grace := none, candidate := none, verified := false }
        (eraseOpt slot o.candidate (eraseOpt slot o.grace (eraseOpt slot o.current s)))
      raiseV 232 (logKey 0x908 slot o.gen n [] (revoke (some slot) t)))
  -- a grace window whose seconds have passed erases its instance, with 0x924
  ∧ (∀ slot s, slot < 64 → fabricUp s = true → (omkOf s slot).grace.isSome = true → graceLeft s (omkOf s slot) = 0 →
    exec (.graceWindowEnd slot) s = .next
      (let t := eraseOpt slot (omkOf s slot).grace s
       logKey 0x924 slot (omkOf s slot).graceGen 0 [] (setOmk slot { omkOf t slot with grace := none } t)))
  ∧ Completes 0x0923 .keygenStatus
    (fun _ r s => active s 5 = true ∧ isFenced s 7 = false ∧ arg r 0 1 < 64 ∧ (omkOf s (arg r 0 1)).current.isSome = true)
    (fun _ r s =>
      let o := omkOf s (arg r 0 1)
      { payload := le8 o.gen ++ le8 (if o.grace.isSome then o.graceGen else 0xFF) ++ le32 (graceLeft s o) ++ le32 o.opsCurrent
          ++ le32 o.opsGrace ++ le32 o.staleRetries })
    (fun _ _ s => s)
  -- KEY_GRACE_SET where no grace generation is held: the new GRACE is kept
  ∧ Completes 0x0924 .keyGraceSet
    (fun _ r s => isFenced s 137 = false ∧ arg r 0 1 < 64 ∧ arg r 1 4 ≤ 604800
      ∧ (omkOf s (arg r 0 1)).current.isSome = true ∧ (omkOf s (arg r 0 1)).grace = none)
    (fun _ r _ => { payload := le32 (arg r 1 4) ++ le32 0 })
    (fun _ r s => setOmk (arg r 0 1) { omkOf s (arg r 0 1) with graceSecs := arg r 1 4 } s)
  -- KEY_IMPORT under a root (mode 0) into an empty slot asks a public-key engine; at its end the check value is the response
  ∧ (∀ m, Completes 0x0906 .keyImport
    (fun src r s => src = .mb m ∧ active s 5 = true ∧ isFenced s 137 = false ∧ isFenced s 88 = false ∧ arg r 0 1 < 255 ∧ arg r 1 1 = 2
      ∧ usageOk 2 (arg r 2 1) = true ∧ arg r 3 1 = 0 ∧ r.payload.length = 142 ∧ s.keys.rngHealthy = true
      ∧ (gkRec s (arg r 0 1)).typ = 0 ∧ (gkImport s r).isSome = true)
    (fun _ _ _ => { later := true }) (fun _ r s => pkeAsk { cls := 2, job := .command m r } s))
  ∧ (∀ key, Signed 0x0906
    (fun _ r s => active s 5 = true ∧ isFenced s 137 = false ∧ isFenced s 88 = false ∧ arg r 0 1 < 255 ∧ arg r 1 1 = 2
      ∧ usageOk 2 (arg r 2 1) = true ∧ arg r 3 1 = 0 ∧ r.payload.length = 142 ∧ s.keys.rngHealthy = true
      ∧ (gkRec s (arg r 0 1)).typ = 0 ∧ gkImport s r = some key)
    (fun _ _ _ => { payload := leBytes 3 (kcvOf key) }) (fun _ r s => storeGk (arg r 0 1) 2 (arg r 2 1) key s))
  -- in mode 1, under a key of the store, it needs no engine
  ∧ (∀ key, Completes 0x0906 .keyImport
    (fun _ r s => isFenced s 137 = false ∧ arg r 0 1 < 255 ∧ arg r 1 1 = 2 ∧ usageOk 2 (arg r 2 1) = true ∧ arg r 3 1 = 1
      ∧ r.payload.length = 142 ∧ s.keys.rngHealthy = true ∧ (gkRec s (arg r 0 1)).typ = 0 ∧ gkFits s (arg r 4 1) [2] 4 = true
      ∧ gkImport s r = some key)
    (fun _ _ _ => { payload := leBytes 3 (kcvOf key) }) (fun _ r s => storeGk (arg r 0 1) 2 (arg r 2 1) key s))
  -- KEY_GENERATE of a P-384 key asks an engine; at its end the key is drawn from the generator and its public key is the response
  ∧ (∀ m, Completes 0x0907 .keyGenerate
    (fun src r s => src = .mb m ∧ active s 5 = true ∧ isFenced s 137 = false ∧ isFenced s 88 = false ∧ arg r 0 1 < 255 ∧ arg r 1 1 = 4
      ∧ usageOk 4 (arg r 2 1) = true ∧ s.keys.rngHealthy = true ∧ (gkRec s (arg r 0 1)).typ = 0)
    (fun _ _ _ => { later := true }) (fun _ r s => pkeAsk { cls := 2, job := .command m r } s))
  ∧ Signed 0x0907
    (fun _ r s => active s 5 = true ∧ isFenced s 137 = false ∧ isFenced s 88 = false ∧ arg r 0 1 < 255 ∧ arg r 1 1 = 4
      ∧ usageOk 4 (arg r 2 1) = true ∧ s.keys.rngHealthy = true ∧ (gkRec s (arg r 0 1)).typ = 0)
    (fun _ _ s => { payload := Config.ecPublic 4 (draw 48 s).1 })
    (fun _ r s => storeGk (arg r 0 1) 4 (arg r 2 1) (draw 48 s).1 (draw 48 s).2)
  ∧ Completes 0x0908 .keyErase
    (fun _ r s => isFenced s 137 = false ∧ (gkRec s (arg r 0 1)).typ ≠ 0)
    (fun _ _ _ => {})
    (fun _ r s => logKey 0x909 (arg r 0 1) 0 0 []
      (setGk (arg r 0 1) (erasedRec (gkRec s (arg r 0 1)) s).1 (erasedRec (gkRec s (arg r 0 1)) s).2))
  ∧ (∀ key, Completes 0x0909 .keyInfo
    (fun _ r s => gkHeld s (arg r 0 1) = some key)
    (fun _ r s =>
      { payload := le8 (gkRec s (arg r 0 1)).typ ++ le8 (gkRec s (arg r 0 1)).usage ++ keyFace (gkRec s (arg r 0 1)).typ key })
    (fun _ _ s => s))
  -- DIK_READ asks an engine; at its end the public device identity key and the statements since MFG
  ∧ (∀ m, Completes 0x090A .dikRead
    (fun src _ s => src = .mb m ∧ active s 5 = true ∧ isFenced s 137 = false ∧ isFenced s 88 = false ∧ (activeRoot s).isSome = true)
    (fun _ _ _ => { later := true }) (fun _ r s => pkeAsk { cls := 2, job := .command m r } s))
  ∧ (∀ root, Signed 0x090A
    (fun _ _ s => active s 5 = true ∧ isFenced s 137 = false ∧ isFenced s 88 = false ∧ activeRoot s = some root)
    (fun _ _ s => { payload := dikPublic root ++ s.keys.statements.flatMap fun x => le8 x.1 ++ x.2 }) (fun _ _ s => s))
  -- KEY_AUTH_SET in PROVISION asks an engine; at its end the key is kept, with 0x90A; a key of MB1 set through MB3 also enters the legal log
  ∧ (∀ m, Completes 0x090B .keyAuthSet
    (fun src r s => src = .mb m ∧ active s 5 = true ∧ isFenced s 137 = false ∧ isFenced s 88 = false
      ∧ (1 ≤ arg r 0 1 ∧ arg r 0 1 ≤ 3) ∧ lcState s = .provision ∧ s.keys.rngHealthy = true ∧ (aukImport s r).isSome = true)
    (fun _ _ _ => { later := true }) (fun _ r s => pkeAsk { cls := 2, job := .command m r } s))
  ∧ (∀ key, Signed 0x090B
    (fun _ r s => active s 5 = true ∧ isFenced s 137 = false ∧ isFenced s 88 = false ∧ (1 ≤ arg r 0 1 ∧ arg r 0 1 ≤ 3)
      ∧ lcState s = .provision ∧ s.keys.rngHealthy = true ∧ aukImport s r = some key)
    (fun _ _ _ => {})
    (fun src r s =>
      let t := logKey 0x90A (arg r 0 1) 0 0 [] (setAuk (arg r 0 1) key s)
      if arg r 0 1 = 1 ∧ src = .mb 3 then legalEntry 0x90A r.opcode r.session r.counter r.payload t else t))
  -- KEY_AUTH_ROTATE: the version rises, the counter and failures of the session and the lockout of the mailbox clear
  ∧ (∀ m, Completes 0x090C .keyAuthRotate
    (fun src r s => src = .mb m ∧ isFenced s 137 = false ∧ arg r 0 1 ≤ 15)
    (fun _ r s => { payload := le8 (((sessOf s m (arg r 0 1)).kver + 1) % 256) })
    (fun _ r s =>
      let t := setSess m (arg r 0 1) { kver := ((sessOf s m (arg r 0 1)).kver + 1) % 256 } s
      logKey 0x90A m 0 0 [] { t with host := { t.host with lockout := put none t.host.lockout m none } }))
  -- ten seconds after the eighth failure the mailbox is served again, with 0x90F, its notice and V232
  ∧ (∀ m k s, m < 64 → fabricUp s = true → look none s.host.lockout m = some k → exec (.mailboxLockoutEnd m) s = .next
      (let t := { s with host := { s.host with lockout := put none s.host.lockout m none } }
       raiseV 232 (logNotice 0x90F 137 m [snapN m, snapN k, 0, 0, 0, snapN (lcCode (lcState s))]
         (setSess m k { sessOf s m k with fails := 0 } t))))

/-- Staging and activation of firmware (R466–R476). The staging commands complete (R457, R469, R470, R460): FW_STATUS,
FW_STAGE_OPEN, FW_STAGE_WRITE, FW_STAGE_CLOSE, FW_STAGE_ABORT, FW_CONFIRM, FW_OPKEY_SET, and the ends of the erase and of the
check. Activation completes (R103, R121, R471–R473, R476): ACTIVATE, ACTIVATE_AT, ACTIVATE_LEGAL, the end of the preparation and
of the pause, a scheduled milestone and a trigger from the chain. -/
def Obligations.FirmwareRowsTakeEffect : Prop :=
  Completes 0x0B01 .fwStatus (fun _ _ _ => True)
    (fun _ _ s =>
      { payload := directoryBytes s ++ le16 s.firm.svn ++ le8 (fwOperation s).1 ++ le72 (fwOperation s).2
          ++ le8 (b2n s.firm.hold.isSome) })
    (fun _ _ s => s)
  -- FW_STAGE_OPEN: the other bank becomes STAGING, its erase runs
  ∧ (∀ m ik, Completes 0x0B02 .fwStageOpen
    (fun src r s => src = .mb m ∧ active s 5 = true ∧ isFenced s 88 = false ∧ (1 ≤ arg r 0 4 ∧ arg r 0 4 ≤ bankSize)
      ∧ envelopeIk (fieldB r.payload 4 137) s = some ik ∧ (bankOf s s.firm.active).state ≠ .trial ∧ fwBusy s = false)
    (fun _ _ _ => { status := .accepted })
    (fun _ r s =>
      let x : Staging := { bank := otherBank s, length := arg r 0 4, ik := ik, mb := some m }
      logBoot 0xB04 (otherBank s) [] (pkeAsk { cls := 1 }
        (writeBank (otherBank s) { state := .staging, length := arg r 0 4 } { s with firm := { s.firm with staging := some x } }))))
  -- the erase has ended: the bank reads as erased flash, and the command is answered with the bank
  ∧ (∀ m x s, served s = true → s.firm.staging = some x → x.erased = false → x.mb = some m → exec .fwStageOpenDone s = .next
      (finishMb m .ok (le8 x.bank) (setFlash x.bank []
        { s with firm := { s.firm with staging := some { x with erased := true, mb := none } } })))
  -- an aligned write inside the container goes to the bank
  ∧ (∀ x, Completes 0x0B03 .fwStageWrite
    (fun _ r s => s.firm.staging = some x ∧ x.erased = true ∧ x.closing = false ∧ arg r 0 4 % 4096 = 0
      ∧ arg r 0 4 + (r.payload.length - 4) ≤ x.length)
    (fun _ r _ => { payload := le32 (r.payload.length - 4) })
    (fun _ r s => setFlash x.bank (writeBytes (flashOf s x.bank) (arg r 0 4) (r.payload.drop 4)) s))
  ∧ (∀ m x, Completes 0x0B04 .fwStageClose
    (fun src _ s => src = .mb m ∧ s.firm.staging = some x ∧ x.erased = true ∧ x.closing = false)
    (fun _ _ _ => { status := .accepted })
    (fun _ _ s => { s with firm := { s.firm with staging := some { x with closing := true, mb := some m } } }))
  -- every check passes and an image runs: the bank is STAGED
  ∧ (∀ m x s, served s = true → s.firm.staging = some x → x.closing = true → x.mb = some m → s.firm.stage ≠ .noImage →
      firstReason (imageChecks s (container s x.bank x.length) (some x.ik) x.length) = 0 →
      exec .fwStageCloseDone s = .next
            (let c := container s x.bank x.length
             let u := { s with firm := { s.firm with staging := none } }
             let v := logBoot 0xB04 x.bank [] (writeBank x.bank (stagedRecord c x.ik x u) u)
             finishMb m .ok (le8 0 ++ le32 (imgVersion c) ++ le16 (imgSvn c) ++ le8 (imgCe c) ++ le8 (imgMpe c)) v))
  ∧ (∀ x, Completes 0x0B05 .fwStageAbort
    (fun _ _ s => s.firm.staging = some x ∧ x.closing = false)
    (fun _ _ _ => {}) (fun _ _ s => endStaging .discarded s))
  -- FW_CONFIRM of a TRIAL bank: CONFIRMED, and the minimum SVN rises to the bank's
  ∧ Completes 0x0B08 .fwConfirm
    (fun _ _ s => fwBusy s = false ∧ (bankOf s s.firm.active).state = .trial)
    (fun _ _ s => { payload := le16 (max s.firm.svn (bankOf s s.firm.active).svn) })
    (fun _ _ s =>
      let svn := max s.firm.svn (bankOf s s.firm.active).svn
      logBoot 0xB09 s.firm.active [snapN svn] (writeBank s.firm.active
        { bankOf s s.firm.active with state := .confirmed, trials := 0 } { s with firm := { s.firm with svn := svn } }))
  ∧ Completes 0x0B0A .fwOpkeySet
    (fun _ r _ => noDigest r = false)
    (fun _ r _ => { payload := padTo 48 r.payload })
    (fun _ r s => logBoot 0xB0D 0xFFFF [] { s with firm := { s.firm with opKey := r.payload } })
  ∧ (∀ m b, Completes 0x0B06 .activate
    (fun src r s => src = .mb m ∧ activateBank s (arg r 0 1) = some b ∧ fwBusy s = false ∧ s.power.transition = none
      ∧ s.power.removePending = false)
    (fun _ _ _ => { status := .accepted })
    (fun _ _ s => { s with firm := { s.firm with act := some { bank := b, mb := some m } } }))
  -- the prepared image passes its checks: the pause begins
  ∧ (∀ a s, fabricUp s = true → s.firm.act = some a → a.step = .preparing → a.scheduled = false → s.keys.run = none →
      bankReason s a.bank = 0 → exec .activatePrepared s = .next (beginPause a (prepareImage a.bank s)))
  -- the pause ends in the new image: the code of the prepared half runs, the pause is measured from T_A, the command is answered and
  -- the commands of the old image are discarded
  ∧ (∀ a m s, fabricUp s = true → s.firm.act = some a → a.step = .pause → a.scheduled = false → a.mb = some m →
      exec (.activatePauseEnd (usSince a.pauseAt s)) s = .next
        (let us := usSince a.pauseAt s
         let t := runImage a.bank (switchImage (discardAllFlights s))
         let u := releaseHold (logBootNotice 0xB06 a.bank [snapN us]
           (resumeRf { t with firm := { t.firm with stage := .ready, act := none } }))
         discardAccepted (some m) (finishMb m .ok (activatePayload u a.bank us 0) u)))
  -- ACTIVATE_AT takes a milestone slot; with chain = 1 the TRIGGER frame goes out
  ∧ (∀ m b k, Completes 0x0B07 .activateAt
    (fun src r s => src = .mb m ∧ argT r 0 ≠ 0 ∧ arg r 9 1 ≤ 1 ∧ isFenced s 4 = false ∧ (tb s 0).valid = true
      ∧ oneSecond ≤ timeDiff (argT r 0) (tbVal s 0) ∧ stagedBank s = some b ∧ fwBusy s = false
      ∧ s.power.removePending = false ∧ freeSlot s = some k)
    (fun _ _ _ => { status := .accepted })
    (fun _ r s =>
      let id := triggerId (bankOf s b)
      let a : Activation := { bank := b, mb := some m, scheduled := true, chain := arg r 9 1 == 1, target := argT r 0, slot := k }
      let t := setSlot k (some { target := argT r 0, id := id, activate := true }) { s with firm := { s.firm with act := some a } }
      if arg r 9 1 = 1 then emit (.frame 64 (triggerFrame (argT r 0) id true)) t else t))
  -- a target of 0 calls the pending activation off
  ∧ Completes 0x0B07 .activateAt (fun _ r _ => argT r 0 = 0 ∧ arg r 9 1 ≤ 1)
    (fun _ _ _ => { payload := le8 2 ++ le8 0 }) (fun _ _ s => cancelPending s)
  -- a slot of the module's own clock fires once its target is reached: source 6, number and id of the milestone
  ∧ (∀ k m s, k < 4 → fabricUp s = true → look none s.clock.slots k = some m → m.chain = false → m.activate = false →
      m.target ≤ tbVal s 0 → exec (.scheduledMilestoneFire k) s =
        .next (capture 6 (m.id % 256) m.id (tbVal s 0 - m.target).toNat (setSlot k none s)))
  -- a TRIGGER frame is forwarded and scheduled on TB11
  ∧ (∀ f k s, aethenoUp s = true → s.clock.syncIn = true → f.crcOk = true → f.activate = false → freeSlot s = some k →
      exec (.aethenoTriggerReceive f) s = .next (setSlot k (some { target := f.target, id := f.id, chain := true, activate := f.activate })
        (emit (.frame 64 (triggerFrame f.target f.id f.activate)) s)))
  -- ACTIVATE_LEGAL: the plaintext and its digest go to the spare copy; the switch comes at a tick boundary
  ∧ (∀ m, Completes 0x041B .activateLegal
    (fun src r s => src = .mb m ∧ active s 10 = true ∧ isFenced s 125 = false ∧ isFenced s 126 = false
      ∧ legalBankOk s (arg r 0 1) = true ∧ s.legal.state = .inService ∧ legalFull s = false ∧ fwBusy s = false
      ∧ legalReason s (arg r 0 1) = 0)
    (fun _ _ _ => { status := .accepted })
    (fun _ r s =>
      let c := container s (arg r 0 1) (bankOf s (arg r 0 1)).length
      let plain := (legalPlain c ((bankIk s (arg r 0 1)).getD [])).getD []
      let t := writeCopy (spareCopy s) (c.take (min 65536 (blocksEnd c))) plain (Config.sha256 plain) s
      { t with firm := { t.firm with
          legalAct := some { bank := arg r 0 1, mb := m, digest := Config.sha256 plain, fmt := imgLegalFmt c } } }))

/-- Fault sources and the handling of faults (R469, R477–R493). The sources of faults raise the fault of their class and code (R469,
R482), for every unit while the module is up. The handling of faults moves on (R479, R481, R485, R487, R492, R493): handled
faults, repeated faults, completed fences, recoveries and the reconciliation. -/
def Obligations.FaultRowsTakeEffect : Prop :=
  (∀ pair s, pair < 2 → fabricUp s = true →
    exec (.watchdogExpiry pair) s = .next (raiseFault pair 0xB0E 3 0xFFFF (bootDefaults s 0xFFFF) s))
  ∧ (∀ pair pc check s, pair < 2 → fabricUp s = true →
    exec (.lockstepMismatch pair pc check) s = .next (raiseFault pair 0xC13 3 0xFFFF [snapN pc, snapN check] s))
  ∧ (∀ u source tr s, u < 138 → s.power.aux = true →
    exec (.busTimeout u source tr) s = .next (raiseFault u 0xC14 2 0xFFFF [snapN source, snapN tr] s))
  ∧ (∀ addr n s, s.power.aux = true →
    exec (.mramVerifyFailure addr n) s = .next (raiseFault 136 0xC15 1 0xFFFF [snapN addr, snapN n] s))
  ∧ (∀ d rail s, d < 12 → s.power.aux = true →
    exec (.domainSupplyFault d rail) s = .next ((unitsOf d).foldl
      (fun t u => raiseFault u 0xC16 (if d ≤ 2 ∨ d = 6 ∨ d = 7 then 3 else 2) 0xFFFF [snapN d, snapN rail] t)
      { s with power := { s.power with supplyFault := bitSet s.power.supplyFault d } }))
  ∧ (∀ e s, e.unit < 138 → s.power.aux = true → e.place = .workingMemory →
    exec (.eccError e) s = .next (raiseFault e.unit 0xC10 2 0xFFFF [snapN e.addr, snapN e.syndrome] s))
  ∧ (∀ e s, e.unit < 138 → s.power.aux = true → e.place = .codeStore →
    exec (.eccError e) s = .next (raiseFault 1 0xC10 3 0xFFFF [snapN e.addr, snapN e.syndrome] s))
  ∧ (∀ e s, e.unit < 138 → s.power.aux = true → e.place = .dramTables →
    exec (.eccError e) s = .next (raiseFault e.unit 0xC11 2 0xFFFF [snapN e.addr, snapN e.syndrome] s))
  ∧ (∀ e s, e.unit < 138 → s.power.aux = true → e.place = .dramRuntime →
    exec (.eccError e) s = .next (raiseFault 92 0xC11 3 0xFFFF [snapN e.addr, snapN e.syndrome] s))
  ∧ (∀ e s, e.unit < 138 → s.power.aux = true → e.place = .pondCell →
    exec (.eccError e) s = .next (dropPond e.work (raiseFault 3 0xC11 1 0xFFFF [snapN e.addr, snapN e.syndrome] s)))
  ∧ (∀ e s, e.unit < 138 → s.power.aux = true → e.place = .frameBuffer →
    exec (.eccError e) s = .next (dropWork e.unit e.work (raiseFault e.unit 0xC10 1 0xFFFF [snapN e.addr, snapN e.syndrome] s)))
  -- FAULT_INJECT answers OK, writes 0xC0C, and the fault follows
  ∧ (∀ src r s, Ready 0x0C08 src r s → lcState s = .mfg ∨ lcState s = .provision →
    arg r 0 1 < 138 → arg r 1 1 ≤ 3 → arg r 2 2 < 4096 →
    ∀ t, t = answer src r {} s (logEv 0xC0C (arg r 0 1) 0xFFFF [snapN (arg r 2 2), snapN (arg r 1 1)] s) →
    exec (.faultInject src) s = .next (raiseFault (arg r 0 1) (arg r 2 2) (arg r 1 1) 0xFFFF (injectSnaps (arg r 2 2) t) t))
  ∧ (∀ u s, u < 138 → (unitOf s u).state = .handlingF1 →
    exec (.f1HandlingComplete u) s = .next (setUnit u { unitOf s u with state := .ready } s))
  ∧ (∀ u s, u < 138 → (unitOf s u).state = .handlingF1 →
    exec (.f1RepeatTimeout u) s = .next (takeF2 u (unitOf s u).fenceCause 1 true (unitOf s u).f1Obj (unitOf s u).f1Snaps s))
  -- a completed fence: the work is discarded, FENCE entries are posted, the unit is FENCED, 0xC02 and its notice are written
  ∧ (∀ u s, u < 138 → (unitOf s u).state = .handlingF2 → fabricUp s = true →
    exec (.fenceComplete u) s = .next
      (let d := discardFenced u s
       let p := postFences u d
       let f := unitOf p u
       let t := setUnit u { f with state := .fenced, fenceWork := 0 } p
       let t := { t with log := { t.log with events := bitSet t.log.events 0 } }
       raiseV 193 (flush (logNotice 0xC02 u 0xFFFF
         [snapN f.fenceCause, snapN f.fenceWork, snapN (fencedQueues u d).length,
          snapN (recent (ageSec t) 86400 f.fences).length] t))))
  -- UNIT_RECOVER of a fenced unit: its working memory is reset and it is RECOVERING, with ACCEPTED
  ∧ (∀ m r s, Ready 0x0C07 (.mb m) r s → arg r 0 1 < 138 → active s (unitDomain (arg r 0 1)) = true → fenceable (arg r 0 1) = true →
    (unitOf s (arg r 0 1)).state = .fenced → (unitOf s (arg r 0 1)).retired = false →
    exec (.unitRecover (.mb m)) s = .next (answer (.mb m) r { status := .accepted } s
      (resetUnit (arg r 0 1) (setUnit (arg r 0 1) { unitOf s (arg r 0 1) with state := .recovering, recoverMb := some m } s))))
  -- the recovery passes: READY, and OK in the mailbox that asked for it
  ∧ (∀ u m s, u < 138 → (unitOf s u).state = .recovering → (unitOf s u).recoverMb = some m →
    exec (.unitRecoveryEnd u true) s = .next (finishMb m .ok (le8 0) (logEv 0xC06 u 0xFFFF [snapN 0, snapN 0]
      (unitReturns u (setUnit u { unitOf s u with state := .ready, recoverMb := none } s)))))
  -- the recovery fails: FENCED
  ∧ (∀ u m s, u < 138 → (unitOf s u).state = .recovering → (unitOf s u).recoverMb = some m →
    exec (.unitRecoveryEnd u false) s = .next (finishMb m .fenced [] (logEv 0xC06 u 0xFFFF [snapN 1, snapN 1]
      (setUnit u { unitOf s u with state := .fenced, recoverMb := none } s))))
  -- each mismatch that a pass finds in a unit of the module is handled, in order
  ∧ (∀ found s, fabricUp s = true → (∀ m ∈ found, m.unit < 138) →
    exec (.reconciliationPass found) s = .next (found.foldl (fun t m => mismatch m t) s))
  -- the first mismatch of an item in a READY unit raises no fault: 0xC05, a notice, V236, STATE_MISMATCH and the count
  ∧ (∀ m s, (∀ x ∈ (unitOf s m.unit).mismatches, x.1 ≠ m.item) → shownState s m.unit = .ready → fabricUp s = true → m.unit < 138 →
    exec (.reconciliationPass [m]) s = .next
      (let t := setUnit m.unit { unitOf s m.unit with
          mismatches := (m.item, ageSec s) :: (unitOf s m.unit).mismatches.filter fun x =>
            x.1 != m.item && decide (ageSec s < x.2 + 60)
          firstMismatch := tbVal s 0 } s
       let t := { t with log := { t.log with
          events := bitSet t.log.events 3, mismatchCount := (t.log.mismatchCount + 1) % 2 ^ 32 } }
       let snaps := [snapN m.item, snapN m.hardware, snapN m.intent, snapN 1]
       logEv 0xC05 m.unit 0xFFFF snaps (raiseV 236 (notice 0xC05 0 m.unit (snapBytes 5 snaps) t))))

/-- The logbook's commands and timers complete (R498, R499, R502–R504): LOG_INFO, LOG_READ, LOG_FLUSH, LOG_RATE_SET, LOG_CLEAR,
FAULT_STATUS, the flush timer, the token refill and the two accesses of the logbook window. -/
def Obligations.LogbookCommandsComplete : Prop :=
  Completes 0x0C01 .logInfo (fun _ _ _ => True)
    (fun _ _ s =>
      { payload := le32 s.log.next ++ le32 s.log.oldest ++ le32 s.log.ack ++ le16 s.log.staging.length
          ++ le32 s.log.suppressed })
    (fun _ _ s => s)
  -- the held records of the range, from the first held one on, go to the host buffer
  ∧ Completes 0x0C02 .logRead (fun _ r _ => 1 ≤ arg r 4 2 ∧ arg r 4 2 ≤ 512)
    (fun _ r s =>
      let first := logStart s (arg r 0 4)
      let recs := (List.range (arg r 4 2)).filterMap fun k => logRecord s (first + k)
      { payload := le32 first ++ le16 recs.length, buffer := recs.flatMap recordBytes })
    (fun _ _ s => s)
  ∧ Completes 0x0C03 .logFlush (fun _ _ _ => True)
    (fun _ _ s => { payload := le16 (s.log.staging.length + s.log.ring.length) })
    (fun _ _ s => flush s)
  -- a set period is reported back, and 0xC09 carries the code, the old and the new period
  ∧ Completes 0x0C04 .logRateSet (fun _ r _ => arg r 0 2 < 4096 ∧ 10 ≤ arg r 2 4 ∧ arg r 2 4 ≤ 3600000)
    (fun _ r _ => { payload := le32 (arg r 2 4) })
    (fun _ r s => logEv 0xC09 6 0xFFFF
      [snapN (arg r 0 2), snapN (periodInForce s (arg r 0 2)), snapN (arg r 2 4)]
      (setBucket (arg r 0 2) { bucketOf s (arg r 0 2) with period := arg r 2 4 } s))
  -- the staging buffer is flushed and the circulating area holds nothing
  ∧ Completes 0x0C05 .logClear (fun _ _ _ => True)
    (fun _ _ s => { payload := le32 (max (flush s).log.next 2048) })
    (fun _ _ s =>
      let t := flush s
      logEv 0xC07 6 0xFFFF [snapN s.log.oldest, snapN (max t.log.next 2048)]
        { t with log := { t.log with
            oldest := max t.log.next 2048, recs := t.log.recs.filter fun p => decide (p.1 < 2048) } })
  ∧ Completes 0x0C06 .faultStatus (fun _ r _ => arg r 0 1 < 138)
    (fun _ r s =>
      { payload := le32 (faultWord s (arg r 0 1)) ++ le8 (min 255 (recent (ageSec s) 86400 (unitOf s (arg r 0 1)).fences).length)
          ++ le72 (unitOf s (arg r 0 1)).firstMismatch })
    (fun _ _ s => s)
  ∧ (∀ s, fabricUp s = true → exec .logFlushTimer s = .next (flush s))
  -- a bucket that is not full gains one token when its period has run, and not before
  ∧ (∀ code s b, s.power.aux = true → b = bucketOf s code → b.used ≠ 0 →
    refillPeriod code b * 68719476736 ≤ (bucketClock s - b.since).toNat * 1000 →
    exec (.logTokenRefill code) s = .next (setBucket code { b with
      used := b.used - 1, since := b.since + BitVec.ofNat 72 (refillPeriod code b * 68719476736 / 1000) } s))
  ∧ (∀ code s, s.power.aux = true →
    (bucketClock s - (bucketOf s code).since).toNat * 1000 < refillPeriod code (bucketOf s code) * 68719476736 →
    exec (.logTokenRefill code) s = .next s)
  -- a cursor write loads the record it names; GONE where no such record is held
  ∧ (∀ (v : Word32) s, fabricUp s = true → exec (.logCursorWrite v) s = .next { s with log := { s.log with
      cursor := v.toNat, window := logRecord s v.toNat, gone := (logRecord s v.toNat).isNone } })
  -- a read of the last byte answers the last bytes of the window, then the cursor advances and the next record is loaded
  ∧ (∀ s, fabricUp s = true → s.log.cursor < 2 ^ 32 - 1 → exec (.logWindowLastRead 8) s = .next
      (loadWindow (s.log.cursor + 1) (emit (.readData 0 (fieldB (windowBytes s) 120 8)) s)))

/-- Removal and resumption (R520–R523, R529): a removal source starts the removal, its steps follow, and HP_RESUME ends it. -/
def Obligations.RemovalRunsItsSteps : Prop :=
  -- the first request latches the removal, raises V199 with 0x130 and its notice, and closes the drives, sessions and staging
  (∀ s, s.power.main = true → s.power.prsnt = true → s.power.removePending = false → fabricUp s = true →
    exec (.removalRequest (.removeReqN true)) s = .next
      (closeForRemoval (latchRemoval 1 { s with power := { s.power with removeReq := true } })))
  ∧ (∀ (v : Word32) s, fabricUp s = true → v.getLsbD 0 = true → s.power.removePending = false →
    exec (.hpCtrlWrite v) s = .next (closeForRemoval (latchRemoval 2 s)))
  -- a further request is only recorded
  ∧ (∀ s, s.power.main = true → s.power.prsnt = true → s.power.removePending = true →
    exec (.removalRequest (.removeReqN true)) s = .next
      (let t := { s with power := { s.power with removeReq := true } }
       noticeHp 0x130 [snapN 1, snapN (hpStatus t), snapN t.power.drain] t))
  -- the rise of REMOVE_REQ_N withdraws no request
  ∧ (∀ s, exec (.removalRequest (.removeReqN false)) s = .next { s with power := { s.power with removeReq := false } })
  -- the in-flight step ends when no frame is in flight, or after 100 ms; what is still in flight is discarded
  ∧ (∀ s x, fabricUp s = true → s.power.removal = some x → x.step = .inflight → s.firm.stage ≠ .pause →
      (noFlights s = true ∨ 100000 ≤ usSince x.start s) →
    exec .removalInflightEnd s = .next (setStep (fun y => { y with step := .drain }) (discardAllFlights s)))
  -- the drain ends when no packet is undelivered, or after the drain time
  ∧ (∀ s x, fabricUp s = true → s.power.removal = some x → x.step = .drain → s.keys.run = none → s.firm.legalAct = none →
      (allUndelivered s = 0 ∨ x.drain * 1000 ≤ usSince x.start s) →
    exec .removalDrainEnd s = .next (finishRemoval (endDrain s)))
  ∧ Completes 0x0130 .hpCfg (fun _ r s => arg r 0 2 ≤ 60000 ∧ s.power.removal = none)
    (fun _ r _ => { payload := le16 (arg r 0 2) })
    (fun _ r s => { s with power := { s.power with drain := arg r 0 2 } })
  -- HP_RESUME with SAFE_TO_REMOVE and PRSNT set and no request standing: the latch clears and the persisted domains whose dependencies
  -- are powered are switched on as one transition
  ∧ (∀ m r s, Ready 0x0131 (.mb m) r s → s.power.safe = true → s.power.prsnt = true → s.power.removeReq = false → s.power.transition = none →
    ∀ t u, t = clearRemoval s → u = resumePower t →
    exec (.hpResume (.mb m)) s = .next (answer (.mb m) r { status := .accepted } s
      { u with power := { u.power with transition := some { domains := resumed t, on := true, by_ := .resume m } } }))
  ∧ (∀ s ds m x t u, fabricUp s = true → s.power.transition = some { domains := ds, on := true, by_ := .resume m, discarded := x } →
    t = ds.foldl (fun u d => powerUp d ((List.range 64).filter fun l => !Config.laneTestOk s.power.starts l) u) s →
    u = logHp 0x133 [snapN (ofBits ((List.range 12).map ds.contains))] { t with power := { t.power with transition := none } } →
    exec .hpResumeComplete s = .next (awaitedOff (finishMb m .ok (le16 (onWord u)) u)))

/-- Power, presence, the PCIe link, resets and restarts (R463–R465, R488, R511). Power, presence and the PCIe link (R17, R74, R511,
R512, R517–R519). Resets and restarts (R74, R81, R488, R511, R543): a keyed RST_CTRL write, RST_IN_N, the release of a restart
and the end of a thermal hold start the module. -/
def Obligations.PowerLinkAndResetRowsTakeEffect : Prop :=
  (∀ s, exec .auxSupplyPresent s = .next { s with power := { s.power with aux := true } })
  -- insertion: PRSNT becomes 1 and the switch starts its ramp
  ∧ (∀ s, s.power.aux = true → s.power.prsnt = false →
    exec .insertionPresent s = .next { s with power := { s.power with prsnt := true, attempts := 0, switch := true } })
  ∧ (∀ peak s, s.power.switch = true → s.power.main = false →
    exec (.inrushFault peak) s = .next { s with power := { s.power with
      switch := false, attempts := s.power.attempts + 1, inrush := s.power.inrush + 1
      inrushPeak := max s.power.inrushPeak peak } })
  -- another attempt while fewer than three have failed
  ∧ (∀ s, s.power.aux = true → s.power.prsnt = true → s.power.switch = false → s.power.main = false → 1 ≤ s.power.attempts →
    s.power.attempts < 3 → exec .inrushRetry s = .next { s with power := { s.power with switch := true } })
  -- power good: every domain is reset, and the module starts with RST_CAUSE bit 0
  ∧ (∀ mv us s, s.power.aux = true → s.power.prsnt = true → s.power.switch = true → s.power.main = false → s.firm.pfail = false →
    exec (.powerGood false 0 mv us) s = .next (startPowerOn id (logInsertion mv us
      (let t := powerOnClear (resetDomains true 6 s)
       { t with power := { t.power with main := true, refExternal := false } }))))
  -- PERST_N low has the effects of a link-down and holds the PCIe function
  ∧ (∀ s, s.power.aux = true → s.host.perst = false → s.power.main = true →
    exec .perstNAssert s = .next (let t := linkDown s; { t with host := { t.host with perst := true } }))
  ∧ (∀ s, exec .perstNRelease s = .next { s with host := { s.host with perst := false } })
  ∧ (∀ s, s.host.linkUp = true → exec .pcieLinkDown s = .next (linkDown s))
  ∧ (∀ b s, fabricUp s = true → active s 7 = true → s.host.perst = false → s.host.linkUp = false →
    exec (.pcieLinkUp b) s = .next { s with host := { s.host with
      linkUp := true, msixEnable := b, creditSeen := true, creditHeld := false } })
  ∧ (∀ (v : Word32) s, fabricUp s = true → v.toNat / 256 % 256 = 0xA5 → v.toNat % 2 = 1 →
    exec (.rstCtrlWrite v) s = .next (boot 4 id (relatch (resetDomains true 5 (clearRemoval s)))))
  -- without the key the write does nothing
  ∧ (∀ (v : Word32) s, v.toNat / 256 % 256 ≠ 0xA5 → exec (.rstCtrlWrite v) s = .next s)
  ∧ (∀ s, s.power.aux = true → s.power.rstIn = false → s.power.main = true → s.log.restart = none →
    exec .rstInNAssert s = .next (let t := resetDomains true 5 (clearRemoval s)
      { t with power := { t.power with rstIn := true } }))
  ∧ (∀ s, s.power.rstIn = true → s.power.main = true → s.power.thermalHold = false →
    exec .rstInNRelease s = .next (boot 4 id (relatch { s with power := { s.power with rstIn := false } })))
  -- an F3's restart: reset of every domain but PD0 and PD10, then the start with RST_CAUSE bit 1, bit 4 for a watchdog
  ∧ (∀ s r, s.power.main = true → s.power.thermalHold = false → s.power.rstIn = false → s.log.restart = some r →
    bitOf s.power.on 10 = false →
    exec .restartResetRelease s = .next
      (boot (if r.code = 0xB0E then 18 else 2) (afterF3 r) (resetDomains false 5 { s with log := { s.log with pd10Restart := none } })))
  -- every die below 100 °C ends a thermal hold: the start goes on, and 0x138 has the die of the cutoff, its temperature and the hold time
  ∧ (∀ temps s, s.power.thermalHold = true → (∀ t ∈ temps, t < 1000) → s.power.main = true → s.power.rstIn = false →
    s.log.restart = none →
    exec (.thermalHoldEnd temps) s = .next
      (logHp 0x138 [snapN s.power.cutoffDie, snapI (temps.getD s.power.cutoffDie 0), snapN (holdMs s)]
        (boot 4 id { s with power := { s.power with thermalHold := false } })))
  -- a die still at 100 °C or more: the hold goes on
  ∧ (∀ temps s, (∃ t ∈ temps, 1000 ≤ t) → exec (.thermalHoldEnd temps) s = .next s)

/-- A step runs the command at the front of the queue on the state with the rest of the queue. On an empty queue a fabric tick passes,
on which a stalled POP may be answered: that tick is the model's choice (assumption log 15). -/
def Obligations.StepRunsTheFrontCommand : Prop :=
  (∀ c rest s, s.pending = c :: rest → step s = exec c { s with pending := rest })
  ∧ (∀ s, s.pending = [] → step s = .next (servePop (fabricTick s)))

/-- No command stops the module: where the front command names only units that exist, or the queue is empty, a step answers a next
state; and no step is a refusal. The only fault names a unit that the module does not have. -/
def Obligations.NoCommandStopsTheModule : Prop :=
  (∀ c rest s, s.pending = c :: rest → c.wellFormed = true → ∃ t, step s = .next t)
  ∧ (∀ s, s.pending = [] → ∃ t, step s = .next t)
  ∧ (∀ s r, step s ≠ .refused r)

/-- A step takes exactly the front command off the queue, and mailbox areas, image banks and the capture memory keep their canonical
form. -/
def Obligations.StepsKeepQueueAndMemories : Prop :=
  ∀ s t, step s = .next t → t.pending = s.pending.tail ∧ (MemoriesCanonical s → MemoriesCanonical t)

/-- The memories of the reset state have their canonical form, its queue is empty and its tamper records hold the counts in force. -/
def Obligations.ResetMemoriesAreCanonical : Prop :=
  MemoriesCanonical State.reset ∧ State.reset.pending = [] ∧ TamperStored State.reset

/-- What the module records for good stays through every step, restarts and losses of power among them (R204: tamper records are never
cleared; R210: the legal log is never erased or overwritten; R425: a blown fuse stays blown). The records of the tamper classes are read
again at a start (R203), so they hold the counts in force, which every step keeps too. -/
def Obligations.LegalRecordsAreNeverLost : Prop :=
  ∀ s t, TamperStored s → step s = .next t → LastingKept s t ∧ TamperStored t

/-- The reset state holds what the spec gives (R50, R62, R84, R115, R209, R481, R501): every increment of TB0, TB1 and TB3–TB11 is
nominal and that of TB2 is 2^57, queues are disabled, no mailbox is owned, no unit handles a fault, the legal log is empty. That the
first LOG_NEXT and the state before the first power-up are these is the model's choice (assumption log 6, 7, 10). -/
def Obligations.ResetLeavesTheStatedValues : Prop :=
  (∀ n < 12, n ≠ 2 → (tb State.reset n).inc = 7870610804783) ∧ (tb State.reset 2).inc = 2 ^ 57
  ∧ (∀ n, (mbOf State.reset n).own = false ∧ (mbOf State.reset n).done = false ∧ (mbOf State.reset n).go = false
      ∧ (mbOf State.reset n).overrun = false ∧ (mbOf State.reset n).seq = 0)
  ∧ (∀ q, (hqOf State.reset q).en = false ∧ (sqOf State.reset q).en = false ∧ (cqOf State.reset q).en = false)
  ∧ (∀ u, isFenced State.reset u = false) ∧ (∀ d, active State.reset d = false) ∧ fabricUp State.reset = false
  ∧ State.reset.log.next = 0 ∧ State.reset.legal.entries = []

/-- A response (R51, R57): DONE is set, SEQ counts it, OWN stays only for ACCEPTED, its bytes stand at the response area, and no other
mailbox, no other byte and no other part of the module changes. -/
def Obligations.ResponsesTouchOnlyTheirMailbox : Prop :=
  ∀ n r key st payload s,
    let t := answerMb n r key st payload s
    let b := respBytes n r key st payload
    (mbOf t n).done = true ∧ (mbOf t n).seq = (mbOf s n).seq + 1 ∧ (mbOf t n).own = decide (st = .accepted)
    ∧ (mbOf t n).overrun = (mbOf s n).overrun
    ∧ (∀ k, k ≠ n → mbOf t k = mbOf s k)
    ∧ (∀ a, a < 0x400 * n + 0x200 ∨ 0x400 * n + 0x200 + b.length ≤ a →
        Memory.read t.host.areas a = Memory.read s.host.areas a)
    ∧ (s.host.areas.wf = true → ∀ i, (h : i < b.length) → Memory.read t.host.areas (0x400 * n + 0x200 + i) = b[i])
    ∧ t = { s with host := t.host } ∧ t.host.hqs = s.host.hqs ∧ t.host.sqs = s.host.sqs ∧ t.host.cqs = s.host.cqs

/-- Entries of a completion queue follow each other around its ring (R72): after any number of entries from one submission queue CQ_TAIL
is that far on, modulo the ring size, and PHASE has turned once for each pass that was finished; other queues stay. -/
def Obligations.CompletionPhaseTurnsWithEachPass : Prop :=
  ∀ (l : List (Nat × Status × Nat × Bytes)) sq s,
    let n := cqNum (sqOf s sq).cfg
    let c := cqOf s n
    let size := ringSize c.cfg
    let t := l.foldl (fun u e => postCq sq e.1 e.2.1 0 e.2.2.1 e.2.2.2 u) s
    c.en = true → c.tail < size →
    (cqOf t n).tail = (c.tail + l.length) % size
    ∧ (cqOf t n).phase = (if (c.tail + l.length) / size % 2 = 0 then c.phase else !c.phase)
    ∧ (∀ k, k ≠ n → cqOf t k = cqOf s k) ∧ t.host.sqs = s.host.sqs ∧ t.host.hqs = s.host.hqs

/-- The cells of a packet (R64, R65): each is 64 bytes, its payload bytes together are the record, BEGIN marks the first and END the last,
and the CRC covers bytes 0 to 61. -/
def Obligations.CellsCarryTheWholeRecord : Prop :=
  ∀ p : Packet,
    ((List.range (packetCells p)).flatMap fun i => (cellBytes p i).take 56).take p.bytes.length = p.bytes
    ∧ (∀ i, (cellBytes p i).length = 64)
    ∧ (∀ i < packetCells p, fieldU (cellBytes p i) 56 1 = b2n (decide (i + 1 = packetCells p)) + 2 * b2n (decide (i = 0)))
    ∧ (∀ i, p.seq < 2 ^ 32 → fieldU (cellBytes p i) 58 4 = p.seq)
    ∧ (∀ i, fieldU (cellBytes p i) 62 2 = (crc16 ((cellBytes p i).take 62)).toNat)

/-- A reservation keeps both pans within their 128 cells and adds exactly its cells to what the queue has reserved (R68, R323). -/
def Obligations.ReservationsStayWithinThePans : Prop :=
  ∀ q k s pl t, reserve q k s = (some pl, t) → panUsed (hqOf s q).panA ≤ 128 → panUsed (hqOf s q).panB ≤ 128 →
    panUsed (hqOf t q).panA ≤ 128 ∧ panUsed (hqOf t q).panB ≤ 128
    ∧ (hqOf t q).panA.resv + (hqOf t q).panB.resv + (hqOf t q).pondResv
        = (hqOf s q).panA.resv + (hqOf s q).panB.resv + (hqOf s q).pondResv + k
    ∧ (∀ j, j ≠ q → hqOf t j = hqOf s j)

/-- Vectors and notices (R55, R75–R77): with MSI-X disabled a raise sets the vector's bit of INT_PENDING and no other; a masked vector
waits in the PBA; an unmasked one is a message. A notice takes the slot of its SEQ, sets DONE and changes no other byte. -/
def Obligations.VectorsAndNoticesReachTheHost : Prop :=
  (∀ v s, v < 256 → s.host.msixEnable = false →
    raiseV v s = { s with host := { s.host with intPending := (raiseV v s).host.intPending } }
    ∧ ∀ k < 256, (raiseV v s).host.intPending.getLsbD k = (decide (k = v) || s.host.intPending.getLsbD k))
  ∧ (∀ v s, v < 256 → s.host.msixEnable = true → msixWord s v 3 = 1 →
    raiseV v s = { s with host := { s.host with pba := (raiseV v s).host.pba } }
    ∧ ∀ k < 256, (raiseV v s).host.pba.getLsbD k = (decide (k = v) || s.host.pba.getLsbD k))
  ∧ (∀ v s, s.host.msixEnable = true → msixWord s v 3 = 0 → pcieServes s = true →
    raiseV v s = { s with host := { s.host with
      out := .msix v (msixWord s v 0 + 2 ^ 32 * msixWord s v 1) (msixWord s v 2) :: s.host.out } })
  ∧ (∀ code sev unit detail s,
    let t := notice code sev unit detail s
    let a := 0x200 + 64 * ((mbOf s 0).seq.toNat % 8)
    mbOf t 0 = { mbOf s 0 with done := true, seq := (mbOf s 0).seq + 1 } ∧ (∀ k, k ≠ 0 → mbOf t k = mbOf s k)
    ∧ (∀ x, x < a ∨ a + 64 ≤ x → Memory.read t.host.areas x = Memory.read s.host.areas x)
    ∧ t = { s with host := t.host })

/-- Authentication (R59): a request is accepted only with a counter above the stored one, which then is stored; from then on, and as long
as that record is kept, no request of the pair with this counter or a smaller one is accepted again. -/
def Obligations.CountersAreNeverAcceptedTwice : Prop :=
  ∀ n header r s, (authenticate n header r s).1 = none →
    (sessOf s n r.session).counter < r.counter
    ∧ (sessOf (authenticate n header r s).2 n r.session).counter = r.counter
    ∧ (∀ header' r' u, r'.session = r.session → r'.counter ≤ r.counter →
        sessOf u n r.session = sessOf (authenticate n header r s).2 n r.session →
        (authenticate n header' r' u).1 = some .authfail)

/-- A command to a unit whose domain is off is turned away with NORES (R4), one to a fenced unit with FENCED (R483), PD_SET by its own rules
(R23, R24, R30), CTX_WRITE by R373: nothing but the answer happens. -/
def Obligations.UnavailableUnitsTurnCommandsAway : Prop :=
  TurnsAway 0x0202 .tbSet (fun _ r s => settable (arg r 0 1) = true ∧ active s (tbDomain (arg r 0 1)) = false) .nores
  ∧ TurnsAway 0x0203 .tbStep (fun _ r s => settable (arg r 0 1) = true ∧ active s (tbDomain (arg r 0 1)) = true
      ∧ isFenced s (tbUnit (arg r 0 1)) = true) .fenced
  ∧ TurnsAway 0x030B .metIntervalSet (fun _ _ s => active s 10 = false) .nores
  ∧ TurnsAway 0x030B .metIntervalSet (fun _ _ s => active s 10 = true ∧ isFenced s 125 = true) .fenced
  ∧ TurnsAway 0x0501 .cpCfg (fun _ _ s => active s 11 = false) .nores
  ∧ TurnsAway 0x0601 .plCfg (fun _ _ s => active s 8 = false) .nores
  ∧ TurnsAway 0x0601 .plCfg (fun _ r s => active s 8 = true ∧ arg r 0 1 < 16 ∧ isFenced s (103 + arg r 0 1) = true) .fenced
  ∧ TurnsAway 0x0701 .rfCfg (fun _ _ s => active s 9 = false) .nores
  ∧ TurnsAway 0x0701 .rfCfg (fun _ r s => active s 9 = true ∧ arg r 0 1 < 6 ∧ isFenced s (119 + arg r 0 1) = true) .fenced
  ∧ TurnsAway 0x0802 .fipCfg (fun _ r s => arg r 0 1 < 16 ∧ active s (fipDomain (arg r 0 1)) = false) .nores
  ∧ TurnsAway 0x0807 .ctxWrite (fun _ _ s => active s 6 = false) .nores
  ∧ TurnsAway 0x0807 .ctxWrite (fun _ _ s => active s 6 = true ∧ isFenced s 92 = true) .fenced
  ∧ TurnsAway 0x0807 .ctxWrite (fun _ r s => active s 6 = true ∧ isFenced s 92 = false
      ∧ ctxKeyMode (ctxWritten r {}) = 1 ∧ ctxSuite (ctxWritten r {}) = 1) .badarg
  ∧ TurnsAway 0x0A04 .balClose (fun _ _ s => active s 6 = true ∧ isFenced s 5 = true) .fenced
  ∧ TurnsAway 0x0120 .pdSet (fun _ r _ => arg r 0 1 < 3) .badarg
  ∧ TurnsAway 0x0120 .pdSet (fun _ r s => 3 ≤ arg r 0 1 ∧ arg r 0 1 ≤ 11 ∧ arg r 0 1 ≠ 10 ∧ arg r 1 1 = 1
      ∧ inForce s (arg r 0 1) 1 = false ∧ inTransition s (arg r 0 1) = false ∧ dependencyFails s (arg r 0 1) 1 = true) .denied
  ∧ TurnsAway 0x0120 .pdSet (fun _ r s => 3 ≤ arg r 0 1 ∧ arg r 0 1 ≤ 11 ∧ arg r 0 1 ≠ 10 ∧ arg r 1 1 ≤ 1
      ∧ inForce s (arg r 0 1) (arg r 1 1) = false
      ∧ (inTransition s (arg r 0 1) = true ∨ dependencyFails s (arg r 0 1) (arg r 1 1) = false)
      ∧ s.power.transition.isSome = true) .busy

/-- The reported value of a time base is its accumulator without the low 36 bits (R83). -/
def Obligations.ReportedTimeDropsTheLowBits : Prop :=
  ∀ s n, (tbVal s n).toNat = (tb s n).acc.toNat / 2 ^ 36

/-- A step that is refused changes no time base (R92, R93): on a base that is LOST or not VALID it is refused at once, and a step that
waits is refused at its edge if the sum of what waits is above STEP_LIMIT or the base is no longer VALID; every accumulator and its validity
stay, STEP_REFUSED is set and counted, V195 is raised and 0x201 logged. -/
def Obligations.RefusedStepsChangeNoTime : Prop :=
  (∀ n (v : Word32) s, n < 12 → tbWritable s n = true → hostOwns s n = true → (tb s n).valid = false ∨ (tb s n).lost = true →
    ∃ t, exec (.tbStepHiWrite n v) s = .next t
      ∧ (∀ m, (tb t m).acc = (tb s m).acc ∧ (tb t m).valid = (tb s m).valid ∧ (tb t m).lost = (tb s m).lost
          ∧ (tb t m).inc = (tb s m).inc ∧ (tb t m).stepped = (tb s m).stepped)
      ∧ (tb t n).stepRefused = true ∧ (tb t n).refused = ((tb s n).refused + 1) % 2 ^ 32
      ∧ t = { s with clock := t.clock, host := (raiseV 195 s).host, log := t.log })
  -- a step on a VALID base waits; steps that wait together are one step, their sum
  ∧ (∀ n (v : Word32) s, n < 12 → tbWritable s n = true → hostOwns s n = true → stepsTaken s n = true →
    ∃ t, exec (.tbStepHiWrite n v) s = .next t ∧ t = { s with clock := t.clock } ∧ (∀ m, m ≠ n → tb t m = tb s m)
      ∧ ∃ p d, p = (tb s n).pend.getD {} ∧ d = p.sum + signed 72 ((tb s n).stepLo.toNat + 2 ^ 64 * (v.toNat % 256))
        ∧ tb t n = { tb s n with pend := some { sum := d, mbs := p.mbs } })
  ∧ (∀ n p s, DistinctKeys s.clock.tbs → (tb s n).pend = some p →
    ((tb s n).valid = false ∨ (tb s n).lost = true ∨ (tb s n).limit.toNat < p.sum.natAbs) →
    let t := settleStep n s
    (∀ m, (tb t m).acc = (tb s m).acc ∧ (tb t m).valid = (tb s m).valid ∧ (tb t m).lost = (tb s m).lost
        ∧ (tb t m).inc = (tb s m).inc ∧ (tb t m).stepped = (tb s m).stepped)
    ∧ (tb t n).pend = none ∧ (tb t n).stepRefused = true ∧ (tb t n).refused = ((tb s n).refused + 1) % 2 ^ 32
    ∧ t = { s with clock := t.clock, host := t.host, log := t.log })

/-- At a fabric tick every running base adds its increment (R84), that of TB0 where it is locked to TB0 (R87); a base that does not run stays;
TB2 counts by its crystal (R115), 15 times as much at each edge of the 40 MHz bypass clock (R21). TB3 and TB11 have loops of their own
(R114, R118). Steps that wait take effect before the tick; with none waiting an idle step is the tick and what the fabric and an engine with
waiting work do beside it. -/
def Obligations.EveryTickAddsTheIncrement : Prop :=
  (∀ n s, n ∈ [1, 4, 5, 6, 7, 8, 9, 10] → DistinctKeys s.clock.tbs → tbRuns s n = true →
    (tb (tickAll s) n).acc = (tb s n).acc + BitVec.ofNat 108 (if (tb s n).source = 4 then (tb s 0).inc else (tb s n).inc))
  ∧ (∀ n s, n ∈ [1, 4, 5, 6, 7, 8, 9, 10] → DistinctKeys s.clock.tbs → tbRuns s n = false → tb (tickAll s) n = tb s n)
  ∧ (∀ s, DistinctKeys s.clock.tbs → tbRuns s 0 = true → (tb s 0).source ≠ 2 → (tb s 0).source ≠ 4 →
    (tb (tickAll s) 0).acc = (tb s 0).acc + BitVec.ofNat 108 (tb s 0).inc)
  -- TB3 in bypass: 15 times its increment at each edge of the reference
  ∧ (∀ s, DistinctKeys s.clock.tbs → active s 10 = true → s.power.bypass = true →
    (tb (tickAll s) 3).acc = (tb s 3).acc + BitVec.ofNat 108 (15 * (tb s 3).inc))
  ∧ (∀ s, DistinctKeys s.clock.tbs → (tb (tickAll s) 2).acc
      = (tb s 2).acc + BitVec.ofNat 108 (((if s.power.bypass then 15 else 1) * (tb s 2).inc * 32768 + s.clock.crystalPhase) / 600000000)
    ∧ (tickAll s).clock.crystalPhase
      = ((if s.power.bypass then 15 else 1) * (tb s 2).inc * 32768 + s.clock.crystalPhase) % 600000000)
  ∧ (∀ s, s.pending = [] → (∀ n < 12, (tb s n).pend = none) → step s = .next (servePop (tickAll (fabricWork s))))

/-- A fault moves the handling state of its own unit only, except by an F3 (R477, R479, R481, R486, R550, R551): an F0 moves nothing, an F1 takes
the slot, an F2 starts the fence, a fault in a busy slot escalates, the third fence within a day retires the unit, a unit that cannot be
fenced restarts the module, and during a restart nothing is taken. -/
def Obligations.FaultsMoveOnlyTheirUnit : Prop :=
  (∀ u code obj snaps s v, DistinctKeys s.log.units → s.log.restart = none →
    (unitOf (raiseFault u code 0 obj snaps s) v).state = (unitOf s v).state)
  ∧ (∀ u code obj snaps s, s.log.restart = none → unitOff s u = false → (unitOf s u).state = .ready →
    let t := raiseFault u code 1 obj snaps s
    (unitOf t u).state = .handlingF1 ∧ (∀ v, v ≠ u → unitOf t v = unitOf s v) ∧ t.log.restart = none)
  ∧ (∀ u code obj snaps s, s.log.restart = none → unitOff s u = false → (unitOf s u).state = .ready → fenceable u = true →
    let t := raiseFault u code 2 obj snaps s
    (unitOf t u).state = .handlingF2 ∧ isFenced t u = true ∧ (∀ v, v ≠ u → unitOf t v = unitOf s v) ∧ t.log.restart = none)
  ∧ (∀ u code cls obj snaps s, cls = 1 ∨ cls = 2 → s.log.restart = none → unitOff s u = false →
    (unitOf s u).state = .handlingF1 → fenceable u = true →
    let t := raiseFault u code cls obj snaps s
    (unitOf t u).state = .handlingF2 ∧ (unitOf t u).escalated = true ∧ (unitOf t u).lastClass = 2
      ∧ (∀ v, v ≠ u → unitOf t v = unitOf s v))
  ∧ (∀ u code obj snaps s, s.log.restart = none → fenceable u = true → unitOff s u = false → (unitOf s u).state = .ready →
    u ≠ 125 → u ≠ 126 → 2 ≤ (recent (ageSec s) 86400 (unitOf s u).fences).length →
    (unitOf (raiseFault u code 2 obj snaps s) u).retired = true)
  ∧ (∀ u code cls obj snaps s, s.log.restart = none → unitOff s u = false → fenceable u = false →
    ((cls = 2 ∧ (unitOf s u).state = .ready) ∨ ((cls = 1 ∨ cls = 2) ∧ (unitOf s u).state = .handlingF1)) →
    (raiseFault u code cls obj snaps s).log.restart.isSome = true)
  ∧ (∀ u code obj snaps s, s.log.restart = none → (raiseFault u code 3 obj snaps s).log.restart.isSome = true)
  ∧ (∀ u code cls obj snaps s, s.log.restart.isSome = true → u ≠ 125 → u ≠ 126 → raiseFault u code cls obj snaps s = s)

/-- Records and their tokens (R494, R495, R498): a record that is due is staged as 128 bytes with the count of what was suppressed and
takes a token; with no token, no room, or unit 6 not in service it only counts; its severity follows its code. -/
def Obligations.RecordsTakeTheirToken : Prop :=
  (∀ c s, fabricUp s = true → (bucketOf s c.code).used < 8 → s.log.staging.length < 256 → (unitOf s 6).state = .ready →
    let t := stage c s
    (∃ r, t.log.staging = s.log.staging ++ [r] ∧ r.code = c.code ∧ r.sev = c.sev ∧ r.unit = c.unit ∧ r.obj = c.obj
      ∧ r.suppressed = (bucketOf s c.code).suppressed ∧ r.snaps = c.snaps.take 8 ∧ r.tb0 = tbVal s 0 ∧ r.tb2 = tbVal s 2
      ∧ r.escalated = c.escalated ∧ r.detected = c.detected)
    ∧ (bucketOf t c.code).used = (bucketOf s c.code).used + 1 ∧ (bucketOf t c.code).suppressed = 0
    ∧ t.log.suppressed = s.log.suppressed ∧ t = { s with log := t.log })
  ∧ (∀ c s, fabricUp s = true → (8 ≤ (bucketOf s c.code).used ∨ 256 ≤ s.log.staging.length ∨ (unitOf s 6).state ≠ .ready) →
    let t := stage c s
    t.log.staging = s.log.staging ∧ t.log.recs = s.log.recs ∧ t.log.suppressed = s.log.suppressed + 1
    ∧ (bucketOf t c.code).suppressed = min 65535 ((bucketOf s c.code).suppressed + 1) ∧ t = { s with log := t.log })
  ∧ (∀ code unit obj snaps s, logEv code unit obj snaps s = stage
      { code := code, unit := unit, obj := obj, snaps := snaps
        sev := if 0x401 ≤ code ∧ code ≤ 0x40F then 6
          else if (0x901 ≤ code ∧ code ≤ 0x90F ∧ code ≠ 0x90C) ∨ (0xB20 ≤ code ∧ code ≤ 0xB25) then 5 else 0 } s)
  ∧ (∀ r, (recordBytes r).length = 128)

/-- Flushing never touches a record of the first area (R501): a held record with a number below 2,048 reads the same after any number of
further records, LOG_NEXT moves on by their number, and each gets the number of its turn. -/
def Obligations.FirstLogAreaIsNeverOverwritten : Prop :=
  ∀ (l : LogPart) rs d, (∀ n < 2048, n < l.next → look d (storeRecs l rs).recs n = look d l.recs n)
    ∧ (storeRecs l rs).next = l.next + rs.length
    ∧ (∀ k, (h : k < rs.length) → rs.length ≤ 8192 → look d (storeRecs l rs).recs (l.next + k) = { rs[k] with rn := l.next + k })

/-- No counter of a context is accepted twice (R378): in any sequence of verified frames, whatever the context held before, two accepted frames
have different counters, no accepted frame was in the window before, and a repeat of an accepted counter is a duplicate or a reuse while it
is within the window of 64, and old behind it. -/
def Obligations.NoCounterIsAcceptedTwice : Prop :=
  (∀ (c : Ctx) (l : List (Nat × Nat)) (i j : Nat), i < j → (verdicts c l)[i]? = some Verdict.accept → (verdicts c l)[j]? = some Verdict.accept →
    (l[i]?).map Prod.fst ≠ (l[j]?).map Prod.fst)
  ∧ (∀ c ic f, (replayDecide c ic f).1 = .accept →
    let d := (replayDecide c ic f).2
    c.icTop ≤ d.icTop ∧ ic ≤ d.icTop
    ∧ (∀ g, (replayDecide d ic g).1 = if 64 ≤ d.icTop - ic then .old else if g % 16 = f % 16 then .dup else .reuse)
    ∧ (∀ k, k ≤ c.icTop → d.icTop - k < 64 → k ≠ ic →
        d.window.getLsbD (d.icTop - k) = c.window.getLsbD (c.icTop - k) ∧ fpAt d (d.icTop - k) = fpAt c (c.icTop - k)))
  ∧ (∀ c ic f, (replayDecide c ic f).1 ≠ .accept → (replayDecide c ic f).2 = c)

/-- A junction entry keeps what it was made of, at every value of its fields, and its parity is right (R330); the two buckets of a key are never
the same, and lie within the table (R318). -/
def Obligations.JunctionEntriesRoundTrip : Prop :=
  (∀ title ctx gen age, title < 2 ^ 64 → ctx < 2 ^ 21 → gen < 256 → age < 256 →
    jtTitle (jtEntry title ctx gen age) = title ∧ jtCtx (jtEntry title ctx gen age) = ctx ∧ jtGen (jtEntry title ctx gen age) = gen
    ∧ jtAge (jtEntry title ctx gen age) = age ∧ jtValid (jtEntry title ctx gen age) = true
    ∧ jtParityOk (jtEntry title ctx gen age) = true)
  ∧ (∀ key, hashH0 key ≠ hashH1 key ∧ hashH0 key < 8192 ∧ hashH1 key < 8192 ∧ hashD0 key < 2 ^ 20 ∧ hashD1 key < 2 ^ 20)

/-- Masks hide a key without changing it (R434, R435): what is stored under any mask reads as the key, and a re-masking pass changes no key,
whatever it draws; a record of the lane key RAM reads the same too. -/
def Obligations.MasksKeepTheirKey : Prop :=
  (∀ s idx typ usage key m, typ ≠ 0 → (activeRoot s).isSome = true → m.length = key.length →
    (Config.storePad (storeKey s) idx key.length).length = key.length → keyOf s idx (maskKey s idx typ usage key m) = some key)
  ∧ (∀ s idx r m a, shareA r = some a → a.length = r.b.length → m.length = r.b.length →
    keyOf s idx (remaskRec r m) = keyOf s idx r)
  ∧ (∀ a b m : Bytes, a.length = b.length → m.length = a.length → xorBytes (xorBytes a m) (xorBytes b m) = xorBytes a b)

/-- The public-key engines serve the lowest class first, and the oldest request of a class (R452). -/
def Obligations.EnginesServeByClassThenAge : Prop :=
  (∀ l r, pkeNext l = some r → ∃ a b, l = a ++ r :: b ∧ dropReq r l = a ++ b ∧ (∀ x ∈ a, r.cls < x.cls) ∧ (∀ x ∈ b, r.cls ≤ x.cls))
  ∧ (∀ l, pkeNext l = none ↔ l = [])

/-- The life-cycle state is read off the fuses (R425): a step is taken when either fuse of its pair is blown, the state is the number of steps
of an unbroken run from step 1, and any other pattern is VOID. -/
def Obligations.LifeCycleIsReadFromTheFuses : Prop :=
  (∀ t k, k ≤ 5 → (∀ i < 5, (bitOf t (2 * i) || bitOf t (2 * i + 1)) = decide (i < k)) → lcCode (lcOfThermo t) = k)
  ∧ (∀ t, (¬ ∃ k, k ≤ 5 ∧ ∀ i < 5, (bitOf t (2 * i) || bitOf t (2 * i + 1)) = decide (i < k)) → lcOfThermo t = .void)
  ∧ lcOfThermo 0x003 = .mfg ∧ lcOfThermo 0x00F = .provision ∧ lcOfThermo 0x03F = .field ∧ lcOfThermo 0x0FF = .rma
  ∧ lcOfThermo 0x3FF = .void ∧ lcOfThermo 0 = .blank

/-- An energy register keeps its value (R148, R152–R154): a write-through moves the pending advance into the record that is not the newer one
and leaves the live value and the other record; a restart from those 16-byte records finds the value; an advance adds exactly, holds at the limits
−2^71 and 2^71 − 1, and a register at a limit stays there. -/
def Obligations.RegistersKeepTheirValue : Prop :=
  (∀ r, liveValue (writeReg r) = liveValue r ∧ (writeReg r).pending = 0 ∧ (writeReg r).nextB = !r.nextB
    ∧ (if r.nextB then (writeReg r).recA = r.recA else (writeReg r).recB = r.recB))
  ∧ (∀ r, regMin ≤ liveValue r → liveValue r ≤ regMax →
    liveValue (restoreReg (writeReg r)).1 = liveValue r ∧ (restoreReg (writeReg r)).2 = false)
  ∧ (∀ r d, regMin < liveValue r → liveValue r < regMax →
    liveValue (advance r d) = max regMin (min regMax (liveValue r + d)))
  ∧ (∀ r d, (regMax ≤ liveValue r ∨ liveValue r ≤ regMin) → advance r d = r)

/-- The quadrant of a tick (R144). -/
def Obligations.QuadrantFollowsTheTotals : Prop :=
  ∀ dp dq : Int, (0 ≤ dp → 0 ≤ dq → quadrantOf dp dq = 1) ∧ (dp < 0 → 0 ≤ dq → quadrantOf dp dq = 2)
    ∧ (dp < 0 → dq < 0 → quadrantOf dp dq = 3) ∧ (0 ≤ dp → dq < 0 → quadrantOf dp dq = 4)

/-- Commands that read change nothing but their answer (R51, R72): the host part holds the response or the completion, and every other part of
the module is as before. An MB1 command that is accepted also enters the legal log (R209), so MB1 is not among the sources here. -/
def Obligations.ReadCommandsChangeOnlyTheirAnswer : Prop :=
  ∀ c ∈ [Instr.pdStatus, .qInfo, .sqNop, .tbInfo, .metInfo, .metRead, .metCaptureRead, .metOutageRead, .tarStatus,
      .billRead, .billHistoryRead, .demRead, .prepayStatus, .tamperRead, .legalCvRead, .legalLogRead, .legalStatus,
      .cpStatus, .cpSessionRead, .cpSlacStatus, .cpPilotRead, .plRouteRead, .rfStatus, .rfLinkRead, .ingStatus,
      .ctxRead, .jtRead, .clStatus, .keygenStatus, .sessStatus, .balStatus, .balHistoryRead, .phaseRead, .keyInfo,
      .secStatus, .lcStatus, .fwStatus, .logInfo, .logRead, .faultStatus],
    ∀ src s t, src ≠ .mb 1 → exec (c src) s = .next t → t = { s with host := t.host }

/-- Configuration commands change their own part of the module, the log and their answer, and nothing else. An MB1 command that is accepted also
enters the legal log (R209), so MB1 is not among the sources here. -/
def Obligations.ConfigurationStaysInItsPart : Prop :=
  (∀ c ∈ [Instr.fipCfg, .ingSteerSet, .ingPortCfg, .ingParseSet, .ingAckTemplate, .dxPeerCfg, .dxUplinkCfg, .smbCfg, .jtInvalidate],
    ∀ src s t, src ≠ .mb 1 → exec (c src) s = .next t → t = { s with host := t.host, ingest := t.ingest })
  ∧ (∀ c ∈ [Instr.phaseCfg, .phaseReset, .balOutputCfg], ∀ src s t, src ≠ .mb 1 → exec (c src) s = .next t →
    t = { s with host := t.host, balance := t.balance })
  ∧ (∀ c ∈ [Instr.tbLimitSet, .msTriggerSet], ∀ src s t, src ≠ .mb 1 → exec (c src) s = .next t →
    t = { s with host := t.host, clock := t.clock })
  -- a capture logs 0x206 where the FIFO is full, and only there
  ∧ (∀ src s t, src ≠ .mb 1 → exec (.msCapture src) s = .next t →
    t = { s with host := t.host, clock := t.clock, log := t.log } ∧ (s.clock.fifo.length < 64 → t.log = s.log))
  ∧ (∀ c ∈ [Instr.rfNetCfg, .rfDevDelete], ∀ src s t, src ≠ .mb 1 → exec (c src) s = .next t →
    t = { s with host := t.host, radio := t.radio, log := t.log })
end

