-- ==== Sys2Proof/Laws/Tab.lean ====
section
/-! SUPPORT. Laws of tables and byte memory: what an entry reads as after an update, and that updates keep the canonical form. -/

namespace Sys2Proof.Machine

theorem look_dropKey_other {α : Type} (d : α) (t : Tab α) {i j : Nat} (h : j ≠ i) :
    look d (dropKey t i) j = look d t j := by
  induction t with
  | nil => rfl
  | cons p r ih =>
    obtain ⟨k, v⟩ := p
    simp only [dropKey]
    split
    · subst_vars
      simp [look, Ne.symm h]
    · simp only [look, ih]

theorem look_insertKey_same {α : Type} (d : α) (t : Tab α) (i : Nat) (v : α) : look d (insertKey t i v) i = v := by
  induction t with
  | nil => simp [insertKey, look]
  | cons p r ih =>
    obtain ⟨k, w⟩ := p
    simp only [insertKey]
    split
    · simp [look]
    · split
      · simp [look]
      · rename_i h
        simp [look, h, ih]

theorem look_insertKey_other {α : Type} (d : α) (t : Tab α) {i j : Nat} (v : α) (h : j ≠ i) :
    look d (insertKey t i v) j = look d t j := by
  induction t with
  | nil => simp [insertKey, look, Ne.symm h]
  | cons p r ih =>
    obtain ⟨k, w⟩ := p
    simp only [insertKey]
    split
    · simp [look, Ne.symm h]
    · split
      · subst_vars
        simp [look, Ne.symm h]
      · simp only [look, ih]

/-- An index below every listed one reads the default. -/
theorem look_of_wfFrom {α : Type} [DecidableEq α] (d : α) (t : Tab α) {lo i : Nat} (h : wfFrom d lo t = true) (hi : i < lo) :
    look d t i = d := by
  induction t generalizing lo with
  | nil => rfl
  | cons p r ih =>
    obtain ⟨k, v⟩ := p
    simp only [wfFrom, Bool.and_eq_true, decide_eq_true_eq] at h
    have hk : k ≠ i := by omega
    simp only [look, hk, if_false]
    exact ih h.2 (by omega)

theorem wfFrom_mono {α : Type} [DecidableEq α] (d : α) (t : Tab α) {lo lo' : Nat} (h : wfFrom d lo t = true) (hl : lo' ≤ lo) :
    wfFrom d lo' t = true := by
  cases t with
  | nil => rfl
  | cons p r =>
    obtain ⟨k, v⟩ := p
    simp only [wfFrom, Bool.and_eq_true, decide_eq_true_eq] at h ⊢
    exact ⟨⟨by omega, h.1.2⟩, h.2⟩

theorem wfFrom_dropKey {α : Type} [DecidableEq α] (d : α) (t : Tab α) (i lo : Nat) (h : wfFrom d lo t = true) :
    wfFrom d lo (dropKey t i) = true := by
  induction t generalizing lo with
  | nil => rfl
  | cons p r ih =>
    obtain ⟨k, v⟩ := p
    simp only [wfFrom, Bool.and_eq_true, decide_eq_true_eq] at h
    simp only [dropKey]
    split
    · exact wfFrom_mono d r h.2 (by omega)
    · simp only [wfFrom, Bool.and_eq_true, decide_eq_true_eq]
      exact ⟨h.1, ih _ h.2⟩

theorem wfFrom_insertKey {α : Type} [DecidableEq α] (d : α) (t : Tab α) (i lo : Nat) (v : α) (h : wfFrom d lo t = true)
    (hl : lo ≤ i) (hv : v ≠ d) : wfFrom d lo (insertKey t i v) = true := by
  induction t generalizing lo with
  | nil => simp [insertKey, wfFrom, hl, hv]
  | cons p r ih =>
    obtain ⟨k, w⟩ := p
    simp only [wfFrom, Bool.and_eq_true, decide_eq_true_eq] at h
    simp only [insertKey]
    split
    · simp only [wfFrom, Bool.and_eq_true, decide_eq_true_eq]
      exact ⟨⟨hl, hv⟩, ⟨by omega, h.1.2⟩, h.2⟩
    · split
      · subst_vars
        simp only [wfFrom, Bool.and_eq_true, decide_eq_true_eq]
        exact ⟨⟨h.1.1, hv⟩, h.2⟩
      · simp only [wfFrom, Bool.and_eq_true, decide_eq_true_eq]
        exact ⟨h.1, ih _ h.2 (by omega)⟩

theorem look_dropKey_same {α : Type} [DecidableEq α] (d : α) (t : Tab α) (i lo : Nat) (h : wfFrom d lo t = true) :
    look d (dropKey t i) i = d := by
  induction t generalizing lo with
  | nil => rfl
  | cons p r ih =>
    obtain ⟨k, v⟩ := p
    simp only [wfFrom, Bool.and_eq_true, decide_eq_true_eq] at h
    simp only [dropKey]
    split
    · exact look_of_wfFrom d r h.2 (by omega)
    · rename_i hk
      simp only [look, hk, if_false]
      exact ih _ h.2

/-- Updating a table keeps its canonical form. -/
theorem tabWf_put {α : Type} [DecidableEq α] (d : α) (t : Tab α) (i : Nat) (v : α) (h : tabWf d t = true) :
    tabWf d (put d t i v) = true := by
  unfold put
  split
  · exact wfFrom_dropKey d t i 0 h
  · exact wfFrom_insertKey d t i 0 v h (by omega) ‹_›

/-- An updated entry reads as the value written, in a table of canonical form. -/
theorem look_put_same {α : Type} [DecidableEq α] (d : α) (t : Tab α) (i : Nat) (v : α) (h : tabWf d t = true) :
    look d (put d t i v) i = v := by
  unfold put
  split
  · subst_vars
    exact look_dropKey_same _ t i 0 h
  · exact look_insertKey_same d t i v

/-- Every other entry reads as before. -/
theorem look_put_other {α : Type} [DecidableEq α] (d : α) (t : Tab α) {i j : Nat} (v : α) (h : j ≠ i) :
    look d (put d t i v) j = look d t j := by
  unfold put
  split
  · exact look_dropKey_other d t h
  · exact look_insertKey_other d t v h

/-! ### Byte memory -/

theorem Memory.wf_write (m : Memory) (a : Nat) (b : Byte) (h : m.wf = true) : (m.write a b).wf = true :=
  tabWf_put 0#8 m a b h

theorem Memory.read_write_same (m : Memory) (a : Nat) (b : Byte) (h : m.wf = true) : (m.write a b).read a = b :=
  look_put_same 0#8 m a b h

theorem Memory.read_write_other (m : Memory) {a c : Nat} (b : Byte) (h : c ≠ a) : (m.write a b).read c = m.read c :=
  look_put_other 0#8 m b h

/-- A write of bytes keeps the canonical form. -/
theorem wf_writeBytes (b : Bytes) (m : Memory) (a : Nat) (h : m.wf = true) : Memory.wf (writeBytes m a b) = true := by
  induction b generalizing m a with
  | nil => exact h
  | cons x r ih => exact ih _ _ (Memory.wf_write m a x h)

/-- Outside the bytes written, memory reads as before. -/
theorem read_writeBytes_other (b : Bytes) (m : Memory) {a c : Nat} (h : c < a ∨ a + b.length ≤ c) :
    Memory.read (writeBytes m a b) c = Memory.read m c := by
  induction b generalizing m a with
  | nil => rfl
  | cons x r ih =>
    simp only [List.length_cons] at h
    simp only [writeBytes]
    rw [ih _ (by omega), Memory.read_write_other m x (by omega)]

/-- The bytes written are read back. -/
theorem read_writeBytes_same (b : Bytes) (m : Memory) (a i : Nat) (h : m.wf = true) (hi : i < b.length) :
    Memory.read (writeBytes m a b) (a + i) = b[i] := by
  induction b generalizing m a i with
  | nil => simp at hi
  | cons x r ih =>
    simp only [writeBytes]
    cases i with
    | zero =>
      rw [read_writeBytes_other r _ (Or.inl (by omega))]
      exact Memory.read_write_same m a x h
    | succ j =>
      have hj : j < r.length := by simpa using hi
      have := ih (m.write a x) (a + 1) j (Memory.wf_write m a x h) hj
      rw [show a + (j + 1) = a + 1 + j by omega, this]
      rfl

end Sys2Proof.Machine
end

