-- ==== Sys2Proof/Laws/Ops.lean ====
section
/-! SUPPORT. What each shared operation can change, said once: the state it answers is the state it was given with the named parts
replaced. -/

namespace Sys2Proof.Machine

/-! ### Emissions, vectors and free values -/

theorem emit_parts (e : Emission) (s : State) : emit e s = { s with host := (emit e s).host } := rfl

theorem raiseV_parts (v : Nat) (s : State) : raiseV v s = { s with host := (raiseV v s).host } := by
  simp only [raiseV, emit]
  repeat' split
  all_goals rfl

@[simp] theorem raiseV_areas (v : Nat) (s : State) : (raiseV v s).host.areas = s.host.areas := by
  simp only [raiseV, emit]
  repeat' split
  all_goals rfl

@[simp] theorem raiseV_mbs (v : Nat) (s : State) : (raiseV v s).host.mbs = s.host.mbs := by
  simp only [raiseV, emit]
  repeat' split
  all_goals rfl

theorem takeFree_parts (s : State) : (takeFree s).2 = { s with keys := (takeFree s).2.keys } := rfl

theorem draw_parts (n : Nat) (s : State) : (draw n s).2 = { s with keys := (draw n s).2.keys } := rfl

/-! ### The logbook -/

theorem stage_parts (c : LogCall) (s : State) : stage c s = { s with log := (stage c s).log } := by
  simp only [stage, suppress, setBucket]
  repeat' split
  all_goals rfl

theorem logEv_parts (code unit obj : Nat) (snaps : List Time) (s : State) :
    logEv code unit obj snaps s = { s with log := (logEv code unit obj snaps s).log } := stage_parts _ s

theorem notice_parts (code sev unit : Nat) (detail : Bytes) (s : State) :
    notice code sev unit detail s = { s with host := (notice code sev unit detail s).host } := rfl

theorem logNotice_parts (code unit obj : Nat) (snaps : List Time) (s : State) :
    logNotice code unit obj snaps s =
      { s with host := (logNotice code unit obj snaps s).host, log := (logNotice code unit obj snaps s).log } := by
  simp only [logNotice]
  rw [notice_parts, logEv_parts]

theorem logTb_parts (code n : Nat) (named : List Time) (s : State) :
    logTb code n named s = { s with log := (logTb code n named s).log } := stage_parts _ s

theorem logBoot_parts (code bank : Nat) (named : List Time) (s : State) :
    logBoot code bank named s = { s with log := (logBoot code bank named s).log } := stage_parts _ s

theorem logKey_parts (code obj gen discarded : Nat) (named : List Time) (s : State) :
    logKey code obj gen discarded named s = { s with log := (logKey code obj gen discarded named s).log } := stage_parts _ s

/-- A flush moves records within the logbook and may raise V231 (R499, R502). -/
theorem flush_parts (s : State) : flush s = { s with host := (flush s).host, log := (flush s).log } := by
  simp only [flush]
  split <;> split
  all_goals first | rfl | (rw [raiseV_parts]; done) | (rw [logEv_parts, raiseV_parts]; done) | (rw [logEv_parts]; done)

/-! ### Faults -/

theorem faultRecord_parts (u code taken detected : Nat) (esc : Bool) (obj : Nat) (snaps : List Time) (s : State) :
    faultRecord u code taken detected esc obj snaps s =
      { s with log := (faultRecord u code taken detected esc obj snaps s).log } := stage_parts _ s

theorem noteFault_parts (u code taken : Nat) (esc : Bool) (s : State) :
    noteFault u code taken esc s = { s with log := (noteFault u code taken esc s).log } := rfl

theorem countedFault_parts (u code cls obj : Nat) (snaps : List Time) (s : State) :
    countedFault u code cls obj snaps s = { s with log := (countedFault u code cls obj snaps s).log } := by
  simp only [countedFault]
  split
  · rfl
  · rw [noteFault_parts, faultRecord_parts]

theorem beginRestart_parts (u code : Nat) (s : State) :
    beginRestart u code s = { s with host := (beginRestart u code s).host, log := (beginRestart u code s).log } := by
  simp only [beginRestart]
  repeat' split
  all_goals first | rfl | (rw [flush_parts, logEv_parts]) | (rw [flush_parts])

theorem takeF3_parts (u code detected : Nat) (esc : Bool) (obj : Nat) (snaps : List Time) (s : State) :
    takeF3 u code detected esc obj snaps s =
      { s with host := (takeF3 u code detected esc obj snaps s).host, log := (takeF3 u code detected esc obj snaps s).log } := by
  simp only [takeF3]
  rw [beginRestart_parts, noteFault_parts, faultRecord_parts]

theorem takeF2_parts (u code detected : Nat) (esc : Bool) (obj : Nat) (snaps : List Time) (s : State) :
    takeF2 u code detected esc obj snaps s =
      { s with host := (takeF2 u code detected esc obj snaps s).host, log := (takeF2 u code detected esc obj snaps s).log } := by
  simp only [takeF2]
  split
  · simp only [setUnit]
    rw [noteFault_parts, faultRecord_parts]
  · exact takeF3_parts ..

theorem logOnly_parts (u code cls : Nat) (s : State) : logOnly u code cls s = { s with log := (logOnly u code cls s).log } := by
  simp only [logOnly]
  rw [noteFault_parts, stage_parts]

end Sys2Proof.Machine
end

