-- ==== Sys2Proof/Laws/Answer.lean ====
section
/-! SUPPORT. What a command row does, said once: a waiting request whose checks pass is carried out and answered; one that fails a
check is answered with that status and changes nothing else. -/

namespace Sys2Proof.Machine

open Sys2Proof

theorem isMb1_iff (src : Src) : isMb1 src = true ↔ src = .mb 1 := by
  cases src <;> simp [isMb1]

theorem mb1Entry_other {src : Src} (h : isMb1 src = false) (r : Req) (code : Nat) (s : State) : mb1Entry src r code s = s := by
  cases src with
  | mb n =>
    have hn : n ≠ 1 := by simpa [isMb1] using h
    simp [mb1Entry, hn]
  | sq n i => rfl

/-- Carrying a command out is answering it, where the legal log has room for an MB1 command. -/
theorem carryOut_answer {src : Src} {r : Req} {s : State} (run : Src → Req → State → Reply × State)
    (hl : isMb1 src = true → legalFull s = false) : carryOut run src r s = answer src r (run src r s).1 s (run src r s).2 := by
  cases hm : isMb1 src with
  | false => simp [carryOut, answer, hm, mb1Entry_other hm]
  | true =>
    cases ha : accepted (run src r s).1.status with
    | false => simp [carryOut, answer, hm, ha]
    | true =>
      cases hq : (run src r s).1.later with
      | false =>
        simp [carryOut, answer, hm, ha, hl hm, changeCode, hq] <;> rfl
      | true => simp [carryOut, answer, hm, ha, hl hm, hq]

theorem carryOut_eq_answer {op : Nat} {src : Src} {r : Req} {s : State} (run : Src → Req → State → Reply × State)
    (h : Ready op src r s) : carryOut run src r s = answer src r (run src r s).1 s (run src r s).2 :=
  carryOut_answer run h.2.2.2

/-- A command that waited for a public-key engine and still passes its checks is carried out when the operation has ended. -/
theorem pkeDone_passes {m : Nat} {r : Req} {q : PkeReq} {s : State} (hq : q.job = .command m r) (hs : (mbOf s m).started = true)
    (hl : m = 1 → legalFull s = false) (hc : (pkeEffect r.opcode).1 (.mb m) r s = none) :
    pkeDone q s = answer (.mb m) r ((pkeEffect r.opcode).2 (.mb m) r s).1 s ((pkeEffect r.opcode).2 (.mb m) r s).2 := by
  have hl' : isMb1 (.mb m) = true → legalFull s = false := fun h => hl (by simpa [isMb1] using h)
  rw [← carryOut_answer _ hl']
  simp [pkeDone, hq, pkeAnswer, hs, hc]

/-- A waiting request whose checks pass is carried out. -/
theorem runCmd_passes {op : Nat} {check : Src → Req → State → Option Status} {run : Src → Req → State → Reply × State} {src : Src}
    {r : Req} {s : State} (h : Ready op src r s) (hc : check src r s = none) :
    runCmd op check run src s = .next (answer src r (run src r s).1 s (run src r s).2) := by
  rw [← carryOut_eq_answer run h]
  obtain ⟨he, ht, ho, -⟩ := h
  simp [runCmd, he, ht, ho, hc]

/-- A waiting request that fails a check is answered with that check's status; its command has no effect. -/
theorem runCmd_fails {op : Nat} {check : Src → Req → State → Option Status} {run : Src → Req → State → Reply × State} {src : Src}
    {r : Req} {s : State} {st : Status} (he : src.exists = true) (ht : takenReq s src = some r) (ho : r.opcode = op)
    (hc : check src r s = some st) : runCmd op check run src s = .next (respond src r (srcKey s src r) (fail st) s) := by
  simp [runCmd, he, ht, ho, hc]

/-- A command row of a source that exists never stops the module. -/
theorem runCmd_next (op : Nat) (check : Src → Req → State → Option Status) (run : Src → Req → State → Reply × State) {src : Src}
    (s : State) (he : src.exists = true) : ∃ t, runCmd op check run src s = .next t := by
  unfold runCmd
  rw [if_pos he]
  split
  · split
    · split <;> exact ⟨_, rfl⟩
    · exact ⟨_, rfl⟩
  · exact ⟨_, rfl⟩

/-- A row of an index within its count never stops the module. -/
theorem within_next (what : String) {i n : Nat} (t : State) (h : i < n) : within what i n t = .next t := by simp [within, h]

theorem firstFail_none {l : List (Bool × Status)} (h : ∀ p ∈ l, p.1 = false) : firstFail l = none := by
  induction l with
  | nil => rfl
  | cons p r ih =>
    obtain ⟨c, st⟩ := p
    have hc : c = false := h (c, st) (by simp)
    simp only [firstFail, hc]
    exact ih fun q hq => h q (by simp [hq])

/-! ### What an answer can change -/

theorem answerMb_parts (n : Nat) (r : Req) (key : Option Bytes) (st : Status) (payload : Bytes) (s : State) :
    answerMb n r key st payload s = { s with host := (answerMb n r key st payload s).host } := by
  simp only [answerMb, setMb, goneBy]
  split
  · rw [raiseV_parts]
  · rfl

theorem postCqAt_parts (head sq tag : Nat) (st : Status) (type info : Nat) (payload : Bytes) (s : State) :
    postCqAt head sq tag st type info payload s = { s with host := (postCqAt head sq tag st type info payload s).host } := by
  simp only [postCqAt, setCq, emit]
  split
  · rw [raiseV_parts]
  · rfl

theorem flushDone_parts (sq q : Nat) (s : State) : flushDone sq q s = { s with host := (flushDone sq q s).host } := by
  simp only [flushDone, setSq, setHq]
  split <;> rfl

theorem completeSq_parts (sq : Nat) (e : Entry) (rep : Reply) (s : State) :
    completeSq sq e rep s = { s with host := (completeSq sq e rep s).host } := by
  simp only [completeSq, postCq]
  split
  · rfl
  · split
    · rfl
    · rw [postCqAt_parts]
      split
      · rw [flushDone_parts]
        (repeat' split) <;> rfl
      · (repeat' split) <;> rfl

/-- A response or a completion changes nothing but the host interface (R51, R72). -/
theorem respond_parts (src : Src) (r : Req) (key : Option Bytes) (rep : Reply) (s : State) :
    respond src r key rep s = { s with host := (respond src r key rep s).host } := by
  simp only [respond]
  split
  · split
    · rfl
    · exact answerMb_parts ..
  · split
    · split
      · rfl
      · exact completeSq_parts ..
    · rfl

/-- A command of another source than MB1 changes what its run changes, and the host interface. -/
theorem runCmd_other {op : Nat} {check : Src → Req → State → Option Status} {run : Src → Req → State → Reply × State} {src : Src}
    {s t : State} (hs : src ≠ .mb 1) (h : runCmd op check run src s = .next t) :
    (∃ host, t = { s with host := host }) ∨ ∃ r host, t = { (run src r s).2 with host := host } := by
  have hm : isMb1 src = false := by
    cases hc : isMb1 src with
    | false => rfl
    | true => exact absurd ((isMb1_iff src).mp hc) hs
  unfold runCmd at h
  split at h
  · split at h
    · split at h
      · split at h
        · cases h
          exact .inl ⟨_, respond_parts ..⟩
        · cases h
          simp only [carryOut, hm, Bool.false_and, Bool.false_eq_true, if_false]
          exact .inr ⟨_, _, respond_parts ..⟩
      · exact .inl ⟨s.host, (Host.Outcome.next.inj h).symm⟩
    · exact .inl ⟨s.host, (Host.Outcome.next.inj h).symm⟩
  · cases h

end Sys2Proof.Machine
end

