-- ==== Sys2Proof/Laws/Bits.lean ====
section
/-! SUPPORT. Lengths of the fields a response or a record is built from. -/

namespace Sys2Proof.Machine

@[simp] theorem leBytes_length (n v : Nat) : (leBytes n v).length = n := by
  induction n generalizing v with
  | zero => rfl
  | succ n ih => simp [leBytes, ih]
@[simp] theorem le8_length (v : Nat) : (le8 v).length = 1 := leBytes_length 1 v
@[simp] theorem le16_length (v : Nat) : (le16 v).length = 2 := leBytes_length 2 v
@[simp] theorem le32_length (v : Nat) : (le32 v).length = 4 := leBytes_length 4 v
@[simp] theorem le64_length (v : Nat) : (le64 v).length = 8 := leBytes_length 8 v
@[simp] theorem le72_length (t : Time) : (le72 t).length = 9 := leBytes_length 9 _
@[simp] theorem leInt_length (n : Nat) (i : Int) : (leInt n i).length = n := leBytes_length n _
@[simp] theorem padTo_length (n : Nat) (b : Bytes) : (padTo n b).length = n := by
  simp only [padTo, List.length_append, List.length_take, List.length_replicate]
  omega

/-- A field written and read back is the value modulo its width. -/
theorem leNat_leBytes (n v : Nat) : leNat (leBytes n v) = v % 256 ^ n := by
  induction n generalizing v with
  | zero => simp [leBytes, leNat, Nat.mod_one]
  | succ n ih =>
    have hb : (BitVec.ofNat 8 v).toNat = v % 256 := by simp
    rw [leBytes, leNat, ih, hb, Nat.pow_succ, Nat.mul_comm (256 ^ n) 256, Nat.mod_mul]

end Sys2Proof.Machine
end

