-- ==== Sys2Proof/Laws/State.lean ====
section
/-! SUPPORT. One lemma for each update of one entry of the state: which part it changes and to what, and that every other part stays. -/

namespace Sys2Proof.Machine

@[simp] theorem setTb_parts (n : Nat) (t : TimeBase) (s : State) :
    (setTb n t s).pending = s.pending ∧ (setTb n t s).host = s.host ∧ (setTb n t s).log = s.log ∧ (setTb n t s).power = s.power ∧
    (setTb n t s).keys = s.keys ∧ (setTb n t s).firm = s.firm ∧ (setTb n t s).legal = s.legal ∧ (setTb n t s).meter = s.meter ∧
    (setTb n t s).tariff = s.tariff ∧ (setTb n t s).drives = s.drives ∧ (setTb n t s).charge = s.charge ∧ (setTb n t s).line = s.line ∧
    (setTb n t s).radio = s.radio ∧ (setTb n t s).ingest = s.ingest ∧ (setTb n t s).lanes = s.lanes ∧ (setTb n t s).balance = s.balance ∧
    (setTb n t s).clock = { s.clock with tbs := put (tbReset n) s.clock.tbs n t } :=
  ⟨rfl, rfl, rfl, rfl, rfl, rfl, rfl, rfl, rfl, rfl, rfl, rfl, rfl, rfl, rfl, rfl, rfl⟩

@[simp] theorem setUnit_parts (u : Nat) (f : FaultUnit) (s : State) :
    (setUnit u f s).pending = s.pending ∧ (setUnit u f s).host = s.host ∧ (setUnit u f s).power = s.power ∧
    (setUnit u f s).clock = s.clock ∧ (setUnit u f s).keys = s.keys ∧ (setUnit u f s).firm = s.firm ∧ (setUnit u f s).legal = s.legal ∧
    (setUnit u f s).meter = s.meter ∧ (setUnit u f s).tariff = s.tariff ∧ (setUnit u f s).drives = s.drives ∧
    (setUnit u f s).charge = s.charge ∧ (setUnit u f s).line = s.line ∧ (setUnit u f s).radio = s.radio ∧
    (setUnit u f s).ingest = s.ingest ∧ (setUnit u f s).lanes = s.lanes ∧ (setUnit u f s).balance = s.balance ∧
    (setUnit u f s).log = { s.log with units := put {} s.log.units u f } :=
  ⟨rfl, rfl, rfl, rfl, rfl, rfl, rfl, rfl, rfl, rfl, rfl, rfl, rfl, rfl, rfl, rfl, rfl⟩

@[simp] theorem setBucket_parts (code : Nat) (b : Bucket) (s : State) :
    (setBucket code b s).pending = s.pending ∧ (setBucket code b s).host = s.host ∧ (setBucket code b s).power = s.power ∧
    (setBucket code b s).clock = s.clock ∧ (setBucket code b s).keys = s.keys ∧ (setBucket code b s).firm = s.firm ∧
    (setBucket code b s).legal = s.legal ∧ (setBucket code b s).meter = s.meter ∧ (setBucket code b s).tariff = s.tariff ∧
    (setBucket code b s).drives = s.drives ∧ (setBucket code b s).charge = s.charge ∧ (setBucket code b s).line = s.line ∧
    (setBucket code b s).radio = s.radio ∧ (setBucket code b s).ingest = s.ingest ∧ (setBucket code b s).lanes = s.lanes ∧
    (setBucket code b s).balance = s.balance ∧ (setBucket code b s).log = { s.log with buckets := put {} s.log.buckets code b } :=
  ⟨rfl, rfl, rfl, rfl, rfl, rfl, rfl, rfl, rfl, rfl, rfl, rfl, rfl, rfl, rfl, rfl, rfl⟩

@[simp] theorem setMb_parts (n : Nat) (m : Mailbox) (s : State) :
    (setMb n m s).pending = s.pending ∧ (setMb n m s).log = s.log ∧ (setMb n m s).power = s.power ∧ (setMb n m s).clock = s.clock ∧
    (setMb n m s).keys = s.keys ∧ (setMb n m s).firm = s.firm ∧ (setMb n m s).legal = s.legal ∧ (setMb n m s).meter = s.meter ∧
    (setMb n m s).tariff = s.tariff ∧ (setMb n m s).drives = s.drives ∧ (setMb n m s).charge = s.charge ∧ (setMb n m s).line = s.line ∧
    (setMb n m s).radio = s.radio ∧ (setMb n m s).ingest = s.ingest ∧ (setMb n m s).lanes = s.lanes ∧ (setMb n m s).balance = s.balance ∧
    (setMb n m s).host = { s.host with mbs := put {} s.host.mbs n m } :=
  ⟨rfl, rfl, rfl, rfl, rfl, rfl, rfl, rfl, rfl, rfl, rfl, rfl, rfl, rfl, rfl, rfl, rfl⟩

@[simp] theorem setHq_parts (q : Nat) (h : Hq) (s : State) :
    (setHq q h s).pending = s.pending ∧ (setHq q h s).log = s.log ∧ (setHq q h s).power = s.power ∧ (setHq q h s).clock = s.clock ∧
    (setHq q h s).keys = s.keys ∧ (setHq q h s).firm = s.firm ∧ (setHq q h s).legal = s.legal ∧ (setHq q h s).meter = s.meter ∧
    (setHq q h s).tariff = s.tariff ∧ (setHq q h s).drives = s.drives ∧ (setHq q h s).charge = s.charge ∧ (setHq q h s).line = s.line ∧
    (setHq q h s).radio = s.radio ∧ (setHq q h s).ingest = s.ingest ∧ (setHq q h s).lanes = s.lanes ∧ (setHq q h s).balance = s.balance ∧
    (setHq q h s).host = { s.host with hqs := put {} s.host.hqs q h } :=
  ⟨rfl, rfl, rfl, rfl, rfl, rfl, rfl, rfl, rfl, rfl, rfl, rfl, rfl, rfl, rfl, rfl, rfl⟩

@[simp] theorem setSq_parts (q : Nat) (h : Sq) (s : State) :
    (setSq q h s).pending = s.pending ∧ (setSq q h s).log = s.log ∧ (setSq q h s).power = s.power ∧ (setSq q h s).clock = s.clock ∧
    (setSq q h s).keys = s.keys ∧ (setSq q h s).firm = s.firm ∧ (setSq q h s).legal = s.legal ∧ (setSq q h s).meter = s.meter ∧
    (setSq q h s).tariff = s.tariff ∧ (setSq q h s).drives = s.drives ∧ (setSq q h s).charge = s.charge ∧ (setSq q h s).line = s.line ∧
    (setSq q h s).radio = s.radio ∧ (setSq q h s).ingest = s.ingest ∧ (setSq q h s).lanes = s.lanes ∧ (setSq q h s).balance = s.balance ∧
    (setSq q h s).host = { s.host with sqs := put {} s.host.sqs q h } :=
  ⟨rfl, rfl, rfl, rfl, rfl, rfl, rfl, rfl, rfl, rfl, rfl, rfl, rfl, rfl, rfl, rfl, rfl⟩

@[simp] theorem setCq_parts (q : Nat) (h : Cq) (s : State) :
    (setCq q h s).pending = s.pending ∧ (setCq q h s).log = s.log ∧ (setCq q h s).power = s.power ∧ (setCq q h s).clock = s.clock ∧
    (setCq q h s).keys = s.keys ∧ (setCq q h s).firm = s.firm ∧ (setCq q h s).legal = s.legal ∧ (setCq q h s).meter = s.meter ∧
    (setCq q h s).tariff = s.tariff ∧ (setCq q h s).drives = s.drives ∧ (setCq q h s).charge = s.charge ∧ (setCq q h s).line = s.line ∧
    (setCq q h s).radio = s.radio ∧ (setCq q h s).ingest = s.ingest ∧ (setCq q h s).lanes = s.lanes ∧ (setCq q h s).balance = s.balance ∧
    (setCq q h s).host = { s.host with cqs := put {} s.host.cqs q h } :=
  ⟨rfl, rfl, rfl, rfl, rfl, rfl, rfl, rfl, rfl, rfl, rfl, rfl, rfl, rfl, rfl, rfl, rfl⟩

@[simp] theorem setPke_parts (n : Nat) (r : Option PkeReq) (s : State) :
    (setPke n r s).pending = s.pending ∧ (setPke n r s).host = s.host ∧ (setPke n r s).log = s.log ∧ (setPke n r s).power = s.power ∧
    (setPke n r s).clock = s.clock ∧ (setPke n r s).firm = s.firm ∧ (setPke n r s).legal = s.legal ∧ (setPke n r s).meter = s.meter ∧
    (setPke n r s).tariff = s.tariff ∧ (setPke n r s).drives = s.drives ∧ (setPke n r s).charge = s.charge ∧
    (setPke n r s).line = s.line ∧ (setPke n r s).radio = s.radio ∧ (setPke n r s).ingest = s.ingest ∧ (setPke n r s).lanes = s.lanes ∧
    (setPke n r s).balance = s.balance ∧ (setPke n r s).keys = { s.keys with pkeRun := put none s.keys.pkeRun n r } :=
  ⟨rfl, rfl, rfl, rfl, rfl, rfl, rfl, rfl, rfl, rfl, rfl, rfl, rfl, rfl, rfl, rfl, rfl⟩

@[simp] theorem setChan_parts (a : Nat) (c : Channel) (s : State) :
    (setChan a c s).pending = s.pending ∧ (setChan a c s).host = s.host ∧ (setChan a c s).log = s.log ∧ (setChan a c s).power = s.power ∧
    (setChan a c s).clock = s.clock ∧ (setChan a c s).keys = s.keys ∧ (setChan a c s).firm = s.firm ∧ (setChan a c s).legal = s.legal ∧
    (setChan a c s).tariff = s.tariff ∧ (setChan a c s).drives = s.drives ∧ (setChan a c s).charge = s.charge ∧
    (setChan a c s).line = s.line ∧ (setChan a c s).radio = s.radio ∧ (setChan a c s).ingest = s.ingest ∧
    (setChan a c s).lanes = s.lanes ∧ (setChan a c s).balance = s.balance ∧
    (setChan a c s).meter = { s.meter with chans := put {} s.meter.chans a c } :=
  ⟨rfl, rfl, rfl, rfl, rfl, rfl, rfl, rfl, rfl, rfl, rfl, rfl, rfl, rfl, rfl, rfl, rfl⟩

@[simp] theorem setPoint_parts (m : Nat) (p : MeteringPoint) (s : State) :
    (setPoint m p s).pending = s.pending ∧ (setPoint m p s).host = s.host ∧ (setPoint m p s).log = s.log ∧
    (setPoint m p s).power = s.power ∧ (setPoint m p s).clock = s.clock ∧ (setPoint m p s).keys = s.keys ∧
    (setPoint m p s).firm = s.firm ∧ (setPoint m p s).legal = s.legal ∧ (setPoint m p s).tariff = s.tariff ∧
    (setPoint m p s).drives = s.drives ∧ (setPoint m p s).charge = s.charge ∧ (setPoint m p s).line = s.line ∧
    (setPoint m p s).radio = s.radio ∧ (setPoint m p s).ingest = s.ingest ∧ (setPoint m p s).lanes = s.lanes ∧
    (setPoint m p s).balance = s.balance ∧ (setPoint m p s).meter = { s.meter with points := put {} s.meter.points m p } :=
  ⟨rfl, rfl, rfl, rfl, rfl, rfl, rfl, rfl, rfl, rfl, rfl, rfl, rfl, rfl, rfl, rfl, rfl⟩

@[simp] theorem setBg_parts (path g : Nat) (b : Background) (s : State) :
    (setBg path g b s).pending = s.pending ∧ (setBg path g b s).host = s.host ∧ (setBg path g b s).log = s.log ∧
    (setBg path g b s).power = s.power ∧ (setBg path g b s).clock = s.clock ∧ (setBg path g b s).keys = s.keys ∧
    (setBg path g b s).firm = s.firm ∧ (setBg path g b s).legal = s.legal ∧ (setBg path g b s).tariff = s.tariff ∧
    (setBg path g b s).drives = s.drives ∧ (setBg path g b s).charge = s.charge ∧ (setBg path g b s).line = s.line ∧
    (setBg path g b s).radio = s.radio ∧ (setBg path g b s).ingest = s.ingest ∧ (setBg path g b s).lanes = s.lanes ∧
    (setBg path g b s).balance = s.balance ∧ (setBg path g b s).meter = { s.meter with bgs := put {} s.meter.bgs (6 * path + g) b } :=
  ⟨rfl, rfl, rfl, rfl, rfl, rfl, rfl, rfl, rfl, rfl, rfl, rfl, rfl, rfl, rfl, rfl, rfl⟩

@[simp] theorem setTpo_parts (n : Nat) (t : Tpo) (s : State) :
    (setTpo n t s).pending = s.pending ∧ (setTpo n t s).host = s.host ∧ (setTpo n t s).log = s.log ∧ (setTpo n t s).power = s.power ∧
    (setTpo n t s).clock = s.clock ∧ (setTpo n t s).keys = s.keys ∧ (setTpo n t s).firm = s.firm ∧ (setTpo n t s).legal = s.legal ∧
    (setTpo n t s).tariff = s.tariff ∧ (setTpo n t s).drives = s.drives ∧ (setTpo n t s).charge = s.charge ∧
    (setTpo n t s).line = s.line ∧ (setTpo n t s).radio = s.radio ∧ (setTpo n t s).ingest = s.ingest ∧ (setTpo n t s).lanes = s.lanes ∧
    (setTpo n t s).balance = s.balance ∧ (setTpo n t s).meter = { s.meter with tpos := put {} s.meter.tpos n t } :=
  ⟨rfl, rfl, rfl, rfl, rfl, rfl, rfl, rfl, rfl, rfl, rfl, rfl, rfl, rfl, rfl, rfl, rfl⟩

@[simp] theorem setRot_parts (r : Rotation) (s : State) :
    (setRot r s).pending = s.pending ∧ (setRot r s).host = s.host ∧ (setRot r s).log = s.log ∧ (setRot r s).power = s.power ∧
    (setRot r s).clock = s.clock ∧ (setRot r s).keys = s.keys ∧ (setRot r s).firm = s.firm ∧ (setRot r s).legal = s.legal ∧
    (setRot r s).tariff = s.tariff ∧ (setRot r s).drives = s.drives ∧ (setRot r s).charge = s.charge ∧ (setRot r s).line = s.line ∧
    (setRot r s).radio = s.radio ∧ (setRot r s).ingest = s.ingest ∧ (setRot r s).lanes = s.lanes ∧ (setRot r s).balance = s.balance ∧
    (setRot r s).meter = { s.meter with rot := r } :=
  ⟨rfl, rfl, rfl, rfl, rfl, rfl, rfl, rfl, rfl, rfl, rfl, rfl, rfl, rfl, rfl, rfl, rfl⟩

@[simp] theorem setTable_parts (t : Nat) (x : TariffTable) (s : State) :
    (setTable t x s).pending = s.pending ∧ (setTable t x s).host = s.host ∧ (setTable t x s).log = s.log ∧
    (setTable t x s).power = s.power ∧ (setTable t x s).clock = s.clock ∧ (setTable t x s).keys = s.keys ∧
    (setTable t x s).firm = s.firm ∧ (setTable t x s).legal = s.legal ∧ (setTable t x s).meter = s.meter ∧
    (setTable t x s).drives = s.drives ∧ (setTable t x s).charge = s.charge ∧ (setTable t x s).line = s.line ∧
    (setTable t x s).radio = s.radio ∧ (setTable t x s).ingest = s.ingest ∧ (setTable t x s).lanes = s.lanes ∧
    (setTable t x s).balance = s.balance ∧ (setTable t x s).tariff = { s.tariff with tables := put {} s.tariff.tables t x } :=
  ⟨rfl, rfl, rfl, rfl, rfl, rfl, rfl, rfl, rfl, rfl, rfl, rfl, rfl, rfl, rfl, rfl, rfl⟩

@[simp] theorem setSlotOf_parts (m k : Nat) (x : BillSlot) (s : State) :
    (setSlotOf m k x s).pending = s.pending ∧ (setSlotOf m k x s).host = s.host ∧ (setSlotOf m k x s).log = s.log ∧
    (setSlotOf m k x s).power = s.power ∧ (setSlotOf m k x s).clock = s.clock ∧ (setSlotOf m k x s).keys = s.keys ∧
    (setSlotOf m k x s).firm = s.firm ∧ (setSlotOf m k x s).legal = s.legal ∧ (setSlotOf m k x s).meter = s.meter ∧
    (setSlotOf m k x s).drives = s.drives ∧ (setSlotOf m k x s).charge = s.charge ∧ (setSlotOf m k x s).line = s.line ∧
    (setSlotOf m k x s).radio = s.radio ∧ (setSlotOf m k x s).ingest = s.ingest ∧ (setSlotOf m k x s).lanes = s.lanes ∧
    (setSlotOf m k x s).balance = s.balance ∧
    (setSlotOf m k x s).tariff = { s.tariff with slots := put (billSlotReset k) s.tariff.slots (4 * m + k) x } :=
  ⟨rfl, rfl, rfl, rfl, rfl, rfl, rfl, rfl, rfl, rfl, rfl, rfl, rfl, rfl, rfl, rfl, rfl⟩

@[simp] theorem setRateReg_parts (m k r : Nat) (x : EnergyReg) (s : State) :
    (setRateReg m k r x s).pending = s.pending ∧ (setRateReg m k r x s).host = s.host ∧ (setRateReg m k r x s).log = s.log ∧
    (setRateReg m k r x s).power = s.power ∧ (setRateReg m k r x s).clock = s.clock ∧ (setRateReg m k r x s).keys = s.keys ∧
    (setRateReg m k r x s).firm = s.firm ∧ (setRateReg m k r x s).legal = s.legal ∧ (setRateReg m k r x s).meter = s.meter ∧
    (setRateReg m k r x s).drives = s.drives ∧ (setRateReg m k r x s).charge = s.charge ∧ (setRateReg m k r x s).line = s.line ∧
    (setRateReg m k r x s).radio = s.radio ∧ (setRateReg m k r x s).ingest = s.ingest ∧ (setRateReg m k r x s).lanes = s.lanes ∧
    (setRateReg m k r x s).balance = s.balance ∧
    (setRateReg m k r x s).tariff = { s.tariff with rates := put {} s.tariff.rates (64 * m + 16 * k + (r - 1)) x } :=
  ⟨rfl, rfl, rfl, rfl, rfl, rfl, rfl, rfl, rfl, rfl, rfl, rfl, rfl, rfl, rfl, rfl, rfl⟩

@[simp] theorem setDemand_parts (m : Nat) (d : Demand) (s : State) :
    (setDemand m d s).pending = s.pending ∧ (setDemand m d s).host = s.host ∧ (setDemand m d s).log = s.log ∧
    (setDemand m d s).power = s.power ∧ (setDemand m d s).clock = s.clock ∧ (setDemand m d s).keys = s.keys ∧
    (setDemand m d s).firm = s.firm ∧ (setDemand m d s).legal = s.legal ∧ (setDemand m d s).meter = s.meter ∧
    (setDemand m d s).drives = s.drives ∧ (setDemand m d s).charge = s.charge ∧ (setDemand m d s).line = s.line ∧
    (setDemand m d s).radio = s.radio ∧ (setDemand m d s).ingest = s.ingest ∧ (setDemand m d s).lanes = s.lanes ∧
    (setDemand m d s).balance = s.balance ∧ (setDemand m d s).tariff = { s.tariff with demand := put {} s.tariff.demand m d } :=
  ⟨rfl, rfl, rfl, rfl, rfl, rfl, rfl, rfl, rfl, rfl, rfl, rfl, rfl, rfl, rfl, rfl, rfl⟩

@[simp] theorem setPrepay_parts (m : Nat) (p : Prepay) (s : State) :
    (setPrepay m p s).pending = s.pending ∧ (setPrepay m p s).host = s.host ∧ (setPrepay m p s).log = s.log ∧
    (setPrepay m p s).power = s.power ∧ (setPrepay m p s).clock = s.clock ∧ (setPrepay m p s).keys = s.keys ∧
    (setPrepay m p s).firm = s.firm ∧ (setPrepay m p s).legal = s.legal ∧ (setPrepay m p s).meter = s.meter ∧
    (setPrepay m p s).drives = s.drives ∧ (setPrepay m p s).charge = s.charge ∧ (setPrepay m p s).line = s.line ∧
    (setPrepay m p s).radio = s.radio ∧ (setPrepay m p s).ingest = s.ingest ∧ (setPrepay m p s).lanes = s.lanes ∧
    (setPrepay m p s).balance = s.balance ∧ (setPrepay m p s).tariff = { s.tariff with prepay := put {} s.tariff.prepay m p } :=
  ⟨rfl, rfl, rfl, rfl, rfl, rfl, rfl, rfl, rfl, rfl, rfl, rfl, rfl, rfl, rfl, rfl, rfl⟩

@[simp] theorem setClosed_parts (k : Nat) (c : Bool) (s : State) :
    (setClosed k c s).pending = s.pending ∧ (setClosed k c s).host = s.host ∧ (setClosed k c s).log = s.log ∧
    (setClosed k c s).power = s.power ∧ (setClosed k c s).clock = s.clock ∧ (setClosed k c s).keys = s.keys ∧
    (setClosed k c s).firm = s.firm ∧ (setClosed k c s).legal = s.legal ∧ (setClosed k c s).meter = s.meter ∧
    (setClosed k c s).tariff = s.tariff ∧ (setClosed k c s).charge = s.charge ∧ (setClosed k c s).line = s.line ∧
    (setClosed k c s).radio = s.radio ∧ (setClosed k c s).ingest = s.ingest ∧ (setClosed k c s).lanes = s.lanes ∧
    (setClosed k c s).balance = s.balance ∧ (setClosed k c s).drives = { s.drives with closed := put false s.drives.closed k c } :=
  ⟨rfl, rfl, rfl, rfl, rfl, rfl, rfl, rfl, rfl, rfl, rfl, rfl, rfl, rfl, rfl, rfl, rfl⟩

@[simp] theorem setDisplay_parts (d : Nat) (x : LegalDisplay) (s : State) :
    (setDisplay d x s).pending = s.pending ∧ (setDisplay d x s).host = s.host ∧ (setDisplay d x s).log = s.log ∧
    (setDisplay d x s).power = s.power ∧ (setDisplay d x s).clock = s.clock ∧ (setDisplay d x s).keys = s.keys ∧
    (setDisplay d x s).firm = s.firm ∧ (setDisplay d x s).legal = s.legal ∧ (setDisplay d x s).meter = s.meter ∧
    (setDisplay d x s).drives = s.drives ∧ (setDisplay d x s).charge = s.charge ∧ (setDisplay d x s).line = s.line ∧
    (setDisplay d x s).radio = s.radio ∧ (setDisplay d x s).ingest = s.ingest ∧ (setDisplay d x s).lanes = s.lanes ∧
    (setDisplay d x s).balance = s.balance ∧ (setDisplay d x s).tariff = { s.tariff with displays := put {} s.tariff.displays d x } :=
  ⟨rfl, rfl, rfl, rfl, rfl, rfl, rfl, rfl, rfl, rfl, rfl, rfl, rfl, rfl, rfl, rfl, rfl⟩

@[simp] theorem setCp_parts (n : Nat) (c : ChargePoint) (s : State) :
    (setCp n c s).pending = s.pending ∧ (setCp n c s).host = s.host ∧ (setCp n c s).log = s.log ∧ (setCp n c s).power = s.power ∧
    (setCp n c s).clock = s.clock ∧ (setCp n c s).keys = s.keys ∧ (setCp n c s).firm = s.firm ∧ (setCp n c s).legal = s.legal ∧
    (setCp n c s).meter = s.meter ∧ (setCp n c s).tariff = s.tariff ∧ (setCp n c s).drives = s.drives ∧ (setCp n c s).line = s.line ∧
    (setCp n c s).radio = s.radio ∧ (setCp n c s).ingest = s.ingest ∧ (setCp n c s).lanes = s.lanes ∧ (setCp n c s).balance = s.balance ∧
    (setCp n c s).charge = { s.charge with cps := put {} s.charge.cps n c } :=
  ⟨rfl, rfl, rfl, rfl, rfl, rfl, rfl, rfl, rfl, rfl, rfl, rfl, rfl, rfl, rfl, rfl, rfl⟩

@[simp] theorem setWaiting_parts (r : SessionRec) (s : State) :
    (setWaiting r s).pending = s.pending ∧ (setWaiting r s).host = s.host ∧ (setWaiting r s).log = s.log ∧
    (setWaiting r s).power = s.power ∧ (setWaiting r s).clock = s.clock ∧ (setWaiting r s).keys = s.keys ∧
    (setWaiting r s).firm = s.firm ∧ (setWaiting r s).legal = s.legal ∧ (setWaiting r s).meter = s.meter ∧
    (setWaiting r s).tariff = s.tariff ∧ (setWaiting r s).drives = s.drives ∧ (setWaiting r s).line = s.line ∧
    (setWaiting r s).radio = s.radio ∧ (setWaiting r s).ingest = s.ingest ∧ (setWaiting r s).lanes = s.lanes ∧
    (setWaiting r s).balance = s.balance ∧ (setWaiting r s).charge = { s.charge with records := markEmitted s.charge.records r } :=
  ⟨rfl, rfl, rfl, rfl, rfl, rfl, rfl, rfl, rfl, rfl, rfl, rfl, rfl, rfl, rfl, rfl, rfl⟩

@[simp] theorem setPl_parts (n : Nat) (c : PlChannel) (s : State) :
    (setPl n c s).pending = s.pending ∧ (setPl n c s).host = s.host ∧ (setPl n c s).log = s.log ∧ (setPl n c s).power = s.power ∧
    (setPl n c s).clock = s.clock ∧ (setPl n c s).keys = s.keys ∧ (setPl n c s).firm = s.firm ∧ (setPl n c s).legal = s.legal ∧
    (setPl n c s).meter = s.meter ∧ (setPl n c s).tariff = s.tariff ∧ (setPl n c s).drives = s.drives ∧ (setPl n c s).charge = s.charge ∧
    (setPl n c s).radio = s.radio ∧ (setPl n c s).ingest = s.ingest ∧ (setPl n c s).lanes = s.lanes ∧ (setPl n c s).balance = s.balance ∧
    (setPl n c s).line = { s.line with chans := put {} s.line.chans n c } :=
  ⟨rfl, rfl, rfl, rfl, rfl, rfl, rfl, rfl, rfl, rfl, rfl, rfl, rfl, rfl, rfl, rfl, rfl⟩

@[simp] theorem setPlNet_parts (k : Nat) (c : PlNet) (s : State) :
    (setPlNet k c s).pending = s.pending ∧ (setPlNet k c s).host = s.host ∧ (setPlNet k c s).log = s.log ∧
    (setPlNet k c s).power = s.power ∧ (setPlNet k c s).clock = s.clock ∧ (setPlNet k c s).keys = s.keys ∧
    (setPlNet k c s).firm = s.firm ∧ (setPlNet k c s).legal = s.legal ∧ (setPlNet k c s).meter = s.meter ∧
    (setPlNet k c s).tariff = s.tariff ∧ (setPlNet k c s).drives = s.drives ∧ (setPlNet k c s).charge = s.charge ∧
    (setPlNet k c s).radio = s.radio ∧ (setPlNet k c s).ingest = s.ingest ∧ (setPlNet k c s).lanes = s.lanes ∧
    (setPlNet k c s).balance = s.balance ∧ (setPlNet k c s).line = { s.line with nets := put {} s.line.nets k c } :=
  ⟨rfl, rfl, rfl, rfl, rfl, rfl, rfl, rfl, rfl, rfl, rfl, rfl, rfl, rfl, rfl, rfl, rfl⟩

@[simp] theorem setRf_parts (n : Nat) (c : RfChannel) (s : State) :
    (setRf n c s).pending = s.pending ∧ (setRf n c s).host = s.host ∧ (setRf n c s).log = s.log ∧ (setRf n c s).power = s.power ∧
    (setRf n c s).clock = s.clock ∧ (setRf n c s).keys = s.keys ∧ (setRf n c s).firm = s.firm ∧ (setRf n c s).legal = s.legal ∧
    (setRf n c s).meter = s.meter ∧ (setRf n c s).tariff = s.tariff ∧ (setRf n c s).drives = s.drives ∧ (setRf n c s).charge = s.charge ∧
    (setRf n c s).line = s.line ∧ (setRf n c s).ingest = s.ingest ∧ (setRf n c s).lanes = s.lanes ∧ (setRf n c s).balance = s.balance ∧
    (setRf n c s).radio = { s.radio with chans := put {} s.radio.chans n c } :=
  ⟨rfl, rfl, rfl, rfl, rfl, rfl, rfl, rfl, rfl, rfl, rfl, rfl, rfl, rfl, rfl, rfl, rfl⟩

@[simp] theorem setRfNet_parts (k : Nat) (c : RfNet) (s : State) :
    (setRfNet k c s).pending = s.pending ∧ (setRfNet k c s).host = s.host ∧ (setRfNet k c s).log = s.log ∧
    (setRfNet k c s).power = s.power ∧ (setRfNet k c s).clock = s.clock ∧ (setRfNet k c s).keys = s.keys ∧
    (setRfNet k c s).firm = s.firm ∧ (setRfNet k c s).legal = s.legal ∧ (setRfNet k c s).meter = s.meter ∧
    (setRfNet k c s).tariff = s.tariff ∧ (setRfNet k c s).drives = s.drives ∧ (setRfNet k c s).charge = s.charge ∧
    (setRfNet k c s).line = s.line ∧ (setRfNet k c s).ingest = s.ingest ∧ (setRfNet k c s).lanes = s.lanes ∧
    (setRfNet k c s).balance = s.balance ∧ (setRfNet k c s).radio = { s.radio with nets := put {} s.radio.nets k c } :=
  ⟨rfl, rfl, rfl, rfl, rfl, rfl, rfl, rfl, rfl, rfl, rfl, rfl, rfl, rfl, rfl, rfl, rfl⟩

@[simp] theorem setFip_parts (n : Nat) (f : Fip) (s : State) :
    (setFip n f s).pending = s.pending ∧ (setFip n f s).host = s.host ∧ (setFip n f s).log = s.log ∧ (setFip n f s).power = s.power ∧
    (setFip n f s).clock = s.clock ∧ (setFip n f s).keys = s.keys ∧ (setFip n f s).firm = s.firm ∧ (setFip n f s).legal = s.legal ∧
    (setFip n f s).meter = s.meter ∧ (setFip n f s).tariff = s.tariff ∧ (setFip n f s).drives = s.drives ∧
    (setFip n f s).charge = s.charge ∧ (setFip n f s).line = s.line ∧ (setFip n f s).radio = s.radio ∧ (setFip n f s).lanes = s.lanes ∧
    (setFip n f s).balance = s.balance ∧ (setFip n f s).ingest = { s.ingest with fips := put {} s.ingest.fips n f } :=
  ⟨rfl, rfl, rfl, rfl, rfl, rfl, rfl, rfl, rfl, rfl, rfl, rfl, rfl, rfl, rfl, rfl, rfl⟩

@[simp] theorem setLane_parts (n : Nat) (l : Lane) (s : State) :
    (setLane n l s).pending = s.pending ∧ (setLane n l s).host = s.host ∧ (setLane n l s).log = s.log ∧ (setLane n l s).power = s.power ∧
    (setLane n l s).clock = s.clock ∧ (setLane n l s).keys = s.keys ∧ (setLane n l s).firm = s.firm ∧ (setLane n l s).legal = s.legal ∧
    (setLane n l s).meter = s.meter ∧ (setLane n l s).tariff = s.tariff ∧ (setLane n l s).drives = s.drives ∧
    (setLane n l s).charge = s.charge ∧ (setLane n l s).line = s.line ∧ (setLane n l s).radio = s.radio ∧
    (setLane n l s).ingest = s.ingest ∧ (setLane n l s).balance = s.balance ∧
    (setLane n l s).lanes = { s.lanes with lanes := put {} s.lanes.lanes n l } :=
  ⟨rfl, rfl, rfl, rfl, rfl, rfl, rfl, rfl, rfl, rfl, rfl, rfl, rfl, rfl, rfl, rfl, rfl⟩

@[simp] theorem setReply_parts (i : Nat) (e : Option ReplyEntry) (s : State) :
    (setReply i e s).pending = s.pending ∧ (setReply i e s).host = s.host ∧ (setReply i e s).log = s.log ∧
    (setReply i e s).power = s.power ∧ (setReply i e s).clock = s.clock ∧ (setReply i e s).keys = s.keys ∧
    (setReply i e s).firm = s.firm ∧ (setReply i e s).legal = s.legal ∧ (setReply i e s).meter = s.meter ∧
    (setReply i e s).tariff = s.tariff ∧ (setReply i e s).drives = s.drives ∧ (setReply i e s).charge = s.charge ∧
    (setReply i e s).line = s.line ∧ (setReply i e s).radio = s.radio ∧ (setReply i e s).lanes = s.lanes ∧
    (setReply i e s).balance = s.balance ∧ (setReply i e s).ingest = { s.ingest with replies := put none s.ingest.replies i e } :=
  ⟨rfl, rfl, rfl, rfl, rfl, rfl, rfl, rfl, rfl, rfl, rfl, rfl, rfl, rfl, rfl, rfl, rfl⟩

@[simp] theorem setCtx_parts (i : Nat) (c : Ctx) (s : State) :
    (setCtx i c s).pending = s.pending ∧ (setCtx i c s).host = s.host ∧ (setCtx i c s).log = s.log ∧ (setCtx i c s).power = s.power ∧
    (setCtx i c s).clock = s.clock ∧ (setCtx i c s).keys = s.keys ∧ (setCtx i c s).firm = s.firm ∧ (setCtx i c s).legal = s.legal ∧
    (setCtx i c s).meter = s.meter ∧ (setCtx i c s).tariff = s.tariff ∧ (setCtx i c s).drives = s.drives ∧
    (setCtx i c s).charge = s.charge ∧ (setCtx i c s).line = s.line ∧ (setCtx i c s).radio = s.radio ∧ (setCtx i c s).lanes = s.lanes ∧
    (setCtx i c s).balance = s.balance ∧ (setCtx i c s).ingest = { s.ingest with ctxs := put {} s.ingest.ctxs i c } :=
  ⟨rfl, rfl, rfl, rfl, rfl, rfl, rfl, rfl, rfl, rfl, rfl, rfl, rfl, rfl, rfl, rfl, rfl⟩

@[simp] theorem setJt_parts (i : Nat) (e : BitVec 128) (s : State) :
    (setJt i e s).pending = s.pending ∧ (setJt i e s).host = s.host ∧ (setJt i e s).log = s.log ∧ (setJt i e s).power = s.power ∧
    (setJt i e s).clock = s.clock ∧ (setJt i e s).keys = s.keys ∧ (setJt i e s).firm = s.firm ∧ (setJt i e s).legal = s.legal ∧
    (setJt i e s).meter = s.meter ∧ (setJt i e s).tariff = s.tariff ∧ (setJt i e s).drives = s.drives ∧ (setJt i e s).charge = s.charge ∧
    (setJt i e s).line = s.line ∧ (setJt i e s).radio = s.radio ∧ (setJt i e s).lanes = s.lanes ∧ (setJt i e s).balance = s.balance ∧
    (setJt i e s).ingest = { s.ingest with junction := put 0 s.ingest.junction i e } :=
  ⟨rfl, rfl, rfl, rfl, rfl, rfl, rfl, rfl, rfl, rfl, rfl, rfl, rfl, rfl, rfl, rfl, rfl⟩

@[simp] theorem setLaneQueue_parts (n : Nat) (q : List LaneReq) (s : State) :
    (setLaneQueue n q s).pending = s.pending ∧ (setLaneQueue n q s).host = s.host ∧ (setLaneQueue n q s).log = s.log ∧
    (setLaneQueue n q s).power = s.power ∧ (setLaneQueue n q s).clock = s.clock ∧ (setLaneQueue n q s).keys = s.keys ∧
    (setLaneQueue n q s).firm = s.firm ∧ (setLaneQueue n q s).legal = s.legal ∧ (setLaneQueue n q s).meter = s.meter ∧
    (setLaneQueue n q s).tariff = s.tariff ∧ (setLaneQueue n q s).drives = s.drives ∧ (setLaneQueue n q s).charge = s.charge ∧
    (setLaneQueue n q s).line = s.line ∧ (setLaneQueue n q s).radio = s.radio ∧ (setLaneQueue n q s).ingest = s.ingest ∧
    (setLaneQueue n q s).balance = s.balance ∧ (setLaneQueue n q s).lanes = { s.lanes with queues := put [] s.lanes.queues n q } :=
  ⟨rfl, rfl, rfl, rfl, rfl, rfl, rfl, rfl, rfl, rfl, rfl, rfl, rfl, rfl, rfl, rfl, rfl⟩

@[simp] theorem setDir_parts (i : Nat) (e : Option DirEntry) (s : State) :
    (setDir i e s).pending = s.pending ∧ (setDir i e s).host = s.host ∧ (setDir i e s).log = s.log ∧ (setDir i e s).power = s.power ∧
    (setDir i e s).clock = s.clock ∧ (setDir i e s).keys = s.keys ∧ (setDir i e s).firm = s.firm ∧ (setDir i e s).legal = s.legal ∧
    (setDir i e s).meter = s.meter ∧ (setDir i e s).tariff = s.tariff ∧ (setDir i e s).drives = s.drives ∧
    (setDir i e s).charge = s.charge ∧ (setDir i e s).line = s.line ∧ (setDir i e s).radio = s.radio ∧ (setDir i e s).lanes = s.lanes ∧
    (setDir i e s).balance = s.balance ∧ (setDir i e s).ingest = { s.ingest with directory := put none s.ingest.directory i e } :=
  ⟨rfl, rfl, rfl, rfl, rfl, rfl, rfl, rfl, rfl, rfl, rfl, rfl, rfl, rfl, rfl, rfl, rfl⟩

@[simp] theorem setSession_parts (i : Nat) (x : SessSlot) (s : State) :
    (setSession i x s).pending = s.pending ∧ (setSession i x s).host = s.host ∧ (setSession i x s).log = s.log ∧
    (setSession i x s).power = s.power ∧ (setSession i x s).clock = s.clock ∧ (setSession i x s).keys = s.keys ∧
    (setSession i x s).firm = s.firm ∧ (setSession i x s).legal = s.legal ∧ (setSession i x s).meter = s.meter ∧
    (setSession i x s).tariff = s.tariff ∧ (setSession i x s).drives = s.drives ∧ (setSession i x s).charge = s.charge ∧
    (setSession i x s).line = s.line ∧ (setSession i x s).radio = s.radio ∧ (setSession i x s).ingest = s.ingest ∧
    (setSession i x s).balance = s.balance ∧ (setSession i x s).lanes = { s.lanes with sessions := put {} s.lanes.sessions i x } :=
  ⟨rfl, rfl, rfl, rfl, rfl, rfl, rfl, rfl, rfl, rfl, rfl, rfl, rfl, rfl, rfl, rfl, rfl⟩

@[simp] theorem setGrp_parts (k : Nat) (g : BalGroup) (s : State) :
    (setGrp k g s).pending = s.pending ∧ (setGrp k g s).host = s.host ∧ (setGrp k g s).log = s.log ∧ (setGrp k g s).power = s.power ∧
    (setGrp k g s).clock = s.clock ∧ (setGrp k g s).keys = s.keys ∧ (setGrp k g s).firm = s.firm ∧ (setGrp k g s).legal = s.legal ∧
    (setGrp k g s).meter = s.meter ∧ (setGrp k g s).tariff = s.tariff ∧ (setGrp k g s).drives = s.drives ∧
    (setGrp k g s).charge = s.charge ∧ (setGrp k g s).line = s.line ∧ (setGrp k g s).radio = s.radio ∧ (setGrp k g s).ingest = s.ingest ∧
    (setGrp k g s).lanes = s.lanes ∧ (setGrp k g s).balance = { s.balance with groups := put {} s.balance.groups k g } :=
  ⟨rfl, rfl, rfl, rfl, rfl, rfl, rfl, rfl, rfl, rfl, rfl, rfl, rfl, rfl, rfl, rfl, rfl⟩

@[simp] theorem setPhase_parts (i : Nat) (p : PhaseEntry) (s : State) :
    (setPhase i p s).pending = s.pending ∧ (setPhase i p s).host = s.host ∧ (setPhase i p s).log = s.log ∧
    (setPhase i p s).power = s.power ∧ (setPhase i p s).clock = s.clock ∧ (setPhase i p s).keys = s.keys ∧
    (setPhase i p s).firm = s.firm ∧ (setPhase i p s).legal = s.legal ∧ (setPhase i p s).meter = s.meter ∧
    (setPhase i p s).tariff = s.tariff ∧ (setPhase i p s).drives = s.drives ∧ (setPhase i p s).charge = s.charge ∧
    (setPhase i p s).line = s.line ∧ (setPhase i p s).radio = s.radio ∧ (setPhase i p s).ingest = s.ingest ∧
    (setPhase i p s).lanes = s.lanes ∧ (setPhase i p s).balance = { s.balance with phases := put {} s.balance.phases i p } :=
  ⟨rfl, rfl, rfl, rfl, rfl, rfl, rfl, rfl, rfl, rfl, rfl, rfl, rfl, rfl, rfl, rfl, rfl⟩

end Sys2Proof.Machine
end

