-- ==== Sys2Proof/Machine/Pins.lean ====
section
/-! DEFINITION. Output pins whose level is a function of the state (spec/15_connector_hot_plug.md, R508–R515). Levels that last only
within one command (a driver enable during a frame, test pulses, display frames) are emissions instead. INTn_N is `intLow`. -/

namespace Sys2Proof.Machine

/-- TMESH_OUTn (R446): the level of its stream at the crystal tick of now; the backup section drives it in every power state. -/
def tmeshOut (s : State) (n : Nat) : Bool := Config.meshBit s.keys.meshSeed n ((tbVal s 2).toNat * 32768 / 2 ^ 36)

/-- TMPn has its 100 kΩ pull-up to VBAT during a sample, in mode 1 (R446, R516). -/
def tmpPullUp (s : State) (n : Nat) : Bool := nthN s.keys.modes n == 1

/-- SAFE_RM_N is driven low: SAFE_TO_REMOVE is 1; else it is released (R511). -/
def safeRmLow (s : State) : Bool := s.power.aux && s.power.safe

/-- PPS_OUT is high: TB0 is VALID and less than 100 ms past a second boundary (R109); low while undriven (R515). -/
def ppsOut (s : State) : Bool :=
  fabricUp s && (tb s 0).valid && decide ((tbVal s 0).toNat % 2 ^ 36 * 10 < 2 ^ 36)

/-- Duty of CTDk in percent; de-energised while PD11 does not drive it (R226, R515). -/
def ctdPin (s : State) (k : Nat) : Nat := if active s 11 then look 0 s.drives.duty k else 0

/-- High time of CPDRVn in thousandths of its period: 1,000 is constant high, 0 constant low, which is −12 V also while undriven (R217,
R515). -/
def cpDrvPin (s : State) (n : Nat) : Nat := if active s 11 then (cpOf s n).duty else 0

/-- PLn_TXEN (R250, R251): high while the channel sends, which a frame or an acknowledgement emitted on its port shows; low whenever PD8 is off
or the channel is in mode 0. -/
def plTxEn (s : State) (n : Nat) (sends : Bool) : Bool := active s 8 && (plOf s n).mode != 0 && sends

/-- IMIn drives the residual-test winding of a kind AC charge point (R230): while the self-test runs, and never while a drive is
energised. -/
def imiTest (s : State) (n : Nat) : Bool :=
  let c := cpOf s n
  active s 11 && !c.cfg.dc && c.selfTest == .running && !anyDriven s c

/-- IMIn of a kind DC charge point selects positive injection (R232): the first half of each injection period, while insulation monitoring
runs. Which half is the positive one the spec does not say (DESIGN CHOICE, assumption log 76). -/
def imiInjection (s : State) (n : Nat) : Bool :=
  let c := cpOf s n
  active s 11 && imdRuns c && decide (2 * ((tb1Us s - c.imdStart) % (1000 * c.imdPeriod)) < 1000 * c.imdPeriod)

/-- The radio controls work: low while PD9 is off or the channel is off (R289). -/
def rfDriven (s : State) (n : Nat) : Bool := active s 9 && (rfOf s n).phy != 0

/-- RFn_TR is 1 for transmit, and RFn_PA_EN goes with it (R289, R290); `sends`: the channel sends a frame or an acknowledgement emitted on its
port, with the lead and hold of R290. -/
def rfTrPin (s : State) (n : Nat) (sends : Bool) : Bool := rfDriven s n && sends

/-- RFn_LNA_EN is high while the channel listens (R289): the spec gives only its name (DESIGN CHOICE, assumption log 79). -/
def rfLnaPin (s : State) (n : Nat) (sends : Bool) : Bool := rfDriven s n && !sends

/-- Power at RFn_TXO, 0.25 dBm: the transmit power at the antenna less the front end's gain FE_TX (R289). -/
def rfTxoPower (s : State) (n : Nat) : Int := 2 * (rfOf s n).txPower - (rfOf s n).feTx

/-- The channel of the band plan to which the transceiver is tuned (R302, R306): that of the window it serves, the home channel otherwise. -/
def rfTuned (s : State) (n : Nat) : Nat :=
  match (rfOf s n).tuned with
  | some i => (match linkOf (rfOf s n) i with
    | some l => linkChannel s n l
    | none => (rfOf s n).home)
  | none => (rfOf s n).home

/-- Its centre frequency, kHz (R286). -/
def rfCarrier (s : State) (n : Nat) : Nat := (rfNetAt s n).f0 + rfTuned s n * (rfNetAt s n).spacing

end Sys2Proof.Machine
end

