-- ==== Sys2Proof/Tests/Slice0.lean ====
section
/-! SUPPORT. Named tests: states and operands that meet the hypotheses of each statement, ill-formed commands that the check refuses, and
single steps against values taken from the spec. -/

namespace Sys2Proof.Tests

open Sys2Proof Sys2Proof.Machine

/-! ### States and requests -/

/-- A request of opcode `op` with payload `p`; argument bytes beyond the payload read 0. -/
def req (op : Nat) (p : Bytes) : Req := { opcode := op, payload := p }

/-- A running module: every domain on and joined, image running, link up. -/
def up : State :=
  { State.reset with
    power := { aux := true, main := true, on := 0xFF8, joined := 0xFFF, pllLocked := true, prsnt := true, switch := true }
    firm := { nulvoReady := true, stage := .ready }
    host := { linkUp := true } }

/-- Mailbox `n` holds request `r`, taken and not yet carried out. -/
def ask (n : Nat) (r : Req) (s : State) : State :=
  { s with host := { s.host with goOrder := [], mbs := [(n, { own := true, taken := some r })] } }

/-- Queue 0 holds request `r` in its entry 0. -/
def askSq (r : Req) (s : State) : State :=
  { s with host := { s.host with sqs := [(0, { en := true, head := 1, tail := 1, fetches := 1, running := [{ req := r }] })] } }

/-- Some waiting request of opcode `op` meets `pre`. -/
def Met (op : Nat) (pre : Src → Req → State → Prop) : Prop := ∃ src r s, Ready op src r s ∧ pre src r s

/-- A signed command of opcode `op`, started in mailbox `m`, waits for its engine and meets `pre`. -/
def MetSigned (op : Nat) (pre : Src → Req → State → Prop) : Prop :=
  ∃ m r, ∃ q : PkeReq, ∃ s, q.job = .command m r ∧ r.opcode = op ∧ (mbOf s m).started = true ∧ (m = 1 → legalFull s = false)
    ∧ pre (.mb m) r s

/-- Mailbox 2 holds the started request `r`. -/
def started2 (r : Req) (s : State) : State :=
  { s with host := { s.host with mbs := [(2, { own := true, taken := some r, started := true })] } }

theorem metSigned {op : Nat} {pre : Src → Req → State → Prop} (p : Bytes) (s : State)
    (h : pre (.mb 2) (req op p) (started2 (req op p) s)) : MetSigned op pre :=
  ⟨2, req op p, { job := .command 2 (req op p) }, _, rfl, rfl, rfl, (fun e => absurd e (by decide)), h⟩

theorem ready_ask (op n : Nat) (p : Bytes) (s : State) (hn : n < 64) (h1 : n ≠ 1) : Ready op (.mb n) (req op p) (ask n (req op p) s) :=
  ⟨by simp [Src.exists, hn], by simp [takenReq, mbOf, ask, look, goTurn], rfl, by simp [isMb1, h1]⟩

theorem ready_askSq (op : Nat) (p : Bytes) (s : State) : Ready op (.sq 0 0) (req op p) (askSq (req op p) s) :=
  ⟨rfl, rfl, rfl, by simp [isMb1]⟩

/-- Met through mailbox 2. -/
theorem met {op : Nat} {pre : Src → Req → State → Prop} (p : Bytes) (s : State)
    (h : pre (.mb 2) (req op p) (ask 2 (req op p) s)) : Met op pre :=
  ⟨_, _, _, ready_ask op 2 p s (by decide) (by decide), h⟩

/-- Met through mailbox 3. -/
theorem met3 {op : Nat} {pre : Src → Req → State → Prop} (p : Bytes) (s : State)
    (h : pre (.mb 3) (req op p) (ask 3 (req op p) s)) : Met op pre :=
  ⟨_, _, _, ready_ask op 3 p s (by decide) (by decide), h⟩

/-- Met through submission queue 0. -/
theorem metSq {op : Nat} {pre : Src → Req → State → Prop} (p : Bytes) (s : State)
    (h : pre (.sq 0 0) (req op p) (askSq (req op p) s)) : Met op pre :=
  ⟨_, _, _, ready_askSq op p s, h⟩

def pm : PtpMessage :=
  { port := 0, kind := 0, seconds := 0, secondsHigh := 0, nanos := 0, correction := 0, seq := 0, pathDelay := 0, sent := 0,
    turnaround := 0, valid := true }
def tf : AethTime := { value := 0, hop := 0, masterValid := false, crcOk := true, offsetPs := 0 }
def df : AethDelay := { syncIn := true, response := true, t1 := 0, t2 := 0, t3 := 0, t4 := 0 }
def sm : SpareMeasure := { injected := [], first := 0, spare := [], own := [] }
def blk : SampleBlock := { first := 0, times := [], chans := [] }
def plf : PlFrame :=
  { fcsOk := true, fcs := 0, pan := 0, dest := 0, source := 0, eui := 0, seq := 0, secured := false, keyIndex := 0, counter := 0,
    mic := 0, ackRequested := false, kind := 0, finalDest := 0, hopsLeft := 0, fragment := none, udpPort := 0, payload := [],
    preambleAgo := 0, payloadDelay := 0, noise := 0, symbols := [], mask := 0, modulation := 0, zcDelayUs := none,
    coherentSupport := false, toneMapRequest := false, toneMapResponse := none }
def grant : PlGrant := { lead := 0, highWindow := false, ackInTime := true }
def rff : RfFrame :=
  { fcsOk := true, fcs := 0, version := 0, pan := 0, dest := 0, broadcast := false, source := 0xFFFF, eui := 7, seq := 0,
    securityLevel := 0, keyIdMode := 0, keyIndex := 0, counter := 0, mic := 0, ackRequested := false, isData := true, udpPort := 0,
    payload := [], channel := 0, phyRate := 0, rssi := 0, lqi := 0, sfd := 0 }
def envHead : Bytes :=
  [0x58, 0x44, 1, 1, 0, 0, 0, 0, 0, 0, 0, 0, 9, 0, 0, 0, 1, 0, 28, 0, 0, 0, 0, 0, 0, 0, 0, 0, 0, 0]
/-- A DX envelope with one frame of one byte. -/
def envelope : Bytes := envHead ++ leBytes 2 (crc16 envHead).toNat ++ [1] ++ List.replicate 23 0 ++ [0xAA, 0, 0, 0]
def ackHead : Bytes :=
  [0x58, 0x44, 1, 2, 0, 0, 0, 0, 0, 0, 0, 0, 9, 0, 0, 0, 0, 0, 0, 0, 0, 0, 0, 0, 0, 0, 0, 0, 0, 0]
def ackFrame : Bytes := ackHead ++ leBytes 2 (crc16 ackHead).toNat
def peer0 : Peer := { enable := true, addr := List.replicate 16 0 }
def peerState (l : Tab (Option ReplyEntry)) : State := { up with ingest := { up.ingest with peers := [(0, peer0)], replies := l } }
def hop15 : Hop := { toll := 0, chan := 15, next := 5 }
def plState : State :=
  { up with line := { up.line with chans := [(15, { mode := 1, nbrs := [(5, {})] })] } }


/-! ### What each statement asks of a state can be met

One theorem per statement: for each of its clauses, a state and operands that meet all its hypotheses together. -/

theorem test_met_PowerAndFabricRowsTakeEffect :
    (∃ (m : Nat) (d : Nat), (3 ≤ d ∧ d ≤ 11) ∧ Met 0x0120 (fun src r s => src = .mb m ∧ arg r 0 1 = d ∧ arg r 1 1 = 1 ∧ bitOf s.power.on d
      = false ∧ s.power.transition = none ∧ (∀ e ∈ dependsOn d, powered s e = true) ∧ activating s = false ∧ s.power.removePending =
      false)) ∧
    (∃ (m : Nat) (d : Nat), (3 ≤ d ∧ d ≤ 11) ∧ Met 0x0120 (fun src r s => src = .mb m ∧ arg r 0 1 = d ∧ arg r 1 1 = 0 ∧ bitOf s.power.on d
      = true ∧ s.power.transition = none ∧ (∀ e ∈ dependents d, bitOf s.power.on e = false) ∧ activating s = false ∧ (d = 10 →
      s.legal.state = .decommissioned))) ∧
    (Met 0x0121 (fun _ _ _ => True)) ∧
    (Met 0x0122 (fun _ r s => active s 6 = true ∧ isFenced s 92 = false ∧ (1 ≤ arg r 0 1 ∧ arg r 0 1 ≤ 15) ∧ (1 ≤ arg r 1 1 ∧ arg r 1 1 ≤
      15) ∧ (1 ≤ arg r 2 1 ∧ arg r 2 1 ≤ 15))) ∧
    (∃ (src : _) (r : _) (s : State), Ready 0x0123 src r s ∧ arg r 0 1 ≤ 5) ∧
    (∃ (s : State) (m : Nat) (d : Nat) (on : Bool), fabricUp s = true ∧ ((∃ x, s.power.transition = some
      { domains := [d], on := on, by_ := .pdSet m, discarded := x }))) ∧
    (∃ (s : State) (d : Nat) (by_ : TransitionBy), s.power.transition = some
      { domains := [d], on := false, by_ := by_, discarded := false }) ∧
    (∃ (c : Nat) (s : State), (c = 2 ∨ c = 3 ∨ c = 4) ∧ active s 6 = true ∧ fabricUp s = true) ∧
    (∃ (hop : Nat) (w : BitVec 72) (s : State), wordBad w = true ∧ fabricUp s = true ∧ s.log.restart = none ∧ ((look [] s.log.retransmits
      hop).filter fun t => decide (tb1Us s < t + 1000)).length < 16) ∧
    (∃ (s : State), s.power.pllLocked = true ∧ bitOf s.power.on 10 = true ∧ s.power.refExternal = true) ∧
    (∃ (s : State), s.power.aux = true ∧ s.power.pllLocked = false ∧ s.power.bypass = true) ∧
    (∃ (s : State), fabricUp s = true ∧ s.host.linkUp = true ∧ s.host.creditHeld = false ∧ s.host.creditSeen = true) ∧
    (∃ (src : _) (r : _) (s : State), Ready 0x0610 src r s ∧ plOff s = false ∧ arg r 0 1 ≤ 7 ∧ ((∀ n ∈ maskChannels (arg r 1 2), plFenced
      s n = false ∧ transmitting (plOf s n) = false ∧ (groupOf s n = none ∨ groupOf s n = some (arg r 0 1))))) :=
  ⟨⟨2, 11, by decide, met ([11, 1]) ({ up with power := { up.power with on := 0x7F8 } }) (by decide)⟩,
    ⟨2, 11, by decide, met ([11, 0]) (up) (by decide)⟩,
    met ([]) (up) (by decide),
    met ([1, 2, 15]) (up) (by decide),
    ⟨.mb 2, req 0x0123 [], ask 2 (req 0x0123 []) up, ready_ask _ 2 _ _ (by decide) (by decide), by decide⟩,
    ⟨{ up with power := { up.power with transition := some { domains := [3], on := true, by_ := .pdSet 2 } } }, 2, 3, true, by decide,
      ⟨false, rfl⟩⟩,
    ⟨{ up with power := { up.power with transition := some { domains := [3], on := false, by_ := .removal } } }, 3, .removal, by decide⟩,
    ⟨4, up, by decide, by decide, by decide⟩,
    ⟨3, 1, up, by decide, by decide, by decide, by decide⟩,
    ⟨{ up with power := { up.power with refExternal := true } }, by decide, by decide, by decide⟩,
    ⟨{ up with power := { up.power with pllLocked := false, bypass := true } }, by decide, by decide, by decide⟩,
    ⟨{ up with host := { up.host with creditSeen := true } }, by decide, by decide, by decide, by decide⟩,
    ⟨.mb 2, req 0x0610 [7, 0, 0x80], ask 2 (req 0x0610 [7, 0, 0x80]) up, ready_ask _ 2 _ _ (by decide) (by decide), by decide, by decide,
      by decide⟩⟩

theorem test_met_MailboxesTakeRequests :
    (∃ (n : Nat) (v : Word32) (s : State), 0 < n ∧ n < 64 ∧ fabricUp s = true ∧ v.getLsbD 0 = true ∧ (mbOf s n).own = false ∧ (mbOf s
      n).done = false ∧ (mbOf s n).go = false) ∧
    (∃ (n : Nat) (v : Word32) (s : State), n < 64 ∧ fabricUp s = true ∧ v.getLsbD 0 = true ∧ (((mbOf s n).own = true ∨ (mbOf s n).done =
      true ∨ n = 0))) ∧
    (∃ (n : Nat) (s : State) (r : _), 4 ≤ n ∧ n < 64 ∧ served s = true ∧ (mbOf s n).go = true ∧ (mbOf s n).own = false ∧ r = parseReq
      (readBytes s.host.areas (0x400 * n) 512) (mbOf s n).goSmp ∧ earlyCheck (setMb n
      { mbOf s n with go := false, own := true, taken := some r, started := false } s) n (fieldU (readBytes s.host.areas (0x400 * n) 512)
      4 2) r = none ∧ lifecycleFails (setMb n { mbOf s n with go := false, own := true, taken := some r, started := false } s) r true =
      false) ∧
    (∃ (n : Nat) (k : Nat) (w : Nat) (s : State), n < 64 ∧ w ∈ [1, 2, 4, 8] ∧ k < 512 ∧ k % w = 0 ∧ fabricUp s = true) :=
  ⟨⟨63, 1, up, by decide, by decide, by decide, by decide, by decide, by decide, by decide⟩,
    ⟨0, 1, up, by decide, by decide, by decide, by decide⟩,
    ⟨4, { up with host := { up.host with mbs := [(4, { go := true })], areas := [(0x1000, 0x01), (0x1001, 0x0B), (0x1004, 0)] } }, _, by
      decide, by decide, by decide, by decide, by decide, rfl, by decide, by decide⟩,
    ⟨63, 504, 8, up, by decide, by decide, by decide, by decide, by decide⟩⟩

theorem test_met_QueueAccessesTakeEffect :
    (∃ (q : Nat) (s : State), q < 128 ∧ fabricUp s = true ∧ (hqOf s q).en = false ∧ cellsLegal (hqOf s q).cfg = true ∧ hqMode (hqOf s
      q).cfg < 3) ∧
    (∃ (q : Nat) (s : State), q < 128 ∧ fabricUp s = true ∧ (hqOf s q).en = false ∧ ((cellsLegal (hqOf s q).cfg = false ∨ 3 ≤ hqMode (hqOf
      s q).cfg))) ∧
    (∃ (q : Nat) (n : Word32) (s : State), q < 128 ∧ fabricUp s = true ∧ 0 < n.toNat ∧ n.toNat ≤ (hqOf s q).pkts ∧ hqMode (hqOf s q).cfg =
      0 ∧ flushOpen s q = false) ∧
    (∃ (q : Nat) (n : Word32) (s : State), q < 128 ∧ fabricUp s = true ∧ ((n = 0 ∨ (hqOf s q).pkts < n.toNat))) ∧
    (∃ (q : Nat) (v : Word32) (s : State), q < 64 ∧ fabricUp s = true ∧ v.toNat < ringSize (sqOf s q).cfg ∧ (v.toNat + ringSize (sqOf s
      q).cfg - (sqOf s q).tail) % ringSize (sqOf s q).cfg ≤ ((sqOf s q).head + ringSize (sqOf s q).cfg - (sqOf s q).tail - 1) % ringSize
      (sqOf s q).cfg) ∧
    (∃ (q : Nat) (v : Word32) (s : State), q < 64 ∧ fabricUp s = true ∧ ringSize (sqOf s q).cfg ≤ v.toNat) ∧
    (∃ (q : Nat) (v : Word32) (s : State), q < 64 ∧ fabricUp s = true ∧ ringSize (cqOf s q).cfg ≤ v.toNat) ∧
    (∃ (q : Nat) (v : Word32) (s : State), q < 64 ∧ fabricUp s = true ∧ v.toNat < ringSize (cqOf s q).cfg ∧ (v.toNat + ringSize (cqOf s
      q).cfg - (cqOf s q).head) % ringSize (cqOf s q).cfg ≤ ((cqOf s q).tail + ringSize (cqOf s q).cfg - (cqOf s q).head) % ringSize (cqOf
      s q).cfg) ∧
    (∃ (q : Nat) (cell : Bytes) (buffer : Bytes) (s : State), q < 64 ∧ served s = true ∧ pcieServes s = true ∧ (sqOf s q).en = true ∧
      (sqOf s q).closing = false ∧ (sqOf s q).head ≠ (sqOf s q).tail ∧ cqHasRoom (cqOf s (cqNum (sqOf s q).cfg)) = true ∧ submitOpen
      (parseEntry cell buffer) s = true) ∧
    (∃ (q : Nat) (p : Packet) (s : State), q < 128 ∧ (hqOf s q).en = true ∧ hqMode (hqOf s q).cfg = 0 ∧ fabricUp s = true ∧ pcieServes s =
      true ∧ nextPacket (hqOf s q) = .pond p ∧ packetCells p + ringInUse (hqOf s q) ≤ ringSize (hqOf s q).cfg) ∧
    (∃ (q : Nat) (s : State) (t : State), q < 128 ∧ t = spillStuck q s ∧ (hqOf t q).en = true ∧ (fillPan (hqOf t q)).pkts ≠ [] ∧ (fillPan
      (hqOf t q)).handed = false) ∧
    (∃ (q : Nat) (s : State), q < 128 ∧ (hqOf s q).counted ≠ 0) ∧
    (∃ (q : Nat) (s : State), q < 64 ∧ (cqOf s q).counted ≠ 0) :=
  ⟨⟨127, up, by decide, by decide, by decide, by decide, by decide⟩,
    ⟨127, { up with host := { up.host with hqs := [(127, { cfg := 5#32 })] } }, by decide, by decide, by decide, by decide⟩,
    ⟨127, 1, { up with host := { up.host with hqs := [(127, { en := true, pkts := 1, ring := [1], cfg := 6#32 })] } }, by decide, by
      decide, by decide, by decide, by decide, by decide⟩,
    ⟨127, 1, up, by decide, by decide, by decide⟩,
    ⟨63, 1, up, by decide, by decide, by decide, by decide⟩,
    ⟨63, 64, up, by decide, by decide, by decide⟩,
    ⟨63, 64, up, by decide, by decide, by decide⟩,
    ⟨63, 0, up, by decide, by decide, by decide, by decide⟩,
    ⟨0, [], [], { up with host := { up.host with sqs := [(0, { en := true, tail := 1 })], cqs := [(0, { en := true })] } }, by decide, by
      decide, by decide, by decide, by decide, by decide, by decide, by decide⟩,
    ⟨0, _, { up with host := { up.host with hqs := [(0, { en := true, cfg := 6#32, pond := [{ bytes := [1] }] })] } }, by decide, by
      decide, by decide, by decide, by decide, rfl, by decide⟩,
    ⟨127, { up with host := { up.host with hqs := [(127, { en := true, panA := { pkts := [{ bytes := [1] }] } })] } }, _, by decide, rfl,
      by decide, by decide, by decide⟩,
    ⟨127, { up with host := { up.host with hqs := [(127, { counted := 1 })] } }, by decide, by decide⟩,
    ⟨63, { up with host := { up.host with cqs := [(63, { counted := 1 })] } }, by decide, by decide⟩⟩

theorem test_met_QueueCommandsAndRegistersComplete :
    (Met 0x0D01 (fun _ r _ => arg r 0 1 < 128)) ∧
    (∃ (sq : Nat) (idx : Nat) (r : _) (s : State), Ready 0x0D02 (.sq sq idx) r s ∧ arg r 0 1 < 128) ∧
    (Met 0x0D03 (fun _ _ _ => True)) ∧
    (Met 0x0D04 (fun _ r _ => arg r 0 1 ≤ 236)) ∧
    (∃ (v : Word64) (s : State), fabricUp s = true ∧ v.toNat < 2 ^ 32) ∧
    (∃ (off : Nat) (w : Nat), ((w = 1 ∨ w = 2)) ∧ ((off < 0x10000 ∨ 0x20000 ≤ off))) ∧
    (∃ (q : Nat) (s : State), q < 128 ∧ fabricUp s = true) ∧
    (∃ (s : State), fabricUp s = true) ∧
    (∃ (s : State), fabricUp s = true) :=
  ⟨met ([127]) (up) (by decide),
    ⟨0, 0, req 0x0D02 [127], askSq (req 0x0D02 [127]) up, ready_askSq _ _ _, by decide⟩,
    met ([]) (up) (by decide),
    met ([236]) (up) (by decide),
    ⟨0, up, by decide, by decide⟩,
    ⟨0, 2, by decide, by decide⟩,
    ⟨127, up, by decide, by decide⟩,
    ⟨up, by decide⟩,
    ⟨up, by decide⟩⟩

theorem test_met_SidebandFramesAreServed :
    (∃ (f : Bytes) (s : State), smpServes s = true ∧ s.host.popStall = none ∧ byteAt f 0 = 2 ∧ 6 ≤ f.length ∧ writeGood f = true) ∧
    (∃ (f : Bytes) (s : State), smpServes s = true ∧ s.host.popStall = none ∧ byteAt f 0 = 2 ∧ 6 ≤ f.length ∧ writeGood f = false) ∧
    (∃ (f : Bytes) (s : State), smpServes s = true ∧ s.host.popStall = none ∧ byteAt f 0 = 3 ∧ 6 ≤ f.length ∧ frameWords f ≤ 64 ∧ frameOff
      f % 4 = 0) ∧
    (∃ (f : Bytes) (s : State), smpServes s = true ∧ s.host.popStall = none ∧ byteAt f 0 = 5 ∧ 6 ≤ f.length) ∧
    (∃ (f : Bytes) (q : Nat) (cell : _) (t : State) (s : State), smpServes s = true ∧ s.host.popStall = none ∧ byteAt f 0 = 0x0B ∧ 6 ≤
      f.length ∧ popQueue f s = some q ∧ popCell q { s with host := { s.host with popStall := some q } } = some (cell, t)) ∧
    (∃ (f : Bytes) (q : Nat) (s : State), smpServes s = true ∧ s.host.popStall = none ∧ byteAt f 0 = 0x0B ∧ 6 ≤ f.length ∧ popQueue f s =
      some q ∧ nextPacket (hqOf s q) = .none) ∧
    (∃ (f : Bytes) (s : State), smpServes s = true ∧ s.host.popStall = none ∧ byteAt f 0 = 0x0B ∧ 6 ≤ f.length ∧ popQueue f s = none) ∧
    (∃ (q : Nat) (s : State), s.host.popStall = some q ∧ nextPacket (hqOf s q) = .none) :=
  ⟨⟨[2, 0, 0, 0, 0x24, 0, 1, 0, 0, 0] ++ [crc8 [2, 0, 0, 0, 0x24, 0, 1, 0, 0, 0]], up, by decide +kernel, by decide +kernel, by
      decide +kernel, by decide +kernel, by decide +kernel⟩,
    ⟨[2, 0, 0, 0, 0, 0], up, by decide, by decide, by decide, by decide, by decide⟩,
    ⟨[3, 0, 0, 0, 0, 0], up, by decide, by decide, by decide, by decide, by decide, by decide⟩,
    ⟨[5, 0, 0, 0, 0, 0], up, by decide, by decide, by decide, by decide⟩,
    ⟨[0x0B, 0, 0x70, 0, 0, 15], 0, _, _,
      { up with host := { up.host with hqs := [(0, { en := true, cfg := 0x26#32, pond := [{ bytes := [1] }] })] } }, by decide, by decide,
      by decide, by decide, rfl, rfl⟩,
    ⟨[0x0B, 0, 0x70, 0, 0, 15], 0, { up with host := { up.host with hqs := [(0, { en := true, cfg := 0x26#32 })], popStall := none } }, by
      decide, by decide, by decide, by decide, rfl, by decide⟩,
    ⟨[0x0B, 0, 0x70, 0, 0, 15], up, by decide, by decide, by decide, by decide, by decide⟩,
    ⟨0, { up with host := { up.host with hqs := [(0, { en := true, cfg := 0x26#32 })], popStall := some 0 } }, by decide, by decide⟩⟩

theorem test_met_TimeBaseCommandsComplete :
    (Met 0x0201 (fun _ r s => arg r 0 1 < 12 ∧ active s (tbDomain (arg r 0 1)) = true)) ∧
    (∃ (m : Nat), Met 0x0202 (fun src r s => src = .mb m ∧ settable (arg r 0 1) = true ∧ active s (tbDomain (arg r 0 1)) = true ∧ isFenced
      s (tbUnit (arg r 0 1)) = false ∧ sourceDenies s (arg r 0 1) = false ∧ arg r 10 1 = 0 ∧ ppsWaits s (arg r 0 1) = false ∧ (tb s (arg r
      0 1)).valid = false)) ∧
    (∃ (m : Nat), Met 0x0202 (fun src r s => src = .mb m ∧ settable (arg r 0 1) = true ∧ active s (tbDomain (arg r 0 1)) = true ∧ isFenced
      s (tbUnit (arg r 0 1)) = false ∧ sourceDenies s (arg r 0 1) = false ∧ arg r 10 1 = 0 ∧ ppsWaits s (arg r 0 1) = false ∧ (tb s (arg r
      0 1)).valid = true)) ∧
    (∃ (m : Nat), Met 0x0202 (fun src r s => src = .mb m ∧ settable (arg r 0 1) = true ∧ active s (tbDomain (arg r 0 1)) = true ∧ isFenced
      s (tbUnit (arg r 0 1)) = false ∧ sourceDenies s (arg r 0 1) = false ∧ arg r 10 1 = 1 ∧ ppsWaits s (arg r 0 1) = false)) ∧
    (∃ (m : Nat), Met 0x0203 (fun src r s => src = .mb m ∧ settable (arg r 0 1) = true ∧ active s (tbDomain (arg r 0 1)) = true ∧ isFenced
      s (tbUnit (arg r 0 1)) = false ∧ sourceDenies s (arg r 0 1) = false ∧ ppsWaits s (arg r 0 1) = false ∧ (tb s (arg r 0 1)).valid =
      true ∧ (tb s (arg r 0 1)).lost = false)) ∧
    (∃ (m : Nat), Met 0x0203 (fun src r s => src = .mb m ∧ settable (arg r 0 1) = true ∧ active s (tbDomain (arg r 0 1)) = true ∧ isFenced
      s (tbUnit (arg r 0 1)) = false ∧ sourceDenies s (arg r 0 1) = false ∧ ((tb s (arg r 0 1)).lost = true ∨ (tb s (arg r 0 1)).valid =
      false) ∧ ((tb s (arg r 0 1)).valid = true → ppsWaits s (arg r 0 1) = false))) ∧
    (Met 0x0204 (fun _ r s => settable (arg r 0 1) = true ∧ active s (tbDomain (arg r 0 1)) = true ∧ isFenced s (tbUnit (arg r 0 1)) =
      false ∧ (argT r 1).getLsbD 71 = false)) ∧
    (Met 0x0205 (fun _ r s => arg r 0 1 = 8 ∧ arg r 1 1 = 4 ∧ active s 9 = true ∧ isFenced s 4 = false ∧ ppsWaits s 8 = false)) ∧
    (Met 0x0206 (fun _ r _ => argT r 2 = 0#72)) ∧
    (Met 0x0206 (fun _ r _ => argT r 2 ≠ 0#72)) ∧
    (Met 0x0207 (fun _ r s => settable (arg r 0 1) = true ∧ active s (tbDomain (arg r 0 1)) = true ∧ isFenced s (tbUnit (arg r 0 1)) =
      false)) ∧
    (Met 0x0208 (fun _ r _ => (argS r 0 4).natAbs ≤ 50000 ∧ (argS r 4 2).natAbs ≤ 1000)) :=
  ⟨met ([11]) (up) (by decide),
    ⟨2, met ([0, 0, 0, 0, 0, 0, 0, 0, 0, 0]) (up) (by decide)⟩,
    ⟨2, met ([0]) ({ up with clock := { up.clock with tbs := [(0, { valid := true })] } }) (by decide)⟩,
    ⟨2, met ([0, 0, 0, 0, 0, 0, 0, 0, 0, 0, 1]) (up) (by decide)⟩,
    ⟨2, met ([10, 1, 0, 0, 0, 0, 0, 0, 0, 0]) ({ up with clock := { up.clock with tbs := [(10, { valid := true, limit := 1 })] } }) (by
      decide)⟩,
    ⟨2, met ([0]) (up) (by decide)⟩,
    met ([10, 255]) (up) (by decide),
    met ([8, 4]) (up) (by decide),
    met ([]) (up) (by decide),
    met ([0, 0, 1]) (up) (by decide),
    met ([]) (up) (by decide),
    met ([0x50, 0xC3, 0, 0, 0xE8, 3]) (up) (by decide)⟩

theorem test_met_TimeBaseEventsTakeEffect :
    (∃ (n : Nat) (s : State), n < 12 ∧ fabricUp s = true) ∧
    (∃ (n : Nat) (v : Word64) (s : State), n < 12 ∧ tbWritable s n = true ∧ hostOwns s n = true ∧ clampInc (v.toNat % 2 ^ 54) ≠ v.toNat %
      2 ^ 54) ∧
    (∃ (n : Nat) (v : Word64) (s : State), n < 12 ∧ tbWritable s n = true ∧ hostOwns s n = true ∧ clampInc (v.toNat % 2 ^ 54) = v.toNat %
      2 ^ 54) ∧
    (∃ (n : Nat) (s : State), n < 12 ∧ tbWritable s n = true ∧ hostOwns s n = true) ∧
    (∃ (n : Nat) (p : PendStep) (s : State) (t : State), (tb s n).pend = some p ∧ t = setTb n { tb s n with pend := none } s ∧ (tb t
      n).valid = true ∧ (tb t n).lost = false) ∧
    (∃ (o : Int) (at_ : Time) (s : State), s.clock.utcPending = some (o, at_) ∧ at_.toNat ≤ (tbVal s 0).toNat) ∧
    (∃ (s : State), s.power.main = false ∧ s.clock.backupFail = false) ∧
    (∃ (s : State), fabricUp s = true ∧ bitOf s.clock.msEnable 1 = true) ∧
    (∃ (m : Nat) (p : PpsSet) (s : State), m < 64 ∧ p ∈ s.clock.pps ∧ p.mb = m) ∧
    (∃ (mp : Nat) (before : Int) (after : Int) (at_ : Time) (c : Time) (s : State), mp < 32 ∧ bitOf s.power.on 10 = true ∧ runs (pointOf s
      mp) = true ∧ before < 0 ∧ 0 ≤ after ∧ c = crossingInstant before after at_) ∧
    (∃ (n : Nat) (s : State), n < 12 ∧ (tb s n).source = 3 ∧ (((tb s n).holdover = false ∨ (tb s n).crossings ≠ 0)) ∧ active s (tbDomain
      n) = true) ∧
    (∃ (m : PtpMessage) (s : State), m.port < 4 ∧ fabricUp s = true ∧ active s 7 = true ∧ isFenced s (93 + m.port) = false ∧ ptpGives s
      m.port = true ∧ (ptpOf s m.port).profile = 0 ∧ m.kind = 1) ∧
    (∃ (m : PtpMessage) (s : State), m.port < 4 ∧ fabricUp s = true ∧ active s 7 = true ∧ isFenced s (93 + m.port) = false ∧ (ptpOf s
      m.port).role = 1 ∧ m.kind = 0 ∧ (tb s 0).source = 1 ∧ m.valid = true ∧ m.secondsHigh = 0) ∧
    (∃ (s : State), (tb s 0).source = 1 ∧ (tb s 0).holdover = false) :=
  ⟨⟨11, up, by decide, by decide⟩,
    ⟨10, 0, up, by decide, by decide, by decide, by decide⟩,
    ⟨10, 7870610804783, up, by decide, by decide, by decide, by decide⟩,
    ⟨10, { up with clock := { up.clock with tbs := [(10, { valid := true, limit := 1, stepLo := 1 })] } }, by decide, by decide, by
      decide⟩,
    ⟨0, { sum := 5 }, { up with clock := { up.clock with tbs := [(0, { valid := true, pend := some { sum := 5 } })] } }, _, by decide,
      rfl, by decide, by decide⟩,
    ⟨60, 1, { up with clock := { up.clock with tbs := [(0, { acc := 0x1000000000#108 })], utcPending := some (60, 1) } }, by decide, by
      decide⟩,
    ⟨State.reset, by decide, by decide⟩,
    ⟨{ up with clock := { up.clock with msEnable := 2 } }, by decide, by decide⟩,
    ⟨63, { mb := 63 }, { up with clock := { up.clock with pps := [{ mb := 63 }] } }, by decide, by decide, by decide⟩,
    ⟨31, -1, 0, 0, _, { up with meter := { up.meter with points := [(31, { bind := { wiring := 1 } })] } }, by decide, by decide, by
      decide, by decide, by decide, rfl⟩,
    ⟨10, { up with clock := { up.clock with tbs := [(10, { source := 3 })] } }, by decide, by decide, by decide, by decide⟩,
    ⟨{ pm with port := 3, kind := 1 },
      { up with clock := { up.clock with ptp := [(3, { role := 2 })], tbs := [(0, { valid := true })] } }, by decide, by decide, by
      decide, by decide, by decide, by decide, by decide⟩,
    ⟨{ pm with port := 3, kind := 0 }, { up with clock := { up.clock with ptp := [(3, { role := 1 })], tbs := [(0, { source := 1 })] } },
      by decide, by decide, by decide, by decide, by decide, by decide, by decide, by decide, by decide⟩,
    ⟨{ up with clock := { up.clock with tbs := [(0, { source := 1 })] } }, by decide, by decide⟩⟩

theorem test_met_MilestoneAndChainRowsComplete :
    (Met 0x0209 (fun _ r s => isFenced s 4 = false ∧ arg r 0 1 = 2)) ∧
    (Met 0x0209 (fun _ r s => isFenced s 4 = false ∧ active s 10 = true ∧ arg r 0 1 = 1 ∧ arg r 1 1 < 32 ∧ arg r 2 1 < 4 ∧ arg r 3 2 ≠ 0))
      ∧
    (Met 0x020A (fun _ _ _ => True)) ∧
    (∃ (k : Nat), Met 0x020B (fun _ r s => arg r 11 1 = 0 ∧ isFenced s 4 = false ∧ (tb s 0).valid = true ∧ freeSlot s = some k)) ∧
    (∃ (k : Nat), Met 0x020B (fun _ r s => arg r 11 1 = 1 ∧ chainMaster s = true ∧ isFenced s 4 = false ∧ (tb s 0).valid = true ∧ freeSlot
      s = some k ∧ oneMs ≤ timeDiff (argT r 0) (tbVal s 0))) ∧
    (Met 0x020C (fun _ r s => active s 7 = true ∧ arg r 0 1 < 4 ∧ isFenced s (93 + arg r 0 1) = false ∧ arg r 1 1 = 2 ∧ arg r 2 1 ≤ 1 ∧
      (arg r 3 1 = 1 ∨ arg r 3 1 = 2))) ∧
    (Met 0x020D (fun _ r s => active s 7 = true ∧ isFenced s 98 = false ∧ arg r 0 1 = 1)) ∧
    (∃ (v : Word32) (s : State), bitOf v.toNat 0 = true ∧ fabricUp s = true) ∧
    (∃ (s : State), aethenoUp s = true) ∧
    (∃ (f : AethTime) (s : State), aethenoUp s = true ∧ f.crcOk = false) ∧
    (∃ (f : AethTime) (s : State), aethenoUp s = true ∧ f.crcOk = true ∧ s.clock.syncIn = false ∧ 32 ≤ f.hop) ∧
    (∃ (s : State), aethenoUp s = true ∧ s.clock.syncIn = true ∧ (tb s 11).holdover = false) ∧
    (∃ (s : State), aethenoUp s = true) ∧
    (∃ (f : AethDelay) (s : State), aethenoUp s = true ∧ f.response = true ∧ f.syncIn = true ∧ s.clock.delaySent.isSome = true) :=
  ⟨met ([2]) (up) (by decide),
    met ([1, 31, 3, 1]) (up) (by decide),
    met ([]) (up) (by decide),
    ⟨0, met ([]) ({ up with clock := { up.clock with tbs := [(0, { valid := true })] } }) (by decide)⟩,
    ⟨0, met ([0, 0, 0, 0, 1, 0, 0, 0, 0, 0, 0, 1])
      ({ up with clock := { up.clock with tbs := [(0, { valid := true })], aetheno := true } }) (by decide)⟩,
    met ([3, 2, 1, 2]) (up) (by decide),
    met ([1]) (up) (by decide),
    ⟨1, up, by decide, by decide⟩,
    ⟨{ up with clock := { up.clock with aetheno := true } }, by decide⟩,
    ⟨{ tf with crcOk := false }, { up with clock := { up.clock with aetheno := true } }, by decide, by decide⟩,
    ⟨{ tf with hop := 32 }, { up with clock := { up.clock with aetheno := true } }, by decide, by decide, by decide, by decide⟩,
    ⟨{ up with clock := { up.clock with aetheno := true, syncIn := true } }, by decide, by decide, by decide⟩,
    ⟨{ up with clock := { up.clock with aetheno := true } }, by decide⟩,
    ⟨df, { up with clock := { up.clock with aetheno := true, delaySent := some 0 } }, by decide, by decide, by decide, by decide⟩⟩

theorem test_met_MetrologyConfigurationCompletes :
    (Met 0x0302 (fun _ r s => active s 10 = true ∧ isFenced s 125 = false ∧ arg r 0 1 < 96 ∧ arg r 1 1 ≤ 3 ∧ arg r 2 1 ≤ 5 ∧ (arg r 1 1 =
      1 → arg r 2 1 = 0) ∧ (arg r 1 1 ≠ kindNext s (arg r 0 1) → chanBound s (arg r 0 1) = false))) ∧
    (Met 0x0303 (fun _ r s => active s 10 = true ∧ isFenced s 125 = false ∧ arg r 0 1 < 32 ∧ arg r 1 1 ≤ 4 ∧ (arg r 19 1 = 50 ∨ arg r 19 1
      = 60) ∧ (∀ k < 9, slotBad s (arg r 0 1) (bindingOf r) k = false))) ∧
    (Met 0x0304 (fun _ r s => active s 10 = true ∧ isFenced s 125 = false ∧ arg r 0 1 < 96 ∧ (argS r 1 4).natAbs ≤ 107374182 ∧ (argS r 5
      4).natAbs ≤ 65536 ∧ (argS r 9 4).natAbs ≤ 131072)) ∧
    (Met 0x0306 (fun _ r s => active s 10 = true ∧ isFenced s 125 = false ∧ arg r 0 1 < 32 ∧ arg r 1 1 < 16 ∧ arg r 2 1 ≤ 12 ∧ arg r 3 1 ≤
      3 ∧ arg r 4 1 < 16 ∧ arg r 5 1 ≤ 1 ∧ (arg r 3 1 = 0 → absoluteNeeded s (arg r 0 1) (arg r 1 1) = false))) ∧
    (Met 0x030A (fun _ r s => active s 10 = true ∧ isFenced s 125 = false ∧ arg r 0 1 < 128 ∧ arg r 9 1 = 0)) ∧
    (Met 0x030B (fun _ r s => active s 10 = true ∧ isFenced s 125 = false ∧ [1, 5, 10, 15, 30, 60].contains (arg r 0 1) = true ∧
      breaksGroup s (arg r 0 1) = false)) ∧
    (Met 0x030C (fun _ r s => active s 10 = true ∧ isFenced s 126 = false ∧ arg r 0 1 < 8 ∧ arg r 1 1 < 32 ∧ arg r 2 1 < 16 ∧ arg r 3 6 ≠
      0 ∧ arg r 9 2 ≠ 0 ∧ arg r 9 2 ≤ 1600 ∧ arg r 11 1 ≤ 1 ∧ arg r 12 1 ≤ 1 ∧ modeNext s (arg r 1 1) (arg r 2 1) ≠ 0)) ∧
    (Met 0x030D (fun _ r s => active s 10 = true ∧ isFenced s 125 = false ∧ arg r 0 1 < 32 ∧ 20 ≤ arg r 1 2 ∧ arg r 1 2 ≤ 80 ∧ arg r 3 1 ≤
      1)) :=
  ⟨met ([95, 1, 0]) (up) (by decide),
    met ([31, 0, 255, 255, 255, 255, 255, 255, 255, 255, 255, 0, 0, 0, 0, 0, 0, 0, 0, 60]) (up) (by decide),
    met ([95, 0x66, 0x66, 0x66, 6, 0, 0, 1, 0, 0, 0, 2, 0]) (up) (by decide),
    met ([31, 15, 12, 3, 15, 1]) (up) (by decide),
    met ([127]) (up) (by decide),
    met ([60]) (up) (by decide),
    met ([7, 31, 0, 1, 0, 0, 0, 0, 0, 0x40, 6, 1, 1]) (up) (by decide),
    met ([31, 80, 0, 1]) (up) (by decide)⟩

theorem test_met_MetrologyReadingCompletes :
    (Met 0x0301 (fun _ r s => active s 10 = true ∧ arg r 0 1 < 32)) ∧
    (Met 0x0305 (fun _ r s => active s 10 = true ∧ arg r 0 1 < 96 ∧ arg r 1 1 ≤ 5)) ∧
    (Met 0x0307 (fun _ r s => active s 10 = true ∧ arg r 0 1 < 32)) ∧
    (Met 0x0308 (fun _ r s => active s 10 = true ∧ arg r 0 1 < 32)) ∧
    (Met 0x0309 (fun _ r s => active s 10 = true ∧ arg r 0 1 < 96)) ∧
    (∃ (m : Nat), Met 0x030E (fun src r s => src = .mb m ∧ active s 10 = true ∧ isFenced s 125 = false ∧ captureAins r ≠ [] ∧ (∀ a ∈
      captureAins r, a < 96) ∧ (1 ≤ arg r 8 2 ∧ arg r 8 2 ≤ 2048) ∧ arg r 10 1 = 0 ∧ s.meter.capturing = none)) ∧
    (Met 0x030F (fun _ r s => active s 10 = true ∧ arg r 0 2 + 120 ≤ 16384 ∧ s.meter.capturing = none)) ∧
    (∃ (m : Nat), Met 0x0310 (fun src _ s => src = .mb m ∧ s.meter.check = .none)) ∧
    (Met 0x0311 (fun _ r s => active s 10 = true ∧ arg r 0 1 < 16)) ∧
    (Met 0x0312 (fun _ _ s => active s 10 = true)) :=
  ⟨met ([31]) (up) (by decide),
    met ([95, 5]) (up) (by decide),
    met ([31]) (up) (by decide),
    met ([31]) (up) (by decide),
    met ([95]) (up) (by decide),
    ⟨2, met ([95, 255, 255, 255, 255, 255, 255, 255, 0, 8, 0]) (up) (by decide)⟩,
    met ([0x88, 0x3F]) (up) (by decide),
    ⟨2, met ([]) (up) (by decide)⟩,
    met ([15]) (up) (by decide),
    met ([]) (up) (by decide)⟩

theorem test_met_MetrologyEventsTakeEffect :
    (∃ (xs : List ChannelSamples) (s : State), accumulates s = true ∧ 0 < tickSamples xs ∧ s.meter.tickPos < 320) ∧
    (∃ (s : State), bitOf s.power.on 10 = true) ∧
    (∃ (m : Nat) (s : State), m < 32 ∧ bitOf s.power.on 10 = true ∧ runs (pointOf s m) = true) ∧
    (∃ (m : Nat) (b : Nat) (e : Nat) (v : Nat) (s : State), m < 32 ∧ bitOf s.power.on 10 = true ∧ runs (pointOf s m) = true ∧ bitOf
      (pointOf s m).alarms b = false ∧ alarmSets s (pointOf s m) b = some (e, v)) ∧
    (∃ (m : Nat) (b : Nat) (s : State), m < 32 ∧ bitOf s.power.on 10 = true ∧ runs (pointOf s m) = true ∧ bitOf (pointOf s m).alarms b =
      true ∧ alarmClears s (pointOf s m) b = true) ∧
    (∃ (s : State), bitOf s.power.on 10 = true) ∧
    (∃ (s : State), bitOf s.power.on 10 = true ∧ boundaryDue s = true) ∧
    (∃ (xs : List ChannelSamples) (c : Capture) (s : State), s.meter.capturing = some c ∧ c.atCrossing = false ∧ ((∀ a ∈ c.ains, c.samples
      ≤ (codesOf xs a).length))) ∧
    (∃ (s : State), s.power.main = true) ∧
    (∃ (s : State), s.meter.pfail = true ∧ bitOf s.power.on 10 = true) ∧
    (∃ (s : State), s.power.main = false ∧ s.firm.pfail = true) ∧
    (∃ (s : State), s.power.aux = true ∧ s.power.main = false ∧ s.firm.pfail = true) ∧
    (∃ (s : State), s.meter.check = .none ∧ s.power.main = true ∧ s.meter.pfail = false) ∧
    (∃ (us : Nat) (m : Nat) (s : State), s.meter.check = .test m ∧ 4000 ≤ us ∧ s.meter.degraded = false) :=
  ⟨⟨[{ ain := 0, codes := [0] }],
      { up with meter := { up.meter with tickPos := 319 }, firm := { up.firm with legalRuns := true }, legal := { up.legal with state := .inService } },
      by decide, by decide, by decide⟩,
    ⟨up, by decide⟩,
    ⟨31, { up with meter := { up.meter with points := [(31, { bind := { wiring := 1 } })] } }, by decide, by decide, by decide⟩,
    ⟨31, 2, _, _,
      { up with meter := { up.meter with points := [(31, { bind := { wiring := 1 }, revAlarm := true, window := { pTotal := -1 } })] } },
      by decide, by decide, by decide, by decide, rfl⟩,
    ⟨31, 2, { up with meter := { up.meter with points := [(31, { bind := { wiring := 1 }, alarms := 4 })] } }, by decide, by decide, by
      decide, by decide, by decide⟩,
    ⟨up, by decide⟩,
    ⟨up, by decide, by decide⟩,
    ⟨[{ ain := 5, codes := [0, 1] }], { ains := [5], samples := 2 },
      { up with meter := { up.meter with capturing := some { ains := [5], samples := 2 } } }, by decide, by decide, by decide⟩,
    ⟨up, by decide⟩,
    ⟨{ up with meter := { up.meter with pfail := true } }, by decide, by decide⟩,
    ⟨{ State.reset with firm := { pfail := true } }, by decide, by decide⟩,
    ⟨{ State.reset with power := { aux := true }, firm := { pfail := true } }, by decide, by decide, by decide⟩,
    ⟨up, by decide, by decide, by decide⟩,
    ⟨4000, 2, { up with meter := { up.meter with check := .test 2 } }, by decide, by decide, by decide⟩⟩

theorem test_met_TariffCommandsComplete :
    (Met 0x0401 (fun _ r s => active s 10 = true ∧ arg r 0 1 < 32)) ∧
    (Met 0x0402 (fun _ r s => active s 10 = true ∧ isFenced s 126 = false ∧ tarDayBad r s = false)) ∧
    (Met 0x0403 (fun _ r s => active s 10 = true ∧ isFenced s 126 = false ∧ arg r 0 1 < 8 ∧ arg r 1 1 < 8 ∧ (∀ d ∈ weekDays r, d < 16))) ∧
    (Met 0x0404 (fun _ r s => active s 10 = true ∧ isFenced s 126 = false ∧ arg r 0 1 < 8 ∧ arg r 1 1 < 8 ∧ (1 ≤ arg r 2 1 ∧ arg r 2 1 ≤
      12) ∧ (1 ≤ arg r 3 1 ∧ arg r 3 1 ≤ 31) ∧ arg r 4 1 < 8)) ∧
    (Met 0x0405 (fun _ r s => active s 10 = true ∧ isFenced s 126 = false ∧ arg r 0 1 < 8 ∧ arg r 1 1 < 64 ∧ (1 ≤ arg r 4 1 ∧ arg r 4 1 ≤
      12) ∧ (1 ≤ arg r 5 1 ∧ arg r 5 1 ≤ 31) ∧ arg r 6 1 < 16)) ∧
    (Met 0x0406 (fun _ r s => active s 10 = true ∧ isFenced s 126 = false ∧ tarTableBad r s = false)) ∧
    (Met 0x0407 (fun _ r s => active s 10 = true ∧ isFenced s 126 = false ∧ arg r 0 1 < 8 ∧ undefinedProfile (tableOf s (arg r 0
      1)).passive = false ∧ (tableOf s (arg r 0 1)).activation = none ∧ argT r 1 = 0#72)) ∧
    (Met 0x0407 (fun _ r s => active s 10 = true ∧ isFenced s 126 = false ∧ arg r 0 1 < 8 ∧ undefinedProfile (tableOf s (arg r 0
      1)).passive = false ∧ (tableOf s (arg r 0 1)).activation = none ∧ argT r 1 ≠ 0#72)) ∧
    (Met 0x0408 (fun _ r s => active s 10 = true ∧ isFenced s 126 = false ∧ arg r 0 1 < 32 ∧ arg r 1 1 < 8)) ∧
    (Met 0x0409 (fun _ r s => active s 10 = true ∧ isFenced s 126 = false ∧ arg r 0 1 < 32 ∧ arg r 1 1 < 4 ∧ arg r 2 1 < 16 ∧ (5 ≤ arg r 3
      1 ∧ arg r 3 1 ≤ 9) ∧ arg r 4 1 ≤ 3 ∧ modeNext s (arg r 0 1) (arg r 2 1) ≠ 0)) ∧
    (Met 0x040A (fun _ r s => active s 10 = true ∧ isFenced s 126 = false ∧ arg r 0 1 < 8)) ∧
    (Met 0x040B (fun _ r s => active s 10 = true ∧ arg r 0 1 < 32 ∧ arg r 1 1 < 4)) ∧
    (Met 0x040C (fun _ r s => active s 10 = true ∧ arg r 0 1 < 32 ∧ arg r 1 1 < (look [] s.tariff.history (arg r 0 1)).length)) ∧
    (Met 0x040D (fun _ r s => active s 10 = true ∧ isFenced s 126 = false ∧ demBad r s = false)) ∧
    (Met 0x040E (fun _ r s => active s 10 = true ∧ arg r 0 1 < 32 ∧ arg r 1 1 < 4)) :=
  ⟨met ([31]) (up) (by decide),
    met ([7, 15, 1, 0, 0, 0, 0, 16, 1]) (up) (by decide),
    met ([7, 7, 15, 15, 15, 15, 15, 15, 15]) (up) (by decide),
    met ([7, 7, 12, 31, 7]) (up) (by decide),
    met ([7, 63, 255, 255, 12, 31, 15]) (up) (by decide),
    met ([7, 16, 0x48, 3, 120, 0, 0, 0, 0, 0, 0, 0, 0, 0, 0, 28, 0x9F, 5]) (up) (by decide),
    met ([7]) (up) (by decide),
    met ([7, 1]) (up) (by decide),
    met ([31, 7]) (up) (by decide),
    met ([31, 3, 0, 9, 3]) (up) (by decide),
    met ([7]) (up) (by decide),
    met ([31, 3]) (up) (by decide),
    met ([31, 1]) ({ up with tariff := { up.tariff with history := [(31, [{}, {}])] } }) (by decide),
    met ([31, 1, 5, 12, 3]) (up) (by decide),
    met ([31, 3]) (up) (by decide)⟩

theorem test_met_PrepaymentAndLegalCommandsComplete :
    (Met 0x040F (fun _ r s => active s 10 = true ∧ active s 11 = true ∧ isFenced s 126 = false ∧ isFenced s (128 + arg r 90 1 / 2) = false
      ∧ prepayBad r s = false ∧ arg r 1 1 = 0 ∧ (prepayOf s (arg r 0 1)).enable = false)) ∧
    (Met 0x0410 (fun _ r s => active s 10 = true ∧ isFenced s 126 = false ∧ arg r 0 1 < 32 ∧ (prepayOf s (arg r 0 1)).token < arg r 1 4))
      ∧
    (Met 0x0411 (fun _ r s => active s 10 = true ∧ isFenced s 126 = false ∧ arg r 0 1 < 32 ∧ arg r 1 1 = 1)) ∧
    (Met 0x0412 (fun _ r s => active s 10 = true ∧ isFenced s 126 = false ∧ arg r 0 1 < 32 ∧ (prepayOf s (arg r 0 1)).state =
      .reconnectReady ∧ creditBack (prepayOf s (arg r 0 1)) = true)) ∧
    (Met 0x0413 (fun _ r s => active s 10 = true ∧ arg r 0 1 < 32)) ∧
    (Met 0x0414 (fun _ r _ => arg r 0 1 < 32)) ∧
    (Met 0x0415 (fun _ _ s => active s 10 = true)) ∧
    (Met 0x0416 (fun _ _ s => active s 10 = true)) ∧
    (Met 0x0417 (fun _ r s => active s 10 = true ∧ isFenced s 126 = false ∧ displayBad r s = false)) ∧
    (∃ (e : LegalEntry), Met 0x0418 (fun _ r s => entryNumber s (arg r 0 2) = some e)) ∧
    (Met 0x0419 (fun _ _ s => active s 10 = true ∧ isFenced s 126 = false ∧ s.legal.state = .inService)) ∧
    (Met 0x041A (fun _ _ _ => True)) :=
  ⟨met (31 :: 0 :: List.replicate 88 0 ++ [15, 15, 0xF4, 1, 1]) (up) (by decide),
    met ([31, 1]) (up) (by decide),
    met ([31, 1]) (up) (by decide),
    met ([31]) ({ up with tariff := { up.tariff with prepay := [(31, { state := .reconnectReady })] } }) (by decide),
    met ([31]) (up) (by decide),
    met ([31]) (up) (by decide),
    met ([]) (up) (by decide),
    met ([]) (up) (by decide),
    met ([7, 1, 60, 0]) (up) (by decide),
    ⟨{}, met ([]) ({ up with legal := { up.legal with entries := [{}] } }) (by decide)⟩,
    met ([]) ({ up with legal := { up.legal with state := .inService } }) (by decide),
    met ([]) (up) (by decide)⟩

theorem test_met_TariffEventsTakeEffect :
    (∃ (t : Nat) (s : State), t < 8 ∧ bitOf s.power.on 10 = true ∧ (tb s 2).valid = true) ∧
    (∃ (t : Nat) (s : State), t < 8 ∧ bitOf s.power.on 10 = true ∧ (tb s 2).valid = true) ∧
    (∃ (m : Nat) (s : State) (u : State), m < 32 ∧ u = dueInterval s ∧ bitOf u.power.on 10 = true ∧ subDue u m = true) ∧
    (∃ (t : Nat) (b : Int) (s : State), t < 8 ∧ bitOf s.power.on 10 = true ∧ closeDue (beforeClose s) t = some b) ∧
    (∃ (t : Nat) (at_ : Time) (s : State), t < 8 ∧ bitOf s.power.on 10 = true ∧ (tableOf s t).activation = some at_ ∧ (tb s 2).valid =
      true ∧ at_.toNat ≤ (calTime s).toNat) ∧
    (∃ (m : Nat) (s : State), m < 32 ∧ (prepayOf s m).enable = true ∧ isClosed s (prepayOf s m).cfb = true ∧ (prepayOf s m).state =
      .opening) ∧
    (∃ (m : Nat) (s : State), m < 32 ∧ (prepayOf s m).enable = true ∧ isClosed s (prepayOf s m).cfb = false ∧ (prepayOf s m).state =
      .closing) ∧
    (∃ (m : Nat) (s : State), m < 32 ∧ (prepayOf s m).enable = true ∧ (prepayOf s m).state = .opening ∧ isClosed s (prepayOf s m).cfb =
      true) ∧
    (∃ (m : Nat) (s : State), m < 32 ∧ (prepayOf s m).enable = true ∧ (prepayOf s m).state = .closing ∧ isClosed s (prepayOf s m).cfb =
      false) ∧
    (∃ (m : Nat) (s : State), m < 32 ∧ (prepayOf s m).enable = true ∧ (prepayOf s m).state = .disconnected ∧ (pointOf s m).gates ≠ 0) ∧
    (∃ (d : Nat) (r : Bytes) (s : State), d < 8 ∧ (displayOf s d).enable = true ∧ bitOf s.power.on 10 = true ∧ r.head? = some 0xA5#8 ∧
      (displayOf s d).fault = false) ∧
    (∃ (d : Nat) (r : Bytes) (s : State), d < 8 ∧ (displayOf s d).enable = true ∧ bitOf s.power.on 10 = true ∧ r.head? ≠ some 0xA5#8 ∧
      (displayOf s d).fault = false ∧ (displayOf s d).missed = 2) ∧
    (∃ (d : Nat) (s : State), d < 8 ∧ (displayOf s d).enable = true ∧ bitOf s.power.on 10 = true ∧ (displayOf s d).items ≠ []) ∧
    (∃ (s : State), bitOf s.power.on 10 = true) ∧
    (∃ (s : State), s.tariff.cvShown = true) :=
  ⟨⟨7, { up with clock := { up.clock with tbs := [(2, { valid := true })] } }, by decide, by decide, by decide⟩,
    ⟨7, { up with clock := { up.clock with tbs := [(2, { valid := true })] } }, by decide, by decide, by decide⟩,
    ⟨31, up, _, by decide +kernel, rfl, by decide +kernel, by decide +kernel⟩,
    ⟨7, 7776000,
      { up with clock := { up.clock with tbs := [(2, { valid := true, acc := BitVec.ofNat 108 (100 * 86400 * 2 ^ 72) })] }, tariff := { up.tariff with tables := [(7, { active := { billDay := 1 }, lastClosed := 0 })] } },
      by decide +kernel, by decide +kernel, by decide +kernel⟩,
    ⟨7, 0,
      { up with clock := { up.clock with tbs := [(2, { valid := true })] }, tariff := { up.tariff with tables := [(7, { activation := some 0 })] } },
      by decide, by decide, by decide, by decide, by decide⟩,
    ⟨31,
      { up with tariff := { up.tariff with prepay := [(31, { enable := true, cfb := 15, state := .opening })] }, drives := { up.drives with closed := [(15, true)] }, meter := { up.meter with points := [] } },
      by decide, by decide, by decide, by decide⟩,
    ⟨31,
      { up with tariff := { up.tariff with prepay := [(31, { enable := true, cfb := 15, state := .closing })] }, drives := { up.drives with closed := [] }, meter := { up.meter with points := [] } },
      by decide, by decide, by decide, by decide⟩,
    ⟨31,
      { up with tariff := { up.tariff with prepay := [(31, { enable := true, cfb := 15, state := .opening })] }, drives := { up.drives with closed := [(15, true)] }, meter := { up.meter with points := [] } },
      by decide, by decide, by decide, by decide⟩,
    ⟨31,
      { up with tariff := { up.tariff with prepay := [(31, { enable := true, cfb := 15, state := .closing })] }, drives := { up.drives with closed := [] }, meter := { up.meter with points := [] } },
      by decide, by decide, by decide, by decide⟩,
    ⟨31,
      { up with tariff := { up.tariff with prepay := [(31, { enable := true, cfb := 15, state := .disconnected })] }, drives := { up.drives with closed := [] }, meter := { up.meter with points := [(31, { gates := 1 })] } },
      by decide, by decide, by decide, by decide⟩,
    ⟨7, [0xA5], { up with tariff := { up.tariff with displays := [(7, { enable := true, missed := 2 })] } }, by decide, by decide, by
      decide, by decide, by decide⟩,
    ⟨7, [], { up with tariff := { up.tariff with displays := [(7, { enable := true, missed := 2 })] } }, by decide, by decide, by decide,
      by decide, by decide, by decide⟩,
    ⟨7, { up with tariff := { up.tariff with displays := [(7, { enable := true, items := [(0, 0, 0)] })] } }, by decide, by decide, by
      decide, by decide⟩,
    ⟨up, by decide⟩,
    ⟨{ up with tariff := { up.tariff with cvShown := true } }, by decide⟩⟩

theorem test_met_ChargePointCommandsComplete :
    (Met 0x0501 (fun _ r s => active s 11 = true ∧ arg r 0 1 < 8 ∧ isFenced s (128 + arg r 0 1) = false ∧ arg r 1 1 = 0 ∧ (cpOf s (arg r 0
      1)).state = .off ∧ (cpOf (heard (arg r 0 1) s) (arg r 0 1)).state = .off)) ∧
    (Met 0x0501 (fun src r s => let n := arg r 0 1; let t := takeDrive (.charge n) (arg r 5 1) (arg r 7 1) (releaseDrives (.charge n)
      (heard n s)); let u := setCp n { cpOf t n with cfg := cpCfgOf r } t; cpCheck cpCfgBad cpCfgBusy src r s = none ∧ arg r 1 1 = 1 ∧ arg
      r 6 1 = 255 ∧ (cpOf u n).state = .off ∧ (cpGo n .idle (setCp n (freshDecode (cpOf u n)) u)).power.removal = none)) ∧
    (Met 0x0502 (fun _ r s => active s 11 = true ∧ arg r 0 1 < 8)) ∧
    (∃ (x : Session), Met 0x0503 (fun _ r s => active s 11 = true ∧ arg r 0 1 < 8 ∧ isFenced s (128 + arg r 0 1) = false ∧ arg r 5 1 = 1 ∧
      arg r 6 1 = 1 ∧ (cpOf s (arg r 0 1)).session = some x ∧ x.id = arg r 1 4 ∧ (cpOf (heard (arg r 0 1) s) (arg r 0 1)).session = some
      x)) ∧
    (Met 0x0504 (fun _ r s => active s 11 = true ∧ arg r 0 1 < 8 ∧ isFenced s (128 + arg r 0 1) = false ∧ 60 ≤ arg r 1 2 ∧ arg r 1 2 ≤
      800)) ∧
    (∃ (x : Session), Met 0x0505 (fun _ r s => active s 11 = true ∧ arg r 0 1 < 8 ∧ isFenced s (128 + arg r 0 1) = false ∧ (cpOf (heard
      (arg r 0 1) s) (arg r 0 1)).state = .energised ∧ (cpOf (heard (arg r 0 1) s) (arg r 0 1)).session = some x)) ∧
    (Met 0x0506 (fun _ r s => active s 11 = true ∧ arg r 0 1 < 8 ∧ isFenced s (128 + arg r 0 1) = false ∧ arg r 1 1 = 0)) ∧
    (Met 0x0507 (fun _ r s => active s 11 = true ∧ arg r 0 1 < 8 ∧ isFenced s (128 + arg r 0 1) = false ∧ (cpOf s (arg r 0 1)).state =
      .fault ∧ s.power.removal = none ∧ (cpOf s (arg r 0 1)).faultAt + 3000000 ≤ tb1Us s ∧ allOpen s (cpOf s (arg r 0 1)) = true ∧
      tripGone (cpOf s (arg r 0 1)) = true)) ∧
    (Met 0x0508 (fun _ r s => active s 11 = true ∧ arg r 0 1 < 8 ∧ isFenced s (128 + arg r 0 1) = false ∧ (cpOf s (arg r 0 1)).state =
      .idle ∧ (100000 ≤ arg r 1 4 ∧ arg r 1 4 ≤ 200000) ∧ (30000 ≤ arg r 5 4 ∧ arg r 5 4 ≤ 60000) ∧ (3000 ≤ arg r 9 4 ∧ arg r 9 4 ≤ 6000)
      ∧ (5000 ≤ arg r 13 2 ∧ arg r 13 2 ≤ 30000))) ∧
    (Met 0x0509 (fun _ r s => active s 11 = true ∧ arg r 0 1 < 8 ∧ isFenced s (128 + arg r 0 1) = false ∧ (cpOf s (arg r 0 1)).state =
      .idle ∧ (500 ≤ arg r 1 2 ∧ arg r 1 2 ≤ 4000) ∧ arg r 15 1 ≤ 1)) ∧
    (Met 0x050A (fun _ r s => active s 11 = true ∧ arg r 0 1 < 64 ∧ arg r 0 1 < s.charge.records.length)) ∧
    (Met 0x050B (fun _ r s => active s 11 = true ∧ arg r 0 1 < 8)) ∧
    (Met 0x050C (fun _ r s => active s 11 = true ∧ arg r 0 1 < 8 ∧ isFenced s (128 + arg r 0 1) = false ∧ (cpOf s (arg r 0 1)).state =
      .idle ∧ v2gBad r s = false)) ∧
    (Met 0x050D (fun _ r s => active s 11 = true ∧ arg r 0 1 < 8)) ∧
    (Met 0x050E (fun _ r s => active s 11 = true ∧ arg r 0 1 < 8)) ∧
    (Met 0x050F (fun _ r s => active s 11 = true ∧ arg r 0 1 < 128 ∧ arg r 2 1 = 0)) :=
  ⟨met ([7]) (up) (by decide),
    met ([7, 1, 0, 0, 0, 14, 255, 14, 255, 100, 0, 200, 0, 50, 0, 0, 60, 0, 0, 16, 0, 0, 0, 0, 0, 0, 0, 0, 0, 0, 0, 0, 0, 0, 0, 0, 0, 0,
      0, 0, 0]) ({ up with meter := { up.meter with points := [(0, { bind := { wiring := 1 } })] } }) (by decide +kernel),
    met ([7]) (up) (by decide),
    ⟨{ id := 1 }, met ([7, 1, 0, 0, 0, 1, 1]) ({ up with charge := { up.charge with cps := [(7, { session := some { id := 1 } })] } }) (by
      decide)⟩,
    met ([7, 0x20, 3]) (up) (by decide),
    ⟨{ id := 1 }, met ([7]) ({ up with charge := { up.charge with cps := [(7, { session := some { id := 1 }, state := .energised })] } })
      (by decide)⟩,
    met ([7, 0]) (up) (by decide),
    met ([7])
      ({ up with charge := { up.charge with cps := [(7, { state := .fault, cause := 1 })] }, clock := { up.clock with tbs := [(1, { acc := BitVec.ofNat 108 (3 * 2 ^ 72) })] } })
      (by decide),
    met ([7, 64, 13, 3, 0, 96, 234, 0, 0, 112, 23, 0, 0, 48, 117])
      ({ up with charge := { up.charge with cps := [(7, { state := .idle })] } }) (by decide),
    met ([7, 160, 15, 0, 0, 0, 0, 0, 0, 0, 0, 0, 0, 0, 0, 1]) ({ up with charge := { up.charge with cps := [(7, { state := .idle })] } })
      (by decide),
    met ([1]) ({ up with charge := { up.charge with records := [{}, {}] } }) (by decide),
    met ([7]) (up) (by decide),
    met ([7, 255, 255, 255, 0, 1, 120]) ({ up with charge := { up.charge with cps := [(7, { state := .idle })] } }) (by decide),
    met ([7]) (up) (by decide),
    met ([7]) (up) (by decide),
    met ([127]) (up) (by decide)⟩

theorem test_met_ChargePointEventsTakeEffect :
    (∃ (n : Nat) (hi : List Nat) (lo : List Nat) (vh : Int) (vl : Int) (p : Pilot) (s : State), n < 8 ∧ cpWorks s n = true ∧ (cpOf s
      n).duty ≠ 0 ∧ driveLow (cpOf s n).state = false ∧ pilotPlateaus (cpOf s n) (hi ++ lo) = (vh, vl) ∧ pilotHolds (cpOf s n).pilot
      (pwmNow (cpOf s n)) vh vl = false ∧ pilotDecode (pwmNow (cpOf s n)) vh vl = p ∧ (cpOf s n).candidate = p ∧ (cpOf s n).agreed = 3 ∧ p
      ≠ (cpOf s n).pilot) ∧
    (∃ (n : Nat) (s : State), n < 8 ∧ cpWorks s n = true ∧ (cpOf s n).cfg.cfbA < 16 ∧ isClosed s (cpOf s n).cfg.cfbA = true ∧ (cpOf s
      n).state = .energised ∧ driveOn (setClosed (cpOf s n).cfg.cfbA false s) (cpOf s n).cfg.ctdA = true) ∧
    (∃ (n : Nat) (s : State), n < 8 ∧ cpWorks s n = true ∧ (cpOf s n).state = .closing ∧ (cpOf s n).closePending = false ∧ allClosed s
      (cpOf s n) = false) ∧
    (∃ (n : Nat) (s : State), n < 8 ∧ cpWorks s n = true ∧ (cpOf s n).state = .opening ∧ allOpen s (cpOf s n) = false) ∧
    (∃ (n : Nat) (s : State), n < 8 ∧ cpWorks s n = true) ∧
    (∃ (n : Nat) (s : State), n < 8 ∧ cpWorks s n = true ∧ (cpOf s n).state = .stopping) ∧
    (∃ (n : Nat) (s : State), n < 8 ∧ cpWorks s n = true ∧ (cpOf s n).selfTest = .running) ∧
    (∃ (n : Nat) (p : List Int) (q : List Int) (r : Int) (s : State), n < 8 ∧ cpWorks s n = true ∧ imdRuns (cpOf s n) = true ∧ insulation
      (cpOf s n) p q = some r ∧ imdClass (cpOf s n) (some r) = 2 ∧ (cpOf s n).imd.head? = some 2) ∧
    (∃ (n : Nat) (s : State), n < 8 ∧ cpWorks s n = true ∧ (cpOf s n).authPending = true) ∧
    (∃ (n : Nat) (s : State), n < 8 ∧ cpWorks s n = true ∧ (cpOf s n).cfg.digital = true) ∧
    (∃ (n : Nat) (s : State), (cpOf s n).state = .energised ∧ pilotA (cpOf s n) = false ∧ pilotStops (cpOf s n) = false ∧ ((deliveryEnds
      (cpOf s n) = true ∨ heartbeatStops (cpOf s n) = true))) ∧
    (∃ (n : Nat) (s : State), n < 8 ∧ cpWorks s n = true ∧ (cpOf s n).cfg.digital = true ∧ (cpOf s n).session.isSome = true) ∧
    (∃ (pl : Nat) (s : State), 8 ≤ pl ∧ pl < 16 ∧ (cpOf s (pl - 8)).cfg.digital = true ∧ cpWorks s (pl - 8) = true ∧ active s 8 = true ∧
      isFenced s (103 + pl) = false ∧ (plOf s pl).mode = 3 ∧ ((∀ x ∈ s.charge.sounds, x.pl ≠ pl))) ∧
    (∃ (run : Bytes) (x : SlacSounds) (s : State), s.charge.sounds = [x] ∧ x.runId = run ∧ slacEligible s x.pl = true) ∧
    (∃ (r : SessionRec) (s : State), waitingSession s = some r ∧ active s 5 = true ∧ active s 11 = true ∧ r.signature = [] ∧ (signSession
      s r).isSome = true ∧ r.signing = false) :=
  ⟨⟨7, List.replicate 250 9, [], 9000000, 0, .b,
      { up with charge := { up.charge with cps := [(7, { state := .idle, duty := 1000, cfg := { pilotGain := 1000000 }, candidate := .b, agreed := 3 })] } },
      by decide +kernel, by decide +kernel, by decide +kernel, by decide +kernel, by decide +kernel, by decide +kernel, by decide +kernel,
      by decide +kernel, by decide +kernel, by decide +kernel⟩,
    ⟨7,
      { up with charge := { up.charge with cps := [(7, { state := .energised, cfg := { ctdA := 14, cfbA := 14 } })] }, drives := { up.drives with closed := [(14, true)], duty := [(14, 100)] } },
      by decide, by decide, by decide, by decide, by decide, by decide⟩,
    ⟨7, { up with charge := { up.charge with cps := [(7, { state := .closing, cfg := { ctdA := 14, cfbA := 14 } })] } }, by decide, by
      decide, by decide, by decide, by decide⟩,
    ⟨7,
      { up with charge := { up.charge with cps := [(7, { state := .opening, cfg := { ctdA := 14, cfbA := 14 } })] }, drives := { up.drives with closed := [(14, true)] } },
      by decide, by decide, by decide, by decide⟩,
    ⟨7, up, by decide, by decide⟩,
    ⟨7, { up with charge := { up.charge with cps := [(7, { state := .stopping })] } }, by decide, by decide, by decide⟩,
    ⟨7, { up with charge := { up.charge with cps := [(7, { selfTest := .running })] } }, by decide, by decide, by decide⟩,
    ⟨7, [1], [-1], _,
      { up with charge := { up.charge with cps := [(7, { state := .energised, cfg := { dc := true }, imdGain := 1, uMax := 1, imd := [2] })] } },
      by decide, by decide, by decide, rfl, by decide, by decide⟩,
    ⟨7, { up with charge := { up.charge with cps := [(7, { authPending := true })] } }, by decide, by decide, by decide⟩,
    ⟨7, { up with charge := { up.charge with cps := [(7, { state := .energised, cfg := { digital := true } })] } }, by decide, by decide,
      by decide⟩,
    ⟨7, { up with charge := { up.charge with cps := [(7, { state := .energised, pilot := .c, cfg := { digital := true } })] } }, by
      decide, by decide, by decide, by decide⟩,
    ⟨7, { up with charge := { up.charge with cps := [(7, { cfg := { digital := true }, session := some { id := 1 } })] } }, by decide, by
      decide, by decide, by decide⟩,
    ⟨15,
      { up with charge := { up.charge with cps := [(7, { cfg := { digital := true } })] }, line := { up.line with chans := [(15, { mode := 3 })] } },
      by decide, by decide, by decide, by decide, by decide, by decide, by decide, by decide⟩,
    ⟨[], { pl := 15, count := 1 },
      { up with charge := { up.charge with cps := [(7, { state := .plugged, pilot := .b, cfg := { digital := true } })], sounds := [{ pl := 15, count := 1 }] } },
      by decide, by decide, by decide⟩,
    ⟨{},
      { up with charge := { up.charge with records := [{}], recCurve := 1, recSlot := 0 }, keys := { up.keys with gks := [(0, sealRec { typ := 3, usage := 8 })] } },
      by decide, by decide, by decide, by decide, by decide +kernel, by decide⟩⟩

theorem test_met_PowerlineCommandsComplete :
    (Met 0x0601 (fun _ r s => active s 8 = true ∧ arg r 0 1 < 16 ∧ isFenced s (103 + arg r 0 1) = false ∧ plCfgChanges (plOf s (arg r 0
      1)) r = false ∧ arg r 1 1 = 0 ∧ arg r 2 1 ≤ 2 ∧ arg r 3 1 ≤ 3 ∧ arg r 4 1 ≤ 63 ∧ (6 ≤ arg r 5 1 ∧ arg r 5 1 ≤ 24) ∧ arg r 6 1 ≤ 7 ∧
      (10 ≤ arg r 7 2 ∧ arg r 7 2 ≤ 3600))) ∧
    (Met 0x0602 (fun _ r s => active s 8 = true ∧ arg r 0 1 < 4 ∧ arg r 15 1 ≤ 127 ∧ arg r 17 2 ≤ 1023 ∧ (5 ≤ arg r 19 1 ∧ arg r 19 1 ≤
      100) ∧ arg r 13 1 = 0xFF ∧ arg r 14 1 = 0xFF ∧ (∀ n ∈ netChannels s (arg r 0 1), transmitting (plOf s n) = false))) ∧
    (Met 0x0603 (fun _ r s => active s 8 = true ∧ arg r 0 1 < 16)) ∧
    (Met 0x0604 (fun _ r s => active s 8 = true ∧ arg r 0 1 < 16 ∧ (plOf s (arg r 0 1)).mode ≠ 3 ∧ arg r 1 2 < (plOf s (arg r 0
      1)).nbrs.length)) ∧
    (Met 0x0605 (fun _ r s => active s 8 = true ∧ arg r 0 1 < 16 ∧ isFenced s (103 + arg r 0 1) = false ∧ (plOf s (arg r 0 1)).mode ≠ 3 ∧
      (nbrOf (plOf s (arg r 0 1)) (arg r 1 2)).isSome = true ∧ isNextHop (plOf s (arg r 0 1)) (arg r 1 2) = false)) ∧
    (Met 0x0606 (fun _ r s => active s 8 = true ∧ arg r 0 1 < 16 ∧ (plOf s (arg r 0 1)).mode ≠ 3 ∧ (nbrOf (plOf s (arg r 0 1)) (arg r 1
      2)).isSome = true ∧ arg r 3 1 = 0 ∧ arg r 4 1 ≤ 5)) ∧
    (∃ (m : Nat), Met 0x0607 (fun src r s => src = .mb m ∧ active s 8 = true ∧ arg r 0 1 < 16 ∧ isFenced s (103 + arg r 0 1) = false ∧
      (plOf s (arg r 0 1)).mode ≠ 3 ∧ (nbrOf (plOf s (arg r 0 1)) (arg r 1 2)).isSome = true ∧ arg r 3 1 ≤ 5 ∧ (∀ i ∈ refreshSlots s (plOf
      s (arg r 0 1)).net (arg r 3 1), (look {} ((nbrOf (plOf s (arg r 0 1)) (arg r 1 2)).getD {}).fwd i).pending = false))) ∧
    (Met 0x0608 (fun _ r s => active s 8 = true ∧ arg r 0 1 < 16 ∧ isFenced s (103 + arg r 0 1) = false ∧ (plOf s (arg r 0 1)).mode ≠ 3 ∧
      (∀ x ∈ routeArgs r, x.2.2 ≠ 0 → (nbrOf (plOf s (arg r 0 1)) x.2.1.next).isSome = true) ∧ (applyRoutes 0 (plOf s (arg r 0 1)).routes
      (routeArgs r)).length ≤ 2048)) ∧
    (∃ (b : Bool), Met 0x0609 (fun _ r s => active s 8 = true ∧ arg r 0 1 < 16 ∧ (plOf s (arg r 0 1)).mode ≠ 3 ∧ r.buffer.isSome = b)) ∧
    (Met 0x060A (fun _ r s => active s 8 = true ∧ arg r 0 1 < 16 ∧ isFenced s (103 + arg r 0 1) = false ∧ (plOf s (arg r 0 1)).mode ≠ 3))
      ∧
    (∃ (q : Nat) (i : Nat) (h : Hop) (t : State), Met 0x060B (fun src r s => src = .sq q i ∧ active s 8 = true ∧ arg r 0 1 < 16 ∧ isFenced
      s (103 + arg r 0 1) = false ∧ (plOf s (arg r 0 1)).mode = 1 ∧ nextHop s (plOf s (arg r 0 1)).net (arg r 1 2) = some h ∧ (let f :
      PlTx :=
      { dest := arg r 1 2, payload := r.payload.drop 4, hopsLeft := Config.plHops, secure := bitOf (arg r 3 1) 0, ack := bitOf (arg r 3 1) 1, high := bitOf (arg r 3 1) 2, queue := 3, host := some (q, i) };
      routePl h f s = some t))) ∧
    (Met 0x060C (fun _ r s => active s 8 = true ∧ arg r 0 1 < 4 ∧ arg r 1 1 ≤ 64)) :=
  ⟨met ([15, 0, 2, 3, 63, 24, 7, 16, 14]) ({ up with line := { up.line with chans := [(15, { band := 2, net := 3 })] } }) (by decide),
    met ([3, 0, 0, 0, 0, 0, 0, 0, 0, 0, 0, 0, 0, 255, 255, 127, 0, 255, 3, 100]) (up) (by decide),
    met ([15]) (up) (by decide),
    met ([15, 0, 0]) ({ up with line := { up.line with chans := [(15, { mode := 1, nbrs := [(5, {})] })] } }) (by decide),
    met ([15, 5, 0]) ({ up with line := { up.line with chans := [(15, { mode := 1, nbrs := [(5, {})] })] } }) (by decide),
    met ([15, 5, 0, 0, 5]) ({ up with line := { up.line with chans := [(15, { mode := 1, nbrs := [(5, {})] })] } }) (by decide),
    ⟨2, met ([15, 5, 0, 5]) ({ up with line := { up.line with chans := [(15, { mode := 1, nbrs := [(5, {})] })] } }) (by decide)⟩,
    met ([15, 1, 0, 0, 0, 0, 0, 0, 0, 0, 0, 0, 0, 0, 0, 0, 0, 0, 0, 0, 0, 0, 0]) (up) (by decide),
    ⟨_, met ([15]) ({ up with line := { up.line with chans := [(15, { mode := 1 })] } }) (⟨by decide, by decide, by decide, rfl⟩)⟩,
    met ([15]) (up) (by decide),
    ⟨0, 0, _, _, metSq ([15, 5, 0, 0]) (plState) (⟨rfl, by decide, by decide, by decide, by decide, rfl, rfl⟩)⟩,
    met ([3, 64]) (up) (by decide)⟩

theorem test_met_PowerlineEventsTakeEffect :
    (∃ (n : Nat) (f : PlFrame) (s : State) (t : State), n < 16 ∧ plRuns s n = true ∧ active s 8 = true ∧ f.fcsOk = true ∧ f.secured =
      false ∧ t = (frameSlots s n f).foldl (fun t x => countSlot n x t) s ∧ f.pan = (plNetOf t (plOf s n).net).pan ∧ ((2 ≤ f.kind ∨ f.dest
      = (plNetOf t (plOf s n).net).short)) ∧ nbrOf (plOf t n) f.source = none) ∧
    (∃ (n : Nat) (s : State) (a : AckDue) (rest : List AckDue), n < 16 ∧ plRuns s n = true ∧ ackTurn s n = some n ∧ (plOf s n).acks = a ::
      rest) ∧
    (∃ (n : Nat) (g : PlGrant) (f : PlTx) (c : PlChannel) (s : State), n < 16 ∧ plRuns s n = true ∧ ackTurn s n = none ∧ ((∀ m ∈ couplers
      s n, transmitting (plOf s m) = false)) ∧ dataTurn s n = some n ∧ (plOf s n).sent = none ∧ takeData s (plOf s n) = some (f, c) ∧
      ((g.highWindow = true → f.high = true)) ∧ keyLost (turnTaken n (setPl n c s)) n f = false) ∧
    (∃ (n : Nat) (g : PlGrant) (x : PlSent) (s : State), n < 16 ∧ plRuns s n = true ∧ ackTurn s n = none ∧ ((∀ m ∈ couplers s n,
      transmitting (plOf s m) = false)) ∧ dataTurn s n = some n ∧ (plOf s n).sent = some x ∧ ((g.highWindow = true → x.frame.high = true))
      ∧ keyLost (turnTaken n s) n x.frame = false) ∧
    (∃ (n : Nat) (x : PlSent) (e : Neighbour) (s : State), n < 16 ∧ plRuns s n = true ∧ (plOf s n).sent = some x ∧ nbrOf (plOf s n)
      x.frame.next = some e) ∧
    (∃ (n : Nat) (x : PlSent) (s : State), n < 16 ∧ plRuns s n = true ∧ (plOf s n).sent = some x) ∧
    (∃ (n : Nat) (x : PlSent) (s : State) (t : State), n < 16 ∧ plRuns s n = true ∧ (plOf s n).sent = some x ∧ x.retry = false ∧ t =
      countMiss n x.frame.next x.slot s) ∧
    (∃ (n : Nat) (short : Nat) (slot : Nat) (e : Neighbour) (t : State) (s : State), n < 16 ∧ plRuns s n = true ∧ nbrOf (plOf
      (endOldRefresh n s) n) short = some e ∧ (look {} e.fwd slot).pending = true ∧ (let c := plOf (endOldRefresh n s) n; (c.reply ++
      c.fwd ++ c.nulvo ++ c.host).any fun f => f.next == short) = false ∧ enqueuePl n
      { dest := short, next := short, queue := 2, secure := (plKeyIndex (endOldRefresh n s) (plOf (endOldRefresh n s) n).net).isSome }
      (endOldRefresh n s) = some t) ∧
    (∃ (n : Nat) (tag : Nat) (p : Reassembly) (s : State), n < 16 ∧ plRuns s n = true ∧ p ∈ (plOf s n).parts ∧ p.tag = tag ∧ p.last + 60 ≤
      tb1Sec s) ∧
    (∃ (n : Nat) (short : Nat) (e : Neighbour) (s : State), n < 16 ∧ plRuns s n = true ∧ nbrOf (plOf s n) short = some e ∧ e.heard + 86400
      ≤ tb1Sec s ∧ isNextHop (plOf s n) short = false) ∧
    (∃ (n : Nat) (d : Nat) (x : Route) (s : State), n < 16 ∧ plRuns s n = true ∧ routeOf (plOf s n) d = some x ∧ x.expiry ≤ tb1Sec s) :=
  ⟨⟨15, { plf with kind := 2 }, { up with line := { up.line with chans := [(15, { mode := 1, band := 0 })] } }, _, by decide, by decide, by
      decide, by decide, rfl, rfl, by decide, by decide, by decide⟩,
    ⟨15, { up with line := { up.line with chans := [(15, { mode := 1, acks := [{}] })] } }, {}, [], by decide, by decide, by decide, by
      decide⟩,
    ⟨15, grant, _, _, { up with line := { up.line with chans := [(15, { mode := 1, host := [{}] })] } }, by decide, by decide, by decide,
      by decide, by decide, by decide, rfl, by decide, by decide⟩,
    ⟨15, grant, { retry := true }, { up with line := { up.line with chans := [(15, { mode := 1, sent := some { retry := true } })] } }, by
      decide, by decide, by decide, by decide, by decide, by decide, by decide, by decide⟩,
    ⟨15, { frame := { next := 5 } }, {},
      { up with line := { up.line with chans := [(15, { mode := 1, sent := some { frame := { next := 5 } }, nbrs := [(5, {})] })] } }, by
      decide, by decide, by decide, by decide⟩,
    ⟨15, { frame := { next := 5 } },
      { up with line := { up.line with chans := [(15, { mode := 1, sent := some { frame := { next := 5 } }, nbrs := [(5, {})] })] } }, by
      decide, by decide, by decide⟩,
    ⟨15, { frame := { next := 5 }, sent := 6 },
      { up with line := { up.line with chans := [(15, { mode := 1, sent := some { frame := { next := 5 }, sent := 6 } })] } }, _, by
      decide, by decide, by decide, by decide, rfl⟩,
    ⟨15, 5, 0, _, _,
      { up with line := { up.line with chans := [(15, { mode := 1, nbrs := [(5, { fwd := [(0, { pending := true })] })] })] } }, by
      decide, by decide, rfl, by decide, by decide, rfl⟩,
    ⟨15, 7, { tag := 7 },
      { up with line := { up.line with chans := [(15, { mode := 1, parts := [{ tag := 7 }] })] }, clock := { up.clock with tbs := [(1, { acc := BitVec.ofNat 108 (60 * 2 ^ 72) })] } },
      by decide, by decide, by decide, by decide, by decide⟩,
    ⟨15, 5, {},
      { up with line := { up.line with chans := [(15, { mode := 1, nbrs := [(5, {})] })] }, clock := { up.clock with tbs := [(1, { acc := BitVec.ofNat 108 (86400 * 2 ^ 72) })] } },
      by decide, by decide, by decide, by decide, by decide⟩,
    ⟨15, 9, { next := 5 }, { up with line := { up.line with chans := [(15, { mode := 1, routes := [(9, some { next := 5 })] })] } }, by
      decide, by decide, by decide, by decide⟩⟩

theorem test_met_RadioCommandsComplete :
    (Met 0x0701 (fun _ r s => active s 9 = true ∧ arg r 0 1 < 6 ∧ isFenced s (119 + arg r 0 1) = false ∧ rfCfgChanges (rfOf s (arg r 0 1))
      r = false ∧ arg r 1 1 = 0 ∧ arg r 6 1 ≤ 1 ∧ arg r 3 1 ≤ 1 ∧ arg r 4 1 ≤ 1 ∧ arg r 5 1 ≤ 4 ∧ rfAccessBad r = false)) ∧
    (Met 0x0702 (fun _ r s => active s 9 = true ∧ arg r 0 1 ≤ 1 ∧ (1 ≤ arg r 7 1 ∧ arg r 7 1 ≤ 129) ∧ arg r 22 1 ≤ 127 ∧ arg r 23 2 ≤
      10000 ∧ arg r 25 2 ≤ arg r 23 2 ∧ planFits (arg r 1 4) (arg r 5 2) (arg r 7 1) = true ∧ arg r 20 1 = 0xFF ∧ arg r 21 1 = 0xFF ∧ (∀ n
      ∈ rfNetChannels s (arg r 0 1), rfTransmitting (rfOf s n) = false ∧ rfSending s n = false))) ∧
    (Met 0x0703 (fun _ r s => active s 9 = true ∧ arg r 0 1 < 6)) ∧
    (∃ (t : State), Met 0x0704 (fun src r s => rfLinkAddCheck src r s = none ∧ ensureDev (rfOf s (arg r 0 1)).net (linkArg r).eui (linkArg
      r).short s = some t)) ∧
    (∃ (l : Link), Met 0x0705 (fun _ r s => active s 9 = true ∧ arg r 0 1 < 6 ∧ isFenced s (119 + arg r 0 1) = false ∧ namedLink s r =
      some l ∧ 2 ≤ (arg r 3 4 + 2 ^ 32 - l.e) % 2 ^ 32 ∧ (arg r 3 4 + 2 ^ 32 - l.e) % 2 ^ 32 < 2 ^ 31 ∧ hopBad (rfNetAt s (arg r 0 1)).nCh
      (arg r 7 17) (arg r 24 1) (arg r 25 1) = false ∧ l.update = none)) ∧
    (Met 0x0706 (fun _ r s => active s 9 = true ∧ arg r 0 1 < 6 ∧ isFenced s (119 + arg r 0 1) = false ∧ (namedLink s r).isSome = true)) ∧
    (Met 0x0707 (fun _ r s => active s 9 = true ∧ (namedLink s r).isSome = true)) ∧
    (∃ (q : Nat) (i : Nat) (t : State), Met 0x0708 (fun src r s => src = .sq q i ∧ active s 9 = true ∧ arg r 0 1 < 6 ∧ isFenced s (119 +
      arg r 0 1) = false ∧ (rfOf s (arg r 0 1)).phy ≠ 0 ∧ Config.rfAirtimeUs (rfOf s (arg r 0 1)).phy (rfOf s (arg r 0 1)).rate
      (r.payload.length - 11) ≤ (rfOf s (arg r 0 1)).txOnMax * 1000 ∧ enqueueRf (arg r 0 1) (rfTxArg q i r) s = some t)) ∧
    (∃ (d : Device), Met 0x0709 (fun _ r s => active s 9 = true ∧ arg r 0 1 < 2 ∧ devOf (rfNetOf s (arg r 0 1)) (arg r 1 8) = some d ∧
      d.link = none)) :=
  ⟨met ([5, 0, 0, 0, 0, 0, 0, 0, 0, 0, 0, 0, 0, 7, 8, 5, 16, 39, 196, 1, 136, 19, 136, 19, 160, 15, 232, 3, 7, 1]) (up) (by decide),
    met ([1, 124, 43, 13, 0, 200, 0, 30, 0, 0, 0, 0, 0, 0, 0, 0, 0, 0, 0, 0, 255, 255, 127, 16, 39, 16, 39]) (up) (by decide),
    met ([5]) (up) (by decide),
    ⟨_, met ([5, 7, 0, 7, 0, 0, 0, 0, 0, 0, 0, 255, 100, 0, 0, 0, 144, 194, 245, 40, 0, 0, 0, 0, 0, 9, 0, 0, 0, 3, 0, 0, 0, 0, 0, 0, 0, 0,
      0, 0, 0, 0, 0, 0, 0, 0, 128, 1, 1, 0, 232, 3, 232, 3, 0, 0, 1, 1])
      ({ up with radio := { up.radio with chans := [(5, { phy := 1, net := 1 })], nets := [(1, { nCh := 2 })] } }) (⟨by decide +kernel,
      rfl⟩)⟩,
    ⟨{ short := 7 }, met ([5, 0, 0, 2, 0, 0, 0, 3, 0, 0, 0, 0, 0, 0, 0, 0, 0, 0, 0, 0, 0, 0, 0, 0, 128, 1])
      ({ up with radio := { up.radio with chans := [(5, { phy := 1, net := 1, links := [(0, some { short := 7 })] })], nets := [(1, { nCh := 2 })] } })
      (by decide +kernel)⟩,
    met ([5]) ({ up with radio := { up.radio with chans := [(5, { phy := 1, links := [(0, some { short := 7 })] })], nets := [] } }) (by
      decide),
    met ([5]) ({ up with radio := { up.radio with chans := [(5, { phy := 1, links := [(0, some { short := 7 })] })], nets := [] } }) (by
      decide),
    ⟨0, 0, _, metSq ([5])
      ({ up with radio := { up.radio with chans := [(5, { phy := 1, net := 1, txOnMax := Config.rfAirtimeUs 1 0 0 })], nets := [] } })
      (⟨rfl, by decide, by decide, by decide, by decide, Nat.le_mul_of_pos_right _ (by decide), rfl⟩)⟩,
    ⟨{ short := 7 }, met ([1, 7]) ({ up with radio := { up.radio with nets := [(1, { devices := [(7, { short := 7 })] })] } }) (by
      decide)⟩⟩

theorem test_met_RadioEventsTakeEffect :
    (∃ (n : Nat) (f : RfFrame) (e : Nat) (s : State), n < 6 ∧ rfRuns s n = true ∧ active s 9 = true ∧ f.fcsOk = true ∧ f.pan = (rfNetOf s
      (rfOf s n).net).pan ∧ f.broadcast = true ∧ senderEui (rfNetOf s (rfOf s n).net) f = some e) ∧
    (∃ (n : Nat) (f : RfFrame) (s : State), n < 6 ∧ rfRuns s n = true ∧ active s 9 = true ∧ f.fcsOk = true ∧ f.pan = (rfNetOf s (rfOf s
      n).net).pan ∧ f.broadcast = false ∧ f.dest ≠ (rfNetOf s (rfOf s n).net).short) ∧
    (∃ (n : Nat) (y : List Int) (z : List Int) (x : List Int) (a : Access) (s : State), n < 6 ∧ rfRuns s n = true ∧ x = accessLevels (rfOf
      s n) y z ∧ (rfOf s n).access = some a ∧ rfBusy (rfOf s n) x = true ∧ (rfOf s n).maxBackoffs ≤ a.busy + 1) ∧
    (∃ (n : Nat) (y : List Int) (z : List Int) (x : List Int) (a : Access) (s : State), n < 6 ∧ rfRuns s n = true ∧ x = accessLevels (rfOf
      s n) y z ∧ (rfOf s n).access = some a ∧ rfBusy (rfOf s n) x = false ∧ rfKeyLost s n a.frame = false ∧ csmaMayStart s n (csmaUs (rfOf
      s n) a.frame) = true ∧ a.frame.ack = true) ∧
    (∃ (n : Nat) (f : RfTxFrame) (s : State), n < 6 ∧ rfRuns s n = true ∧ (rfOf s n).downlink = none ∧ (rfOf s n).sent = some f) ∧
    (∃ (n : Nat) (f : RfTxFrame) (s : State), n < 6 ∧ rfRuns s n = true ∧ (rfOf s n).downlink = none ∧ (rfOf s n).sent = some f ∧ (rfOf s
      n).maxRetries < f.sent) ∧
    (∃ (n : Nat) (i : Nat) (l : Link) (s : State), n < 6 ∧ rfRuns s n = true ∧ linkOf (rfOf s n) i = some l ∧ l.state = .synced ∧ (rfOf s
      n).tuned = none ∧ (rfOf s n).downlink = none ∧ (rfOf s n).sent = none ∧ rfSending s n = false) ∧
    (∃ (n : Nat) (i : Nat) (l : Link) (s : State), n < 6 ∧ rfRuns s n = true ∧ linkOf (rfOf s n) i = some l ∧ (rfOf s n).tuned = none ∧
      l.hit = true ∧ l.state = .synced ∧ tooWide (applyUpdate { l with e := (l.e + 1) % 2 ^ 32, hit := false }) = false) ∧
    (∃ (n : Nat) (i : Nat) (l : Link) (s : State), n < 6 ∧ rfRuns s n = true ∧ linkOf (rfOf s n) i = some l ∧ (l.sup : Int) * 1000000000 ≤
      nsBetween (rfNow s n) l.aLast) ∧
    (∃ (n : Nat) (s : State), n < 6 ∧ rfRuns s n = true ∧ (rfNetAt s n).dutyLimit < 10000 ∧ (rfNetAt s n).dutyLimit * 360000 ≤ dutyUs s n)
      ∧
    (∃ (k : Nat) (e : Nat) (d : Device) (s : State), k < 2 ∧ fabricUp s = true ∧ active s 9 = true ∧ devOf (rfNetOf s k) e = some d ∧
      d.link = none ∧ d.heard + 86400 ≤ tb1Sec s) :=
  ⟨⟨5, { rff with broadcast := true }, 7, { up with radio := { up.radio with chans := [(5, { phy := 1, net := 1 })], nets := [] } }, by
      decide, by decide, by decide, by decide, by decide, by decide, by decide⟩,
    ⟨5, { rff with broadcast := false }, { up with radio := { up.radio with chans := [(5, { phy := 1, net := 1 })], nets := [] } }, by
      decide, by decide, by decide, by decide, by decide, by decide, by decide⟩,
    ⟨5, [0], [], [0], { busy := 4 },
      { up with radio := { up.radio with chans := [(5, { phy := 1, access := some { busy := 4 } })], nets := [] } }, by decide, by decide,
      by decide, by decide, by decide, by decide⟩,
    ⟨5, [], [], [], {}, { up with radio := { up.radio with chans := [(5, { phy := 1, access := some {} })], nets := [] } }, by decide, by
      decide, by decide, by decide, by decide, by decide, by decide, by decide⟩,
    ⟨5, { sent := 4 }, { up with radio := { up.radio with chans := [(5, { phy := 1, sent := some { sent := 4 } })], nets := [] } }, by
      decide, by decide, by decide, by decide⟩,
    ⟨5, { sent := 4 }, { up with radio := { up.radio with chans := [(5, { phy := 1, sent := some { sent := 4 } })], nets := [] } }, by
      decide, by decide, by decide, by decide, by decide⟩,
    ⟨5, 0, { short := 7 },
      { up with radio := { up.radio with chans := [(5, { phy := 1, links := [(0, some { short := 7 })] })], nets := [] } }, by decide, by
      decide, by decide, by decide, by decide, by decide, by decide, by decide⟩,
    ⟨5, 0, { hit := true },
      { up with radio := { up.radio with chans := [(5, { phy := 1, links := [(0, some { hit := true })] })], nets := [] } }, by decide, by
      decide, by decide, by decide, by decide, by decide, by decide⟩,
    ⟨5, 0, { short := 7 },
      { up with radio := { up.radio with chans := [(5, { phy := 1, links := [(0, some { short := 7 })] })], nets := [] } }, by decide, by
      decide, by decide, by decide⟩,
    ⟨5, { up with radio := { up.radio with chans := [(5, { phy := 1, net := 1 })], nets := [(1, { dutyLimit := 0 })] } }, by decide, by
      decide, by decide, by decide⟩,
    ⟨1, 7, { short := 7 },
      { up with radio := { up.radio with nets := [(1, { devices := [(7, { short := 7 })] })] }, clock := { up.clock with tbs := [(1, { acc := BitVec.ofNat 108 (86400 * 2 ^ 72) })] } },
      by decide, by decide, by decide, by decide, by decide, by decide⟩⟩

theorem test_met_IngestCommandsComplete :
    (Met 0x0801 (fun _ r s => arg r 0 1 < 16 ∧ active s (fipDomain (arg r 0 1)) = true)) ∧
    (Met 0x0802 (fun _ r s => arg r 0 1 < 16 ∧ active s (fipDomain (arg r 0 1)) = true ∧ isFenced s (8 + arg r 0 1) = false ∧ arg r 1 1 <
      128 ∧ (arg r 2 1 < 128 ∨ arg r 2 1 = 0xFF) ∧ arg r 3 1 ≤ 1 ∧ arg r 4 1 ≤ 1 ∧ (fipOf s (arg r 0 1)).flights = [])) ∧
    (Met 0x0803 (fun _ r s => (∀ i < 64, arg r i 1 < 16 ∧ active s (fipDomain (arg r i 1)) = true) ∧ 8 ≤ arg r 64 1 ∧ arg r 64 1 ≤ 128)) ∧
    (Met 0x0804 (fun _ r s => (∃ u, portUnit (arg r 0 1) = some u ∧ isFenced s u = false) ∧ (portNeeds7 (arg r 0 1) = true → active s 7 =
      true) ∧ arg r 1 1 ≤ 1 ∧ arg r 2 1 ≤ 1 ∧ arg r 5 1 ≤ 7 ∧ anyFlight s = false)) ∧
    (Met 0x0805 (fun _ r s => arg r 0 1 < 16 ∧ arg r 1 1 ≤ 32 ∧ (∀ k < arg r 1 1, (objectOf r k).kind ≤ 2) ∧ anyFlight s = false)) ∧
    (Met 0x0806 (fun _ r s => arg r 0 1 < 16 ∧ arg r 1 1 ≤ 1 ∧ 1 ≤ arg r 2 1 ∧ arg r 2 1 ≤ 96 ∧ anyFlight s = false)) ∧
    (∃ (t : State), Met 0x0807 (fun src r s => ctxWriteCheck src r s = none ∧ ctxValid (ctxWritten r (ctxOf s (arg r 0 4))) = true ∧
      ctxTitle (ctxWritten r (ctxOf s (arg r 0 4))) = ctxTitle (ctxOf s (arg r 0 4)) ∧ dirInsert
      { title := ctxTitle (ctxWritten r (ctxOf s (arg r 0 4))), ctx := arg r 0 4, gen := ctxGen (ctxWritten r (ctxOf s (arg r 0 4))) } s =
      some t)) ∧
    (Met 0x0808 (fun _ r s => active s 6 = true ∧ isFenced s 92 = false ∧ arg r 0 4 < 2097152)) ∧
    (Met 0x0809 (fun _ r s => active s 6 = true ∧ isFenced s 92 = false ∧ arg r 0 4 < 2097152)) ∧
    (Met 0x080A (fun _ r _ => arg r 0 1 = 0 ∧ arg r 1 4 < 2097152)) ∧
    (Met 0x080B (fun _ r s => arg r 0 1 < 16 ∧ active s (fipDomain (arg r 0 1)) = true ∧ isFenced s (8 + arg r 0 1) = false ∧ 1 ≤ arg r 3
      2 ∧ arg r 3 2 ≤ 1023 ∧ arg r 1 2 + arg r 3 2 ≤ 8192)) ∧
    (∃ (n : Nat) (i : Nat) (e : Entry) (f : Nat), Met 0x080C (fun src r s => src = .sq n i ∧ entryAt s n i = some e ∧ submitWaits src s =
      false ∧ ingSubmitCheck src r s = none ∧ steerTo s (submitDesc n i r e.fetched e.untrusted).steer (submitDesc n i r e.fetched
      e.untrusted).bytes.length = some f)) ∧
    (Met 0x080D (fun _ r s => active s 7 = true ∧ arg r 0 2 < 4096 ∧ arg r 2 1 ≤ 1 ∧ dtlsSlotBad (arg r 27 2) = false)) ∧
    (Met 0x080E (fun _ r s => active s 7 = true ∧ arg r 1 1 < 4 ∧ isFenced s (93 + arg r 1 1) = false ∧ arg r 0 1 < 128 ∧ dtlsSlotBad (arg
      r 20 2) = false ∧ 512 ≤ arg r 22 2 ∧ arg r 22 2 ≤ 8960 ∧ 100 ≤ arg r 24 4 ∧ arg r 24 4 ≤ 100000 ∧ 10 ≤ arg r 28 2 ∧ arg r 28 2 ≤
      10000)) ∧
    (Met 0x080F (fun _ r s => active s 7 = true ∧ arg r 0 1 < 4 ∧ isFenced s (99 + arg r 0 1) = false ∧ smbCfgBad r = false ∧ (smbOf s
      (arg r 0 1)).requests = [])) ∧
    (∃ (q : Nat) (i : Nat), Met 0x0810 (fun src r s => src = .sq q i ∧ active s 7 = true ∧ arg r 0 1 < 4 ∧ isFenced s (99 + arg r 0 1) =
      false ∧ (smbOf s (arg r 0 1)).mode ≠ 0 ∧ (smbOf s (arg r 0 1)).requests = [])) :=
  ⟨met ([15]) (up) (by decide),
    met ([15, 127, 255, 1, 1]) (up) (by decide),
    met (List.replicate 64 15 ++ [128]) (up) (by decide),
    met ([0x43, 1, 1, 0, 0, 7]) (up) (⟨⟨96, rfl, by decide⟩, by decide⟩),
    met ([15, 32]) (up) (by decide),
    met ([15, 1, 96]) (up) (by decide),
    ⟨_, met (List.replicate 14 0 ++ [1]) (up) (⟨by decide +kernel, by decide, by decide, rfl⟩)⟩,
    met ([255, 255, 31]) (up) (by decide),
    met ([255, 255, 31]) (up) (by decide),
    met ([0, 255, 255, 31]) (up) (by decide),
    met ([15, 1, 0x1C, 0xFF, 3]) (up) (by decide),
    ⟨0, 0, { req := req 0x080C [] }, 0, metSq ([]) (up) (by decide)⟩,
    met ([255, 15, 1, 0, 0, 0, 0, 0, 0, 0, 0, 0, 0, 0, 0, 0, 0, 0, 0, 0, 0, 0, 0, 0, 0, 0, 0, 255, 255]) (up) (by decide),
    met ([127, 3, 0, 0, 0, 0, 0, 0, 0, 0, 0, 0, 0, 0, 0, 0, 0, 0, 0, 0, 255, 0, 0, 35, 160, 134, 1, 0, 16, 39]) (up) (by decide),
    met ([3, 2, 128, 37, 0, 0, 1]) (up) (by decide),
    ⟨0, 0, metSq ([3]) ({ up with ingest := { up.ingest with smbs := [(3, { mode := 1 })] } }) (by decide)⟩⟩

theorem test_met_IngestEventsTakeEffect :
    (∃ (n : Nat) (ok : Bool) (coll : Bool) (s : State), n < 4 ∧ fabricUp s = true ∧ active s 7 = true ∧ isFenced s (99 + n) = false ∧
      (smbOf s n).mode ≠ 0 ∧ ((ok = false ∨ (coll = true ∧ (smbOf s n).mode = 2)))) ∧
    (∃ (n : Nat) (coll : Bool) (s : State), n < 4 ∧ fabricUp s = true ∧ active s 7 = true ∧ isFenced s (99 + n) = false ∧ (smbOf s n).mode
      ≠ 0 ∧ ((coll = true → (smbOf s n).mode ≠ 2))) ∧
    (∃ (n : Nat) (u : Nat) (s : State), n < 4 ∧ ethRuns s n = true ∧ u ≠ udpPort s (0x40 + n)) ∧
    (∃ (n : Nat) (a : Bytes) (b : Bytes) (s : State), n < 4 ∧ ethRuns s n = true ∧ dtlsRecord b = false ∧ peerOf s (beNat (fieldB b 4 8))
      a = none) ∧
    (∃ (n : Nat) (a : Bytes) (b : Bytes) (i : Nat) (s : State), n < 4 ∧ ethRuns s n = true ∧ dtlsRecord b = true ∧ dtlsSlotOf s a = some
      i) ∧
    (∃ (n : Nat) (a : Bytes) (b : Bytes) (p : Nat) (x : Peer) (l : _) (i : Nat) (e : _) (s : State), n < 4 ∧ ethRuns s n = true ∧
      dtlsRecord b = false ∧ peerOf s (beNat (fieldB b 4 8)) a = some (p, x) ∧ x.dtls = 0xFFFF ∧ innerFrames (fieldU b 16 2) (b.drop 32) =
      some l ∧ headerOk b 1 = true ∧ ((60 ≤ b.length ∧ b.length ≤ 8960)) ∧ ((1 ≤ fieldU b 16 2 ∧ fieldU b 16 2 ≤ 255)) ∧ s.ingest.ingress
      = [] ∧ findReply s (.envelope p (fieldU b 12 4)) none = some (i, e) ∧ e.sent = true) ∧
    (∃ (n : Nat) (a : Bytes) (b : Bytes) (p : Nat) (x : Peer) (l : _) (i : Nat) (w : EthWait) (s' : State) (t : State) (s : State), n < 4
      ∧ ethRuns s n = true ∧ dtlsRecord b = false ∧ peerOf s (beNat (fieldB b 4 8)) a = some (p, x) ∧ x.dtls = 0xFFFF ∧ innerFrames
      (fieldU b 16 2) (b.drop 32) = some l ∧ headerOk b 1 = true ∧ ((60 ≤ b.length ∧ b.length ≤ 8960)) ∧ ((1 ≤ fieldU b 16 2 ∧ fieldU b 16
      2 ≤ 255)) ∧ s.ingest.ingress = [] ∧ findReply s (.envelope p (fieldU b 12 4)) none = none ∧ w =
      { eth := n, peer := p, seq := fieldU b 12 4, frames := l, size := b.length, rx := tbVal s 0, untrusted := timeUntrusted s } ∧
      reserveReply { key := .envelope p (fieldU b 12 4), port := 0x40 + n, addr := p, open_ := l.length } s = some (i, s') ∧ placeAll
      (innerDescs w i 0 l) s' = some t) ∧
    (∃ (w : EthWait) (s : State), s.ingest.ingress ≠ [] ∧ ingressUsed s + w.size ≤ 1048576) ∧
    (∃ (n : Nat) (b : Bytes) (e : Envelope) (s : State), n < 4 ∧ ethRuns s n = true ∧ headerOk b 2 = true ∧ b.length = 32 ∧ fieldU b 16 2
      = 0 ∧ (s.ingest.uplink.unacked.find? fun x => x.seq == fieldU b 12 4) = some e ∧ s.ingest.uplink.eth = n) ∧
    (∃ (s : State), uplinkRuns s = true ∧ s.ingest.uplink.inner ≠ [] ∧ s.ingest.uplink.unacked.length < 16384) ∧
    (∃ (k : Nat) (e : Envelope) (s : State), uplinkRuns s = true ∧ (s.ingest.uplink.unacked.find? fun x => x.seq == k) = some e ∧
      e.attempts ≠ 7) ∧
    (∃ (n : Nat) (d : IngDesc) (rest : List IngDesc) (tag : Nat) (fl : Flight) (t : State) (s : State), n < 16 ∧ mayAdmit s n = true ∧
      (fipOf s n).fifo = d :: rest ∧ freeTag (fipOf s n) = some tag ∧ reserveAll n d s = .ok (fl, t)) ∧
    (∃ (n : Nat) (d : IngDesc) (rest : List IngDesc) (tag : Nat) (c : Credit) (t : State) (s : State), n < 16 ∧ mayAdmit s n = true ∧
      (fipOf s n).fifo = d :: rest ∧ freeTag (fipOf s n) = some tag ∧ reserveAll n d s = .error (c, t)) ∧
    (∃ (n : Nat) (q : Nat) (c : Nat) (s : State), n < 16 ∧ fabricUp s = true ∧ active s (fipDomain n) = true ∧ (fipOf s n).closed = some
      (.cells q c true) ∧ (hqOf s q).en = true ∧ c + 4096 ≤ s.host.pondFree) ∧
    (∃ (n : Nat) (fl : Flight) (tag : Nat) (s : State), n < 16 ∧ flightOf s n tag = some fl ∧ fl.verdict.isSome = true ∧ fipServes s n =
      true ∧ fl.entry = none ∧ ctxGen (ctxOf s fl.ctx) = ctxGen fl.seen ∧ ctxParse (ctxOf s fl.ctx) = 0xFF ∧ (parseApdu [] (fl.plain.getD
      [])).readings = none ∧ ctxLocal (ctxOf s fl.ctx) = true ∧ ctxUplink (ctxOf s fl.ctx) = false) ∧
    (∃ (n : Nat) (fl : Flight) (tag : Nat) (s : State), n < 16 ∧ flightOf s n tag = some fl ∧ fl.verdict.isSome = true ∧ fipServes s n =
      true ∧ ctxGen (ctxOf s fl.ctx) ≠ ctxGen fl.seen) ∧
    (∃ (n : Nat) (k : Nat) (c : Nat) (g : Nat) (r : List (Nat × Nat × Nat)) (s : State), n < 16 ∧ fipServes s n = true ∧ (fipOf s n).learn
      = (k, c, g) :: r) ∧
    (∃ (n : Nat) (s : State), n < 16 ∧ fipServes s n = true) ∧
    (∃ (q : Nat) (k : Nat) (i : Nat) (e : ReplyEntry) (s : State), q < 128 ∧ fabricUp s = true ∧ (s.host.delivered.find? fun x => x.1 == q
      && x.2.1 == k) = some (q, k, i) ∧ replyOf s i = some e) ∧
    (∃ (i : Nat) (e : ReplyEntry) (s : State), fabricUp s = true ∧ replyOf s i = some e ∧ e.sent = true) :=
  ⟨⟨3, false, true, { up with ingest := { up.ingest with smbs := [(3, { mode := 1 })] } }, by decide, by decide, by decide, by decide, by
      decide, by decide⟩,
    ⟨3, true, { up with ingest := { up.ingest with smbs := [(3, { mode := 1 })] } }, by decide, by decide, by decide, by decide, by
      decide, by decide⟩,
    ⟨3, 1, up, by decide, by decide, by decide⟩,
    ⟨3, [], [], up, by decide, by decide, by decide, by decide⟩,
    ⟨3, [], [0x2F], 7,
      { up with ingest := { up.ingest with peers := [(0, { enable := true, addr := List.replicate 16 0, dtls := 7 })] } }, by decide, by
      decide, by decide, by decide⟩,
    ⟨3, [], envelope, 0, peer0, _, 0, { key := .envelope 0 9, sent := true }, peerState [(0, some
      { key := .envelope 0 9, sent := true })], by decide +kernel, by decide +kernel, by decide +kernel, by decide +kernel, by
      decide +kernel, rfl, by decide +kernel, by decide +kernel, by decide +kernel, by decide +kernel, by decide +kernel, by
      decide +kernel⟩,
    ⟨3, [], envelope, 0, peer0, _, _, _, _, _, peerState [], by decide +kernel, by decide +kernel, by decide +kernel, by decide +kernel,
      by decide +kernel, rfl, by decide +kernel, by decide +kernel, by decide +kernel, by decide +kernel, by decide +kernel, rfl, rfl,
      rfl⟩,
    ⟨{ size := 8960 }, { up with ingest := { up.ingest with ingress := [{ size := 100 }] } }, by decide, by decide⟩,
    ⟨3, ackFrame, { seq := 9 }, { up with ingest := { up.ingest with uplink := { eth := 3, unacked := [{ seq := 9 }] } } }, by
      decide +kernel, by decide +kernel, by decide +kernel, by decide +kernel, by decide +kernel, by decide +kernel, by decide +kernel⟩,
    ⟨{ up with ingest := { up.ingest with uplink := { enable := true, inner := [[]] } } }, by decide, by decide, by decide⟩,
    ⟨3, { seq := 3 }, { up with ingest := { up.ingest with uplink := { enable := true, unacked := [{ seq := 3 }] } } }, by decide, by
      decide, by decide⟩,
    ⟨15, { bytes := [1] }, [], 0, _, _,
      { up with ingest := { up.ingest with fips := [(15, { fifo := [{ bytes := [1] }] })] }, host := { up.host with hqs := [(0, { en := true })] } },
      by decide, by decide, by decide, by decide, rfl⟩,
    ⟨15, { bytes := [1] }, [], 0, _, _,
      { up with ingest := { up.ingest with fips := [(15, { fifo := [{ bytes := [1] }] })] }, host := { up.host with pondFree := 0, hqs := [(0, { en := true, panA := { resv := 128 }, panB := { resv := 128 } })] } },
      by decide, by decide, by decide, by decide, rfl⟩,
    ⟨15, 0, 1,
      { up with ingest := { up.ingest with fips := [(15, { closed := some (.cells 0 1 true) })] }, host := { up.host with hqs := [(0, { en := true })] } },
      by decide, by decide, by decide, by decide, by decide, by decide⟩,
    ⟨15, { verdict := some .accept }, 0,
      { up with ingest := { up.ingest with fips := [(15, { flights := [{ verdict := some .accept }] })], ctxs := [(0, { line0 := List.replicate 9 0 ++ [4], line3 := List.replicate 7 0 ++ [255] })] } },
      by decide, by decide, by decide, by decide, by decide, by decide, by decide, by decide, by decide, by decide⟩,
    ⟨15, { verdict := some .accept }, 0,
      { up with ingest := { up.ingest with fips := [(15, { flights := [{ verdict := some .accept }] })], ctxs := [(0, { line0 := List.replicate 8 0 ++ [1] })] } },
      by decide, by decide, by decide, by decide, by decide⟩,
    ⟨15, 7, 0, 0, [],
      { up with ingest := { up.ingest with fips := [(15, { learn := [(7, 0, 0)] })] }, host := { up.host with perst := false } }, by
      decide, by decide, by decide⟩,
    ⟨15, up, by decide, by decide⟩,
    ⟨127, 5, 9, { records := 1 },
      { up with host := { up.host with delivered := [(127, 5, 9)] }, ingest := { up.ingest with replies := [(9, some { records := 1 })] } },
      by decide, by decide, by decide, by decide⟩,
    ⟨0, { sent := true }, { up with ingest := { up.ingest with replies := [(0, some { sent := true })] } }, by decide, by decide, by
      decide⟩⟩

theorem test_met_LaneRowsComplete :
    (Met 0x0920 (fun _ r s => active s 5 = true ∧ arg r 0 1 < 64)) ∧
    (∃ (m : Nat), Met 0x0921 (fun src r s => src = .mb m ∧ active s 5 = true ∧ arg r 0 1 < 64 ∧ (unitOf s (24 + arg r 0 1)).retired =
      false ∧ testable s (arg r 0 1) = true)) ∧
    (∃ (l : Nat) (m : Nat) (s : State), l < 64 ∧ fabricUp s = true ∧ working s 5 = true ∧ (laneOf s l).state = .test ∧ (laneOf s l).testMb
      = some m ∧ (unitOf s (24 + l)).state = .fenced) ∧
    (∃ (n : Nat), (n < 16) ∧ Met 0x0922 (fun _ r s => active s 5 = true ∧ arg r 0 1 = n ∧ arg r 1 1 ≤ 4)) ∧
    (Met 0x0925 (fun _ _ s => active s 5 = true)) ∧
    (Met 0x0926 (fun _ _ s => active s 5 = true)) ∧
    (∃ (k : Nat) (s : State), fabricUp s = true ∧ active s 5 = true ∧ s.keys.revocations.contains (some k) = true) ∧
    (∃ (l : Nat) (s : State), l < 64 ∧ laneTarget s l = some (l / 4)) ∧
    (∃ (l : Nat) (o : LaneOp) (i : Nat) (s : State), l < 64 ∧ fabricUp s = true ∧ working s 5 = true ∧ (laneOf s l).op = some o ∧
      sessionOf o.kind = some i) ∧
    (∃ (l : Nat) (o : LaneOp) (s : State), l < 64 ∧ fabricUp s = true ∧ working s 5 = true ∧ (laneOf s l).op = some o) ∧
    (∃ (n : Nat) (q : LaneReq) (rest : List LaneReq) (i : Nat) (s : State), n < 16 ∧ fabricUp s = true ∧ laneQueue s n = q :: rest ∧
      sessionOf q.kind = some i ∧ q.since.toNat * 1000000 / 2 ^ 36 + 10000 ≤ tb1Us s) :=
  ⟨met ([63]) (up) (by decide),
    ⟨2, met ([63]) (up) (by decide)⟩,
    ⟨63, 2,
      { up with lanes := { up.lanes with lanes := [(63, { state := .test, testMb := some 2 })] }, log := { up.log with units := [(87, { state := .fenced })] } },
      by decide, by decide, by decide, by decide, by decide, by decide⟩,
    ⟨15, by decide, met ([15, 4]) (up) (by decide)⟩,
    met ([]) (up) (by decide),
    met ([]) (up) (by decide),
    ⟨63, { up with keys := { up.keys with revocations := [some 63] } }, by decide, by decide, by decide⟩,
    ⟨63, { up with lanes := { up.lanes with queues := [(15, [{}])] } }, by decide, by decide⟩,
    ⟨63, { kind := .update 255 }, 255,
      { up with lanes := { up.lanes with lanes := [(63, { state := .busy, op := some { kind := .update 255 } })] } }, by decide, by
      decide, by decide, by decide, by decide⟩,
    ⟨63, {}, { up with lanes := { up.lanes with lanes := [(63, { state := .busy, op := some {} })] } }, by decide, by decide, by decide,
      by decide⟩,
    ⟨15, { kind := .update 255 }, [], 255,
      { up with lanes := { up.lanes with queues := [(15, [{ kind := .update 255 }])] }, clock := { up.clock with tbs := [(1, { acc := BitVec.ofNat 108 (2 ^ 72) })] } },
      by decide, by decide, by decide, by decide, by decide⟩⟩

theorem test_met_BalanceCommandsComplete :
    (Met 0x0A01 (fun _ r s => active s 6 = true ∧ (isLocal (arg r 0 4) = true → active s 10 = true) ∧ isFenced s 5 = false ∧ groupBad r =
      false ∧ (isLocal (arg r 0 4) = true → localBad s (arg r 0 4) (groupAsked r {}) = false) ∧ (grpOf s (arg r 0 4)).enable = false)) ∧
    (∃ (i : BalInterval), Met 0x0A02 (fun src r s => balFeedCheck src r s = none ∧ openAt (grpOf s (arg r 0 4)) (arg r 4 9 / 2 ^ 36) =
      some i)) ∧
    (Met 0x0A02 (fun src r s => balFeedCheck src r s = none ∧ openAt (grpOf s (arg r 0 4)) (arg r 4 9 / 2 ^ 36) = none ∧ mayOpen s (grpOf
      s (arg r 0 4)) (arg r 4 9 / 2 ^ 36) = false)) ∧
    (Met 0x0A03 (fun _ r s => active s 6 = true ∧ arg r 0 4 < 65568)) ∧
    (∃ (i : BalInterval) (l : List BalInterval), Met 0x0A04 (fun _ r s => active s 6 = true ∧ isFenced s 5 = false ∧ arg r 0 4 < 65568 ∧
      (grpOf s (arg r 0 4)).opens = i :: l)) ∧
    (Met 0x0A05 (fun _ r s => active s 6 = true ∧ arg r 0 4 < 65568)) ∧
    (Met 0x0A06 (fun _ r s => active s 6 = true ∧ isFenced s 5 = false ∧ phaseCfgBad r = false)) ∧
    (Met 0x0A07 (fun _ r s => active s 6 = true ∧ arg r 0 4 < 2097152)) ∧
    (Met 0x0A08 (fun _ r s => active s 6 = true ∧ isFenced s 5 = false ∧ arg r 0 4 < 2097152)) ∧
    (Met 0x0A09 (fun _ r s => active s 6 = true ∧ isFenced s 5 = false ∧ arg r 0 1 < 128)) :=
  ⟨met ([255, 255, 0, 0, 1, 0, 160, 5, 60, 0, 0, 0, 232, 3, 0, 0, 0, 0, 0, 0, 0, 0, 0, 0, 0, 0, 0, 0, 0, 0, 0, 0, 0, 0, 0, 0, 0, 0]) (up) (by
      decide),
    ⟨{}, met ([255, 255]) ({ up with balance := { up.balance with groups := [(65535, { enable := true, opens := [{}] })] } }) (by
      decide)⟩,
    met ([255, 255]) ({ up with balance := { up.balance with groups := [(65535, { enable := true })] } }) (by decide),
    met ([31, 0, 1]) (up) (by decide),
    ⟨{}, [], met ([31, 0, 1]) ({ up with balance := { up.balance with groups := [(65567, { opens := [{}] })] } }) (by decide)⟩,
    met ([31, 0, 1]) (up) (by decide),
    met ([0, 16, 0, 32, 231, 3, 244, 1, 231, 3, 4]) (up) (by decide),
    met ([255, 255, 31]) (up) (by decide),
    met ([255, 255, 31]) (up) (by decide),
    met ([127]) (up) (by decide)⟩

theorem test_met_BalanceEventsTakeEffect :
    (∃ (k : Nat) (s : State), k < 65568 ∧ groupServes s k = true ∧ (grpOf s k).enable = true ∧ (grpOf s k).last < groupBoundary s (grpOf s
      k)) ∧
    (∃ (k : Nat) (i : BalInterval) (l : List BalInterval) (s : State), k < 65568 ∧ groupServes s k = true ∧ (grpOf s k).opens = i :: l ∧
      i.start + 60 * (grpOf s k).len + (grpOf s k).deadline ≤ tb2Sec s) ∧
    (∃ (k : Nat) (i : BalInterval) (l : List BalInterval) (s : State), k < 65568 ∧ groupServes s k = true ∧ (grpOf s k).opens = i :: l ∧ 0
      < (grpOf s k).deadline ∧ tb2Sec s < i.start ∧ ((∀ x ∈ l, tb2Sec s < x.start))) ∧
    (∃ (k : Nat) (c : BalClosed) (q : Nat) (t : State) (s : State), k < 65568 ∧ groupServes s k = true ∧ waitingClosed (grpOf s k) = some
      c ∧ s.balance.outHq = some q ∧ firstClosed s c = true ∧ emitRecord q (c.header ++ c.payload) s = some t) ∧
    (∃ (i : Nat) (b : Bytes) (q : Nat) (t : State) (s : State), i < 2097152 ∧ balServes s = true ∧ active s 6 = true ∧ (phaseOf s
      i).pending = some b ∧ s.balance.outHq = some q ∧ emitRecord q b s = some t) :=
  ⟨⟨65567,
      { up with balance := { up.balance with groups := [(65567, { enable := true })] }, clock := { up.clock with tbs := [(2, { valid := true, acc := BitVec.ofNat 108 (900 * 2 ^ 72) })] } },
      by decide, by decide, by decide, by decide⟩,
    ⟨65567, { start := 900 }, [],
      { up with balance := { up.balance with groups := [(65567, { opens := [{ start := 900 }] })] }, clock := { up.clock with tbs := [(2, { valid := true, acc := BitVec.ofNat 108 (5400 * 2 ^ 72) })] } },
      by decide, by decide, by decide, by decide⟩,
    ⟨65567, { start := 900 }, [],
      { up with balance := { up.balance with groups := [(65567, { opens := [{ start := 900 }] })] }, clock := { up.clock with tbs := [(2, { valid := true, acc := BitVec.ofNat 108 (899 * 2 ^ 72) })] } },
      by decide, by decide, by decide, by decide, by decide, by decide⟩,
    ⟨65567, { payload := [1] }, 0, _,
      { up with balance := { up.balance with groups := [(65567, { ring := [{ payload := [1] }] })], outHq := some 0 }, host := { up.host with hqs := [(0, { en := true })] } },
      by decide, by decide, by decide, by decide, by decide, rfl⟩,
    ⟨2097151, [1], 0, _,
      { up with balance := { up.balance with phases := [(2097151, { pending := some [1] })], outHq := some 0 }, host := { up.host with hqs := [(0, { en := true })] } },
      by decide, by decide, by decide, by decide, by decide, rfl⟩⟩

theorem test_met_LifeCycleAndTamperRowsTakeEffect :
    (Met 0x0B20 (fun _ _ _ => True)) ∧
    (∃ (m : Nat), Met 0x0B22 (fun src _ s => src = .mb m ∧ active s 5 = true ∧ isFenced s 88 = false ∧ (activeRoot s).isSome = true ∧
      (rootFor s (lcNext (lcState s))).isSome = true ∧ s.keys.rngHealthy = true)) ∧
    (∃ (old : Bytes) (new : Bytes), MetSigned 0x0B22 (fun _ _ s => active s 5 = true ∧ isFenced s 88 = false ∧ activeRoot s = some old ∧
      rootFor s (lcNext (lcState s)) = some new ∧ s.keys.rngHealthy = true)) ∧
    (∃ (x : LcRun) (j : Journal) (s : State), fabricUp s = true ∧ s.keys.run = some x ∧ s.keys.journal = some j ∧
      s.keys.revocations.contains none = false) ∧
    (∃ (m : Nat) (b : Bytes) (s : State), fabricUp s = true ∧ s.keys.recover = some (m, b)) ∧
    (∃ (x : TamperSample) (s : State) (u : State), sampleTrips s x = true ∧ u = noteSample x s ∧ sourceOn u (sampleClass x) = true ∧
      u.power.aux = true ∧ u.keys.alarmHold = false ∧ lcState u ≠ .void ∧ fabricUp u = true) ∧
    (∃ (x : TamperSample) (s : State) (u : State), sampleTrips s x = true ∧ u = noteSample x s ∧ sourceOn u (sampleClass x) = true ∧
      u.power.aux = false) ∧
    (∃ (x : TamperSample) (s : State), sampleTrips s x = false) ∧
    (∃ (k : Nat) (s : State), 8 ≤ k ∧ debugClosed s = true ∧ s.power.aux = true) ∧
    (∃ (die : Nat) (t : Int) (c : Int) (s : State) (u : State), u = (if s.power.main then cutoff die t (warmCrossing die t c s) else s)) ∧
    (Met 0x090D (fun _ r s => isFenced s 137 = false ∧ (∀ i < 8, arg r i 1 ≤ 2) ∧ (∀ i < 13, arg r (8 + i) 1 ≤ 1) ∧ (lcState s =
      .provision ∨ tightens s (cfgModes r) (cfgActions r) = true) ∧ cfgModes r ≠ s.keys.modes)) ∧
    (Met 0x090E (fun _ _ _ => True)) ∧
    (Met 0x090F (fun _ _ _ => True)) ∧
    (∃ (s : State), s.power.aux = true ∧ s.keys.rngHealthy = true) ∧
    (∃ (s : State), s.power.aux = true ∧ s.keys.rngHealthy = true) ∧
    (∃ (s : State) (t : State) (u : State) (v : _) (w : _), s.power.aux = true ∧ s.power.main = true ∧ s.keys.rngHealthy = true ∧ t =
      (remaskTab s.keys.auks s).2 ∧ u = (remaskTab t.keys.omkRecs t).2 ∧ v = (remaskTab u.keys.gks u).2 ∧ w = (remaskRam v.keys.laneRam
      v).2) ∧
    (∃ (s : State), s.power.aux = true ∧ s.power.main = true ∧ s.keys.rngHealthy = false) ∧
    (∃ (n : Nat) (q : PkeReq) (s : State) (t : State), n < 4 ∧ fabricUp s = true ∧ working s 5 = true ∧ pkeRunning s n = some q ∧ t =
      (let u := setPke n none s;
      { u with keys := { u.keys with pkeOps := put 0 u.keys.pkeOps n ((look 0 u.keys.pkeOps n + 1) % 2 ^ 32) } })) ∧
    (∃ (i : Nat) (q : PkeReq) (s : State), fabricUp s = true ∧ working s 5 = true ∧ s.keys.pkeQueue[i]? = some q ∧ q.risen = false ∧
      pkeWait ≤ tbVal s 1 - q.since) :=
  ⟨met ([]) (up) (by decide),
    ⟨2, met ([]) (up) (⟨rfl, by decide, by decide, rfl, rfl, rfl⟩)⟩,
    ⟨_, _, metSigned ([]) (up) (⟨by decide, by decide, rfl, rfl, rfl⟩)⟩,
    ⟨{ mb := 3 }, {}, { up with keys := { up.keys with run := some { mb := 3 }, journal := some {} } }, by decide, by decide, by decide,
      by decide⟩,
    ⟨2, [], { up with keys := { up.keys with recover := some (2, []) } }, by decide, by decide⟩,
    ⟨.shield 7 true, up, _, by decide, rfl, by decide, by decide, by decide, by decide, by decide⟩,
    ⟨.shield 7 true, State.reset, _, by decide, rfl, by decide, by decide⟩,
    ⟨.shield 7 false, up, by decide⟩,
    ⟨8, up, by decide, by decide, by decide⟩,
    ⟨0, 1351, 600, up, _, rfl⟩,
    met ([2, 2, 2, 2, 2, 2, 2, 2, 1, 1, 1, 1, 1, 1, 1, 1, 1, 1, 1, 1, 1]) (up) (by decide),
    met ([]) (up) (by decide),
    met ([]) (up) (by decide),
    ⟨up, by decide, by decide⟩,
    ⟨up, by decide, by decide⟩,
    ⟨up, _, _, _, _, by decide, by decide, by decide, rfl, rfl, rfl, rfl⟩,
    ⟨{ up with keys := { up.keys with rngHealthy := false } }, by decide, by decide, by decide⟩,
    ⟨3, { cls := 1 }, { up with keys := { up.keys with pkeRun := [(3, some { cls := 1 })] } }, _, by decide, by decide, by decide, by
      decide, rfl⟩,
    ⟨0, { cls := 3 },
      { up with keys := { up.keys with pkeQueue := [{ cls := 3 }] }, clock := { up.clock with tbs := [(1, { acc := BitVec.ofNat 108 (2 ^ 75) })] } },
      by decide, by decide, by decide, by decide, by decide⟩⟩

theorem test_met_KeyCommandsComplete :
    (∃ (i : Nat), Met 0x0903 (fun _ r s => isFenced s 137 = false ∧ arg r 0 1 < 64 ∧ s.keys.revocations.contains (some (arg r 0 1)) =
      false ∧ (omkOf s (arg r 0 1)).candidate = some i ∧ (omkOf s (arg r 0 1)).verified = true ∧ (omkOf s (arg r 0 1)).current = none ∧
      (omkOf s (arg r 0 1)).grace = none ∧ (omkOf s (arg r 0 1)).graceSecs ≠ 0)) ∧
    (∃ (i : Nat) (c : Nat), Met 0x0903 (fun _ r s => isFenced s 137 = false ∧ arg r 0 1 < 64 ∧ s.keys.revocations.contains (some (arg r 0
      1)) = false ∧ (omkOf s (arg r 0 1)).candidate = some i ∧ (omkOf s (arg r 0 1)).verified = true ∧ (omkOf s (arg r 0 1)).current =
      some c ∧ (omkOf s (arg r 0 1)).grace = none ∧ (omkOf s (arg r 0 1)).graceSecs ≠ 0)) ∧
    (Met 0x0904 (fun _ r s => isFenced s 137 = false ∧ arg r 0 1 < 64 ∧ s.keys.revocations.contains (some (arg r 0 1)) = false ∧ omkBlank
      (omkOf s (arg r 0 1)) = false)) ∧
    (∃ (slot : Nat) (s : State), slot < 64 ∧ fabricUp s = true ∧ (omkOf s slot).grace.isSome = true ∧ graceLeft s (omkOf s slot) = 0) ∧
    (Met 0x0923 (fun _ r s => active s 5 = true ∧ isFenced s 7 = false ∧ arg r 0 1 < 64 ∧ (omkOf s (arg r 0 1)).current.isSome = true)) ∧
    (Met 0x0924 (fun _ r s => isFenced s 137 = false ∧ arg r 0 1 < 64 ∧ arg r 1 4 ≤ 604800 ∧ (omkOf s (arg r 0 1)).current.isSome = true ∧
      (omkOf s (arg r 0 1)).grace = none)) ∧
    (∃ (m : Nat), Met 0x0907 (fun src r s => src = .mb m ∧ active s 5 = true ∧ isFenced s 137 = false ∧ isFenced s 88 = false ∧ arg r 0 1
      < 255 ∧ arg r 1 1 = 4 ∧ usageOk 4 (arg r 2 1) = true ∧ s.keys.rngHealthy = true ∧ (gkRec s (arg r 0 1)).typ = 0)) ∧
    (MetSigned 0x0907 (fun _ r s => active s 5 = true ∧ isFenced s 137 = false ∧ isFenced s 88 = false ∧ arg r 0 1 < 255 ∧ arg r 1 1 = 4 ∧
      usageOk 4 (arg r 2 1) = true ∧ s.keys.rngHealthy = true ∧ (gkRec s (arg r 0 1)).typ = 0)) ∧
    (Met 0x0908 (fun _ r s => isFenced s 137 = false ∧ (gkRec s (arg r 0 1)).typ ≠ 0)) ∧
    (∃ (m : Nat), Met 0x090A (fun src _ s => src = .mb m ∧ active s 5 = true ∧ isFenced s 137 = false ∧ isFenced s 88 = false ∧
      (activeRoot s).isSome = true)) ∧
    (∃ (root : Bytes), MetSigned 0x090A (fun _ _ s => active s 5 = true ∧ isFenced s 137 = false ∧ isFenced s 88 = false ∧ activeRoot s =
      some root)) ∧
    (∃ (m : Nat), Met 0x090C (fun src r s => src = .mb m ∧ isFenced s 137 = false ∧ arg r 0 1 ≤ 15)) ∧
    (∃ (m : Nat) (k : Nat) (s : State), m < 64 ∧ fabricUp s = true ∧ look none s.host.lockout m = some k) :=
  ⟨⟨2, met ([63]) ({ up with keys := { up.keys with omks := [(63, { candidate := some 2, verified := true })] } }) (by decide)⟩,
    ⟨2, 1, met ([63]) ({ up with keys := { up.keys with omks := [(63, { candidate := some 2, verified := true, current := some 1 })] } })
      (by decide)⟩,
    met ([63]) ({ up with keys := { up.keys with omks := [(63, { candidate := some 2 })] } }) (by decide),
    ⟨63, { up with keys := { up.keys with omks := [(63, { grace := some 1, graceSecs := 0 })] } }, by decide, by decide, by decide, by
      decide⟩,
    met ([63]) ({ up with keys := { up.keys with omks := [(63, { current := some 1 })] } }) (by decide),
    met ([63, 128, 58, 9, 0]) ({ up with keys := { up.keys with omks := [(63, { current := some 1 })] } }) (by decide),
    ⟨2, met ([254, 4, 40]) (up) (by decide)⟩,
    metSigned ([254, 4, 40]) (up) (by decide),
    met ([254]) ({ up with keys := { up.keys with gks := [(254, { typ := 1 })] } }) (by decide),
    ⟨2, met ([]) (up) (⟨rfl, by decide, by decide, by decide, rfl⟩)⟩,
    ⟨_, metSigned ([]) (up) (⟨by decide, by decide, by decide, rfl⟩)⟩,
    ⟨2, met ([15]) (up) (by decide)⟩,
    ⟨63, 15, { up with host := { up.host with lockout := [(63, some 15)] } }, by decide, by decide, by decide⟩⟩

theorem test_met_FirmwareRowsTakeEffect :
    (Met 0x0B01 (fun _ _ _ => True)) ∧
    (∃ (m : Nat) (x : Staging) (s : State), served s = true ∧ s.firm.staging = some x ∧ x.erased = false ∧ x.mb = some m) ∧
    (∃ (x : Staging), Met 0x0B03 (fun _ r s => s.firm.staging = some x ∧ x.erased = true ∧ x.closing = false ∧ arg r 0 4 % 4096 = 0 ∧ arg
      r 0 4 + (r.payload.length - 4) ≤ x.length)) ∧
    (∃ (m : Nat) (x : Staging), Met 0x0B04 (fun src _ s => src = .mb m ∧ s.firm.staging = some x ∧ x.erased = true ∧ x.closing = false)) ∧
    (∃ (x : Staging), Met 0x0B05 (fun _ _ s => s.firm.staging = some x ∧ x.closing = false)) ∧
    (Met 0x0B08 (fun _ _ s => fwBusy s = false ∧ (bankOf s s.firm.active).state = .trial)) ∧
    (Met 0x0B0A (fun _ r _ => noDigest r = false)) ∧
    (∃ (m : Nat) (b : Nat), Met 0x0B06 (fun src r s => src = .mb m ∧ activateBank s (arg r 0 1) = some b ∧ fwBusy s = false ∧
      s.power.transition = none ∧ s.power.removePending = false)) ∧
    (∃ (a : Activation) (m : Nat) (s : State), fabricUp s = true ∧ s.firm.act = some a ∧ a.step = .pause ∧ a.scheduled = false ∧ a.mb =
      some m) ∧
    (∃ (m : Nat) (b : Nat) (k : Nat), Met 0x0B07 (fun src r s => src = .mb m ∧ argT r 0 ≠ 0 ∧ arg r 9 1 ≤ 1 ∧ isFenced s 4 = false ∧ (tb s
      0).valid = true ∧ oneSecond ≤ timeDiff (argT r 0) (tbVal s 0) ∧ stagedBank s = some b ∧ fwBusy s = false ∧ s.power.removePending =
      false ∧ freeSlot s = some k)) ∧
    (Met 0x0B07 (fun _ r _ => argT r 0 = 0 ∧ arg r 9 1 ≤ 1)) ∧
    (∃ (k : Nat) (m : Scheduled) (s : State), k < 4 ∧ fabricUp s = true ∧ look none s.clock.slots k = some m ∧ m.chain = false ∧
      m.activate = false ∧ m.target ≤ tbVal s 0) ∧
    (∃ (f : AethTrigger) (k : Nat) (s : State), aethenoUp s = true ∧ s.clock.syncIn = true ∧ f.crcOk = true ∧ f.activate = false ∧
      freeSlot s = some k) :=
  ⟨met ([]) (up) (by decide),
    ⟨2, { mb := some 2 }, { up with firm := { up.firm with staging := some { mb := some 2 } } }, by decide, by decide, by decide, by
      decide⟩,
    ⟨{ length := 4096, erased := true }, met ([0, 0, 0, 0, 1])
      ({ up with firm := { up.firm with staging := some { length := 4096, erased := true } } }) (by decide)⟩,
    ⟨2, { length := 4096, erased := true }, met ([])
      ({ up with firm := { up.firm with staging := some { length := 4096, erased := true } } }) (by decide)⟩,
    ⟨{}, met ([]) ({ up with firm := { up.firm with staging := some {} } }) (by decide)⟩,
    met ([]) ({ up with firm := { up.firm with bank0 := { state := .trial } } }) (by decide),
    met ([1]) (up) (by decide),
    ⟨2, 1, met ([255]) ({ up with firm := { up.firm with bank1 := { state := .staged } } }) (by decide)⟩,
    ⟨{ mb := some 2, step := .pause }, 2, { up with firm := { up.firm with act := some { mb := some 2, step := .pause } } }, by decide, by
      decide, by decide, by decide, by decide⟩,
    ⟨2, 1, 0, met ([0, 0, 0, 0, 16])
      ({ up with firm := { up.firm with bank1 := { state := .staged } }, clock := { up.clock with tbs := [(0, { valid := true })] } }) (by
      decide)⟩,
    met ([0, 0, 0, 0, 0, 0, 0, 0, 0, 1]) (up) (by decide),
    ⟨3, { target := 0, id := 1 }, { up with clock := { up.clock with slots := [(3, some { target := 0, id := 1 })] } }, by decide, by
      decide, by decide, by decide, by decide, by decide⟩,
    ⟨{ target := 0, id := 0, activate := false, crcOk := true }, 0,
      { up with clock := { up.clock with aetheno := true, syncIn := true } }, by decide, by decide, by decide, by decide, by decide⟩⟩

theorem test_met_FaultRowsTakeEffect :
    (∃ (pair : Nat) (s : State), pair < 2 ∧ fabricUp s = true) ∧
    (∃ (pair : Nat) (s : State), pair < 2 ∧ fabricUp s = true) ∧
    (∃ (u : Nat) (s : State), u < 138 ∧ s.power.aux = true) ∧
    (∃ (s : State), s.power.aux = true) ∧
    (∃ (d : Nat) (s : State), d < 12 ∧ s.power.aux = true) ∧
    (∃ (e : EccError) (s : State), e.unit < 138 ∧ s.power.aux = true ∧ e.place = .workingMemory) ∧
    (∃ (e : EccError) (s : State), e.unit < 138 ∧ s.power.aux = true ∧ e.place = .codeStore) ∧
    (∃ (e : EccError) (s : State), e.unit < 138 ∧ s.power.aux = true ∧ e.place = .dramTables) ∧
    (∃ (e : EccError) (s : State), e.unit < 138 ∧ s.power.aux = true ∧ e.place = .dramRuntime) ∧
    (∃ (e : EccError) (s : State), e.unit < 138 ∧ s.power.aux = true ∧ e.place = .pondCell) ∧
    (∃ (e : EccError) (s : State), e.unit < 138 ∧ s.power.aux = true ∧ e.place = .frameBuffer) ∧
    (∃ (src : _) (r : _) (s : State) (t : State), Ready 0x0C08 src r s ∧ (lcState s = .mfg ∨ lcState s = .provision) ∧ arg r 0 1 < 138 ∧
      arg r 1 1 ≤ 3 ∧ arg r 2 2 < 4096 ∧ t = answer src r {} s (logEv 0xC0C (arg r 0 1) 0xFFFF [snapN (arg r 2 2), snapN (arg r 1 1)] s))
      ∧
    (∃ (u : Nat) (s : State), u < 138 ∧ (unitOf s u).state = .handlingF1) ∧
    (∃ (u : Nat) (s : State), u < 138 ∧ (unitOf s u).state = .handlingF1) ∧
    (∃ (u : Nat) (s : State), u < 138 ∧ (unitOf s u).state = .handlingF2 ∧ fabricUp s = true) ∧
    (∃ (m : Nat) (r : _) (s : State), Ready 0x0C07 (.mb m) r s ∧ arg r 0 1 < 138 ∧ active s (unitDomain (arg r 0 1)) = true ∧ fenceable
      (arg r 0 1) = true ∧ (unitOf s (arg r 0 1)).state = .fenced ∧ (unitOf s (arg r 0 1)).retired = false) ∧
    (∃ (u : Nat) (m : Nat) (s : State), u < 138 ∧ (unitOf s u).state = .recovering ∧ (unitOf s u).recoverMb = some m) ∧
    (∃ (u : Nat) (m : Nat) (s : State), u < 138 ∧ (unitOf s u).state = .recovering ∧ (unitOf s u).recoverMb = some m) ∧
    (∃ (found : List Mismatch) (s : State), fabricUp s = true ∧ ((∀ m ∈ found, m.unit < 138))) ∧
    (∃ (m : Mismatch) (s : State), ((∀ x ∈ (unitOf s m.unit).mismatches, x.1 ≠ m.item)) ∧ shownState s m.unit = .ready ∧ fabricUp s = true
      ∧ m.unit < 138) :=
  ⟨⟨1, up, by decide, by decide⟩,
    ⟨1, up, by decide, by decide⟩,
    ⟨137, up, by decide, by decide⟩,
    ⟨up, by decide⟩,
    ⟨11, up, by decide, by decide⟩,
    ⟨{ place := .workingMemory, unit := 137, addr := 0, syndrome := 0, work := 0 }, up, by decide, by decide, by decide⟩,
    ⟨{ place := .codeStore, unit := 137, addr := 0, syndrome := 0, work := 0 }, up, by decide, by decide, by decide⟩,
    ⟨{ place := .dramTables, unit := 137, addr := 0, syndrome := 0, work := 0 }, up, by decide, by decide, by decide⟩,
    ⟨{ place := .dramRuntime, unit := 137, addr := 0, syndrome := 0, work := 0 }, up, by decide, by decide, by decide⟩,
    ⟨{ place := .pondCell, unit := 137, addr := 0, syndrome := 0, work := 0 }, up, by decide, by decide, by decide⟩,
    ⟨{ place := .frameBuffer, unit := 137, addr := 0, syndrome := 0, work := 0 }, up, by decide, by decide, by decide⟩,
    ⟨.mb 2, req 0x0C08 [137, 3, 0xFF, 0x0F], ask 2 (req 0x0C08 [137, 3, 0xFF, 0x0F]) up, _, ready_ask _ 2 _ _ (by decide) (by decide), by
      decide, by decide, by decide, by decide, rfl⟩,
    ⟨137, { up with log := { up.log with units := [(137, { state := .handlingF1 })] } }, by decide, by decide⟩,
    ⟨137, { up with log := { up.log with units := [(137, { state := .handlingF1 })] } }, by decide, by decide⟩,
    ⟨137, { up with log := { up.log with units := [(137, { state := .handlingF2 })] } }, by decide, by decide, by decide⟩,
    ⟨2, req 0x0C07 [137], ask 2 (req 0x0C07 [137]) ({ up with log := { up.log with units := [(137, { state := .fenced })] } }), ready_ask
      _ 2 _ _ (by decide) (by decide), by decide, by decide, by decide, by decide, by decide⟩,
    ⟨137, 2, { up with log := { up.log with units := [(137, { state := .recovering, recoverMb := some 2 })] } }, by decide, by decide, by
      decide⟩,
    ⟨137, 2, { up with log := { up.log with units := [(137, { state := .recovering, recoverMb := some 2 })] } }, by decide, by decide, by
      decide⟩,
    ⟨[{ item := 0, unit := 137, hardware := 0, intent := 1 }], up, by decide, by decide⟩,
    ⟨{ item := 0, unit := 137, hardware := 0, intent := 1 }, up, by decide, by decide, by decide, by decide⟩⟩

theorem test_met_LogbookCommandsComplete :
    (Met 0x0C01 (fun _ _ _ => True)) ∧
    (Met 0x0C02 (fun _ r _ => 1 ≤ arg r 4 2 ∧ arg r 4 2 ≤ 512)) ∧
    (Met 0x0C03 (fun _ _ _ => True)) ∧
    (Met 0x0C04 (fun _ r _ => arg r 0 2 < 4096 ∧ 10 ≤ arg r 2 4 ∧ arg r 2 4 ≤ 3600000)) ∧
    (Met 0x0C05 (fun _ _ _ => True)) ∧
    (Met 0x0C06 (fun _ r _ => arg r 0 1 < 138)) ∧
    (∃ (s : State), fabricUp s = true) ∧
    (∃ (code : Nat) (s : State) (b : Bucket), s.power.aux = true ∧ b = bucketOf s code ∧ b.used ≠ 0 ∧ refillPeriod code b * 68719476736 ≤
      (bucketClock s - b.since).toNat * 1000) ∧
    (∃ (code : Nat) (s : State), s.power.aux = true ∧ (bucketClock s - (bucketOf s code).since).toNat * 1000 < refillPeriod code (bucketOf
      s code) * 68719476736) ∧
    (∃ (s : State), fabricUp s = true) ∧
    (∃ (s : State), fabricUp s = true ∧ s.log.cursor < 2 ^ 32 - 1) :=
  ⟨met ([]) (up) (by decide),
    met ([0, 0, 0, 0, 0, 2]) (up) (by decide),
    met ([]) (up) (by decide),
    met ([255, 15, 128, 238, 54, 0]) (up) (by decide),
    met ([]) (up) (by decide),
    met ([137]) (up) (by decide),
    ⟨up, by decide⟩,
    ⟨0xC01,
      { up with log := { up.log with buckets := [(0xC01, { used := 1 })] }, clock := { up.clock with tbs := [(1, { acc := BitVec.ofNat 108 (2 ^ 107) })] } },
      _, by decide, rfl, by decide, by decide +kernel⟩,
    ⟨0xC01, up, by decide, by decide⟩,
    ⟨up, by decide⟩,
    ⟨{ up with log := { up.log with cursor := 2 ^ 32 - 2 } }, by decide, by decide⟩⟩

theorem test_met_RemovalRunsItsSteps :
    (∃ (s : State), s.power.main = true ∧ s.power.prsnt = true ∧ s.power.removePending = false ∧ fabricUp s = true) ∧
    (∃ (v : Word32) (s : State), fabricUp s = true ∧ v.getLsbD 0 = true ∧ s.power.removePending = false) ∧
    (∃ (s : State), s.power.main = true ∧ s.power.prsnt = true ∧ s.power.removePending = true) ∧
    (∃ (s : State) (x : Removal), fabricUp s = true ∧ s.power.removal = some x ∧ x.step = .inflight ∧ s.firm.stage ≠ .pause ∧ ((noFlights
      s = true ∨ 100000 ≤ usSince x.start s))) ∧
    (∃ (s : State) (x : Removal), fabricUp s = true ∧ s.power.removal = some x ∧ x.step = .drain ∧ s.keys.run = none ∧ s.firm.legalAct =
      none ∧ ((allUndelivered s = 0 ∨ x.drain * 1000 ≤ usSince x.start s))) ∧
    (Met 0x0130 (fun _ r s => arg r 0 2 ≤ 60000 ∧ s.power.removal = none)) ∧
    (∃ (m : Nat) (r : _) (s : State) (t : State) (u : State), Ready 0x0131 (.mb m) r s ∧ s.power.safe = true ∧ s.power.prsnt = true ∧
      s.power.removeReq = false ∧ s.power.transition = none ∧ t = clearRemoval s ∧ u = resumePower t) ∧
    (∃ (s : State) (ds : List Nat) (m : Nat) (x : Bool) (t : State) (u : State), fabricUp s = true ∧ s.power.transition = some
      { domains := ds, on := true, by_ := .resume m, discarded := x } ∧ t = ds.foldl (fun u d => powerUp d ((List.range 64).filter fun l
      => !Config.laneTestOk s.power.starts l) u) s ∧ u = logHp 0x133 [snapN (ofBits ((List.range 12).map ds.contains))]
      { t with power := { t.power with transition := none } }) :=
  ⟨⟨up, by decide, by decide, by decide, by decide⟩,
    ⟨1, up, by decide, by decide, by decide⟩,
    ⟨{ up with power := { up.power with removePending := true } }, by decide, by decide, by decide⟩,
    ⟨{ up with power := { up.power with removal := some {} } }, {}, by decide, by decide, by decide, by decide, by decide⟩,
    ⟨{ up with power := { up.power with removal := some { step := .drain } } }, { step := .drain }, by decide, by decide, by decide, by
      decide, by decide, by decide⟩,
    met ([0x60, 0xEA]) (up) (by decide),
    ⟨2, req 0x0131 [], ask 2 (req 0x0131 []) ({ up with power := { up.power with safe := true } }), _, _, ready_ask _ 2 _ _ (by decide)
      (by decide), by decide, by decide, by decide, by decide, rfl, rfl⟩,
    ⟨{ up with power := { up.power with transition := some { domains := [3], on := true, by_ := .resume 2 } } }, [3], 2, false, _, _, by
      decide, by decide, rfl, rfl⟩⟩

theorem test_met_PowerLinkAndResetRowsTakeEffect :
    (∃ (s : State), s.power.aux = true ∧ s.power.prsnt = false) ∧
    (∃ (s : State), s.power.switch = true ∧ s.power.main = false) ∧
    (∃ (s : State), s.power.aux = true ∧ s.power.prsnt = true ∧ s.power.switch = false ∧ s.power.main = false ∧ 1 ≤ s.power.attempts ∧
      s.power.attempts < 3) ∧
    (∃ (s : State), s.power.aux = true ∧ s.power.prsnt = true ∧ s.power.switch = true ∧ s.power.main = false ∧ s.firm.pfail = false) ∧
    (∃ (s : State), s.power.aux = true ∧ s.host.perst = false ∧ s.power.main = true) ∧
    (∃ (s : State), s.host.linkUp = true) ∧
    (∃ (s : State), fabricUp s = true ∧ active s 7 = true ∧ s.host.perst = false ∧ s.host.linkUp = false) ∧
    (∃ (v : Word32) (s : State), fabricUp s = true ∧ v.toNat / 256 % 256 = 0xA5 ∧ v.toNat % 2 = 1) ∧
    (∃ (v : Word32), v.toNat / 256 % 256 ≠ 0xA5) ∧
    (∃ (s : State), s.power.aux = true ∧ s.power.rstIn = false ∧ s.power.main = true ∧ s.log.restart = none) ∧
    (∃ (s : State), s.power.rstIn = true ∧ s.power.main = true ∧ s.power.thermalHold = false) ∧
    (∃ (s : State) (r : Restart), s.power.main = true ∧ s.power.thermalHold = false ∧ s.power.rstIn = false ∧ s.log.restart = some r ∧
      bitOf s.power.on 10 = false) ∧
    (∃ (temps : List Int) (s : State), s.power.thermalHold = true ∧ ((∀ t ∈ temps, t < 1000)) ∧ s.power.main = true ∧ s.power.rstIn =
      false ∧ s.log.restart = none) ∧
    (∃ (temps : List Int), ((∃ t ∈ temps, 1000 ≤ t))) :=
  ⟨⟨{ State.reset with power := { aux := true } }, by decide, by decide⟩,
    ⟨{ State.reset with power := { switch := true } }, by decide, by decide⟩,
    ⟨{ State.reset with power := { aux := true, prsnt := true, attempts := 2 } }, by decide, by decide, by decide, by decide, by decide,
      by decide⟩,
    ⟨{ State.reset with power := { aux := true, prsnt := true, switch := true } }, by decide, by decide, by decide, by decide, by decide⟩,
    ⟨up, by decide, by decide, by decide⟩,
    ⟨up, by decide⟩,
    ⟨{ up with host := { up.host with linkUp := false } }, by decide, by decide, by decide, by decide⟩,
    ⟨0xA501, up, by decide, by decide, by decide⟩,
    ⟨1, by decide⟩,
    ⟨up, by decide, by decide, by decide, by decide⟩,
    ⟨{ up with power := { up.power with rstIn := true } }, by decide, by decide, by decide⟩,
    ⟨{ up with power := { up.power with on := 0 }, log := { up.log with restart := some {} } }, {}, by decide, by decide, by decide, by
      decide, by decide⟩,
    ⟨[999], { up with power := { up.power with thermalHold := true } }, by decide, by decide, by decide, by decide, by decide⟩,
    ⟨[999, 1000], ⟨1000, by decide, by decide⟩⟩⟩

theorem test_met_StepRunsTheFrontCommand :
    (∃ (c : Instr) (rest : List Instr) (s : State), s.pending = c :: rest) ∧
    (∃ (s : State), s.pending = []) :=
  ⟨⟨.auxSupplyPresent, [], { up with pending := [.auxSupplyPresent] }, by decide⟩,
    ⟨up, by decide⟩⟩

theorem test_met_NoCommandStopsTheModule :
    (∃ (c : Instr) (rest : List Instr) (s : State), s.pending = c :: rest ∧ c.wellFormed = true) ∧
    (∃ (s : State), s.pending = []) :=
  ⟨⟨.auxSupplyPresent, [], { up with pending := [.auxSupplyPresent] }, by decide, by decide⟩,
    ⟨up, by decide⟩⟩

theorem test_met_StepsKeepQueueAndMemories :
    ∃ (s : State) (t : State), step s = .next t :=
  ⟨{ up with pending := [.auxSupplyPresent] }, up, rfl⟩

theorem test_met_LegalRecordsAreNeverLost :
    ∃ (s : State) (t : State), TamperStored s ∧ step s = .next t :=
  ⟨{ up with pending := [.auxSupplyPresent], legal := { up.legal with tamper := [(5, writeTamper { count := 3 })] } }, _,
    by unfold TamperStored; decide +kernel, rfl⟩

theorem test_met_ResetLeavesTheStatedValues :
    ∃ (n : Nat), n ≠ 2 :=
  ⟨0, by decide⟩

theorem test_met_ReservationsStayWithinThePans :
    ∃ (q : Nat) (k : Nat) (s : State) (pl : Place) (t : State), reserve q k s = (some pl, t) ∧ panUsed (hqOf s q).panA ≤ 128 ∧ panUsed
      (hqOf s q).panB ≤ 128 :=
  ⟨0, 128, { up with host := { up.host with hqs := [(0, { en := true })] } }, _, _, rfl, by decide, by decide⟩

theorem test_met_VectorsAndNoticesReachTheHost :
    (∃ (v : Nat) (s : State), v < 256 ∧ s.host.msixEnable = false) ∧
    (∃ (v : Nat) (s : State), v < 256 ∧ s.host.msixEnable = true ∧ msixWord s v 3 = 1) ∧
    (∃ (v : Nat) (s : State), s.host.msixEnable = true ∧ msixWord s v 3 = 0 ∧ pcieServes s = true) :=
  ⟨⟨255, up, by decide, by decide⟩,
    ⟨255, { up with host := { up.host with msixEnable := true } }, by decide, by decide, by decide⟩,
    ⟨255, { up with host := { up.host with msixEnable := true, msixTable := [(1023, 1)] } }, by decide, by decide, by decide⟩⟩

theorem test_met_UnavailableUnitsTurnCommandsAway :
    (Met 0x0202 (fun _ r s => settable (arg r 0 1) = true ∧ active s (tbDomain (arg r 0 1)) = false)) ∧
    (Met 0x0203 (fun _ r s => settable (arg r 0 1) = true ∧ active s (tbDomain (arg r 0 1)) = true ∧ isFenced s (tbUnit (arg r 0 1)) =
      true)) ∧
    (Met 0x030B (fun _ _ s => active s 10 = false)) ∧
    (Met 0x030B (fun _ _ s => active s 10 = true ∧ isFenced s 125 = true)) ∧
    (Met 0x0501 (fun _ _ s => active s 11 = false)) ∧
    (Met 0x0601 (fun _ _ s => active s 8 = false)) ∧
    (Met 0x0601 (fun _ r s => active s 8 = true ∧ arg r 0 1 < 16 ∧ isFenced s (103 + arg r 0 1) = true)) ∧
    (Met 0x0701 (fun _ _ s => active s 9 = false)) ∧
    (Met 0x0701 (fun _ r s => active s 9 = true ∧ arg r 0 1 < 6 ∧ isFenced s (119 + arg r 0 1) = true)) ∧
    (Met 0x0802 (fun _ r s => arg r 0 1 < 16 ∧ active s (fipDomain (arg r 0 1)) = false)) ∧
    (Met 0x0807 (fun _ _ s => active s 6 = false)) ∧
    (Met 0x0807 (fun _ _ s => active s 6 = true ∧ isFenced s 92 = true)) ∧
    (Met 0x0807 (fun _ r s => active s 6 = true ∧ isFenced s 92 = false ∧ ctxKeyMode (ctxWritten r {}) = 1 ∧ ctxSuite (ctxWritten r {}) =
      1)) ∧
    (Met 0x0A04 (fun _ _ s => active s 6 = true ∧ isFenced s 5 = true)) ∧
    (Met 0x0120 (fun _ r _ => arg r 0 1 < 3)) ∧
    (Met 0x0120 (fun _ r s => 3 ≤ arg r 0 1 ∧ arg r 0 1 ≤ 11 ∧ arg r 0 1 ≠ 10 ∧ arg r 1 1 = 1 ∧ inForce s (arg r 0 1) 1 = false ∧
      inTransition s (arg r 0 1) = false ∧ dependencyFails s (arg r 0 1) 1 = true)) ∧
    (Met 0x0120 (fun _ r s => 3 ≤ arg r 0 1 ∧ arg r 0 1 ≤ 11 ∧ arg r 0 1 ≠ 10 ∧ arg r 1 1 ≤ 1 ∧ inForce s (arg r 0 1) (arg r 1 1) = false
      ∧ (inTransition s (arg r 0 1) = true ∨ dependencyFails s (arg r 0 1) (arg r 1 1) = false) ∧ s.power.transition.isSome = true)) :=
  ⟨met ([10]) ({ up with power := { up.power with joined := 0 } }) (by decide),
    met ([10]) ({ up with log := { up.log with units := [(4, { state := .fenced })] } }) (by decide),
    met ([]) ({ up with power := { up.power with joined := 0 } }) (by decide),
    met ([]) ({ up with log := { up.log with units := [(125, { state := .fenced })] } }) (by decide),
    met ([]) ({ up with power := { up.power with joined := 0 } }) (by decide),
    met ([]) ({ up with power := { up.power with joined := 0 } }) (by decide),
    met ([15]) ({ up with log := { up.log with units := [(118, { state := .fenced })] } }) (by decide),
    met ([]) ({ up with power := { up.power with joined := 0 } }) (by decide),
    met ([5]) ({ up with log := { up.log with units := [(124, { state := .fenced })] } }) (by decide),
    met ([15]) ({ up with power := { up.power with joined := 0 } }) (by decide),
    met ([]) ({ up with power := { up.power with joined := 0 } }) (by decide),
    met ([]) ({ up with log := { up.log with units := [(92, { state := .fenced })] } }) (by decide),
    met (List.replicate 69 0 ++ [1, 0, 0, 1]) (up) (by decide),
    met ([]) ({ up with log := { up.log with units := [(5, { state := .fenced })] } }) (by decide),
    met ([2]) (up) (by decide),
    met ([11, 1]) ({ up with power := { up.power with on := 0 } }) (by decide),
    met ([11, 0]) ({ up with power := { up.power with transition := some {} } }) (by decide)⟩

theorem test_met_RefusedStepsChangeNoTime :
    (∃ (n : Nat) (s : State), n < 12 ∧ tbWritable s n = true ∧ hostOwns s n = true ∧ ((tb s n).valid = false ∨ (tb s n).lost = true)) ∧
    (∃ (n : Nat) (s : State), n < 12 ∧ tbWritable s n = true ∧ hostOwns s n = true ∧ stepsTaken s n = true) ∧
    (∃ (n : Nat) (p : PendStep) (s : State), DistinctKeys s.clock.tbs ∧ (tb s n).pend = some p ∧ (((tb s n).valid = false ∨ (tb s n).lost
      = true ∨ (tb s n).limit.toNat < p.sum.natAbs))) :=
  ⟨⟨10, up, by decide, by decide, by decide, by decide⟩,
    ⟨10, { up with clock := { up.clock with tbs := [(10, { valid := true })] } }, by decide, by decide, by decide, by decide⟩,
    ⟨10, { sum := -1 }, { up with clock := { up.clock with tbs := [(10, { valid := true, pend := some { sum := -1 } })] } },
      by unfold DistinctKeys; decide, by decide, by decide⟩⟩

theorem test_met_EveryTickAddsTheIncrement :
    (∃ (n : Nat) (s : State), n ∈ [1, 4, 5, 6, 7, 8, 9, 10] ∧ DistinctKeys s.clock.tbs ∧ tbRuns s n = true) ∧
    (∃ (n : Nat) (s : State), n ∈ [1, 4, 5, 6, 7, 8, 9, 10] ∧ DistinctKeys s.clock.tbs ∧ tbRuns s n = false) ∧
    (∃ (s : State), DistinctKeys s.clock.tbs ∧ tbRuns s 0 = true ∧ (tb s 0).source ≠ 2 ∧ (tb s 0).source ≠ 4) ∧
    (∃ (s : State), DistinctKeys s.clock.tbs ∧ active s 10 = true ∧ s.power.bypass = true) ∧
    (∃ (s : State), DistinctKeys s.clock.tbs) ∧
    (∃ (s : State), s.pending = [] ∧ ((∀ n < 12, (tb s n).pend = none))) :=
  ⟨⟨10, up, by decide, by unfold DistinctKeys; decide, by decide⟩,
    ⟨10, State.reset, by decide, by unfold DistinctKeys; decide, by decide⟩,
    ⟨up, by unfold DistinctKeys; decide, by decide, by decide, by decide⟩,
    ⟨{ up with power := { up.power with bypass := true } }, by unfold DistinctKeys; decide, by decide, by decide⟩,
    ⟨up, by unfold DistinctKeys; decide⟩,
    ⟨up, by decide, by decide⟩⟩

theorem test_met_FaultsMoveOnlyTheirUnit :
    (∃ (s : State), DistinctKeys s.log.units ∧ s.log.restart = none) ∧
    (∃ (u : Nat) (s : State), s.log.restart = none ∧ unitOff s u = false ∧ (unitOf s u).state = .ready) ∧
    (∃ (u : Nat) (s : State), s.log.restart = none ∧ unitOff s u = false ∧ (unitOf s u).state = .ready ∧ fenceable u = true) ∧
    (∃ (u : Nat) (cls : Nat) (s : State), (cls = 1 ∨ cls = 2) ∧ s.log.restart = none ∧ unitOff s u = false ∧ (unitOf s u).state =
      .handlingF1 ∧ fenceable u = true) ∧
    (∃ (u : Nat) (s : State), s.log.restart = none ∧ fenceable u = true ∧ unitOff s u = false ∧ (unitOf s u).state = .ready ∧ u ≠ 125 ∧ u
      ≠ 126 ∧ 2 ≤ (recent (ageSec s) 86400 (unitOf s u).fences).length) ∧
    (∃ (u : Nat) (cls : Nat) (s : State), s.log.restart = none ∧ unitOff s u = false ∧ fenceable u = false ∧ (((cls = 2 ∧ (unitOf s
      u).state = .ready) ∨ ((cls = 1 ∨ cls = 2) ∧ (unitOf s u).state = .handlingF1)))) ∧
    (∃ (s : State), s.log.restart = none) ∧
    (∃ (u : Nat) (s : State), s.log.restart.isSome = true ∧ u ≠ 125 ∧ u ≠ 126) :=
  ⟨⟨up, by unfold DistinctKeys; decide, by decide⟩,
    ⟨137, up, by decide, by decide, by decide⟩,
    ⟨137, up, by decide, by decide, by decide, by decide⟩,
    ⟨137, 2, { up with log := { up.log with units := [(137, { state := .handlingF1 })] } }, by decide, by decide, by decide, by decide, by
      decide⟩,
    ⟨137, { up with log := { up.log with units := [(137, { fences := [0, 0] })] } }, by decide, by decide, by decide, by decide, by
      decide, by decide, by decide⟩,
    ⟨136, 2, up, by decide, by decide, by decide, by decide⟩,
    ⟨up, by decide⟩,
    ⟨137, { up with log := { up.log with restart := some {} } }, by decide, by decide, by decide⟩⟩

theorem test_met_RecordsTakeTheirToken :
    (∃ (c : LogCall) (s : State), fabricUp s = true ∧ (bucketOf s c.code).used < 8 ∧ s.log.staging.length < 256 ∧ (unitOf s 6).state =
      .ready) ∧
    (∃ (c : LogCall) (s : State), fabricUp s = true ∧ ((8 ≤ (bucketOf s c.code).used ∨ 256 ≤ s.log.staging.length ∨ (unitOf s 6).state ≠
      .ready))) :=
  ⟨⟨{ code := 0xC01 }, { up with log := { up.log with buckets := [(0xC01, { used := 7 })] } }, by decide, by decide, by decide, by decide⟩,
    ⟨{ code := 0xC01 }, { up with log := { up.log with buckets := [(0xC01, { used := 8 })] } }, by decide, by decide⟩⟩

theorem test_met_NoCounterIsAcceptedTwice :
    (∃ (c : Ctx) (l : List (Nat × Nat)) (i : Nat) (j : Nat), i < j ∧ (verdicts c l)[i]? = some Verdict.accept ∧ (verdicts c l)[j]? = some
      Verdict.accept) ∧
    (∃ (c : Ctx) (ic : Nat) (f : Nat), (replayDecide c ic f).1 = .accept) ∧
    (∃ (c : Ctx) (ic : Nat) (f : Nat), (replayDecide c ic f).1 ≠ .accept) :=
  ⟨⟨{}, [(1, 0), (2, 0)], 0, 1, by decide, by decide, by decide⟩,
    ⟨{}, 1, 0, by decide⟩,
    ⟨{ icTop := 70 }, 1, 0, by decide⟩⟩

theorem test_met_JunctionEntriesRoundTrip :
    ∃ (title : Nat) (ctx : Nat) (gen : Nat) (age : Nat), title < 2 ^ 64 ∧ ctx < 2 ^ 21 ∧ gen < 256 ∧ age < 256 :=
  ⟨2 ^ 64 - 1, 2 ^ 21 - 1, 255, 255, by decide, by decide, by decide, by decide⟩

theorem test_met_MasksKeepTheirKey :
    ∃ (a : Bytes) (b : Bytes) (m : Bytes), a.length = b.length ∧ m.length = a.length :=
  ⟨[1], [2], [3], by decide, by decide⟩

theorem test_met_EnginesServeByClassThenAge :
    ∃ (l : List PkeReq) (r : PkeReq), pkeNext l = some r :=
  ⟨[{ cls := 1 }], { cls := 1 }, by decide⟩

theorem test_met_LifeCycleIsReadFromTheFuses :
    (∃ (t : Nat) (k : Nat), k ≤ 5 ∧ ((∀ i < 5, (bitOf t (2 * i) || bitOf t (2 * i + 1)) = decide (i < k)))) ∧
    (∃ (t : Nat), ((¬ ∃ k, k ≤ 5 ∧ ∀ i < 5, (bitOf t (2 * i) || bitOf t (2 * i + 1)) = decide (i < k)))) :=
  ⟨⟨0x3FF, 5, by decide, by decide⟩,
    ⟨0x00C, by decide⟩⟩

theorem test_met_RegistersKeepTheirValue :
    (∃ (r : EnergyReg), regMin ≤ liveValue r ∧ liveValue r ≤ regMax) ∧
    (∃ (r : EnergyReg), regMin < liveValue r ∧ liveValue r < regMax) ∧
    (∃ (r : EnergyReg), ((regMax ≤ liveValue r ∨ liveValue r ≤ regMin))) :=
  ⟨⟨{}, by decide, by decide⟩,
    ⟨{}, by decide, by decide⟩,
    ⟨{ pending := regMax }, by decide⟩⟩

theorem test_met_ConfigurationStaysInItsPart :
    ∃ (src : Src) (s : State) (t : State), src ≠ .mb 1 ∧ exec (.msCapture src) s = .next t :=
  ⟨.mb 2, ask 2 (req 0x020A []) up, _, by decide, rfl⟩

/-! ### Witnesses that rest on an uninterpreted function

A key, token or signature is accepted or not by functions the model does not interpret: these witnesses name the value such a function
would have to give. -/

/-- A request with payload `p` stands in mailbox 2 of a state `s`. -/
abbrev at2 (op : Nat) (p : Bytes) (s : State) : State := ask 2 (req op p) s

def zeros : List Int := List.replicate 65 0
theorem test_met_MetrologyEventsTakeEffect_2 (r : List Int) (hg : exceedsPpm (gainBg 0 (injectedSum zeros) (injectedSum r)) 1073741824 5000 = false) :
    ∃ (z r : List Int) (s : State), bitOf s.power.on 10 = true ∧ s.meter.rot.suspended = true
      ∧ spareBad (freshFrom (chanOf s s.meter.rot.ain).gainExp (injectedSum z) (injectedSum r)) = false :=
  ⟨zeros, r, { up with meter := { up.meter with rot := { suspended := true } } }, by decide, rfl, by
    show spareBad (freshFrom 0 (injectedSum zeros) (injectedSum r)) = false
    have hz : openDiv ((injectedSum zeros).1 * 256) (injectedSum zeros).2 = 0 := by decide
    simp [spareBad, freshFrom, hg, hz]⟩

theorem test_met_LifeCycleAndTamperRowsTakeEffect_3 (ks : Bytes) (p : Bytes) (hp : p.length = 208) (hb : bundleHas p 3 = true)
    (hk : bundleKeys (Config.root 0 2) p = some ks) :
    ∃ root, Met 0x0B21 (fun src r s => src = .mb 3 ∧ r.session = 0 ∧ lcState s = .provision ∧ arg r 0 1 = 3 ∧ r.payload.length = 209
      ∧ rootFor s .field = some root ∧ bundleKeys root (fieldB r.payload 1 208) = some ks
      ∧ bundleHas (fieldB r.payload 1 208) 3 = true ∧ s.keys.latch = false ∧ s.keys.alarmHold = false ∧ s.keys.rngHealthy = true
      ∧ s.keys.run = none) := by
  have hf : fieldB (3 :: p) 1 208 = p := by simp [fieldB, ← hp]
  exact ⟨_, met3 (3 :: p) up ⟨rfl, rfl, (show lcState up = .provision by decide), rfl, by simp [req, hp], rfl,
    by show bundleKeys (Config.root 0 2) (fieldB (3 :: p) 1 208) = some ks; rw [hf]; exact hk,
    by show bundleHas (fieldB (3 :: p) 1 208) 3 = true; rw [hf]; exact hb, rfl, rfl, rfl, rfl⟩⟩

def held : State := { up with keys := { up.keys with alarmHold := true } }
theorem test_met_LifeCycleAndTamperRowsTakeEffect_5 (t : Bytes) (h : tokenOk (at2 0x0B23 t held) 6 (t.take 256) = true)
    (hg : tripHolds (at2 0x0B23 t held) = false) :
    ∃ m, Met 0x0B23 (fun src r s => src = .mb m ∧ s.keys.alarmHold = true ∧ tokenOk s 6 (r.payload.take 256) = true
      ∧ tripHolds s = false) :=
  ⟨2, met t held ⟨rfl, rfl, h, hg⟩⟩
theorem test_met_LifeCycleAndTamperRowsTakeEffect_7 (t : Bytes) (h : tokenOk (at2 0x0B24 t up) 3 t = true) :
    Met 0x0B24 (fun _ r s => lcState s = .provision ∧ tokenOk s 3 r.payload = true ∧ s.keys.rngHealthy = true) :=
  met t up ⟨(show lcState up = .provision by decide), h, rfl⟩
theorem test_met_KeyCommandsComplete_0 (p key : Bytes) (h : omkImport (at2 0x0901 (63 :: 0 :: p) up) (req 0x0901 (63 :: 0 :: p)) = some key) :
    ∃ m, Met 0x0901 (fun src r s => src = .mb m ∧ active s 5 = true ∧ isFenced s 137 = false ∧ isFenced s 88 = false ∧ arg r 0 1 < 64
      ∧ arg r 1 1 = 0 ∧ s.keys.rngHealthy = true ∧ s.keys.revocations.contains (some (arg r 0 1)) = false
      ∧ (omkImport s r).isSome = true) :=
  ⟨2, met (63 :: 0 :: p) up ⟨rfl, (show active up 5 = true by decide), (show isFenced up 137 = false by decide),
    (show isFenced up 88 = false by decide), by show (63 : Nat) < 64; decide, rfl, rfl, rfl, by rw [h]; rfl⟩⟩
theorem test_met_KeyCommandsComplete_1 (p key : Bytes)
    (h : omkImport (started2 (req 0x0901 (63 :: 0 :: p)) up) (req 0x0901 (63 :: 0 :: p)) = some key) :
    MetSigned 0x0901 (fun _ r s => active s 5 = true ∧ isFenced s 137 = false ∧ isFenced s 88 = false ∧ arg r 0 1 < 64 ∧ arg r 1 1 = 0
      ∧ s.keys.rngHealthy = true ∧ s.keys.revocations.contains (some (arg r 0 1)) = false ∧ omkImport s r = some key
      ∧ (omkOf s (arg r 0 1)).candidate = none) :=
  metSigned (63 :: 0 :: p) up ⟨(show active up 5 = true by decide), (show isFenced up 137 = false by decide),
    (show isFenced up 88 = false by decide), by show (63 : Nat) < 64; decide, rfl, rfl, rfl, h, rfl⟩

/-- A key-wrapping key stands in general slot 7, and operator slot 63 holds a candidate. -/
def wrapping : State :=
  { up with keys := { up.keys with gks := [(7, sealRec { typ := 2, usage := 16 })], omks := [(63, { candidate := some 0 })] } }
theorem gkFits_ask (n : Nat) (r : Req) (s : State) (k u : Nat) (l : List Nat) : gkFits (ask n r s) k l u = gkFits s k l u := rfl
theorem wrapping_fits (op : Nat) (p : Bytes) : gkFits (at2 op p wrapping) 7 [2] 4 = true := by
  rw [gkFits_ask]
  decide +kernel
theorem test_met_KeyCommandsComplete_2 (p key : Bytes) (h : omkImport (at2 0x0901 (63 :: 1 :: 7 :: p) wrapping) (req 0x0901 (63 :: 1 :: 7 :: p)) = some key) :
    ∃ i, Met 0x0901 (fun _ r s => isFenced s 137 = false ∧ arg r 0 1 < 64 ∧ arg r 1 1 = 1 ∧ s.keys.rngHealthy = true
      ∧ s.keys.revocations.contains (some (arg r 0 1)) = false ∧ gkFits s (arg r 2 1) [2] 4 = true ∧ omkImport s r = some key
      ∧ (omkOf s (arg r 0 1)).candidate = some i) :=
  ⟨0, met (63 :: 1 :: 7 :: p) wrapping ⟨(show isFenced up 137 = false by decide), by show (63 : Nat) < 64; decide, rfl, rfl, rfl,
    wrapping_fits _ _, h, rfl⟩⟩

def candidate63 : State :=
  { up with keys := { up.keys with omks := [(63, { candidate := some 0 })], omkRecs := [(189, sealRec { typ := 1 })] } }
theorem candidateKey_ask (n : Nat) (r : Req) (s : State) (k : Nat) : candidateKey (ask n r s) k = candidateKey s k := rfl
theorem candidate63_key (r : Req) : ∃ key, candidateKey (ask 2 r candidate63) 63 = some key := by
  rw [candidateKey_ask]
  exact Option.isSome_iff_exists.mp (by decide +kernel)
theorem test_met_KeyCommandsComplete_3 (p : Bytes) (h : ∀ key, candidateKey candidate63 63 = some key → kcvOf key = arg (req 0x0902 (63 :: p)) 1 3) :
    ∃ key, Met 0x0902 (fun _ r s => isFenced s 137 = false ∧ arg r 0 1 < 64
      ∧ s.keys.revocations.contains (some (arg r 0 1)) = false ∧ candidateKey s (arg r 0 1) = some key ∧ kcvOf key = arg r 1 3) := by
  obtain ⟨key, hk⟩ := candidate63_key (req 0x0902 (63 :: p))
  exact ⟨key, met (63 :: p) candidate63 ⟨rfl, by show (63 : Nat) < 64; decide, rfl,
    (congrArg (candidateKey _) (show arg (req 0x0902 (63 :: p)) 0 1 = 63 from rfl)).trans hk,
    h key ((candidateKey_ask _ _ _ _).symm.trans hk)⟩⟩
theorem test_met_KeyCommandsComplete_10 (p key : Bytes) (hp : p.length = 138)
    (h : gkImport (at2 0x0906 (254 :: 2 :: 16 :: 0 :: p) up) (req 0x0906 (254 :: 2 :: 16 :: 0 :: p)) = some key) :
    ∃ m, Met 0x0906 (fun src r s => src = .mb m ∧ active s 5 = true ∧ isFenced s 137 = false ∧ isFenced s 88 = false ∧ arg r 0 1 < 255
      ∧ arg r 1 1 = 2 ∧ usageOk 2 (arg r 2 1) = true ∧ arg r 3 1 = 0 ∧ r.payload.length = 142 ∧ s.keys.rngHealthy = true
      ∧ (gkRec s (arg r 0 1)).typ = 0 ∧ (gkImport s r).isSome = true) :=
  ⟨2, met (254 :: 2 :: 16 :: 0 :: p) up ⟨rfl, (show active up 5 = true by decide), (show isFenced up 137 = false by decide),
    (show isFenced up 88 = false by decide), by show (254 : Nat) < 255; decide, rfl, by show usageOk 2 16 = true; decide, rfl,
    by simp [req, hp], rfl, rfl, by rw [h]; rfl⟩⟩
theorem test_met_KeyCommandsComplete_11 (p key : Bytes) (hp : p.length = 138)
    (h : gkImport (started2 (req 0x0906 (254 :: 2 :: 16 :: 0 :: p)) up) (req 0x0906 (254 :: 2 :: 16 :: 0 :: p)) = some key) :
    MetSigned 0x0906 (fun _ r s => active s 5 = true ∧ isFenced s 137 = false ∧ isFenced s 88 = false ∧ arg r 0 1 < 255 ∧ arg r 1 1 = 2
      ∧ usageOk 2 (arg r 2 1) = true ∧ arg r 3 1 = 0 ∧ r.payload.length = 142 ∧ s.keys.rngHealthy = true
      ∧ (gkRec s (arg r 0 1)).typ = 0 ∧ gkImport s r = some key) :=
  metSigned (254 :: 2 :: 16 :: 0 :: p) up ⟨(show active up 5 = true by decide), (show isFenced up 137 = false by decide),
    (show isFenced up 88 = false by decide), by show (254 : Nat) < 255; decide, rfl, by show usageOk 2 16 = true; decide, rfl,
    by simp [req, hp], rfl, rfl, h⟩
theorem test_met_KeyCommandsComplete_12 (p key : Bytes) (hp : p.length = 137)
    (h : gkImport (at2 0x0906 (254 :: 2 :: 16 :: 1 :: 7 :: p) wrapping) (req 0x0906 (254 :: 2 :: 16 :: 1 :: 7 :: p)) = some key) :
    Met 0x0906 (fun _ r s => isFenced s 137 = false ∧ arg r 0 1 < 255 ∧ arg r 1 1 = 2 ∧ usageOk 2 (arg r 2 1) = true ∧ arg r 3 1 = 1
      ∧ r.payload.length = 142 ∧ s.keys.rngHealthy = true ∧ (gkRec s (arg r 0 1)).typ = 0 ∧ gkFits s (arg r 4 1) [2] 4 = true
      ∧ gkImport s r = some key) :=
  met (254 :: 2 :: 16 :: 1 :: 7 :: p) wrapping ⟨(show isFenced up 137 = false by decide), by show (254 : Nat) < 255; decide, rfl,
    by show usageOk 2 16 = true; decide, rfl, by simp [req, hp], rfl, rfl, wrapping_fits _ _, h⟩
theorem test_met_KeyCommandsComplete_19 (p key : Bytes) (h : aukImport (at2 0x090B (3 :: p) up) (req 0x090B (3 :: p)) = some key) :
    ∃ m, Met 0x090B (fun src r s => src = .mb m ∧ active s 5 = true ∧ isFenced s 137 = false ∧ isFenced s 88 = false
      ∧ (1 ≤ arg r 0 1 ∧ arg r 0 1 ≤ 3) ∧ lcState s = .provision ∧ s.keys.rngHealthy = true ∧ (aukImport s r).isSome = true) :=
  ⟨2, met (3 :: p) up ⟨rfl, (show active up 5 = true by decide), (show isFenced up 137 = false by decide),
    (show isFenced up 88 = false by decide), by show 1 ≤ 3 ∧ 3 ≤ 3; decide, (show lcState up = .provision by decide), rfl,
    by rw [h]; rfl⟩⟩
theorem test_met_KeyCommandsComplete_20 (p key : Bytes) (h : aukImport (started2 (req 0x090B (1 :: p)) up) (req 0x090B (1 :: p)) = some key) :
    MetSigned 0x090B (fun _ r s => active s 5 = true ∧ isFenced s 137 = false ∧ isFenced s 88 = false
      ∧ (1 ≤ arg r 0 1 ∧ arg r 0 1 ≤ 3) ∧ lcState s = .provision ∧ s.keys.rngHealthy = true ∧ aukImport s r = some key) :=
  metSigned (1 :: p) up ⟨(show active up 5 = true by decide), (show isFenced up 137 = false by decide),
    (show isFenced up 88 = false by decide), by show 1 ≤ 1 ∧ 1 ≤ 3; decide, (show lcState up = .provision by decide), rfl, h⟩
theorem test_met_FirmwareRowsTakeEffect_1 (p ik : Bytes)
    (h : envelopeIk (fieldB p 0 137) (at2 0x0B02 (1 :: 0 :: 0 :: 0 :: p) up) = some ik) :
    ∃ m, Met 0x0B02 (fun src r s => src = .mb m ∧ active s 5 = true ∧ isFenced s 88 = false ∧ (1 ≤ arg r 0 4 ∧ arg r 0 4 ≤ bankSize)
      ∧ envelopeIk (fieldB r.payload 4 137) s = some ik ∧ (bankOf s s.firm.active).state ≠ .trial ∧ fwBusy s = false) :=
  ⟨2, met (1 :: 0 :: 0 :: 0 :: p) up ⟨rfl, (show active up 5 = true by decide), (show isFenced up 88 = false by decide),
    by show 1 ≤ 1 ∧ 1 ≤ bankSize; decide, h, by show (bankOf up 0).state ≠ .trial; decide, rfl⟩⟩

/-- A bank is being checked for FW_STAGE_CLOSE of mailbox 2. -/
def closing1 : State := { up with firm := { up.firm with staging := some { bank := 1, length := 64, closing := true, mb := some 2 } } }
theorem test_met_FirmwareRowsTakeEffect_5 (h : firstReason (imageChecks closing1 (container closing1 1 64) (some []) 64) = 0) :
    ∃ (m : Nat) (x : Staging) (s : State), served s = true ∧ s.firm.staging = some x ∧ x.closing = true ∧ x.mb = some m
      ∧ s.firm.stage ≠ .noImage ∧ firstReason (imageChecks s (container s x.bank x.length) (some x.ik) x.length) = 0 :=
  ⟨2, { bank := 1, length := 64, closing := true, mb := some 2 }, closing1, by decide, rfl, rfl, rfl, by decide, h⟩
def preparing1 : State := { up with firm := { up.firm with act := some { bank := 1 } } }
theorem test_met_FirmwareRowsTakeEffect_10 (h : bankReason preparing1 1 = 0) :
    ∃ (a : Activation) (s : State), fabricUp s = true ∧ s.firm.act = some a ∧ a.step = .preparing ∧ a.scheduled = false
      ∧ s.keys.run = none ∧ bankReason s a.bank = 0 :=
  ⟨{ bank := 1 }, preparing1, by decide, rfl, rfl, rfl, rfl, h⟩
/-- An image with a legal part is STAGED in bank 1 of memory `m`. -/
def stagedLegal (m : Memory) : State :=
  { up with firm := { up.firm with bank1 := { state := .staged }, flash1 := m }, legal := { up.legal with state := .inService } }
theorem test_met_FirmwareRowsTakeEffect_16 (m : Memory) (hl : legalBankOk (at2 0x041B [1] (stagedLegal m)) 1 = true)
    (h : legalReason (at2 0x041B [1] (stagedLegal m)) 1 = 0) :
    ∃ n, Met 0x041B (fun src r s => src = .mb n ∧ active s 10 = true ∧ isFenced s 125 = false ∧ isFenced s 126 = false
      ∧ legalBankOk s (arg r 0 1) = true ∧ s.legal.state = .inService ∧ legalFull s = false ∧ fwBusy s = false
      ∧ legalReason s (arg r 0 1) = 0) :=
  ⟨2, met [1] (stagedLegal m) ⟨rfl, (show active up 10 = true by decide), (show isFenced up 125 = false by decide),
    (show isFenced up 126 = false by decide), hl, rfl, rfl, rfl, h⟩⟩


/-- Mailbox 1 in session 0, whose key is `key`; a request with counter 1 and the tag of that key. -/
theorem test_met_CountersAreNeverAcceptedTwice_0 (r : Req) (s : State) (key header : Bytes) (hk : tagKey s 2 0 = some key) (h0 : r.session = 0) (h1 : r.counter = 1)
    (hc : look {} s.keys.sess 32 = {}) (ht : fieldB header 10 12 = (Config.cmac256 key (tagMessage 2 header r.payload)).take 12) :
    (authenticate 2 header r s).1 = none := by
  simp [authenticate, h0, hk, ht, sessOf, hc, h1]

theorem test_met_MasksKeepTheirKey_0 (h : (Config.storePad (storeKey up) 5 1).length = 1) :
    ∃ (s : State) (idx typ : Nat) (key m : Bytes), typ ≠ 0 ∧ (activeRoot s).isSome = true ∧ m.length = key.length
      ∧ (Config.storePad (storeKey s) idx key.length).length = key.length :=
  ⟨up, 5, 1, [7], [9], by decide, by decide, rfl, h⟩
theorem test_met_MasksKeepTheirKey_1 : ∃ (r : KeyRec) (m a : Bytes), shareA r = some a ∧ a.length = r.b.length ∧ m.length = r.b.length :=
  ⟨sealRec { typ := 1, a0 := [7], b := [9], ea1 := 1 }, [3], [7], by decide +kernel, rfl, rfl⟩
def general0 : State := { up with keys := { up.keys with gks := [(0, sealRec { typ := 1 })] } }
theorem gkHeld_ask (n : Nat) (r : Req) (s : State) (k : Nat) : gkHeld (ask n r s) k = gkHeld s k := rfl
theorem test_met_KeyCommandsComplete_16 : ∃ key, Met 0x0909 (fun _ r s => gkHeld s (arg r 0 1) = some key) := by
  obtain ⟨key, hk⟩ : ∃ key, gkHeld general0 0 = some key := Option.isSome_iff_exists.mp (by decide +kernel)
  exact ⟨key, met [0] general0 ((gkHeld_ask _ _ _ _).trans hk)⟩

/-! ### Rows that answer and change nothing else -/

theorem test_met_ReadCommandsChangeOnlyTheirAnswer_0 : ∃ (src : Src) (s t : State), src ≠ .mb 1 ∧ exec (.pdStatus src) s = .next t :=
  ⟨.mb 2, ask 2 (req 0x0121 []) up, _, by decide, rfl⟩
theorem test_met_ConfigurationStaysInItsPart_0 : ∃ (src : Src) (s t : State), src ≠ .mb 1 ∧ exec (.fipCfg src) s = .next t :=
  ⟨.mb 2, ask 2 (req 0x0801 []) up, _, by decide, rfl⟩
theorem test_met_ConfigurationStaysInItsPart_1 : ∃ (src : Src) (s t : State), src ≠ .mb 1 ∧ exec (.phaseCfg src) s = .next t :=
  ⟨.mb 2, ask 2 (req 0x0A06 []) up, _, by decide, rfl⟩
theorem test_met_ConfigurationStaysInItsPart_2 : ∃ (src : Src) (s t : State), src ≠ .mb 1 ∧ exec (.tbLimitSet src) s = .next t :=
  ⟨.mb 2, ask 2 (req 0x0202 []) up, _, by decide, rfl⟩
theorem test_met_ConfigurationStaysInItsPart_4 : ∃ (src : Src) (s t : State), src ≠ .mb 1 ∧ exec (.rfNetCfg src) s = .next t :=
  ⟨.mb 2, ask 2 (req 0x0701 []) up, _, by decide, rfl⟩

def socket7 : State :=
  { up with charge := { up.charge with cps := [(7, { state := .idle, cfg := { socket := true, ppGain := 1000, ppVref := 2, ppRpu := 100 }
                                                     cableSeen := .r100, cableCount := 9 })] } }
theorem test_met_ChargePointEventsTakeEffect_1 : ∃ (n v rp : Nat) (s : State), n < 8 ∧ cpWorks s n = true ∧ (cpOf s n).cfg.socket = true ∧ (cpOf s n).state ≠ .off
    ∧ proximityOhms (cpOf s n) v = some rp ∧ (cpOf s n).cableSeen = cableBand rp ∧ (cpOf s n).cableCount = 9
    ∧ cableBand rp ≠ (cpOf s n).cable :=
  ⟨7, 1, 100, socket7, by decide +kernel⟩

theorem sessionBytes_length (r : SessionRec) : (sessionBytes r).length = 224 := by
  simp [sessionBytes, harvestRecord, sessionPayload, sessionHead, sessionWho, le8, le16, le32, le72, leInt, leBytes_length, padTo_length]
theorem emitRecord_isSome (q : Nat) (b : Bytes) (s : State) (h : (reserve q (cellsOf b.length) s).1.isSome = true) :
    (emitRecord q b s).isSome = true := by
  unfold emitRecord
  split
  · rfl
  · next he => simp [he] at h

def signed : State := { up with charge := { up.charge with records := [{ signature := [1] }] }, host := { up.host with hqs := [(0, { en := true })] } }
theorem test_met_ChargePointEventsTakeEffect_16 : ∃ (r : SessionRec) (t s : State), waitingSession s = some r ∧ active s 5 = true ∧ active s 11 = true ∧ r.signature ≠ []
    ∧ emitSession r s = some t := by
  have h : (emitSession { signature := [1] } signed).isSome = true := by
    refine emitRecord_isSome _ _ _ ?_
    rw [sessionBytes_length]
    decide
  obtain ⟨t, ht⟩ := Option.isSome_iff_exists.mp h
  exact ⟨_, t, signed, rfl, by decide, by decide, by decide, ht⟩

/-! ### A directory with no way out -/

/-- The four buckets of titles 0 and 1. -/
def fullBuckets : List Nat := [0, 128, 647952, 738049]
/-- Every slot of those buckets holds an entry of title 0 or 1. -/
def Full (s : State) : Prop := ∀ b ∈ fullBuckets, ∀ i ∈ dirSlots b, (dirSlot s i).any (fun e => decide (e.title ≤ 1)) = true
theorem full_held {s : State} {b i : Nat} (h : Full s) (hb : b ∈ fullBuckets) (hi : i ∈ dirSlots b) :
    ∃ e, dirSlot s i = some e ∧ e.title ≤ 1 := by
  have := h b hb i hi
  cases he : dirSlot s i with
  | none => simp [he] at this
  | some e => exact ⟨e, rfl, by simpa [he] using this⟩
theorem dirSlot_setDir_same (i : Nat) (e : DirEntry) (s : State) : dirSlot (setDir i (some e) s) i = some e := by
  simp [dirSlot, setDir, put, look_insertKey_same]
theorem dirSlot_setDir_other {i j : Nat} (h : j ≠ i) (e : DirEntry) (s : State) : dirSlot (setDir i (some e) s) j = dirSlot s j := by
  simp [dirSlot, setDir, put, look_insertKey_other _ _ _ h]
theorem full_setDir {s : State} {e : DirEntry} (i : Nat) (h : Full s) (he : e.title ≤ 1) : Full (setDir i (some e) s) := by
  intro b hb j hj
  by_cases hij : j = i
  · simp [hij, dirSlot_setDir_same, he]
  · rw [dirSlot_setDir_other hij]; exact h b hb j hj
theorem full_free {s : State} {b : Nat} (h : Full s) (hb : b ∈ fullBuckets) : dirFree s b = none := by
  simp only [dirFree, List.find?_eq_none]
  intro i hi
  obtain ⟨e, he, -⟩ := full_held h hb hi
  simp [he]
theorem other_full {t b : Nat} (h : t ≤ 1) : (if hashD0 t = b then hashD1 t else hashD0 t) ∈ fullBuckets := by
  have h0 : hashD0 0 = 0 ∧ hashD1 0 = 128 ∧ hashD0 1 = 647952 ∧ hashD1 1 = 738049 := by decide +kernel
  have ht : t = 0 ∨ t = 1 := by omega
  rcases ht with rfl | rfl <;> split <;> simp [fullBuckets, h0]
theorem getD_mem {l : List Nat} (k : Nat) (h : l ≠ []) : l.getD k (l.headD 0) ∈ l := by
  cases l with
  | nil => exact absurd rfl h
  | cons a r =>
    by_cases hk : k < (a :: r).length
    · rw [List.getD_eq_getElem?_getD, List.getElem?_eq_getElem hk]
      exact List.getElem_mem hk
    · simp [List.getD, List.getElem?_eq_none (Nat.le_of_not_lt hk)]
theorem slots_ne {b : Nat} (but : Option Nat) : ((dirSlots b).filter fun i => but != some i) ≠ [] := by
  cases but with
  | none => simp [dirSlots]
  | some k =>
    by_cases h : k = 4 * b
    · simp [dirSlots, h]
    · simp [dirSlots]
      omega
theorem full_relocate (fuel : Nat) : ∀ (e : DirEntry) (b : Nat) (but : Option Nat) (s : State), Full s → e.title ≤ 1 → b ∈ fullBuckets →
    dirRelocate fuel e b but s = none := by
  induction fuel with
  | zero => intros; rfl
  | succ n ih =>
    intro e b but s h he hb
    unfold dirRelocate
    generalize hs : ((dirSlots b).filter fun i => but != some i) = slots
    have hd : ∀ k, Full (drawBelow k s).2 := fun k => h
    have hv : slots.getD (drawBelow slots.length s).1 (slots.headD 0) ∈ dirSlots b :=
      (List.mem_filter.mp (hs.symm ▸ getD_mem _ (hs ▸ slots_ne but) :
        slots.getD (drawBelow slots.length s).1 (slots.headD 0) ∈ (dirSlots b).filter fun i => but != some i)).1
    obtain ⟨old, ho, hold⟩ := full_held (hd slots.length) hb hv
    simp only [ho]
    have hf' := full_setDir (slots.getD (drawBelow slots.length s).1 (slots.headD 0)) (hd slots.length) he
    rw [full_free hf' (other_full hold)]
    exact ih _ _ _ _ hf' hold (other_full hold)

def fullDir : State :=
  { up with ingest := { up.ingest with
      directory := (fullBuckets.flatMap dirSlots).map fun i => (i, some { title := 1, ctx := 5, gen := 1 }) } }
/-- CTX_WRITE of context 0 with INIT: title 0, valid. -/
def newTitle : Bytes := [0, 0, 0, 0, 1] ++ List.replicate 9 0 ++ [1] ++ List.replicate 118 0
theorem test_met_IngestCommandsComplete_7 : Met 0x0807 (fun src r s => ctxWriteCheck src r s = none ∧ ctxValid (ctxWritten r (ctxOf s (arg r 0 4))) = true
      ∧ dirInsert { title := ctxTitle (ctxWritten r (ctxOf s (arg r 0 4))), ctx := arg r 0 4,
                    gen := ctxGen (ctxWritten r (ctxOf s (arg r 0 4))) }
          (if ctxTitle (ctxWritten r (ctxOf s (arg r 0 4))) = ctxTitle (ctxOf s (arg r 0 4)) then s
           else dirRemove (ctxTitle (ctxOf s (arg r 0 4))) (arg r 0 4) s) = none) := by
  have hi : dirInsert { title := 0, ctx := 0, gen := 1 } (at2 0x0807 newTitle fullDir) = none := by
    have hf : Full (at2 0x0807 newTitle fullDir) := by unfold Full; decide +kernel
    have h0 : hashD0 0 = 0 ∧ hashD1 0 = 128 := by decide +kernel
    have hn : dirFind (at2 0x0807 newTitle fullDir) 0 = none := by decide +kernel
    simp only [dirInsert, hn, h0.1, h0.2, full_free hf (b := 0) (by decide), full_free hf (b := 128) (by decide)]
    exact full_relocate _ _ _ _ _ hf (by decide) (by decide)
  refine met newTitle fullDir ⟨by decide +kernel, by decide +kernel, ?_⟩
  exact hi

/-! ### Ill-formed commands -/

/-- A command of mailbox 64 or of submission queue 64 is ill-formed. -/
theorem test_source_out_of_range :
    ([Instr.pdSet, .pdStatus, .dramArbSet, .fabricStatus, .plCouplingSet, .qInfo, .hqFlush, .sqNop, .intTest, .tbInfo,
      .tbSet, .tbStep, .tbLimitSet, .tbSourceSet, .tbUtcOffsetSet, .tbDeclareLost, .tb2TrimSet, .msTriggerSet, .msCapture,
      .msSchedule, .ptpPortCfg, .aethenoCfg, .metInfo, .metChanCfg, .metBind, .metCalSet, .metCalGet, .metRegCfg,
      .metRead, .metInstant, .metHarmonics, .metOutputCfg, .metIntervalSet, .metTpoCfg, .metThreshSet, .metCapture,
      .metCaptureRead, .holdupTest, .metOutageRead, .metRotation, .tarStatus, .tarDaySet, .tarWeekSet, .tarSeasonSet,
      .tarSpecialSet, .tarTableSet, .tarActivate, .tarAssign, .billRegCfg, .billClose, .billRead, .billHistoryRead,
      .demCfg, .demRead, .prepayCfg, .prepayCredit, .prepaySwitch, .prepayReconnect, .prepayStatus, .tamperRead,
      .legalCvRead, .legalCvShow, .legalDisplayCfg, .legalLogRead, .legalDecommission, .legalStatus, .cpCfg, .cpStatus,
      .cpAuthorise, .cpLimit, .cpStop, .cpAvailability, .cpReset, .cpRcdCfg, .cpImdCfg, .cpSessionRead, .cpSlacStatus,
      .cpV2gCfg, .cpTrustSet, .cpPilotRead, .cpRecordCfg, .plCfg, .plNetCfg, .plStatus, .plNbrRead, .plNbrDelete,
      .plTmRead, .plTmRefresh, .plRouteSet, .plRouteRead, .plRouteFlush, .plTx, .plBeaconSet, .rfCfg, .rfNetCfg,
      .rfStatus, .rfLinkAdd, .rfLinkUpdate, .rfLinkRemove, .rfLinkRead, .rfTx, .rfDevDelete, .ingStatus, .fipCfg,
      .ingSteerSet, .ingPortCfg, .ingParseSet, .ingAckTemplate, .ctxWrite, .ctxRead, .ctxDelete, .jtInvalidate, .jtRead,
      .ingSubmit, .dxPeerCfg, .dxUplinkCfg, .smbCfg, .smbTx, .clStatus, .clTest, .clBorrowCfg, .keygenStatus,
      .keyGraceSet, .sessStatus, .sessClear, .balGroupCfg, .balFeed, .balStatus, .balClose, .balHistoryRead, .phaseCfg,
      .phaseRead, .phaseReset, .balOutputCfg, .omkLoad, .omkVerify, .omkCommit, .omkRevoke, .keyImport, .keyGenerate,
      .keyErase, .keyInfo, .dikRead, .keyAuthSet, .keyAuthRotate, .tmpCfg, .tmpStatus, .secStatus, .lcStatus, .lcAdvance,
      .lcNextDik, .lcRecover, .lcDebugOpen, .fwStatus, .fwStageOpen, .fwStageWrite, .fwStageClose, .fwStageAbort,
      .activate, .activateAt, .fwConfirm, .fwOpkeySet, .activateLegal, .logInfo, .logRead, .logFlush, .logRateSet,
      .logClear, .faultStatus, .unitRecover, .faultInject, .hpCfg, .hpResume] : List (Src → Instr)).all
        (fun c => !(c (Src.mb 64)).wellFormed && !(c (Src.sq 64 0)).wellFormed) = true := by
  decide

/-- A command that names the first index past a count is ill-formed. -/
theorem test_index_out_of_range :
    (∀ x1 x2, (Instr.mbGoWrite 64 x1 x2).wellFormed = false) ∧ (Instr.mailboxRequestTake 64).wellFormed = false ∧
      (∀ x1, (Instr.qCtrlEnWrite 256 x1).wellFormed = false) ∧ (∀ x1, (Instr.hqConsumedWrite 128 x1).wellFormed = false) ∧
      (∀ x1, (Instr.sqTailWrite 64 x1).wellFormed = false) ∧ (∀ x1, (Instr.cqHeadWrite 64 x1).wellFormed = false) ∧
      (∀ x1 x2, (Instr.sqEntryFetch 64 x1 x2).wellFormed = false) ∧ (∀ x1, (Instr.tbNowReadLatch 12 x1).wellFormed = false) ∧
      (∀ x1, (Instr.tbIncWrite 12 x1).wellFormed = false) ∧ (∀ x1, (Instr.tbStepHiWrite 12 x1).wellFormed = false) ∧
      (Instr.packetWriteToRing 128).wellFormed = false ∧ (Instr.panTailTimeout 128).wellFormed = false ∧
      (Instr.vectorModerationTimeout 256).wellFormed = false ∧ (Instr.tbSetPpsTimeout 64).wellFormed = false ∧
      (∀ x1 x2 x3, (Instr.zeroCrossing 32 x1 x2 x3).wellFormed = false) ∧ (Instr.mainsCrossingMissing 12).wellFormed = false ∧
      (∀ m : PtpMessage, (Instr.ptpEventMessage { m with port := 4 }).wellFormed = false) ∧
      (Instr.scheduledMilestoneFire 4).wellFormed = false ∧ (∀ x1 x2, (Instr.measurementWindowEnd 32 x1 x2).wellFormed = false) ∧
      (∀ x1, (Instr.metrologyAlarmTimer 32 x1).wellFormed = false) ∧ (Instr.rateSwitch 8).wellFormed = false ∧
      (Instr.dstChange 8).wellFormed = false ∧ (Instr.demandSubintervalEnd 32).wellFormed = false ∧
      (Instr.billingPeriodClose 8).wellFormed = false ∧ (Instr.tariffActivationDue 8).wellFormed = false ∧
      (∀ x1, (Instr.prepayFeedbackChange 32 x1).wellFormed = false) ∧ (Instr.prepayFeedbackTimeout 32).wellFormed = false ∧
      (Instr.prepayBypassDetect 32).wellFormed = false ∧ (∀ x1, (Instr.legalDisplayPing 8 x1).wellFormed = false) ∧
      (Instr.legalDisplayScroll 8).wellFormed = false ∧ (∀ x1 x2, (Instr.pilotMeasurement 8 x1 x2).wellFormed = false) ∧
      (∀ x1, (Instr.proximityWindow 8 x1).wellFormed = false) ∧ (∀ x1 x2, (Instr.cpFeedbackChange 8 x1 x2).wellFormed = false) ∧
      (Instr.cpFeedbackTimeout 8).wellFormed = false ∧ (Instr.cpPullInEnd 8).wellFormed = false ∧
      (Instr.cpStoppingTimeout 8).wellFormed = false ∧ (∀ x1, (Instr.rcdSelfTestEnd 8 x1).wellFormed = false) ∧
      (∀ x1 x2 x3, (Instr.imdPeriodEnd 8 x1 x2 x3).wellFormed = false) ∧ (Instr.authTimeout 8).wellFormed = false ∧
      (Instr.nulvoHeartbeatLoss 8).wellFormed = false ∧ (∀ x1, (Instr.nulvoEnergyRequest 8 x1).wellFormed = false) ∧
      (∀ x1 x2, (Instr.slacSoundFrame 16 x1 x2).wellFormed = false) ∧ (∀ x1, (Instr.plFrameReceive 16 x1).wellFormed = false) ∧
      (∀ x1, (Instr.plTransmitTurn 16 x1).wellFormed = false) ∧ (Instr.plAckReceive 16).wellFormed = false ∧
      (∀ x1 x2, (Instr.plAckTimeout 16 x1 x2).wellFormed = false) ∧ (∀ x1 x2, (Instr.plRefreshTimer 16 x1 x2).wellFormed = false) ∧
      (∀ x1, (Instr.plReassemblyTimeout 16 x1).wellFormed = false) ∧ (∀ x1, (Instr.plNeighbourAgeing 16 x1).wellFormed = false) ∧
      (∀ x1, (Instr.plRouteLapse 16 x1).wellFormed = false) ∧ (∀ x1, (Instr.rfFrameReceive 6 x1).wellFormed = false) ∧
      (∀ x1 x2, (Instr.rfBackoffExpiry 6 x1 x2).wellFormed = false) ∧ (Instr.rfAckReceive 6).wellFormed = false ∧
      (Instr.rfAckTimeout 6).wellFormed = false ∧ (∀ x1, (Instr.rfWindowTune 6 x1).wellFormed = false) ∧
      (∀ x1, (Instr.rfWindowEnd 6 x1).wellFormed = false) ∧ (∀ x1, (Instr.rfSupervisionTimeout 6 x1).wellFormed = false) ∧
      (∀ x1, (Instr.rfDutyLimitChange 6 x1).wellFormed = false) ∧ (∀ x1, (Instr.rfDeviceAgeing 2 x1).wellFormed = false) ∧
      (∀ x1 x2 x3 x4, (Instr.smbFrameReceive 4 x1 x2 x3 x4).wellFormed = false) ∧
      (∀ x1 x2 x3 x4 x5, (Instr.dxDataReceive 4 x1 x2 x3 x4 x5).wellFormed = false) ∧ (Instr.frameAdmit 16).wellFormed = false ∧
      (Instr.admissionReopen 16).wellFormed = false ∧ (Instr.laneGrant 64).wellFormed = false ∧
      (∀ x1, (Instr.laneOperationEnd 64 x1).wellFormed = false) ∧ (Instr.laneQueueTimeout 16).wellFormed = false ∧
      (∀ x1, (Instr.frameValidate 16 x1).wellFormed = false) ∧ (Instr.junctionLearn 16).wellFormed = false ∧
      (∀ x1, (Instr.junctionScrub 16 x1).wellFormed = false) ∧ (∀ x1, (Instr.recordDelivered 128 x1).wellFormed = false) ∧
      (∀ x1, (Instr.dxAckReceive 4 x1).wellFormed = false) ∧ (Instr.graceWindowEnd 64).wellFormed = false ∧
      (∀ x1, (Instr.pkeOperationEnd 4 x1).wellFormed = false) ∧ (Instr.mailboxLockoutEnd 64).wellFormed = false ∧
      (∀ x1, (Instr.clTestEnd 64 x1).wellFormed = false) ∧ (Instr.balIntervalOpen 65568).wellFormed = false ∧
      (Instr.balDeadline 65568).wellFormed = false ∧ (Instr.balRecordEmit 65568).wellFormed = false ∧
      (Instr.phaseRecordEmit 2097152).wellFormed = false ∧ (Instr.watchdogExpiry 2).wellFormed = false ∧
      (∀ e : EccError, (Instr.eccError { e with unit := 138 }).wellFormed = false) ∧
      (∀ x1 x2, (Instr.lockstepMismatch 2 x1 x2).wellFormed = false) ∧ (∀ x1 x2, (Instr.busTimeout 138 x1 x2).wellFormed = false) ∧
      (∀ x1, (Instr.domainSupplyFault 12 x1).wellFormed = false) ∧ (Instr.f1HandlingComplete 138).wellFormed = false ∧
      (Instr.f1RepeatTimeout 138).wellFormed = false ∧ (Instr.fenceComplete 138).wellFormed = false ∧
      (∀ x1, (Instr.unitRecoveryEnd 138 x1).wellFormed = false) :=
  ⟨fun _ _ => rfl, rfl, fun _ => rfl, fun _ => rfl, fun _ => rfl, fun _ => rfl, fun _ _ => rfl, fun _ => rfl, fun _ => rfl,
    fun _ => rfl, rfl, rfl, rfl, rfl, fun _ _ _ => rfl, rfl, fun _ => rfl, rfl, fun _ _ => rfl, fun _ => rfl, rfl, rfl, rfl, rfl,
    rfl, fun _ => rfl, rfl, rfl, fun _ => rfl, rfl, fun _ _ => rfl, fun _ => rfl, fun _ _ => rfl, rfl, rfl, rfl, fun _ => rfl,
    fun _ _ _ => rfl, rfl, rfl, fun _ => rfl, fun _ _ => rfl, fun _ => rfl, fun _ => rfl, rfl, fun _ _ => rfl, fun _ _ => rfl,
    fun _ => rfl, fun _ => rfl, fun _ => rfl, fun _ => rfl, fun _ _ => rfl, rfl, rfl, fun _ => rfl, fun _ => rfl, fun _ => rfl,
    fun _ => rfl, fun _ => rfl, fun _ _ _ _ => rfl, fun _ _ _ _ _ => rfl, rfl, rfl, rfl, fun _ => rfl, rfl, fun _ => rfl, rfl,
    fun _ => rfl, fun _ => rfl, fun _ => rfl, rfl, fun _ => rfl, rfl, fun _ => rfl, rfl, rfl, rfl, rfl, rfl, fun _ => rfl,
    fun _ _ => rfl, fun _ _ => rfl, fun _ => rfl, rfl, rfl, rfl, fun _ => rfl⟩

/-- A command of the last index is well formed. -/
theorem test_index_in_range : (Instr.hqConsumedWrite 127 0).wellFormed = true ∧ (Instr.pdStatus (.mb 63)).wellFormed = true
    ∧ (Instr.phaseRecordEmit 2097151).wellFormed = true := ⟨rfl, rfl, rfl⟩

/-! ### The queue of commands -/

/-- The command at the front runs; the rest of the queue stays. -/
theorem test_step_front (c d : Instr) (s : State) :
    step { s with pending := [c, d] } = exec c { s with pending := [d] } := rfl

/-- On an empty queue one fabric tick passes and the step answers a next state. -/
theorem test_step_empty : ∃ t, step State.reset = .next t := ⟨_, rfl⟩

/-- No word spells a command, so a fetch word changes nothing. -/
theorem test_no_word (s : State) (n w : Nat) : decodeTableWord n w = none ∧ s.withFetchWord n w = s := ⟨rfl, rfl⟩

/-! ### Worked examples of the spec -/

section WorkedExamples

-- each is a computation of its own: one after another, not all at once
set_option Elab.async false

/-- R31: the CW word of data 1 with END has even parity in each of its four groups. -/
theorem test_fabric_word : wordBad (BitVec.ofNat 72 (1 + 2 ^ 16 * 0 + 2 ^ 17 * 1)) = false := by decide

/-- R85, R95: a host that finds TB0 0.35 ppm fast writes 7,870,608,050,069; a step of 0.8 ms is within the limit, one of 1.2 ms not. -/
theorem test_tb0_example : clampInc 7870608050069 = 7870608050069 ∧ withinLimit { limit := 68719477 } 54975581 = true
    ∧ withinLimit { limit := 68719477 } 82463372 = false := by decide

/-- R90: TB8, 0.1 ppm fast, off for 60 s: 412,316.8 units of 2^-36 s, toward zero (the worked example prints it rounded). -/
theorem test_kept_base : keptDrift 36000000000 (7870610804783 + 787061) = 412316 := by decide

/-- R112: the frequency term of the mains loop at 49.950 Hz. -/
theorem test_mains_loop : mainsIncF State.reset {} 49950000 = 7862740193978 := by decide

/-- R149: 15 kW and −5 kvar in Q4 over a tick of 10 ms, in 2^-32 µWh. -/
theorem test_register_modes :
    let t : TickResult := { dp := 178956972032 * 10 ^ 3, dq := -(59652323 * 10 ^ 6), quadrant := 4 }
    regIncrement { qty := 1, mode := 2 } t = t.dp ∧ regIncrement { qty := 1, mode := 3 } t = 0
      ∧ regIncrement { qty := 1, mode := 0 } t = t.dp ∧ regIncrement { qty := 5, mode := 1, mask := 8 } t = -t.dq
      ∧ regIncrement { qty := 5, mode := 1, mask := 1 } t = 0 := by decide

/-- R171, R172: six ticks of 191,666.667 µWh at 10,000 µWh a pulse give 19, 19, 19, 19, 19 and 20 pulses. -/
theorem test_pulses :
    let inc : Int := (1150000 * 2 ^ 32 / 6 : Nat) + 1
    let t : Tpo := { weight := 10000, width := 2 }
    let a := pulseStep 0 t inc
    let b := pulseStep 320 a.1 inc
    let c := pulseStep 640 b.1 inc
    let d := pulseStep 960 c.1 inc
    let e := pulseStep 1280 d.1 inc
    let f := pulseStep 1600 e.1 inc
    [a.2, b.2, c.2, d.2, e.2, f.2].map List.length = [19, 19, 19, 19, 19, 20] ∧ f.1.residue < 10 := by decide +kernel

/-- R183: table TT0 of Kessmoor Power on 2025-01-15 at 15:30 UTC: T3 is in force. -/
def tt0 : TariffCopy :=
  { days := [(0, [{ time := 0, rate := 1 }, { time := 25200, rate := 2 }, { time := 57600, rate := 3 }, { time := 68400, rate := 2 },
                  { time := 82800, rate := 1 }])]
    weeks := [(0, [0, 0, 0, 0, 0, 1, 1])]
    seasons := [(0, some { month := 10, day := 1, week := 0 })]
    stdOffset := 60
    dstShift := 60
    dstStart := { month := 3, week := 5, weekday := 7, minute := 120 }
    dstEnd := { month := 10, week := 5, weekday := 7, minute := 120 }
    billDay := 1 }
theorem test_rate_in_force : localTime tt0 1736955000 = 20103 * 86400 + 59400 ∧ rateAt tt0 true 1736955000 = (3, false) := by
  decide +kernel

/-- R184: TT0 closes its January period at TB2 = 1,738,364,400. -/
theorem test_billing_boundary : latestBoundary tt0 1738364400 = some (monthNumber tt0 1738364400, 1738364400)
    ∧ latestBoundary tt0 1738364399 ≠ latestBoundary tt0 1738364400 := by decide +kernel

/-- R188: 123,456,789,012,345,678 µWh with D = 8 and d = 2. -/
theorem test_bill_shown : billShown 123456789012345678 8 2 = (2345678901, 1) := by decide

/-- R193: 34.5 kWh in 15 minutes are 138 kW. -/
theorem test_demand : demandValue (34500000000 * 2 ^ 32) (900 * 32000) = 138000000 := by decide

/-- R193: T3 holds 10 of the 15 minutes. -/
theorem test_demand_rate : greatestPart (joinParts [] [(2, 5), (3, 5), (3, 5)]) = some (3, 10) := by decide

/-- R220, R221: 202 ohms decode as 220; 32 A give a duty of 53.3 %, 20 A of 33.3 %. -/
theorem test_cable_and_duty : proximityOhms { cfg := { ppGain := 100000, ppVref := 5000, ppRpu := 330 } } 19 = some 202
    ∧ cableBand 202 = .r220
    ∧ offered { limit := 400, cable := .r220, cfg := { socket := true, hwLimit := 630 } } = 320
    ∧ offerDuty false 320 = 533 ∧ offerDuty false 200 = 333 := by decide

/-- R229: a DC residual of 75 mA trips tier 2 at the sixteenth tick. -/
theorem test_residual : tierTrips [(16 * 320, 75000)] 6400 60000 = true ∧ tierTrips [(15 * 320, 75000)] 6400 60000 = false
    ∧ tierTrips [(16 * 320, 75000)] 1600 200000 = false := by decide

/-- R232, R233: 212,500 ohms at 920 V are a WARNING. -/
theorem test_insulation :
    let c : ChargePoint := { imdGain := 1000, uInj := 20, rI := 100000, uMax := 920 }
    insulation c [66] [-62] = some 212500 ∧ imdClass c (some 212500) = 1 := by decide

/-- R255: fraction 0.4153 s at 50 Hz lies in slot 3; R257: its phase is 50,135 of 65,536. -/
theorem test_mains_phase :
    let ph := mainsPhase State.reset 0 (BitVec.ofNat 72 (4153 * 2 ^ 36 / 10000))
    slotOfPhase ph = 3 ∧ ph / 2 ^ 20 = 50135 := by decide +kernel

/-- R274: the tolls of the links to 0991 and 0342 in the CENELEC A band. -/
theorem test_toll :
    let map (c : Nat) : ToneMap := { cap := c, source := 1 }
    let one : Neighbour := { etx := 600, fwd := [(0, map 192)] }
    let two : Neighbour := { etx := 280, fwd := [(0, map 432)] }
    let c : PlChannel := { band := 0, tmMaxAge := 10 }
    tollOf State.reset c one = 92 ∧ tollOf State.reset c two = 25 := by decide +kernel

/-- R274: QPSK on 5 groups carries 240 and BPSK on 4 groups 96, of 432 at most. -/
theorem test_capacity : mapCap 0 2 31 = 240 ∧ mapCap 0 1 15 = 96 ∧ capMax 0 = 432 := by decide

/-- R302: seed 17, increment 11, channels 40–59 excluded of 129. -/
theorem test_hop :
    let l : Link := { seed := 17, inc := 11, map := BitVec.ofNat 136 (2 ^ 129 - 1 - (2 ^ 60 - 2 ^ 40)) }
    hop l 129 1000 = 72 ∧ hop l 129 1001 = 63 := by decide +kernel

/-- R304: the half-width before and after the anchor of event 5,001. -/
def gasLink : Link :=
  { w := 60000, sup := 1800, guard := 10000, alpha := 3, missRv := 4, err := 8500, var := 1600000000, eLast := 5000, e := 5001,
    learned := 4 }
theorem test_window : predNs gasLink 5001 = 60000510000 ∧ halfNs gasLink 5001 = 702000 ∧ sigmaNs gasLink = 40000 := by decide +kernel
theorem test_window_learned :
    let l : Link := { gasLink with err := 8550, var := 1472000000, eLast := 5001, learned := 5 }
    halfNs l 5002 = 698466 ∧ halfNs l 5005 = 2237466 ∧ halfNs l 5021 = 10445466 ∧ sigmaNs l = 38367
      ∧ tooWide { l with e := 5020 } = false ∧ tooWide { l with e := 5021 } = true := by decide +kernel

/-- R317, R319: the hashes of meter 4B53 0001 0020 7C3E. -/
theorem test_hashes :
    let k := 0x4B53000100207C3E
    hashF0 k = 19339 ∧ hashF1 k = 47284 ∧ hashH0 k = 155 ∧ hashH1 k = 4707 ∧ hashD0 k = 19892 ∧ hashD1 k = 602507 := by
  decide +kernel

/-- R322: the cells of frames of 256 and 2,048 bytes. -/
theorem test_cells : mainCells 2048 = 128 ∧ mainCells 256 = 30 ∧ uplinkCells 256 = 6 := by decide

/-- R49, R337: context 1,500,000 stands in the upper half at 0x06E3_6000, its line 2 at 0x06E3_6080. -/
theorem test_bulk : bulkContext { up with host := { up.host with bulkSel := 1 } } 0x06E36000 = 1500000
    ∧ bulkContext { up with host := { up.host with bulkSel := 1 } } 0x06E36080 = 1500000 ∧ 0x06E36080 % 256 = 128 := by decide

/-- R372: the input block of the EK of that meter. -/
theorem test_key_input :
    let c : Ctx := { line0 := [0x4B, 0x53, 0, 1, 0, 0x20, 0x7C, 0x3E] ++ List.replicate 56 0,
                     line3 := [0, 0, 3, 0, 0x05, 0x01] ++ List.replicate 58 0 }
    keyInput c 1 1 = [1, 1, 0, 0x4B, 0x53, 0, 1, 0, 0x20, 0x7C, 0x3E, 3, 1, 5, 0, 0x80] := by decide +kernel

/-- R378: the six steps of the replay example. -/
theorem test_replay :
    let c : Ctx := { icTop := 1000, window := 0x17, fp := 0x7 }
    let a := replayDecide c 997 0x3
    let b := replayDecide a.2 1003 0x9
    let f := replayDecide b.2 940 0x5
    a.1 = .accept ∧ a.2.window = 0x1F ∧ fpAt a.2 3 = 0x3
      ∧ b.1 = .accept ∧ b.2.window = 0xF9 ∧ b.2.icTop = 1003 ∧ fpAt b.2 3 = 0x7 ∧ fpAt b.2 6 = 0x3
      ∧ (replayDecide b.2 1000 0x7).1 = .dup ∧ (replayDecide b.2 1000 0xE).1 = .reuse ∧ (replayDecide b.2 939 0).1 = .old
      ∧ f.1 = .accept ∧ f.2.window.getLsbD 63 = true ∧ fpAt f.2 63 = 0x5 := by decide +kernel

/-- R388: the nonce of record 42 ends 6A F4 2E A9. -/
theorem test_nonce : recordNonce [0x9C, 0x41, 0x07, 0xE2, 0x5B, 0x38, 0xD0, 0x11, 0x6A, 0xF4, 0x2E, 0x83] 42
    = [0x9C, 0x41, 0x07, 0xE2, 0x5B, 0x38, 0xD0, 0x11, 0x6A, 0xF4, 0x2E, 0xA9] := by decide

/-- R398: the three cases of the wrap example. -/
theorem test_wrap :
    let c : Ctx := { line3 := List.replicate 14 0 ++ [6, 0] ++ leBytes 4 15000 ++ leBytes 4 100 ++ List.replicate 40 0, eLast := 999870,
                     eValid := true }
    let r (v : Int) : Reading := { obj := { scaler := 2, unit := 30 }, value := v }
    let x := advanceOf c (r 45) 86400
    (x.a = 175 ∧ x.excluded = false ∧ x.bit = 9 ∧ uwh (r 45) x.a = 17500000000 ∧ truncDiv (17500000000 * 3600) (86400 * 1000000) = 729)
      ∧ ((advanceOf c (r 998000) 3600).excluded = true ∧ (advanceOf c (r 998000) 3600).cause = 0x12)
      ∧ ((advanceOf c (r 999820) 900).excluded = true ∧ (advanceOf c (r 999820) 900).cause = 0x11) := by decide +kernel

/-- R414, R415: the interval of transformer T-A alarms with a residual of 2,407,400,000 µWh. -/
theorem test_balance :
    let g : BalGroup := { rCu := 5000, pFe := 1100000, rel := 200, members := 412, rateSum := 1200 }
    let i : BalInterval := { feed := 96250000000 * 2 ^ 32, feedSeen := true, i2t := 233520000000 * 2 ^ 32, met := 92100000000 }
    let x := balResult g i
    x.cu = 1167600000 ∧ x.fe = 275000000 ∧ x.est = 300000000 ∧ x.res = 2407400000 ∧ x.high = false ∧ x.alarm = true := by
  decide +kernel

/-- R417–R419: meter 4B53 0000 0991 is on L2 by both bases. -/
def meter991 : PhaseEntry :=
  { n := 96, sxx := 24000, s1 := { syy := 25000, sxy := 6000 }, s2 := { syy := 22000, sxy := 21500 }, s3 := { syy := 26000, sxy := 9000 },
    votes := [0, 12, 0, 0] }
theorem test_phase : decidePhase {} meter991 = (2, 3, 0) ∧ r30 (correlation meter991 meter991.s2) = 1004665222
    ∧ circular 21823 21845 = 22 := by decide +kernel

/-- R435: one byte of a re-masked key. -/
theorem test_remask :
    let r := remaskRec (sealRec { typ := 1, a0 := [0xF7], b := [0x5A], ea1 := 1 }) [0x1E]
    r.a1 = [0xE9] ∧ r.b = [0x44] ∧ shareA r = some [0xE9] := by decide +kernel

/-- R501: of 12,500 records the oldest outside the first area is RN 4,308. -/
theorem test_log_ring : (storeRec { next := 12499, oldest := 4307 } {}).oldest = 4308
    ∧ (storeRec { next := 12499, oldest := 4307 } {}).next = 12500 := by decide

/-- R109: PPS_OUT is high for 100 ms after a second boundary of a VALID TB0, and low otherwise. -/
theorem test_pps_out :
    ppsOut { up with clock := { up.clock with tbs := [(0, { acc := 7 * 2 ^ 72 + 2 ^ 68, valid := true })] } } = true
      ∧ ppsOut { up with clock := { up.clock with tbs := [(0, { acc := 7 * 2 ^ 72 + 2 ^ 69, valid := true })] } } = false
      ∧ ppsOut up = false := by decide +kernel
/-- R511: SAFE_RM_N is driven low only while SAFE_TO_REMOVE is 1. -/
theorem test_safe_rm : safeRmLow up = false ∧ safeRmLow { up with power := { up.power with safe := true } } = true := by decide

end WorkedExamples

end Sys2Proof.Tests
end

/-! The mailboxes: what a write of MBn_CTRL does with a GO, what a write of a request area stores, and when a request is taken
(spec/02_host_interface_nulvo.md, R47, R50–R55, R60). -/

namespace Sys2Proof.Machine

open Sys2Proof

/-! ### Fields and bits -/

/-- A bit of a written word, read off its number. -/
theorem bitOf_toNat {w : Nat} (v : BitVec w) (i : Nat) : bitOf v.toNat i = v.getLsbD i := by
  rw [← BitVec.testBit_toNat, Nat.testBit_eq_decide_div_mod_eq]
  rfl

/-- A field that lies within the first `m` bytes is read off them alone. -/
theorem fieldU_take {off n m : Nat} (b : Bytes) (h : off + n ≤ m) : fieldU (b.take m) off n = fieldU b off n := by
  simp only [fieldU, List.drop_take, List.take_take]
  rw [Nat.min_eq_left (by omega)]

/-! ### A write of MBn_CTRL (R50, R53, R55) -/

/-- The mailbox takes no GO: it is owned, its response is not yet acknowledged, or it is MB0 (R53, R55). -/
theorem mbCtrl_go_busy {n v : Nat} {s : State} (path : Path) (hgo : bitOf v 0 = true)
    (hbusy : (mbOf s n).own = true ∨ (mbOf s n).done = true ∨ n = 0) :
    mbCtrl n v path s = setMb n { mbOf s n with overrun := true, done := (mbOf s n).done && !bitOf v 2 } s := by
  have hb : ((mbOf s n).own || (mbOf s n).done || n == 0) = true := by simpa [or_assoc] using hbusy
  simp only [mbCtrl, hgo, hb, if_true]

/-- A free mailbox takes a GO and its place in the order of arrival (R53, R54). -/
theorem mbCtrl_go_free {n v : Nat} {s : State} (path : Path) (hgo : bitOf v 0 = true) (hn : 0 < n)
    (hown : (mbOf s n).own = false) (hdone : (mbOf s n).done = false) (hfree : (mbOf s n).go = false) :
    mbCtrl n v path s = setMb n { mbOf s n with
      go := true, goSmp := decide (path = .smp), overrun := (mbOf s n).overrun && !bitOf v 3 } (queueGo n s) := by
  have hb : ((mbOf s n).own || (mbOf s n).done || n == 0) = false := by simp [hown, hdone, Nat.ne_of_gt hn]
  have hd : ((mbOf s n).done && !bitOf v 2) = (mbOf s n).done := by simp [hdone]
  simp only [mbCtrl, hgo, hb, hfree, hd, if_true, Bool.false_eq_true, if_false]

theorem exec_mbGoWrite {n : Nat} {s : State} (v : Word32) (path : Path) (hn : n < 64) (hup : fabricUp s = true) :
    exec (.mbGoWrite n v path) s = .next (mbCtrl n v.toNat path s) := by
  change within "mailbox" n 64 (if fabricUp s then mbCtrl n v.toNat path s else s) = _
  rw [within_next _ _ hn, if_pos hup]

/-! ### Taking a request (R51, R60) -/

/-- Outside MB1–MB3 a request needs no authentication: it is admitted once steps 1 to 3 and step 5 of R60 pass. -/
theorem admitReq_general {n : Nat} {header : Bytes} {r : Req} {s : State} (hn : 4 ≤ n)
    (hearly : earlyCheck s n (fieldU header 4 2) r = none) (hlife : lifecycleFails s r true = false) :
    admitReq n header r s = (none, s) := by
  have hauth : ¬(1 ≤ n ∧ n ≤ 3) := by omega
  simp only [admitReq, checkReq, hauth, if_false, hearly, hlife, firstFail, Bool.false_eq_true]

/-- A request handed over and admitted is copied; OWN is set and GO clears (R51, step 4). -/
theorem takeRequest_admitted {n : Nat} {r : Req} {s t : State} (hserved : served s = true) (hgo : (mbOf s n).go = true)
    (hown : (mbOf s n).own = false) (hr : r = parseReq (readBytes s.host.areas (0x400 * n) 512) (mbOf s n).goSmp)
    (ht : t = setMb n { mbOf s n with go := false, own := true, taken := some r, started := false } s)
    (hadmit : admitReq n ((readBytes s.host.areas (0x400 * n) 512).take 32) r t = (none, t)) :
    takeRequest n s = t := by
  have htake : ((mbOf s n).go && !(mbOf s n).own && served s) = true := by simp [hgo, hown, hserved]
  subst hr ht
  simp only [takeRequest, htake, if_true, hadmit]

theorem exec_mailboxRequestTake {n : Nat} (s : State) (h0 : n ≠ 0) (hn : n < 64) :
    exec (.mailboxRequestTake n) s = .next (takeRequest n s) := by
  change within "mailbox" n 64 (if n = 0 then s else takeRequest n s) = _
  rw [within_next _ _ hn, if_neg h0]

/-! ### A write to a request area (R47, R51) -/

/-- Byte `k` of the request area of mailbox `n` is stored, unless the module owns the mailbox. -/
theorem writeArea_request {n k : Nat} (width v : Nat) (s : State) (hk : k < 512) :
    writeArea (0x10000 + 0x400 * n + k) width v s =
      if (mbOf s n).own then s
      else { s with host := { s.host with areas := writeBytes s.host.areas (0x400 * n + k) (leBytes width v) } } := by
  have haddr : 0x10000 + 0x400 * n + k - 0x10000 = 0x400 * n + k := by omega
  have hmb : (0x400 * n + k) / 0x400 = n := by omega
  have hreq : (0x400 * n + k) % 0x400 < 0x200 := by omega
  simp only [writeArea, haddr, hmb, hreq, true_and]
  cases (mbOf s n).own <;> rfl

/-- The mailbox areas start at a multiple of every access width, so that alignment is that of the offset within an area. -/
theorem area_aligned {n k w : Nat} (hw : w ∈ [1, 2, 4, 8]) (hk : k % w = 0) : (0x10000 + 0x400 * n + k) % w = 0 := by
  simp only [List.mem_cons, List.not_mem_nil, or_false] at hw
  rcases hw with rfl | rfl | rfl | rfl <;> omega

/-- An aligned write in the range of the mailbox areas is a write to an area, whatever its width. -/
theorem windowWrite_area {off w : Nat} (v : Nat) (path : Path) (s : State) (hw : w ∈ [1, 2, 4, 8]) (ha : off % w = 0)
    (hlo : 0x10000 ≤ off) (hhi : off < 0x20000) : windowWrite path off w v s = writeArea off w v s := by
  have hc : [1, 2, 4, 8].contains w = true := List.contains_iff_mem.mpr hw
  simp only [windowWrite, ha, hc, hlo, hhi, ne_eq, not_true, Bool.not_true, Bool.false_eq_true, or_self, if_false, and_self, if_true]

theorem exec_registerWrite {s : State} (off w : Nat) (v : Word64) (path : Path) (hup : fabricUp s = true) :
    exec (.registerWrite off w v path) s = .next (windowWrite path off w v.toNat s) := by
  change Host.Outcome.next (if fabricUp s then windowWrite path off w v.toNat s else s) = _
  rw [if_pos hup]

end Sys2Proof.Machine

section

open Sys2Proof Sys2Proof.Machine

/-- Settles O2: GO by the two cases of MBn_CTRL, the taking by the checks that a request of MB4 to MB63 passes, and the write
by the place of its offset in the mailbox areas. -/
theorem mailboxesTakeRequests : Obligations.MailboxesTakeRequests := by
  unfold Obligations.MailboxesTakeRequests
  refine ⟨?free, ?busy, ?take, ?area⟩
  case free =>
    intro n v path s h0 hn hup hgo hown hdone hfree
    rw [← bitOf_toNat] at hgo
    rw [exec_mbGoWrite v path hn hup, mbCtrl_go_free path hgo h0 hown hdone hfree, bitOf_toNat]
  case busy =>
    intro n v path s hn hup hgo hbusy
    rw [← bitOf_toNat] at hgo
    rw [exec_mbGoWrite v path hn hup, mbCtrl_go_busy path hgo hbusy, bitOf_toNat]
  case take =>
    intro n s h4 hn hserved hgo hown r hr hearly hlife
    rw [← fieldU_take (m := 32) _ (by decide)] at hearly
    rw [exec_mailboxRequestTake s (by omega) hn,
      takeRequest_admitted hserved hgo hown hr rfl (admitReq_general h4 hearly hlife)]
  case area =>
    intro n k w v path s hn hw hk hal hup
    rw [exec_registerWrite _ w v path hup, windowWrite_area _ path s hw (area_aligned hw hal) (by omega) (by omega),
      writeArea_request w _ s hk]

end

/-! ### The reported value of a time base (spec/03_time_bases_milestones.md, R83) -/

namespace Sys2Proof.Machine

/-- The upper 72 of the 108 bits: nothing above them is cut off, so that the value is a whole division, which truncates. -/
@[simp] theorem tbTime_toNat (t : TimeBase) : (tbTime t).toNat = t.acc.toNat / 2 ^ 36 := by
  have hfits : t.acc.toNat / 2 ^ 36 < 2 ^ 72 := Nat.div_lt_of_lt_mul t.acc.isLt
  rw [tbTime, BitVec.extractLsb'_toNat, Nat.shiftRight_eq_div_pow, Nat.mod_eq_of_lt hfits]

end Sys2Proof.Machine

section

open Sys2Proof Sys2Proof.Machine

/-- Settles O46: the accumulator of the time base is shifted down by 36 bits, and 72 bits hold all that remains. -/
theorem reportedTimeDropsTheLowBits : Obligations.ReportedTimeDropsTheLowBits := by
  unfold Obligations.ReportedTimeDropsTheLowBits
  intro s n
  exact tbTime_toNat (tb s n)

end

/-! ### The quadrant of a tick (spec/04_metrology.md, R144) -/

namespace Sys2Proof.Machine

theorem quadrantOf_one {dp dq : Int} (hp : 0 ≤ dp) (hq : 0 ≤ dq) : quadrantOf dp dq = 1 := by
  rw [quadrantOf, if_pos hp, if_pos hq]

theorem quadrantOf_two {dp dq : Int} (hp : dp < 0) (hq : 0 ≤ dq) : quadrantOf dp dq = 2 := by
  rw [quadrantOf, if_neg (Int.not_le.mpr hp), if_pos hq]

theorem quadrantOf_three {dp dq : Int} (hp : dp < 0) (hq : dq < 0) : quadrantOf dp dq = 3 := by
  rw [quadrantOf, if_neg (Int.not_le.mpr hp), if_neg (Int.not_le.mpr hq)]

theorem quadrantOf_four {dp dq : Int} (hp : 0 ≤ dp) (hq : dq < 0) : quadrantOf dp dq = 4 := by
  rw [quadrantOf, if_pos hp, if_neg (Int.not_le.mpr hq)]

end Sys2Proof.Machine

section

open Sys2Proof Sys2Proof.Machine

/-- Settles O58: one rule of `quadrantOf` for each row of the table of R144. -/
theorem quadrantFollowsTheTotals : Obligations.QuadrantFollowsTheTotals := by
  unfold Obligations.QuadrantFollowsTheTotals
  intro dp dq
  exact ⟨quadrantOf_one, quadrantOf_two, quadrantOf_three, quadrantOf_four⟩

end

/-! ### The balance and phase commands (spec/11_validation_balance.md, R408–R410, R413, R414, R419–R421) -/

namespace Sys2Proof.Machine

open Sys2Proof

/-! ### A command row completes -/

/-- A command row completes as its run says, under whatever hypotheses let its checks pass. -/
theorem completes_of_runCmd {op : Nat} {c : Src → Instr} {check : Src → Req → State → Option Status}
    {run : Src → Req → State → Reply × State} {pre : Src → Req → State → Prop} {rep : Src → Req → State → Reply}
    {eff : Src → Req → State → State} (hexec : ∀ src s, exec (c src) s = runCmd op check run src s)
    (hcheck : ∀ src r s, pre src r s → check src r s = none)
    (hrun : ∀ src r s, pre src r s → run src r s = (rep src r s, eff src r s)) : Completes op c pre rep eff := by
  intro src r s hready hpre
  rw [hexec, runCmd_passes hready (hcheck src r s hpre), hrun src r s hpre]

/-- With PD6 up and unit 5 in service the first two checks pass, and the rest decide (R421, R483). -/
theorem firstFail_balGate {s : State} (l : List (Bool × Status)) (hup : active s 6 = true) (hfence : isFenced s 5 = false) :
    firstFail (balGate s ++ l) = firstFail l := by
  simp [balGate, firstFail, hup, hfence]

theorem groupExists_of_lt {k : Nat} (hk : k < 65568) : groupExists k = true := by simpa [groupExists] using hk

/-! ### When the checks pass -/

theorem balGroupCfgCheck_passes {r : Req} {s : State} (src : Src) (hup : active s 6 = true)
    (hmeter : isLocal (arg r 0 4) = true → active s 10 = true) (hfence : isFenced s 5 = false) (hasked : groupBad r = false)
    (hpoint : isLocal (arg r 0 4) = true → localBad s (arg r 0 4) (groupAsked r {}) = false) :
    balGroupCfgCheck src r s = none := by
  cases hl : isLocal (arg r 0 4) with
  | false => simp [balGroupCfgCheck, firstFail, hup, hfence, hasked, hl]
  | true => simp [balGroupCfgCheck, firstFail, hup, hfence, hasked, hl, hmeter hl, hpoint hl]

theorem balStatusCheck_passes {r : Req} {s : State} (src : Src) (hup : active s 6 = true) (hk : arg r 0 4 < 65568) :
    balStatusCheck src r s = none := by
  simp [balStatusCheck, firstFail, hup, groupExists_of_lt hk]

theorem balCloseCheck_passes {r : Req} {s : State} {i : BalInterval} {l : List BalInterval} (src : Src) (hup : active s 6 = true)
    (hfence : isFenced s 5 = false) (hk : arg r 0 4 < 65568) (hopen : (grpOf s (arg r 0 4)).opens = i :: l) :
    balCloseCheck src r s = none := by
  simp [balCloseCheck, firstFail_balGate _ hup hfence, firstFail, groupExists_of_lt hk, hopen]

theorem phaseCfgCheck_passes {r : Req} {s : State} (src : Src) (hup : active s 6 = true) (hfence : isFenced s 5 = false)
    (hasked : phaseCfgBad r = false) : phaseCfgCheck src r s = none := by
  simp [phaseCfgCheck, firstFail_balGate _ hup hfence, firstFail, hasked]

theorem phaseReadCheck_passes {r : Req} {s : State} (src : Src) (hup : active s 6 = true) (hi : arg r 0 4 < 2097152) :
    phaseReadCheck src r s = none := by
  simp [phaseReadCheck, firstFail, hup, hi]

theorem phaseResetCheck_passes {r : Req} {s : State} (src : Src) (hup : active s 6 = true) (hfence : isFenced s 5 = false)
    (hi : arg r 0 4 < 2097152) : phaseResetCheck src r s = none := by
  simp [phaseResetCheck, firstFail_balGate _ hup hfence, firstFail, hi]

theorem balOutputCfgCheck_passes {r : Req} {s : State} (src : Src) (hup : active s 6 = true) (hfence : isFenced s 5 = false)
    (hq : arg r 0 1 < 128) : balOutputCfgCheck src r s = none := by
  simp [balOutputCfgCheck, firstFail_balGate _ hup hfence, firstFail, hq]

/-! ### What the runs with branches do -/

/-- A group that was not enabled has nothing to close, and its next interval to open is the one after the boundary just
passed (R409, R410). -/
theorem balGroupCfgRun_disabled {r : Req} {s : State} (src : Src) (hoff : (grpOf s (arg r 0 4)).enable = false) :
    balGroupCfgRun src r s =
      ({ payload := groupBytes (arg r 0 4) (groupAsked r (grpOf s (arg r 0 4))) },
        setGrp (arg r 0 4) { groupAsked r (grpOf s (arg r 0 4)) with
          last := tb2Sec s / (60 * arg r 6 2) * (60 * arg r 6 2) } s) := by
  simp only [balGroupCfgRun, hoff, Bool.false_eq_true, if_false]
  rfl

/-- An interval already open is not opened again: its feeder side is replaced, and coverage is looked at (R413, R414). -/
theorem balFeedRun_open {r : Req} {s : State} {i : BalInterval} (src : Src)
    (hopen : openAt (grpOf s (arg r 0 4)) (arg r 4 9 / 2 ^ 36) = some i) :
    (balFeedRun src r s).2 = coverClose (arg r 0 4) (setOpen (arg r 0 4) { i with
      feed := signed 72 (arg r 13 9) * 2 ^ 32, feedSeen := true, i2t := arg r 22 9 * 2 ^ 32,
      volts := [arg r 31 4, arg r 35 4, arg r 39 4], weight := 1 } s) := by
  simp only [balFeedRun, hopen, Option.isNone_some, Bool.false_and, Bool.false_eq_true, if_false]

/-- An interval that is neither open nor may open is closed: STALE, and 0xA07 is all that the command does (R413). -/
theorem balFeedRun_closed {r : Req} {s : State} (src : Src)
    (hnone : openAt (grpOf s (arg r 0 4)) (arg r 4 9 / 2 ^ 36) = none)
    (hshut : mayOpen s (grpOf s (arg r 0 4)) (arg r 4 9 / 2 ^ 36) = false) :
    balFeedRun src r s = (fail .stale, logBal 0xA07 (arg r 0 4) (arg r 4 9 / 2 ^ 36) 0 0 s) := by
  simp only [balFeedRun, hnone, hshut, Bool.and_false, Bool.false_eq_true, if_false]

theorem balCloseRun_cons {r : Req} {s : State} {i : BalInterval} {l : List BalInterval} (src : Src)
    (hopen : (grpOf s (arg r 0 4)).opens = i :: l) :
    balCloseRun src r s = ({ payload := leBytes 9 (i.start * 2 ^ 36) }, closeBal (arg r 0 4) i 2 s) := by
  simp only [balCloseRun, hopen]

end Sys2Proof.Machine

section

open Sys2Proof Sys2Proof.Machine

/-- Settles O24: every row is a command row whose checks pass under the statement's hypotheses. BAL_GROUP_CFG, BAL_FEED and
BAL_CLOSE take the branch of their run that those hypotheses name; the other runs have no branches. -/
theorem balanceCommandsComplete : Obligations.BalanceCommandsComplete := by
  unfold Obligations.BalanceCommandsComplete
  refine ⟨?groupCfg, ?feedOpen, ?feedClosed, ?status, ?close, ?history, ?phaseCfg, ?phaseRead, ?phaseReset, ?outputCfg⟩
  case groupCfg =>
    refine completes_of_runCmd (fun _ _ => rfl) ?_ ?_
    · intro src r s ⟨hup, hmeter, hfence, hasked, hpoint, _⟩
      exact balGroupCfgCheck_passes src hup hmeter hfence hasked hpoint
    · intro src r s ⟨_, _, _, _, _, hoff⟩
      exact balGroupCfgRun_disabled src hoff
  case feedOpen =>
    intro i
    refine completes_of_runCmd (fun _ _ => rfl) (fun _ _ _ ⟨hcheck, _⟩ => hcheck) ?_
    intro src r s ⟨_, hopen⟩
    exact Prod.ext rfl (balFeedRun_open src hopen)
  case feedClosed =>
    refine completes_of_runCmd (fun _ _ => rfl) (fun _ _ _ ⟨hcheck, _⟩ => hcheck) ?_
    intro src r s ⟨_, hnone, hshut⟩
    exact balFeedRun_closed src hnone hshut
  case status =>
    exact completes_of_runCmd (fun _ _ => rfl) (fun src _ _ ⟨hup, hk⟩ => balStatusCheck_passes src hup hk) fun _ _ _ _ => rfl
  case close =>
    intro i l
    refine completes_of_runCmd (fun _ _ => rfl) ?_ ?_
    · intro src r s ⟨hup, hfence, hk, hopen⟩
      exact balCloseCheck_passes src hup hfence hk hopen
    · intro src r s ⟨_, _, _, hopen⟩
      exact balCloseRun_cons src hopen
  case history =>
    exact completes_of_runCmd (fun _ _ => rfl) (fun src _ _ ⟨hup, hk⟩ => balStatusCheck_passes src hup hk) fun _ _ _ _ => rfl
  case phaseCfg =>
    exact completes_of_runCmd (fun _ _ => rfl)
      (fun src _ _ ⟨hup, hfence, hasked⟩ => phaseCfgCheck_passes src hup hfence hasked) fun _ _ _ _ => rfl
  case phaseRead =>
    exact completes_of_runCmd (fun _ _ => rfl) (fun src _ _ ⟨hup, hi⟩ => phaseReadCheck_passes src hup hi) fun _ _ _ _ => rfl
  case phaseReset =>
    exact completes_of_runCmd (fun _ _ => rfl)
      (fun src _ _ ⟨hup, hfence, hi⟩ => phaseResetCheck_passes src hup hfence hi) fun _ _ _ _ => rfl
  case outputCfg =>
    exact completes_of_runCmd (fun _ _ => rfl)
      (fun src _ _ ⟨hup, hfence, hq⟩ => balOutputCfgCheck_passes src hup hfence hq) fun _ _ _ _ => rfl

end

/-! ### Every command is answered (spec/00_scope.md; R54) -/

namespace Sys2Proof.Machine

open Sys2Proof

/-- An outcome that is a next state where the command's operands name what the module has, and never a refusal. -/
def Answered (ok : Bool) (o : Host.Outcome State Fault Refusal) : Prop :=
  (ok = true → ∃ t, o = .next t) ∧ ∀ r, o ≠ .refused r

theorem answered_next (ok : Bool) (t : State) : Answered ok (.next t) :=
  ⟨fun _ => ⟨t, rfl⟩, nofun⟩

theorem answered_within (what : String) (i n : Nat) (t : State) : Answered (decide (i < n)) (within what i n t) := by
  refine ⟨fun h => ⟨t, within_next what t (of_decide_eq_true h)⟩, fun r => ?_⟩
  unfold within
  split <;> exact nofun

theorem runCmd_not_refused (op : Nat) (check : Src → Req → State → Option Status) (run : Src → Req → State → Reply × State)
    (src : Src) (s : State) (r : Refusal) : runCmd op check run src s ≠ .refused r := by
  cases he : src.exists with
  | true =>
    obtain ⟨t, ht⟩ := runCmd_next op check run s he
    rw [ht]
    exact nofun
  | false => simp [runCmd, he]

theorem answered_runCmd (op : Nat) (check : Src → Req → State → Option Status) (run : Src → Req → State → Reply × State)
    (src : Src) (s : State) : Answered src.exists (runCmd op check run src s) :=
  ⟨fun he => runCmd_next op check run s he, runCmd_not_refused op check run src s⟩

/-- ING_SUBMIT waits, without an answer, while the ingress has no room for it (R312). -/
theorem answered_ingSubmit (src : Src) (s : State) : Answered src.exists (exec (.ingSubmit src) s) := by
  change Answered src.exists (if submitWaits src s then .next s else runCmd 0x080C ingSubmitCheck ingSubmitRun src s)
  split
  · exact answered_next _ s
  · exact answered_runCmd ..

/-- FAULT_INJECT is a command row whose fault follows the answer (R504). -/
theorem answered_faultInject (src : Src) (s : State) : Answered src.exists (exec (.faultInject src) s) := by
  obtain ⟨hnext, hrefused⟩ := answered_runCmd 0x0C08 faultInjectCheck faultInjectRun src s
  change Answered src.exists (match runCmd 0x0C08 faultInjectCheck faultInjectRun src s with
    | .next t => .next (injectAfter (injecting src s) t)
    | o => o)
  generalize runCmd 0x0C08 faultInjectCheck faultInjectRun src s = o at hnext hrefused
  cases o with
  | next t => exact answered_next _ _
  | fault f => exact ⟨fun he => by simpa using hnext he, nofun⟩
  | refused r => exact absurd rfl (hrefused r)

/-- The rows are of three shapes: a command of a source, a row of one of a number of units, and a row that names none. -/
theorem exec_answered (c : Instr) (s : State) : Answered c.wellFormed (exec c s) := by
  cases c
  case ingSubmit src => exact answered_ingSubmit src s
  case faultInject src => exact answered_faultInject src s
  case pdStatus | qInfo | sqNop | tbUtcOffsetSet | msCapture | legalStatus | tmpStatus | secStatus | lcStatus | fwStatus
      | logInfo | logFlush | logClear => exact answered_runCmd _ noCheck ..
  case pdSet | dramArbSet | fabricStatus | plCouplingSet | hqFlush | intTest | tbInfo | tbSet | tbStep | tbLimitSet |
      tbSourceSet | tbDeclareLost | tb2TrimSet | msTriggerSet | msSchedule | ptpPortCfg | aethenoCfg | metInfo |
      metChanCfg | metBind | metCalSet | metCalGet | metRegCfg | metRead | metInstant | metHarmonics | metOutputCfg |
      metIntervalSet | metTpoCfg | metThreshSet | metCapture | metCaptureRead | holdupTest | metOutageRead | metRotation
      | tarStatus | tarDaySet | tarWeekSet | tarSeasonSet | tarSpecialSet | tarTableSet | tarActivate | tarAssign |
      billRegCfg | billClose | billRead | billHistoryRead | demCfg | demRead | prepayCfg | prepayCredit | prepaySwitch |
      prepayReconnect | prepayStatus | tamperRead | legalCvRead | legalCvShow | legalDisplayCfg | legalLogRead |
      legalDecommission | cpCfg | cpStatus | cpAuthorise | cpLimit | cpStop | cpAvailability | cpReset | cpRcdCfg |
      cpImdCfg | cpSessionRead | cpSlacStatus | cpV2gCfg | cpTrustSet | cpPilotRead | cpRecordCfg | plCfg | plNetCfg |
      plStatus | plNbrRead | plNbrDelete | plTmRead | plTmRefresh | plRouteSet | plRouteRead | plRouteFlush | plTx |
      plBeaconSet | rfCfg | rfNetCfg | rfStatus | rfLinkAdd | rfLinkUpdate | rfLinkRemove | rfLinkRead | rfTx |
      rfDevDelete | ingStatus | fipCfg | ingSteerSet | ingPortCfg | ingParseSet | ingAckTemplate | ctxWrite | ctxRead |
      ctxDelete | jtInvalidate | jtRead | dxPeerCfg | dxUplinkCfg | smbCfg | smbTx | clStatus | clTest | clBorrowCfg |
      keygenStatus | keyGraceSet | sessStatus | sessClear | balGroupCfg | balFeed | balStatus | balClose |
      balHistoryRead | phaseCfg | phaseRead | phaseReset | balOutputCfg | omkLoad | omkVerify | omkCommit | omkRevoke |
      keyImport | keyGenerate | keyErase | keyInfo | dikRead | keyAuthSet | keyAuthRotate | tmpCfg | lcAdvance |
      lcNextDik | lcRecover | lcDebugOpen | fwStageOpen | fwStageWrite | fwStageClose | fwStageAbort | activate |
      activateAt | fwConfirm | fwOpkeySet | activateLegal | logRead | logRateSet | faultStatus | unitRecover | hpCfg |
      hpResume => exact answered_runCmd ..
  case mbGoWrite | mailboxRequestTake | qCtrlEnWrite | hqConsumedWrite | sqTailWrite | cqHeadWrite | sqEntryFetch |
      tbNowReadLatch | tbIncWrite | tbStepHiWrite | packetWriteToRing | panTailTimeout | vectorModerationTimeout |
      tbSetPpsTimeout | zeroCrossing | mainsCrossingMissing | ptpEventMessage | scheduledMilestoneFire |
      measurementWindowEnd | metrologyAlarmTimer | rateSwitch | dstChange | demandSubintervalEnd | billingPeriodClose |
      tariffActivationDue | prepayFeedbackChange | prepayFeedbackTimeout | prepayBypassDetect | legalDisplayPing |
      legalDisplayScroll | pilotMeasurement | proximityWindow | cpFeedbackChange | cpFeedbackTimeout | cpPullInEnd |
      cpStoppingTimeout | rcdSelfTestEnd | imdPeriodEnd | authTimeout | nulvoHeartbeatLoss | nulvoEnergyRequest |
      slacSoundFrame | plFrameReceive | plTransmitTurn | plAckReceive | plAckTimeout | plRefreshTimer |
      plReassemblyTimeout | plNeighbourAgeing | plRouteLapse | rfFrameReceive | rfBackoffExpiry | rfAckReceive |
      rfAckTimeout | rfWindowTune | rfWindowEnd | rfSupervisionTimeout | rfDutyLimitChange | rfDeviceAgeing |
      smbFrameReceive | dxDataReceive | frameAdmit | admissionReopen | laneGrant | laneOperationEnd | laneQueueTimeout |
      frameValidate | junctionLearn | junctionScrub | recordDelivered | dxAckReceive | graceWindowEnd | pkeOperationEnd
      | mailboxLockoutEnd | clTestEnd | balIntervalOpen | balDeadline | balRecordEmit | phaseRecordEmit | watchdogExpiry
      | eccError | lockstepMismatch | busTimeout | domainSupplyFault | f1HandlingComplete | f1RepeatTimeout |
      fenceComplete | unitRecoveryEnd => exact answered_within ..
  all_goals exact answered_next ..

theorem step_cons {c : Instr} {rest : List Instr} {s : State} (h : s.pending = c :: rest) :
    step s = exec c { s with pending := rest } := by
  simp only [step, h]

theorem step_nil {s : State} (h : s.pending = []) : step s = .next (idle s) := by
  simp only [step, h]

end Sys2Proof.Machine

section

open Sys2Proof Sys2Proof.Machine

/-- Settles O34: a step is a row or an idle tick, and every row is answered. -/
theorem noCommandStopsTheModule : Obligations.NoCommandStopsTheModule := by
  unfold Obligations.NoCommandStopsTheModule
  refine ⟨?command, ?idle, ?refusal⟩
  case command =>
    intro c rest s hp hwf
    rw [step_cons hp]
    exact (exec_answered c _).1 hwf
  case idle =>
    intro s hp
    exact ⟨_, step_nil hp⟩
  case refusal =>
    intro s r
    cases hp : s.pending with
    | nil => simp [step_nil hp]
    | cons c rest =>
      rw [step_cons hp]
      exact (exec_answered c _).2 r

/-- Settles O33: both clauses are the two equations of a step. -/
theorem stepRunsTheFrontCommand : Obligations.StepRunsTheFrontCommand := by
  unfold Obligations.StepRunsTheFrontCommand
  exact ⟨fun c rest s hp => step_cons hp, fun s hp => step_nil hp⟩

end

/-! ### The reset state (R50, R62, R84, R115, R203, R209, R481) -/

namespace Sys2Proof.Machine

@[simp] theorem bitOf_zero (i : Nat) : bitOf 0 i = false := by simp [bitOf]

/-- No unit of the reset state is fenced, with or without the units that depend on PD6. -/
theorem isFenced_reset (u : Nat) : isFenced State.reset u = false := by
  have hown (v : Nat) : ownFenced State.reset v = false := rfl
  simp [isFenced, hown]

/-- Neither supply is there, and no domain has joined. -/
theorem active_reset (d : Nat) : active State.reset d = false := by
  simp [active, State.reset]

end Sys2Proof.Machine

section

open Sys2Proof Sys2Proof.Machine

/-- Settles O36: the memories and the queue of the reset state are empty, and so is its table of tamper records. -/
theorem resetMemoriesAreCanonical : Obligations.ResetMemoriesAreCanonical := by
  unfold Obligations.ResetMemoriesAreCanonical
  exact ⟨⟨rfl, rfl, rfl, rfl⟩, rfl, nofun⟩

/-- Settles O38: every table of the reset state is empty, so that an entry reads as its default. -/
theorem resetLeavesTheStatedValues : Obligations.ResetLeavesTheStatedValues := by
  unfold Obligations.ResetLeavesTheStatedValues
  refine ⟨?increments, rfl, ?mailboxes, ?queues, ?fences, ?domains, rfl, rfl, rfl⟩
  case increments => decide
  case mailboxes => exact fun n => ⟨rfl, rfl, rfl, rfl, rfl⟩
  case queues => exact fun q => ⟨rfl, rfl, rfl⟩
  case fences => exact isFenced_reset
  case domains => exact active_reset

end

/-! ### Entries of the host interface after an update (R50, R62) -/

namespace Sys2Proof.Machine

/-- A value other than the default is listed, so that it is read back whatever the table was. -/
theorem look_put_of_ne {α : Type} [DecidableEq α] {d v : α} (t : Tab α) (i : Nat) (h : v ≠ d) : look d (put d t i v) i = v := by
  rw [put, if_neg h]
  exact look_insertKey_same d t i v

theorem mbOf_setMb_of_ne {m : Mailbox} (n : Nat) (s : State) (h : m ≠ {}) : mbOf (setMb n m s) n = m :=
  look_put_of_ne _ n h

theorem mbOf_setMb_other {n k : Nat} (m : Mailbox) (s : State) (h : k ≠ n) : mbOf (setMb n m s) k = mbOf s k :=
  look_put_other _ s.host.mbs m h

theorem hqOf_setHq_of_ne {h : Hq} (q : Nat) (s : State) (hne : h ≠ {}) : hqOf (setHq q h s) q = h :=
  look_put_of_ne _ q hne

theorem hqOf_setHq_other {q k : Nat} (h : Hq) (s : State) (hk : k ≠ q) : hqOf (setHq q h s) k = hqOf s k :=
  look_put_other _ s.host.hqs h hk

theorem cqOf_setCq_of_ne {c : Cq} (q : Nat) (s : State) (hne : c ≠ {}) : cqOf (setCq q c s) q = c :=
  look_put_of_ne _ q hne

theorem cqOf_setCq_other {q k : Nat} (c : Cq) (s : State) (hk : k ≠ q) : cqOf (setCq q c s) k = cqOf s k :=
  look_put_other _ s.host.cqs c hk

/-- An enabled harvest queue is not the one of the reset state. -/
theorem hq_ne_default {h : Hq} (hen : h.en = true) : h ≠ {} := by
  rintro rfl
  exact Bool.false_ne_true hen

theorem cq_ne_default {c : Cq} (hen : c.en = true) : c ≠ {} := by
  rintro rfl
  exact Bool.false_ne_true hen

/-- A mailbox that holds a response is not the one of the reset state. -/
theorem mb_ne_default {m : Mailbox} (hdone : m.done = true) : m ≠ {} := by
  rintro rfl
  exact Bool.false_ne_true hdone

/-- A raised vector leaves mailboxes and queues as they are. -/
theorem raiseV_host (v : Nat) (s : State) :
    (raiseV v s).host.mbs = s.host.mbs ∧ (raiseV v s).host.hqs = s.host.hqs ∧ (raiseV v s).host.sqs = s.host.sqs
      ∧ (raiseV v s).host.cqs = s.host.cqs ∧ (raiseV v s).host.areas = s.host.areas := by
  simp only [raiseV, emit]
  repeat' split
  all_goals exact ⟨rfl, rfl, rfl, rfl, rfl⟩

@[simp] theorem mbOf_raiseV (v : Nat) (s : State) (n : Nat) : mbOf (raiseV v s) n = mbOf s n := by simp [mbOf]

@[simp] theorem hqOf_raiseV (v : Nat) (s : State) (q : Nat) : hqOf (raiseV v s) q = hqOf s q := by
  obtain ⟨_, h, _⟩ := raiseV_host v s
  rw [hqOf, h, hqOf]

@[simp] theorem sqOf_raiseV (v : Nat) (s : State) (q : Nat) : sqOf (raiseV v s) q = sqOf s q := by
  obtain ⟨_, _, h, _⟩ := raiseV_host v s
  rw [sqOf, h, sqOf]

@[simp] theorem cqOf_raiseV (v : Nat) (s : State) (q : Nat) : cqOf (raiseV v s) q = cqOf s q := by
  obtain ⟨_, _, _, h, _⟩ := raiseV_host v s
  rw [cqOf, h, cqOf]

end Sys2Proof.Machine

/-! ### A response in a mailbox (R51, R57) -/

namespace Sys2Proof.Machine

/-- The mailbox as a response leaves it (R51, steps 5 to 7). -/
def answeredMb (m : Mailbox) (st : Status) : Mailbox :=
  { m with
    done := true, seq := m.seq + 1, own := decide (st = .accepted), taken := if decide (st = .accepted) then m.taken else none,
    started := decide (st = .accepted) }

theorem mbOf_answerMb (n : Nat) (r : Req) (key : Option Bytes) (st : Status) (payload : Bytes) (s : State) :
    mbOf (answerMb n r key st payload s) n = answeredMb (mbOf s n) st := by
  have hne : answeredMb (mbOf s n) st ≠ {} := mb_ne_default rfl
  simp only [answerMb]
  split
  · rw [mbOf_raiseV]
    exact mbOf_setMb_of_ne n _ hne
  · exact mbOf_setMb_of_ne n _ hne

theorem mbOf_answerMb_other {n k : Nat} (r : Req) (key : Option Bytes) (st : Status) (payload : Bytes) (s : State) (h : k ≠ n) :
    mbOf (answerMb n r key st payload s) k = mbOf s k := by
  simp only [answerMb]
  split
  · rw [mbOf_raiseV]
    exact mbOf_setMb_other _ _ h
  · exact mbOf_setMb_other _ _ h

theorem answerMb_areas (n : Nat) (r : Req) (key : Option Bytes) (st : Status) (payload : Bytes) (s : State) :
    (answerMb n r key st payload s).host.areas
      = writeBytes s.host.areas (0x400 * n + 0x200) (respBytes n r key st payload) := by
  simp only [answerMb]
  split
  · rw [raiseV_areas]
    rfl
  · rfl

theorem answerMb_queues (n : Nat) (r : Req) (key : Option Bytes) (st : Status) (payload : Bytes) (s : State) :
    (answerMb n r key st payload s).host.hqs = s.host.hqs ∧ (answerMb n r key st payload s).host.sqs = s.host.sqs
      ∧ (answerMb n r key st payload s).host.cqs = s.host.cqs := by
  simp only [answerMb]
  split
  · obtain ⟨_, hhq, hsq, hcq, _⟩ := raiseV_host 192 (setMb n (answeredMb (mbOf s n) st)
      (goneBy n { s with host := { s.host with
        areas := writeBytes s.host.areas (0x400 * n + 0x200) (respBytes n r key st payload) } }))
    exact ⟨hhq, hsq, hcq⟩
  · exact ⟨rfl, rfl, rfl⟩

end Sys2Proof.Machine

section

open Sys2Proof Sys2Proof.Machine

/-- Settles O39: the mailbox, the area and the rest of the host interface after `answerMb`, part by part. -/
theorem responsesTouchOnlyTheirMailbox : Obligations.ResponsesTouchOnlyTheirMailbox := by
  unfold Obligations.ResponsesTouchOnlyTheirMailbox
  intro n r key st payload s t b
  have hmb : mbOf t n = answeredMb (mbOf s n) st := mbOf_answerMb n r key st payload s
  have harea : t.host.areas = writeBytes s.host.areas (0x400 * n + 0x200) b := answerMb_areas n r key st payload s
  rw [hmb, harea]
  refine ⟨rfl, rfl, rfl, rfl, ?other, ?outside, ?inside, answerMb_parts n r key st payload s,
    answerMb_queues n r key st payload s⟩
  case other => exact fun k hk => mbOf_answerMb_other r key st payload s hk
  case outside => exact fun a ha => read_writeBytes_other b s.host.areas ha
  case inside => exact fun hwf i hi => read_writeBytes_same b s.host.areas _ i hwf hi

end

/-! ### The entries of a completion queue (R72) -/

namespace Sys2Proof.Machine

/-- A completion queue after one entry from its submission queue: the next cell, its phase, and the entries counted (R72, R75). -/
def postedCq (c : Cq) : Cq :=
  { c with
    tail := (c.tail + 1) % ringSize c.cfg, reserved := c.reserved - 1, counted := (moderate c.counted c.cfg c.modTime).1,
    phase := if c.tail + 1 = ringSize c.cfg then !c.phase else c.phase }

theorem postCq_host (sq tag : Nat) (st : Status) (type info : Nat) (payload : Bytes) (s : State) :
    (postCq sq tag st type info payload s).host.cqs
        = put {} s.host.cqs (cqNum (sqOf s sq).cfg) (postedCq (cqOf s (cqNum (sqOf s sq).cfg)))
      ∧ (postCq sq tag st type info payload s).host.sqs = s.host.sqs
      ∧ (postCq sq tag st type info payload s).host.hqs = s.host.hqs := by
  simp only [postCq, postCqAt]
  split
  · refine ⟨?_, ?_, ?_⟩
    · exact (raiseV_host _ _).2.2.2.1
    · exact (raiseV_host _ _).2.2.1
    · exact (raiseV_host _ _).2.1
  · exact ⟨rfl, rfl, rfl⟩

/-- The entries of one submission queue, posted in turn: tag, status, INFO and payload of each. -/
def postAll (sq : Nat) (l : List (Nat × Status × Nat × Bytes)) (s : State) : State :=
  l.foldl (fun u e => postCq sq e.1 e.2.1 0 e.2.2.1 e.2.2.2 u) s

/-- A completion queue after `n` entries. -/
def postedCqs : Nat → Cq → Cq
  | 0, c => c
  | n + 1, c => postedCqs n (postedCq c)

theorem postedCqs_succ (n : Nat) (c : Cq) : postedCqs (n + 1) c = postedCq (postedCqs n c) := by
  induction n generalizing c with
  | zero => rfl
  | succ n ih => exact ih (postedCq c)

/-- Entry after entry, the completion queue alone moves on. -/
theorem postAll_host (sq : Nat) (l : List (Nat × Status × Nat × Bytes)) (s : State)
    (hen : (cqOf s (cqNum (sqOf s sq).cfg)).en = true) :
    cqOf (postAll sq l s) (cqNum (sqOf s sq).cfg) = postedCqs l.length (cqOf s (cqNum (sqOf s sq).cfg))
      ∧ (∀ k, k ≠ cqNum (sqOf s sq).cfg → cqOf (postAll sq l s) k = cqOf s k)
      ∧ (postAll sq l s).host.sqs = s.host.sqs ∧ (postAll sq l s).host.hqs = s.host.hqs := by
  induction l generalizing s with
  | nil => exact ⟨rfl, fun _ _ => rfl, rfl, rfl⟩
  | cons e l ih =>
    let t := postCq sq e.1 e.2.1 0 e.2.2.1 e.2.2.2 s
    obtain ⟨hcqs, hsqs, hhqs⟩ := postCq_host sq e.1 e.2.1 0 e.2.2.1 e.2.2.2 s
    have hsq : sqOf t sq = sqOf s sq := by rw [sqOf, hsqs, sqOf]
    have hown : cqOf t (cqNum (sqOf s sq).cfg) = postedCq (cqOf s (cqNum (sqOf s sq).cfg)) := by
      rw [cqOf, hcqs]
      exact look_put_of_ne _ _ (cq_ne_default hen)
    have hother (k : Nat) (hk : k ≠ cqNum (sqOf s sq).cfg) : cqOf t k = cqOf s k := by
      rw [cqOf, hcqs]
      exact look_put_other _ s.host.cqs _ hk
    have hrest := ih t (by rw [hsq, hown]; exact hen)
    rw [hsq, hown] at hrest
    obtain ⟨htail, hkeep, hsqs', hhqs'⟩ := hrest
    exact ⟨htail, fun k hk => (hkeep k hk).trans (hother k hk), hsqs'.trans hsqs, hhqs'.trans hhqs⟩

/-- Once more round the ring: the tail and the passes that `n` entries finish. -/
theorem postedCqs_ring (n : Nat) (c : Cq) (htail : c.tail < ringSize c.cfg) :
    (postedCqs n c).cfg = c.cfg ∧ (postedCqs n c).tail = (c.tail + n) % ringSize c.cfg
      ∧ (postedCqs n c).phase = (if (c.tail + n) / ringSize c.cfg % 2 = 0 then c.phase else !c.phase) := by
  have hpos : 0 < ringSize c.cfg := Nat.zero_lt_of_lt htail
  induction n with
  | zero =>
    refine ⟨rfl, (Nat.mod_eq_of_lt htail).symm, ?_⟩
    simp [postedCqs, Nat.div_eq_of_lt htail]
  | succ n ih =>
    obtain ⟨hcfg, ht, hph⟩ := ih
    rw [postedCqs_succ]
    generalize hd : postedCqs n c = d at hcfg ht hph
    have hsize : ringSize d.cfg = ringSize c.cfg := by rw [hcfg]
    refine ⟨hcfg, ?_, ?_⟩
    · change (d.tail + 1) % ringSize d.cfg = _
      rw [hsize, ht, Nat.mod_add_mod, Nat.add_assoc]
    · change (if d.tail + 1 = ringSize d.cfg then !d.phase else d.phase) = _
      rw [hsize, ht, hph, ← Nat.add_assoc]
      generalize c.tail + n = m
      generalize ringSize c.cfg = size at hpos
      have hlt : m % size < size := Nat.mod_lt m hpos
      have hsum : m + 1 = size * (m / size) + (m % size + 1) := by
        rw [← Nat.add_assoc, Nat.div_add_mod]
      by_cases hend : m % size + 1 = size
      · have hdiv : (m + 1) / size = m / size + 1 := by
          rw [hsum, hend, Nat.mul_add_div hpos, Nat.div_self hpos]
        rw [if_pos hend, hdiv]
        rcases Nat.mod_two_eq_zero_or_one (m / size) with h0 | h0 <;> simp [Nat.add_mod, h0]
      · have hstep : m % size + 1 < size := by omega
        have hdiv : (m + 1) / size = m / size := by
          rw [hsum, Nat.mul_add_div hpos, Nat.div_eq_of_lt hstep, Nat.add_zero]
        rw [if_neg hend, hdiv]

end Sys2Proof.Machine

section

open Sys2Proof Sys2Proof.Machine

/-- Settles O40, by induction on the entries: each moves the completion queue by one cell. -/
theorem completionPhaseTurnsWithEachPass : Obligations.CompletionPhaseTurnsWithEachPass := by
  unfold Obligations.CompletionPhaseTurnsWithEachPass
  intro l sq s n c size t hen htail
  obtain ⟨hown, hother, hsqs, hhqs⟩ := postAll_host sq l s hen
  obtain ⟨_, ht, hph⟩ := postedCqs_ring l.length c htail
  have hc : cqOf t n = postedCqs l.length c := hown
  rw [hc]
  exact ⟨ht, hph, hother, hsqs, hhqs⟩

end

/-! ### The cells of a packet (R64, R65) -/

namespace Sys2Proof.Machine

/-- A string cut into pieces of `k` bytes, the last one filled up, is the string with that filling. -/
theorem take_flatMap_pieces (k n : Nat) (b : Bytes) (h : b.length ≤ k * n) :
    ((List.range n).flatMap fun i => padTo k (fieldB b (k * i) k)).take b.length = b := by
  induction n generalizing b with
  | zero => simp [List.eq_nil_of_length_eq_zero (Nat.le_zero.mp h)]
  | succ n ih =>
    have hrest : ((List.range n).flatMap fun i => padTo k (fieldB b (k * (i + 1)) k)).take (b.length - k) = b.drop k := by
      have hdrop : (b.drop k).length ≤ k * n := by
        rw [List.length_drop, Nat.sub_le_iff_le_add]
        exact h
      rw [← List.length_drop]
      refine Eq.trans ?_ (ih (b.drop k) hdrop)
      simp only [fieldB, List.drop_drop, Nat.mul_add, Nat.mul_one, Nat.add_comm]
    have hfirst : (padTo k (fieldB b 0 k)).take b.length = b.take k := by
      simp only [padTo, fieldB, List.drop_zero, List.take_take, Nat.min_self]
      by_cases hk : b.length ≤ k
      · rw [List.take_of_length_le hk, List.take_left]
      · have hfull : k - (b.take k).length = 0 := by rw [List.length_take]; omega
        rw [hfull, List.replicate_zero, List.append_nil, List.take_take]
        congr 1
        omega
    rw [List.range_succ_eq_map, List.flatMap_cons, List.flatMap_map, List.take_append, padTo_length]
    exact (congr (congrArg (· ++ ·) hfirst) hrest).trans (List.take_append_drop k b)

/-- The bytes of a packet fit into its cells. -/
theorem length_le_cells (p : Packet) : p.bytes.length ≤ 56 * packetCells p := by
  simp only [packetCells, cellsOf]
  omega

@[simp] theorem trailer_length (p : Packet) (i : Nat) : (trailer p i).length = 6 := by simp [trailer]

/-- The first 62 bytes of a cell: payload and trailer. -/
theorem take_cellBytes (p : Packet) (i : Nat) :
    (cellBytes p i).take 62 = padTo 56 (fieldB p.bytes (56 * i) 56) ++ trailer p i := by
  rw [cellBytes]
  exact List.take_left' (by simp)

theorem cellBytes_payload (p : Packet) (i : Nat) : (cellBytes p i).take 56 = padTo 56 (fieldB p.bytes (56 * i) 56) := by
  rw [cellBytes, List.append_assoc]
  exact List.take_left' (by simp)

theorem cellBytes_drop (p : Packet) (i k : Nat) :
    (cellBytes p i).drop (56 + k) = (trailer p i ++ leBytes 2 (crc16 ((cellBytes p i).take 62)).toNat).drop k := by
  rw [take_cellBytes, cellBytes, List.append_assoc, ← List.drop_drop]
  rw [List.drop_left' (by simp)]

/-- A field that begins a string is the number whose bytes it was made of. -/
theorem leNat_take_leBytes (n v : Nat) (rest : Bytes) : leNat ((leBytes n v ++ rest).take n) = v % 256 ^ n := by
  rw [List.take_left' (leBytes_length n v), leNat_leBytes]

/-- BEGIN and END of a cell (R65). -/
theorem cellBytes_marks (p : Packet) (i : Nat) :
    fieldU (cellBytes p i) 56 1 = b2n (decide (i + 1 = packetCells p)) + 2 * b2n (decide (i = 0)) := by
  have hmark : b2n (i + 1 == packetCells p) + 2 * b2n (i == 0) < 256 := by
    simp only [b2n]
    split <;> split <;> omega
  have hd := cellBytes_drop p i 0
  rw [fieldU, hd, List.drop_zero, trailer, le8, List.append_assoc, List.append_assoc, leNat_take_leBytes, Nat.pow_one,
    Nat.mod_eq_of_lt hmark]
  rfl

theorem cellBytes_seq {p : Packet} (i : Nat) (h : p.seq < 2 ^ 32) : fieldU (cellBytes p i) 58 4 = p.seq := by
  rw [fieldU, cellBytes_drop p i 2, trailer, List.append_assoc, List.drop_left' (by simp), le32, leNat_take_leBytes]
  exact Nat.mod_eq_of_lt h

theorem cellBytes_crc (p : Packet) (i : Nat) : fieldU (cellBytes p i) 62 2 = (crc16 ((cellBytes p i).take 62)).toNat := by
  rw [fieldU, cellBytes_drop p i 6, List.drop_left' (by simp), List.take_of_length_le (by simp), leNat_leBytes]
  exact Nat.mod_eq_of_lt (crc16 _).isLt

end Sys2Proof.Machine

section

open Sys2Proof Sys2Proof.Machine

/-- Settles O41: the payloads are the pieces of the record, and each trailer field is read back at its place. -/
theorem cellsCarryTheWholeRecord : Obligations.CellsCarryTheWholeRecord := by
  unfold Obligations.CellsCarryTheWholeRecord
  intro p
  refine ⟨?record, fun i => by simp [cellBytes], fun i _ => cellBytes_marks p i, fun i h => cellBytes_seq i h, cellBytes_crc p⟩
  case record =>
    simp only [cellBytes_payload]
    exact take_flatMap_pieces 56 (packetCells p) p.bytes (length_le_cells p)

end

/-! ### Reservations of cells (R68, R323) -/

namespace Sys2Proof.Machine

/-- What hand-off, spilling and counting keep of queue `q`: it stays enabled, no pan gets fuller, reservations stay, and no other queue
changes. -/
structure PansShrink (q : Nat) (s t : State) : Prop where
  enabled : (hqOf t q).en = true
  usedA : panUsed (hqOf t q).panA ≤ panUsed (hqOf s q).panA
  usedB : panUsed (hqOf t q).panB ≤ panUsed (hqOf s q).panB
  resvA : (hqOf t q).panA.resv = (hqOf s q).panA.resv
  resvB : (hqOf t q).panB.resv = (hqOf s q).panB.resv
  resvPond : (hqOf t q).pondResv = (hqOf s q).pondResv
  others : ∀ j, j ≠ q → hqOf t j = hqOf s j

theorem PansShrink.refl {q : Nat} {s : State} (h : (hqOf s q).en = true) : PansShrink q s s :=
  ⟨h, Nat.le_refl _, Nat.le_refl _, rfl, rfl, rfl, fun _ _ => rfl⟩

theorem PansShrink.trans {q : Nat} {s t u : State} (h : PansShrink q s t) (g : PansShrink q t u) : PansShrink q s u :=
  ⟨g.enabled, Nat.le_trans g.usedA h.usedA, Nat.le_trans g.usedB h.usedB, g.resvA.trans h.resvA, g.resvB.trans h.resvB,
    g.resvPond.trans h.resvPond, fun j hj => (g.others j hj).trans (h.others j hj)⟩

/-- An update of the queue's own block, pan by pan. -/
theorem PansShrink.setHq {q : Nat} {s : State} {h : Hq} (hen : h.en = true) (ha : panUsed h.panA ≤ panUsed (hqOf s q).panA)
    (hb : panUsed h.panB ≤ panUsed (hqOf s q).panB) (hra : h.panA.resv = (hqOf s q).panA.resv)
    (hrb : h.panB.resv = (hqOf s q).panB.resv) (hrp : h.pondResv = (hqOf s q).pondResv) :
    PansShrink q s (setHq q h s) := by
  have hown : hqOf (Machine.setHq q h s) q = h := hqOf_setHq_of_ne q s (hq_ne_default hen)
  constructor <;> first | (rw [hown]; assumption) | exact fun j hj => hqOf_setHq_other h s hj

/-- Parts of the state that the queues do not see. -/
theorem PansShrink.of_hqs {q : Nat} {s t u : State} (h : PansShrink q s t) (e : u.host.hqs = t.host.hqs) : PansShrink q s u := by
  have heq (j : Nat) : hqOf u j = hqOf t j := by rw [hqOf, e, hqOf]
  constructor <;> simp only [heq]
  · exact h.enabled
  · exact h.usedA
  · exact h.usedB
  · exact h.resvA
  · exact h.resvB
  · exact h.resvPond
  · exact h.others

theorem raiseV_hqs (v : Nat) (s : State) : (raiseV v s).host.hqs = s.host.hqs := (raiseV_host v s).2.1

theorem writeBack_hqs (q : Nat) (s : State) : (writeBack q s).host.hqs = s.host.hqs := by
  simp only [writeBack]
  split <;> rfl

theorem countAvail_shrinks (q n : Nat) (s : State) (h : (hqOf s q).en = true) : PansShrink q s (countAvail q n s) := by
  induction n generalizing s with
  | zero => exact .refl h
  | succ n ih =>
    rw [countAvail]
    let counted := setHq q { hqOf s q with
      pkts := (hqOf s q).pkts + 1, counted := (moderate (hqOf s q).counted (hqOf s q).cfg (hqOf s q).modTime).1 } s
    have hset : PansShrink q s counted := .setHq h (Nat.le_refl _) (Nat.le_refl _) rfl rfl rfl
    have hwb : PansShrink q s (writeBack q counted) := hset.of_hqs (writeBack_hqs q counted)
    simp only
    split
    · have hv := hwb.of_hqs (raiseV_hqs q (writeBack q counted))
      exact hv.trans (ih _ hv.enabled)
    · exact hwb.trans (ih _ hwb.enabled)

/-- Two blocks of a queue that differ at most in the flags of their pans. -/
structure SamePans (h f : Hq) : Prop where
  en : f.en = h.en
  pktsA : f.panA.pkts = h.panA.pkts
  resvA : f.panA.resv = h.panA.resv
  pktsB : f.panB.pkts = h.panB.pkts
  resvB : f.panB.resv = h.panB.resv
  resvPond : f.pondResv = h.pondResv

theorem SamePans.setOther {h : Hq} {p : Pan} (hp : p.pkts = (otherPan h).pkts) (hr : p.resv = (otherPan h).resv) :
    SamePans h (setOther h p) := by
  unfold Machine.setOther
  unfold otherPan at hp hr
  split at hp <;> simp_all <;> constructor <;> first | rfl | assumption

theorem SamePans.setFill {h : Hq} {p : Pan} (hp : p.pkts = (fillPan h).pkts) (hr : p.resv = (fillPan h).resv) :
    SamePans h (setFill h p) := by
  unfold Machine.setFill
  unfold fillPan at hp hr
  split at hp <;> simp_all <;> constructor <;> first | rfl | assumption

/-- Which pan is the filling one does not count. -/
theorem SamePans.flip {h f g : Hq} (hf : SamePans h f) (hg : g = { f with fillB := g.fillB }) : SamePans h g := by
  rw [hg]
  exact ⟨hf.en, hf.pktsA, hf.resvA, hf.pktsB, hf.resvB, hf.resvPond⟩

theorem PansShrink.of_samePans {q : Nat} {s : State} {f : Hq} (h : (hqOf s q).en = true) (hf : SamePans (hqOf s q) f) :
    PansShrink q s (Machine.setHq q f s) :=
  .setHq (hf.en.trans h) (by simp only [panUsed, hf.pktsA, hf.resvA, Nat.le_refl]) (by simp only [panUsed, hf.pktsB, hf.resvB, Nat.le_refl])
    hf.resvA hf.resvB hf.resvPond

/-- A hand-off changes flags of the pans, and counts packets that became available (R68, R70). -/
theorem handOff_shrinks {q : Nat} {s : State} (h : (hqOf s q).en = true) : PansShrink q s (handOff q s) := by
  have hcount {f : Hq} (k : Nat) (hf : SamePans (hqOf s q) f) :
      PansShrink q s (if hqMode (hqOf s q).cfg = 0 then setHq q f s else countAvail q k (setHq q f s)) := by
    have hset : PansShrink q s (setHq q f s) := .of_samePans h hf
    split
    · exact hset
    · exact hset.trans (countAvail_shrinks q k _ hset.enabled)
  simp only [handOff]
  split
  · split
    · exact .of_samePans h (.setOther rfl rfl)
    · split
      · exact .refl h
      · exact hcount _ (.setOther rfl rfl)
  · split
    · split
      · exact .of_samePans h (.setFill rfl rfl)
      · have hfill : SamePans (hqOf s q) (setFill (hqOf s q) { fillPan (hqOf s q) with closing := false, handed := true }) :=
          .setFill rfl rfl
        exact hcount _ (hfill.flip rfl)
    · exact .refl h

/-- A pan that spills keeps its reservations (R68). -/
theorem spillPan_shrinks {q : Nat} {s : State} (h : (hqOf s q).en = true) : PansShrink q s (spillPan q s) := by
  have hdone {f : Hq} (hf : PansShrink q s (setHq q f s)) (c : Nat) :
      PansShrink q s (handOff q { setHq q f s with host := { (setHq q f s).host with pondFree := s.host.pondFree - c } }) := by
    have hpond := hf.of_hqs (u := { setHq q f s with host := { (setHq q f s).host with pondFree := s.host.pondFree - c } }) rfl
    exact hpond.trans (handOff_shrinks hpond.enabled)
  have hless (p : Pan) : cellSum [] + p.resv ≤ panUsed p := Nat.add_le_add_right (Nat.zero_le _) _
  simp only [spillPan, Bool.false_eq_true, if_true, if_false]
  split
  · exact .refl h
  · split
    · split
      · refine hdone ?_ _
        exact .setHq h (hless (hqOf s q).panA) (Nat.le_refl _) rfl rfl rfl
      · exact .refl h
    · split
      · split
        · refine hdone ?_ _
          exact .setHq h (Nat.le_refl _) (hless (hqOf s q).panB) rfl rfl rfl
        · exact .refl h
      · exact .refl h

theorem spillStuck_shrinks {q : Nat} {s : State} (h : (hqOf s q).en = true) : PansShrink q s (spillStuck q s) := by
  rw [spillStuck]
  split
  · exact spillPan_shrinks h
  · exact .refl h

/-- A reservation is granted only of an enabled queue. -/
theorem canGrant_enabled {s : State} {h : Hq} {k : Nat} {pl : Place} (hg : canGrant s h k = some pl) : h.en = true := by
  cases he : h.en with
  | true => rfl
  | false => simp [canGrant, he] at hg

/-- What a grant of `k` cells leaves of queue `q`: both pans within their 128 cells, and `k` cells more reserved. -/
structure Granted (q k : Nat) (s t : State) : Prop where
  enabled : (hqOf t q).en = true
  usedA : panUsed (hqOf t q).panA ≤ 128
  usedB : panUsed (hqOf t q).panB ≤ 128
  sum : (hqOf t q).panA.resv + (hqOf t q).panB.resv + (hqOf t q).pondResv
    = (hqOf s q).panA.resv + (hqOf s q).panB.resv + (hqOf s q).pondResv + k
  others : ∀ j, j ≠ q → hqOf t j = hqOf s j

theorem Granted.shrink {q k : Nat} {s t u : State} (h : Granted q k s t) (g : PansShrink q t u) : Granted q k s u :=
  ⟨g.enabled, Nat.le_trans g.usedA h.usedA, Nat.le_trans g.usedB h.usedB, by rw [g.resvA, g.resvB, g.resvPond]; exact h.sum,
    fun j hj => (g.others j hj).trans (h.others j hj)⟩

theorem Granted.after {q k : Nat} {s t u : State} (g : PansShrink q s t) (h : Granted q k t u) : Granted q k s u :=
  ⟨h.enabled, h.usedA, h.usedB, by rw [h.sum, g.resvA, g.resvB, g.resvPond], fun j hj => (h.others j hj).trans (g.others j hj)⟩

theorem Granted.setHq {q k : Nat} {s : State} {h : Hq} (hen : h.en = true) (ha : panUsed h.panA ≤ 128) (hb : panUsed h.panB ≤ 128)
    (hsum : h.panA.resv + h.panB.resv + h.pondResv
      = (hqOf s q).panA.resv + (hqOf s q).panB.resv + (hqOf s q).pondResv + k) : Granted q k s (setHq q h s) := by
  have hown : hqOf (Machine.setHq q h s) q = h := hqOf_setHq_of_ne q s (hq_ne_default hen)
  constructor <;> first | (rw [hown]; assumption) | exact fun j hj => hqOf_setHq_other h s hj

theorem Granted.of_hqs {q k : Nat} {s t u : State} (h : Granted q k s t) (e : u.host.hqs = t.host.hqs) : Granted q k s u := by
  have heq (j : Nat) : hqOf u j = hqOf t j := by rw [hqOf, e, hqOf]
  constructor <;> simp only [heq]
  · exact h.enabled
  · exact h.usedA
  · exact h.usedB
  · exact h.sum
  · exact h.others

theorem panEmpty_used {p : Pan} (h : panEmpty p = true) : p.pkts = [] ∧ p.resv = 0 := by
  simpa [panEmpty] using h

/-- Where a reservation can be granted (R323): in the filling pan, in the other pan when it is empty, in the pond. -/
theorem canGrant_cases {s : State} {h : Hq} {k : Nat} {pl : Place} (hg : canGrant s h k = some pl) :
    (pl = fillPlace h ∧ panUsed (fillPan h) + k ≤ 128) ∨ (pl = otherPlace h ∧ panEmpty (otherPan h) = true ∧ k ≤ 128)
      ∨ pl = .pond := by
  simp only [canGrant] at hg
  split at hg
  · cases hg
  · split at hg
    · rename_i hfill
      simp only [Bool.and_eq_true, decide_eq_true_eq] at hfill
      exact .inl ⟨(Option.some.inj hg).symm, hfill.2⟩
    · split at hg
      · rename_i hother
        simp only [Bool.and_eq_true, decide_eq_true_eq] at hother
        exact .inr (.inl ⟨(Option.some.inj hg).symm, hother.1.1, hother.2⟩)
      · split at hg
        · exact .inr (.inr (Option.some.inj hg).symm)
        · cases hg

/-- Taking the cells where they were found keeps the pans within their size (R68, R323). -/
theorem grant_granted {q k : Nat} {s : State} {pl : Place} (hg : canGrant s (hqOf s q) k = some pl)
    (ha : panUsed (hqOf s q).panA ≤ 128) (hb : panUsed (hqOf s q).panB ≤ 128) : Granted q k s (grant q k pl s) := by
  have hen : (hqOf s q).en = true := canGrant_enabled hg
  rcases canGrant_cases hg with ⟨rfl, hroom⟩ | ⟨rfl, hempty, hk⟩ | rfl
  · have hpond : fillPlace (hqOf s q) ≠ .pond := by
      unfold fillPlace
      split <;> exact nofun
    simp only [grant, hpond, if_false, if_true]
    cases hfill : (hqOf s q).fillB <;>
      simp only [setFill, fillPan, hfill, Bool.false_eq_true, if_true, if_false, panUsed] at hroom ⊢ <;>
      exact .setHq hen (by simp only [panUsed] at *; omega) (by simp only [panUsed] at *; omega) (by simp only; omega)
  · have hpond : otherPlace (hqOf s q) ≠ .pond ∧ otherPlace (hqOf s q) ≠ fillPlace (hqOf s q) := by
      unfold otherPlace fillPlace
      split <;> exact ⟨nofun, nofun⟩
    obtain ⟨hpkts, hresv⟩ := panEmpty_used hempty
    simp only [grant, hpond.1, hpond.2, if_false]
    have hset {f : Hq} (hf : Granted q k s (setHq q f s)) : Granted q k s (handOff q (setHq q f s)) :=
      hf.shrink (handOff_shrinks hf.enabled)
    refine hset ?_
    cases hfill : (hqOf s q).fillB <;>
      simp only [setFill, setOther, fillPan, otherPan, hfill, Bool.false_eq_true, if_true, if_false] at hpkts hresv ⊢ <;>
      exact .setHq hen (by simp only [panUsed, hpkts, cellSum, List.map_nil, sumN] at *; omega)
        (by simp only [panUsed, hpkts, cellSum, List.map_nil, sumN] at *; omega) (by simp only [hresv]; omega)
  · have hset : Granted q k s (setHq q { hqOf s q with pondResv := (hqOf s q).pondResv + k, need := 0 } s) :=
      .setHq hen ha hb (by simp only; omega)
    simp only [grant, if_true]
    exact hset.of_hqs rfl

/-- A reservation that is granted is one of the queue as its spilling left it. -/
theorem reserve_granted {q k : Nat} {s t : State} {pl : Place} (hr : reserve q k s = (some pl, t))
    (ha : panUsed (hqOf s q).panA ≤ 128) (hb : panUsed (hqOf s q).panB ≤ 128) : Granted q k s t := by
  have hfrom {u : State} (hg : canGrant u (hqOf u q) k = some pl) (hu : PansShrink q s u) : Granted q k s (grant q k pl u) :=
    (grant_granted hg (Nat.le_trans hu.usedA ha) (Nat.le_trans hu.usedB hb)).after hu
  have hown (hg : canGrant s (hqOf s q) k = some pl) : Granted q k s (grant q k pl s) := hfrom hg (.refl (canGrant_enabled hg))
  have hspilt (hg : canGrant (spillStuck q s) (hqOf (spillStuck q s) q) k = some pl) :
      Granted q k s (grant q k pl (spillStuck q s)) := by
    cases hen : (hqOf s q).en with
    | true => exact hfrom hg (spillStuck_shrinks hen)
    | false =>
      have hstay : spillStuck q s = s := by simp [spillStuck, hen]
      rw [hstay] at hg ⊢
      exact hown hg
  cases hg : canGrant s (hqOf s q) k with
  | none =>
    simp only [reserve, hg, Bool.false_eq_true, if_false] at hr
    split at hr <;> cases hr
    exact hspilt ‹_›
  | some p =>
    cases p with
    | pond =>
      simp only [reserve, hg, Bool.false_eq_true, if_false] at hr
      split at hr <;> cases hr
      exact hspilt ‹_›
    | panA =>
      simp only [reserve, hg, if_true] at hr
      cases hr
      exact hown hg
    | panB =>
      simp only [reserve, hg, if_true] at hr
      cases hr
      exact hown hg

end Sys2Proof.Machine

section

open Sys2Proof Sys2Proof.Machine

/-- Settles O42: a grant is taken where its cells were found, after a spill that only empties pans. -/
theorem reservationsStayWithinThePans : Obligations.ReservationsStayWithinThePans := by
  unfold Obligations.ReservationsStayWithinThePans
  intro q k s pl t hr ha hb
  have h := reserve_granted hr ha hb
  exact ⟨h.usedA, h.usedB, h.sum, h.others⟩

end

/-! ### Vectors and notices (R55, R75–R77) -/

namespace Sys2Proof.Machine

/-- With one more bit set, that bit and the old ones read 1. -/
theorem getLsbD_or_bit (p : BitVec 256) {v k : Nat} (hk : k < 256) :
    (p ||| (1#256 <<< v)).getLsbD k = (decide (k = v) || p.getLsbD k) := by
  have hbit : (1#256 <<< v).getLsbD k = decide (k = v) := by
    rw [BitVec.getLsbD_shiftLeft, BitVec.getLsbD_one]
    simp only [hk, decide_true, Bool.true_and]
    by_cases h : k = v
    · simp [h]
    · simp only [h, decide_false]
      by_cases hlt : k < v
      · simp [hlt]
      · have hne : ¬ k - v = 0 := by omega
        simp [hne]
  rw [BitVec.getLsbD_or, hbit, Bool.or_comm]

theorem raiseV_legacy {v : Nat} {s : State} (h : s.host.msixEnable = false) :
    raiseV v s = { s with host := { s.host with intPending := s.host.intPending ||| (1#256 <<< v) } } := by
  simp [raiseV, h]

theorem raiseV_masked {v : Nat} {s : State} (h : s.host.msixEnable = true) (hm : msixWord s v 3 = 1) :
    raiseV v s = { s with host := { s.host with pba := s.host.pba ||| (1#256 <<< v) } } := by
  simp [raiseV, h, hm]

theorem raiseV_message {v : Nat} {s : State} (h : s.host.msixEnable = true) (hm : msixWord s v 3 = 0) (hp : pcieServes s = true) :
    raiseV v s = emit (.msix v (msixWord s v 0 + 2 ^ 32 * msixWord s v 1) (msixWord s v 2)) s := by
  simp [raiseV, h, hm, hp]

/-- The 64 bytes of a notice (R55). -/
def noticeBytes (code sev unit : Nat) (detail : Bytes) (s : State) : Bytes :=
  leBytes 2 (code % 4096 + 4096 * (sev % 8)) ++ leBytes 2 unit ++ le72 (tbVal s 0) ++ List.replicate 3 0 ++ padTo 48 detail

theorem noticeBytes_length (code sev unit : Nat) (detail : Bytes) (s : State) :
    (noticeBytes code sev unit detail s).length = 64 := by
  simp [noticeBytes]

theorem notice_areas (code sev unit : Nat) (detail : Bytes) (s : State) :
    (notice code sev unit detail s).host.areas
      = writeBytes s.host.areas (0x200 + 64 * ((mbOf s 0).seq.toNat % 8)) (noticeBytes code sev unit detail s) := rfl

theorem mbOf_notice (code sev unit : Nat) (detail : Bytes) (s : State) :
    mbOf (notice code sev unit detail s) 0 = { mbOf s 0 with done := true, seq := (mbOf s 0).seq + 1 } :=
  look_put_of_ne s.host.mbs 0 (mb_ne_default rfl)

theorem mbOf_notice_other (code sev unit : Nat) (detail : Bytes) (s : State) {k : Nat} (h : k ≠ 0) :
    mbOf (notice code sev unit detail s) k = mbOf s k :=
  look_put_other _ s.host.mbs _ h

end Sys2Proof.Machine

section

open Sys2Proof Sys2Proof.Machine

/-- Settles O43: one equation of `raiseV` for each of the three ways a vector goes, and a notice is a write of 64 bytes. -/
theorem vectorsAndNoticesReachTheHost : Obligations.VectorsAndNoticesReachTheHost := by
  unfold Obligations.VectorsAndNoticesReachTheHost
  refine ⟨?legacy, ?masked, ?message, ?notice⟩
  case legacy =>
    intro v s _ h
    rw [raiseV_legacy h]
    exact ⟨rfl, fun k hk => getLsbD_or_bit _ hk⟩
  case masked =>
    intro v s _ h hm
    rw [raiseV_masked h hm]
    exact ⟨rfl, fun k hk => getLsbD_or_bit _ hk⟩
  case message => exact fun v s h hm hp => raiseV_message h hm hp
  case notice =>
    intro code sev unit detail s t a
    refine ⟨mbOf_notice code sev unit detail s, fun k hk => mbOf_notice_other code sev unit detail s hk, ?_,
      notice_parts code sev unit detail s⟩
    intro x hx
    rw [← noticeBytes_length code sev unit detail s] at hx
    exact read_writeBytes_other _ s.host.areas hx

end

/-! ### Authentication (R59) -/

namespace Sys2Proof.Machine

/-- A request that passes step 4 of R60 has a counter above the stored one, which is stored in its place. -/
theorem authenticate_accepts {n : Nat} {header : Bytes} {r : Req} {s : State} (h : (authenticate n header r s).1 = none) :
    (sessOf s n r.session).counter < r.counter
      ∧ (authenticate n header r s).2 = setSess n r.session { sessOf s n r.session with counter := r.counter, fails := 0 } s := by
  cases hk : tagKey s n r.session with
  | none => simp [authenticate, hk] at h
  | some k =>
    simp only [authenticate, hk] at h ⊢
    split at h
    · rename_i hc
      rw [if_pos hc]
      exact ⟨hc.2, rfl⟩
    · cases h

/-- A counter that is not above the stored one is refused, whatever the tag (R59). -/
theorem authenticate_refuses {n : Nat} (header : Bytes) {r : Req} {s : State} (h : r.counter ≤ (sessOf s n r.session).counter) :
    (authenticate n header r s).1 = some .authfail := by
  cases hk : tagKey s n r.session with
  | none => simp [authenticate, hk]
  | some k =>
    have hno : ¬ (sessOf s n r.session).counter < r.counter := by omega
    simp [authenticate, hk, hno]

theorem sessOf_setSess_counter {n k c : Nat} {p : SessRec} (s : State) (hp : p.counter = c) (hc : 0 < c) :
    (sessOf (setSess n k p s) n k).counter = c := by
  have hne : p ≠ {} := by
    rintro rfl
    exact absurd hp (Nat.ne_of_lt hc)
  rw [sessOf, setSess, look_put_of_ne _ _ hne, hp]

end Sys2Proof.Machine

section

open Sys2Proof Sys2Proof.Machine

/-- Settles O44: the stored counter is the accepted one, and none that is not above it passes. -/
theorem countersAreNeverAcceptedTwice : Obligations.CountersAreNeverAcceptedTwice := by
  unfold Obligations.CountersAreNeverAcceptedTwice
  intro n header r s h
  obtain ⟨habove, hstate⟩ := authenticate_accepts h
  have hstored : (sessOf (authenticate n header r s).2 n r.session).counter = r.counter := by
    rw [hstate]
    exact sessOf_setSess_counter s rfl (Nat.zero_lt_of_lt habove)
  refine ⟨habove, hstored, ?_⟩
  intro header' r' u hsession hle hkept
  apply authenticate_refuses
  rw [hsession, hkept, hstored]
  exact hle

end

/-! ### Commands that are turned away (R4, R23, R24, R30, R373, R483) -/

namespace Sys2Proof.Machine

open Sys2Proof

/-- A command row turns away whatever fails one of its checks. -/
theorem turnsAway_of_runCmd {op : Nat} {c : Src → Instr} {check : Src → Req → State → Option Status}
    {run : Src → Req → State → Reply × State} {pre : Src → Req → State → Prop} {st : Status}
    (hexec : ∀ src s, exec (c src) s = runCmd op check run src s) (hcheck : ∀ src r s, pre src r s → check src r s = some st) :
    TurnsAway op c pre st := by
  intro src r s ⟨he, ht, ho, _⟩ hpre
  rw [hexec, runCmd_fails he ht ho (hcheck src r s hpre)]

/-- The first entry that fails decides. -/
@[simp] theorem firstFail_true (st : Status) (l : List (Bool × Status)) : firstFail ((true, st) :: l) = some st := rfl

@[simp] theorem firstFail_false (st : Status) (l : List (Bool × Status)) : firstFail ((false, st) :: l) = firstFail l := rfl

theorem tbSetCheck_off {r : Req} {s : State} (src : Src) (hs : settable (arg r 0 1) = true)
    (hoff : active s (tbDomain (arg r 0 1)) = false) : tbSetCheck src r s = some .nores := by
  simp [tbSetCheck, tbOff, hs, hoff]

theorem tbStepCheck_fenced {r : Req} {s : State} (src : Src) (hs : settable (arg r 0 1) = true)
    (hup : active s (tbDomain (arg r 0 1)) = true) (hf : isFenced s (tbUnit (arg r 0 1)) = true) :
    tbStepCheck src r s = some .fenced := by
  simp [tbStepCheck, tbOff, hs, hup, hf]

theorem metIntervalSetCheck_off {s : State} (src : Src) (r : Req) (hoff : active s 10 = false) :
    metIntervalSetCheck src r s = some .nores := by
  simp [metIntervalSetCheck, metOff, hoff]

theorem metIntervalSetCheck_fenced {s : State} (src : Src) (r : Req) (hup : active s 10 = true) (hf : isFenced s 125 = true) :
    metIntervalSetCheck src r s = some .fenced := by
  simp [metIntervalSetCheck, metOff, hup, hf]

theorem cpCheck_off (bad : Req → State → Bool) (busy : Req → State → Bool) {s : State} (src : Src) (r : Req)
    (hoff : active s 11 = false) : cpCheck bad busy src r s = some .nores := by
  simp [cpCheck, hoff]

theorem plCfgCheck_off {s : State} (src : Src) (r : Req) (hoff : active s 8 = false) : plCfgCheck src r s = some .nores := by
  simp [plCfgCheck, plOff, hoff]

theorem plCfgCheck_fenced {r : Req} {s : State} (src : Src) (hup : active s 8 = true) (hn : arg r 0 1 < 16)
    (hf : isFenced s (103 + arg r 0 1) = true) : plCfgCheck src r s = some .fenced := by
  simp [plCfgCheck, plOff, plFenced, hup, hn, hf]

theorem rfCfgCheck_off {s : State} (src : Src) (r : Req) (hoff : active s 9 = false) : rfCfgCheck src r s = some .nores := by
  simp [rfCfgCheck, rfOff, hoff]

theorem rfCfgCheck_fenced {r : Req} {s : State} (src : Src) (hup : active s 9 = true) (hn : arg r 0 1 < 6)
    (hf : isFenced s (119 + arg r 0 1) = true) : rfCfgCheck src r s = some .fenced := by
  simp [rfCfgCheck, rfOff, rfFenced, hup, hn, hf]

theorem fipCfgCheck_off {r : Req} {s : State} (src : Src) (hn : arg r 0 1 < 16) (hoff : active s (fipDomain (arg r 0 1)) = false) :
    fipCfgCheck src r s = some .nores := by
  simp [fipCfgCheck, fipOff, hn, hoff]

theorem ctxWriteCheck_off {s : State} (src : Src) (r : Req) (hoff : active s 6 = false) : ctxWriteCheck src r s = some .nores := by
  simp [ctxWriteCheck, ctxGate, hoff]

theorem ctxWriteCheck_fenced {s : State} (src : Src) (r : Req) (hup : active s 6 = true) (hf : isFenced s 92 = true) :
    ctxWriteCheck src r s = some .fenced := by
  simp [ctxWriteCheck, ctxGate, hup, hf]

/-- Keys of mode 1 do not go with suite 1 (R373). -/
theorem ctxWriteCheck_badarg {r : Req} {s : State} (src : Src) (hup : active s 6 = true) (hf : isFenced s 92 = false)
    (hm : ctxKeyMode (ctxWritten r {}) = 1) (hsu : ctxSuite (ctxWritten r {}) = 1) : ctxWriteCheck src r s = some .badarg := by
  have hbad : decide (1 < arg r 4 1 ∨ 1 < ctxSuite (ctxWritten r {}) ∨ 63 < ctxOmk (ctxWritten r {})
      ∨ 1 < ctxKeyMode (ctxWritten r {}) ∨ (ctxKeyMode (ctxWritten r {}) = 1 ∧ ctxSuite (ctxWritten r {}) = 1)) = true :=
    decide_eq_true (.inr (.inr (.inr (.inr ⟨hm, hsu⟩))))
  simp only [ctxWriteCheck, ctxGate, hup, hf, hbad, Bool.not_true, Bool.true_or, List.cons_append, List.nil_append,
    firstFail_false]
  by_cases hi : 2097152 ≤ arg r 0 4 <;> simp [hi]

theorem balCloseCheck_fenced {s : State} (src : Src) (r : Req) (hup : active s 6 = true) (hf : isFenced s 5 = true) :
    balCloseCheck src r s = some .fenced := by
  simp [balCloseCheck, balGate, hup, hf]

theorem pdSetCheck_badarg {r : Req} (src : Src) (s : State) (hd : arg r 0 1 < 3) : pdSetCheck src r s = some .badarg := by
  simp [pdSetCheck, hd]

/-- A switch to another state is judged by the domains that it depends on, or that depend on it (R23). -/
theorem pdSetCheck_denied {r : Req} {s : State} (src : Src) (hlo : 3 ≤ arg r 0 1) (hhi : arg r 0 1 ≤ 11) (hten : arg r 0 1 ≠ 10)
    (hon : arg r 1 1 = 1) (hforce : inForce s (arg r 0 1) 1 = false) (htrans : inTransition s (arg r 0 1) = false)
    (hdep : dependencyFails s (arg r 0 1) 1 = true) : pdSetCheck src r s = some .denied := by
  have hrange : decide (arg r 0 1 < 3 ∨ 11 < arg r 0 1 ∨ 1 < arg r 1 1) = false := decide_eq_false (by omega)
  have hmetrology : (arg r 0 1 == 10) = false := beq_false_of_ne hten
  rw [hon] at hrange
  simp only [pdSetCheck, hrange, hmetrology, hon, hforce, htrans, hdep, Bool.false_and, Bool.not_false, Bool.and_self,
    firstFail_false, firstFail_true]

/-- One transition runs at a time (R24). -/
theorem pdSetCheck_busy {r : Req} {s : State} (src : Src) (hlo : 3 ≤ arg r 0 1) (hhi : arg r 0 1 ≤ 11) (hten : arg r 0 1 ≠ 10)
    (hstate : arg r 1 1 ≤ 1) (hforce : inForce s (arg r 0 1) (arg r 1 1) = false)
    (hdep : inTransition s (arg r 0 1) = true ∨ dependencyFails s (arg r 0 1) (arg r 1 1) = false)
    (hrun : s.power.transition.isSome = true) : pdSetCheck src r s = some .busy := by
  have hrange : decide (arg r 0 1 < 3 ∨ 11 < arg r 0 1 ∨ 1 < arg r 1 1) = false := decide_eq_false (by omega)
  have hmetrology : (arg r 0 1 == 10) = false := beq_false_of_ne hten
  have hnot : (!inTransition s (arg r 0 1) && dependencyFails s (arg r 0 1) (arg r 1 1)) = false := by
    rcases hdep with h | h <;> simp [h]
  simp only [pdSetCheck, hrange, hmetrology, hforce, hnot, transitionBusy, hrun, Bool.false_and, Bool.not_false, Bool.true_and,
    Bool.true_or, firstFail_false, firstFail_true]

end Sys2Proof.Machine

section

open Sys2Proof Sys2Proof.Machine

/-- Settles O45: each command is a command row, and the check named for it fails first. -/
theorem unavailableUnitsTurnCommandsAway : Obligations.UnavailableUnitsTurnCommandsAway := by
  unfold Obligations.UnavailableUnitsTurnCommandsAway
  refine ⟨?tbSet, ?tbStep, ?intervalOff, ?intervalFenced, ?cp, ?plOff, ?plFenced, ?rfOff, ?rfFenced, ?fip, ?ctxOff, ?ctxFenced, ?ctxArg,
    ?bal, ?pdArg, ?pdDenied, ?pdBusy⟩
  case tbSet => exact turnsAway_of_runCmd (fun _ _ => rfl) fun src _ _ ⟨hs, hoff⟩ => tbSetCheck_off src hs hoff
  case tbStep => exact turnsAway_of_runCmd (fun _ _ => rfl) fun src _ _ ⟨hs, hup, hf⟩ => tbStepCheck_fenced src hs hup hf
  case intervalOff => exact turnsAway_of_runCmd (fun _ _ => rfl) fun src r _ hoff => metIntervalSetCheck_off src r hoff
  case intervalFenced => exact turnsAway_of_runCmd (fun _ _ => rfl) fun src r _ ⟨hup, hf⟩ => metIntervalSetCheck_fenced src r hup hf
  case cp => exact turnsAway_of_runCmd (fun _ _ => rfl) fun src r _ hoff => cpCheck_off _ _ src r hoff
  case plOff => exact turnsAway_of_runCmd (fun _ _ => rfl) fun src r _ hoff => plCfgCheck_off src r hoff
  case plFenced => exact turnsAway_of_runCmd (fun _ _ => rfl) fun src _ _ ⟨hup, hn, hf⟩ => plCfgCheck_fenced src hup hn hf
  case rfOff => exact turnsAway_of_runCmd (fun _ _ => rfl) fun src r _ hoff => rfCfgCheck_off src r hoff
  case rfFenced => exact turnsAway_of_runCmd (fun _ _ => rfl) fun src _ _ ⟨hup, hn, hf⟩ => rfCfgCheck_fenced src hup hn hf
  case fip => exact turnsAway_of_runCmd (fun _ _ => rfl) fun src _ _ ⟨hn, hoff⟩ => fipCfgCheck_off src hn hoff
  case ctxOff => exact turnsAway_of_runCmd (fun _ _ => rfl) fun src r _ hoff => ctxWriteCheck_off src r hoff
  case ctxFenced => exact turnsAway_of_runCmd (fun _ _ => rfl) fun src r _ ⟨hup, hf⟩ => ctxWriteCheck_fenced src r hup hf
  case ctxArg =>
    exact turnsAway_of_runCmd (fun _ _ => rfl) fun src _ _ ⟨hup, hf, hm, hsu⟩ => ctxWriteCheck_badarg src hup hf hm hsu
  case bal => exact turnsAway_of_runCmd (fun _ _ => rfl) fun src r _ ⟨hup, hf⟩ => balCloseCheck_fenced src r hup hf
  case pdArg => exact turnsAway_of_runCmd (fun _ _ => rfl) fun src _ s hd => pdSetCheck_badarg src s hd
  case pdDenied =>
    exact turnsAway_of_runCmd (fun _ _ => rfl) fun src _ _ ⟨hlo, hhi, hten, hon, hforce, htrans, hdep⟩ =>
      pdSetCheck_denied src hlo hhi hten hon hforce htrans hdep
  case pdBusy =>
    exact turnsAway_of_runCmd (fun _ _ => rfl) fun src _ _ ⟨hlo, hhi, hten, hstate, hforce, hdep, hrun⟩ =>
      pdSetCheck_busy src hlo hhi hten hstate hforce hdep hrun

end

/-! ### The logbook (R494, R495, R498, R501) -/

namespace Sys2Proof.Machine

theorem bucketOf_setBucket_of_ne {b : Bucket} (code : Nat) (s : State) (h : b ≠ {}) : bucketOf (setBucket code b s) code = b :=
  look_put_of_ne s.log.buckets code h

/-- A record that is due is staged where its code has a token, the staging buffer has room and unit 6 is in service (R494, R498). -/
theorem stage_staged {c : LogCall} {s : State} (hup : fabricUp s = true) (hu : (bucketOf s c.code).used < 8)
    (hroom : s.log.staging.length < 256) (hready : (unitOf s 6).state = .ready) :
    stage c s =
      let t := setBucket c.code (takeToken c.sev (bucketOf s c.code) s) s
      { t with log := { t.log with staging := t.log.staging ++ [recordOf c (bucketOf s c.code).suppressed false t] } } := by
  simp only [stage, hup, hu, hroom, hready, and_self, if_true]

/-- A record that finds no token, no room or no unit 6 only counts (R498). -/
theorem stage_suppressed {c : LogCall} {s : State} (hup : fabricUp s = true)
    (h : 8 ≤ (bucketOf s c.code).used ∨ 256 ≤ s.log.staging.length ∨ (unitOf s 6).state ≠ .ready) :
    stage c s = suppress c (decide (256 ≤ s.log.staging.length)) s := by
  have hno : ¬((bucketOf s c.code).used < 8 ∧ s.log.staging.length < 256 ∧ (unitOf s 6).state = .ready) := by
    rintro ⟨hu, hroom, hready⟩
    rcases h with h | h | h
    · omega
    · omega
    · exact h hready
  simp only [stage, hup, hno, if_true, if_false]

theorem suppress_bucket (c : LogCall) (full : Bool) (s : State) :
    (bucketOf (suppress c full s) c.code).suppressed = min 65535 ((bucketOf s c.code).suppressed + 1) := by
  have hcount : satAdd 65535 (bucketOf s c.code).suppressed 1 = min 65535 ((bucketOf s c.code).suppressed + 1) := by
    simp only [satAdd]
    split <;> omega
  have hne : { bucketOf s c.code with suppressed := satAdd 65535 (bucketOf s c.code).suppressed 1, lastSev := c.sev } ≠ ({} : Bucket) := by
    intro h
    have := congrArg Bucket.suppressed h
    simp only [hcount] at this
    omega
  rw [← hcount]
  exact congrArg Bucket.suppressed (bucketOf_setBucket_of_ne c.code s hne)

theorem takeToken_ne_default (sev : Nat) (b : Bucket) (s : State) : takeToken sev b s ≠ {} := by
  intro h
  exact absurd (congrArg Bucket.used h) (Nat.succ_ne_zero b.used)

/-- The codes of R495 in the words of the statement. -/
theorem codeSeverity_eq (code : Nat) : codeSeverity code =
    if 0x401 ≤ code ∧ code ≤ 0x40F then 6
    else if (0x901 ≤ code ∧ code ≤ 0x90F ∧ code ≠ 0x90C) ∨ (0xB20 ≤ code ∧ code ≤ 0xB25) then 5 else 0 := by
  have hcodes : ((0x901 ≤ code ∧ code ≤ 0x90B) ∨ (0x90D ≤ code ∧ code ≤ 0x90F) ∨ (0xB20 ≤ code ∧ code ≤ 0xB25))
      ↔ ((0x901 ≤ code ∧ code ≤ 0x90F ∧ code ≠ 0x90C) ∨ (0xB20 ≤ code ∧ code ≤ 0xB25)) := by omega
  simp only [codeSeverity, hcodes]

@[simp] theorem snapBytes_length (n : Nat) (l : List Time) : (snapBytes n l).length = 9 * n := padTo_length _ _

/-- A record of the logbook is 128 bytes (R494). -/
theorem recordBytes_length (r : LogRec) : (recordBytes r).length = 128 := by simp [recordBytes]

/-! ### Storing records (R501) -/

/-- A record takes the next number. -/
theorem storeRec_next (l : LogPart) (r : LogRec) : (storeRec l r).next = l.next + 1 := rfl

theorem storeRec_look_new (l : LogPart) (r : LogRec) (d : LogRec) :
    look d (storeRec l r).recs l.next = { r with rn := l.next } :=
  look_insertKey_same d _ l.next _

/-- A record replaces at most the one 8,192 numbers before it, and none of the first area. -/
theorem storeRec_look_old {l : LogPart} {n : Nat} (r : LogRec) (d : LogRec) (hlt : n < l.next)
    (hkeep : n < 2048 ∨ l.next < n + 8192) : look d (storeRec l r).recs n = look d l.recs n := by
  have hne : n ≠ l.next := by omega
  simp only [storeRec]
  rw [look_insertKey_other d _ _ hne]
  split
  · exact look_dropKey_other d l.recs (by omega)
  · rfl

theorem storeRecs_next (l : LogPart) (rs : List LogRec) : (storeRecs l rs).next = l.next + rs.length := by
  induction rs generalizing l with
  | nil => rfl
  | cons r rs ih =>
    rw [storeRecs, ih, storeRec_next, List.length_cons]
    omega

theorem storeRecs_look_old {l : LogPart} {n : Nat} (rs : List LogRec) (d : LogRec) (hlt : n < l.next)
    (hkeep : n < 2048 ∨ l.next + rs.length ≤ n + 8192) : look d (storeRecs l rs).recs n = look d l.recs n := by
  induction rs generalizing l with
  | nil => rfl
  | cons r rs ih =>
    rw [List.length_cons] at hkeep
    rw [storeRecs, ih (by rw [storeRec_next]; omega) (by rw [storeRec_next]; omega), storeRec_look_old r d hlt (by omega)]

/-- Each record gets the number of its turn, and is held while no more than 8,192 come after it began. -/
theorem storeRecs_look_new {l : LogPart} {rs : List LogRec} (d : LogRec) {k : Nat} (hk : k < rs.length) (hlen : rs.length ≤ 8192) :
    look d (storeRecs l rs).recs (l.next + k) = { rs[k] with rn := l.next + k } := by
  induction rs generalizing l k with
  | nil => cases hk
  | cons r rs ih =>
    rw [List.length_cons] at hk hlen
    rw [storeRecs]
    cases k with
    | zero =>
      rw [Nat.add_zero, storeRecs_look_old rs d (by rw [storeRec_next]; omega) (by rw [storeRec_next]; omega)]
      exact storeRec_look_new l r d
    | succ k =>
      have hturn : l.next + (k + 1) = (storeRec l r).next + k := by rw [storeRec_next]; omega
      rw [hturn]
      exact ih (by omega) (by omega)

end Sys2Proof.Machine

section

open Sys2Proof Sys2Proof.Machine

/-- Settles O50: one equation of `stage` for a record that is due with a token and one for a record without, the codes of R495, and
the layout of R494. -/
theorem recordsTakeTheirToken : Obligations.RecordsTakeTheirToken := by
  unfold Obligations.RecordsTakeTheirToken
  refine ⟨?staged, ?suppressed, ?severity, recordBytes_length⟩
  case staged =>
    intro c s hup hu hroom hready t
    have ht : t = _ := stage_staged hup hu hroom hready
    have hbucket : bucketOf t c.code = takeToken c.sev (bucketOf s c.code) s := by
      rw [ht]
      exact bucketOf_setBucket_of_ne c.code s (takeToken_ne_default _ _ s)
    refine ⟨?_, ?_, ?_, ?_, stage_parts c s⟩
    · rw [ht]
      exact ⟨_, rfl, rfl, rfl, rfl, rfl, rfl, rfl, rfl, rfl, rfl, rfl⟩
    · rw [hbucket]
      rfl
    · rw [hbucket]
      rfl
    · rw [ht]
      rfl
  case suppressed =>
    intro c s hup h t
    have ht : t = _ := stage_suppressed hup h
    rw [ht]
    exact ⟨rfl, rfl, rfl, suppress_bucket c _ s, rfl⟩
  case severity =>
    intro code unit obj snaps s
    rw [logEv, codeSeverity_eq]

/-- Settles O51, by induction on the records: each takes the next number, and drops none of the first area. -/
theorem firstLogAreaIsNeverOverwritten : Obligations.FirstLogAreaIsNeverOverwritten := by
  unfold Obligations.FirstLogAreaIsNeverOverwritten
  intro l rs d
  exact ⟨fun n hn hlt => storeRecs_look_old rs d hlt (.inl hn), storeRecs_next l rs,
    fun k hk hlen => storeRecs_look_new d hk hlen⟩

end

/-! ### Entries of a table that lists an index once -/

namespace Sys2Proof.Machine

/-- The table lists index `i` at most once. -/
def ListedOnce {α : Type} (i : Nat) (t : Tab α) : Prop := (t.map Prod.fst).count i ≤ 1

theorem ListedOnce.of_distinct {α : Type} {t : Tab α} (i : Nat) (h : DistinctKeys t) : ListedOnce i t :=
  List.nodup_iff_count.mp h i

theorem look_of_count_zero {α : Type} (d : α) {t : Tab α} {i : Nat} (h : (t.map Prod.fst).count i = 0) : look d t i = d := by
  induction t with
  | nil => rfl
  | cons p r ih =>
    obtain ⟨k, v⟩ := p
    rw [List.map_cons, List.count_cons] at h
    have hk : k ≠ i := by
      rintro rfl
      simp at h
    simp only [look, hk, if_false]
    exact ih (by omega)

theorem look_dropKey_once {α : Type} (d : α) {t : Tab α} {i : Nat} (h : ListedOnce i t) : look d (dropKey t i) i = d := by
  induction t with
  | nil => rfl
  | cons p r ih =>
    obtain ⟨k, v⟩ := p
    simp only [ListedOnce, List.map_cons, List.count_cons] at h
    simp only [dropKey]
    split
    · subst_vars
      simp only [beq_self_eq_true, if_true] at h
      exact look_of_count_zero d (by omega)
    · rename_i hk
      simp only [look, hk, if_false]
      exact ih (Nat.le_trans (Nat.le_add_right _ _) h)

/-- An updated entry reads as the value written, in a table that lists its index at most once. -/
theorem look_put_once {α : Type} [DecidableEq α] (d : α) {t : Tab α} {i : Nat} (v : α) (h : ListedOnce i t) :
    look d (put d t i v) i = v := by
  by_cases hv : v = d
  · rw [put, if_pos hv, hv]
    exact look_dropKey_once d h
  · exact look_put_of_ne t i hv

theorem count_dropKey_other {α : Type} {t : Tab α} {i j : Nat} (h : j ≠ i) :
    ((dropKey t i).map Prod.fst).count j = (t.map Prod.fst).count j := by
  induction t with
  | nil => rfl
  | cons p r ih =>
    obtain ⟨k, v⟩ := p
    simp only [dropKey]
    split
    · subst_vars
      simp [Ne.symm h]
    · simp [List.count_cons, ih]

theorem count_insertKey_other {α : Type} {t : Tab α} {i j : Nat} (v : α) (h : j ≠ i) :
    ((insertKey t i v).map Prod.fst).count j = (t.map Prod.fst).count j := by
  induction t with
  | nil => simp [insertKey, Ne.symm h]
  | cons p r ih =>
    obtain ⟨k, w⟩ := p
    simp only [insertKey]
    split
    · simp [Ne.symm h]
    · split
      · subst_vars
        simp [Ne.symm h]
      · simp [List.count_cons, ih]

/-- An update of another index lists no index again. -/
theorem ListedOnce.put {α : Type} [DecidableEq α] (d : α) {t : Tab α} {i j : Nat} (v : α) (h : ListedOnce j t) (hne : j ≠ i) :
    ListedOnce j (put d t i v) := by
  unfold ListedOnce Machine.put
  split
  · rwa [count_dropKey_other hne]
  · rwa [count_insertKey_other v hne]

end Sys2Proof.Machine

/-! ### The handling of a fault (R477, R479, R481, R486, R550, R551) -/

namespace Sys2Proof.Machine

theorem unitOf_setUnit_of_ne {f : FaultUnit} (u : Nat) (s : State) (h : f ≠ {}) : unitOf (setUnit u f s) u = f :=
  look_put_of_ne s.log.units u h

theorem unitOf_setUnit_other {u v : Nat} (f : FaultUnit) (s : State) (h : v ≠ u) : unitOf (setUnit u f s) v = unitOf s v :=
  look_put_other _ s.log.units f h

/-- A unit that handles a fault is not as it was at reset. -/
theorem unit_ne_default {f : FaultUnit} (h : f.state ≠ .ready) : f ≠ {} := by
  rintro rfl
  exact h rfl

/-- A record moves no unit and starts no restart. -/
theorem stage_units (c : LogCall) (s : State) :
    (stage c s).log.units = s.log.units ∧ (stage c s).log.restart = s.log.restart
      ∧ (stage c s).log.tb1Base = s.log.tb1Base := by
  simp only [stage, suppress]
  repeat' split
  all_goals exact ⟨rfl, rfl, rfl⟩

theorem unitOf_stage (c : LogCall) (s : State) (v : Nat) : unitOf (stage c s) v = unitOf s v := by
  rw [unitOf, (stage_units c s).1, unitOf]

theorem unitOf_faultRecord (u code taken detected : Nat) (esc : Bool) (obj : Nat) (snaps : List Time) (s : State) (v : Nat) :
    unitOf (faultRecord u code taken detected esc obj snaps s) v = unitOf s v :=
  unitOf_stage _ s v

/-- The unit as a fault that is taken leaves its status (R491). -/
def notedUnit (code taken : Nat) (esc : Bool) (f : FaultUnit) : FaultUnit :=
  { f with
    lastClass := taken, escalated := esc, lastCode := code,
    faults := if taken = 1 ∨ taken = 2 then (f.faults + 1) % 256 else f.faults }

theorem noteFault_units (u code taken : Nat) (esc : Bool) (s : State) :
    (noteFault u code taken esc s).log.units = put {} s.log.units u (notedUnit code taken esc (unitOf s u)) := rfl

theorem unitOf_noteFault_other {u v : Nat} (code taken : Nat) (esc : Bool) (s : State) (h : v ≠ u) :
    unitOf (noteFault u code taken esc s) v = unitOf s v :=
  look_put_other _ s.log.units _ h

theorem unitOf_noteFault_of_ne {u code taken : Nat} {esc : Bool} {s : State} (h : notedUnit code taken esc (unitOf s u) ≠ {}) :
    unitOf (noteFault u code taken esc s) u = notedUnit code taken esc (unitOf s u) :=
  look_put_of_ne s.log.units u h

theorem notedUnit_ne_default {code taken : Nat} {esc : Bool} {f : FaultUnit} (h : taken ≠ 0) : notedUnit code taken esc f ≠ {} :=
  fun he => h (congrArg FaultUnit.lastClass he)

theorem noteFault_restart (u code taken : Nat) (esc : Bool) (s : State) :
    (noteFault u code taken esc s).log.restart = s.log.restart := rfl

theorem ageSec_noteFault (u code taken detected : Nat) (esc : Bool) (obj : Nat) (snaps : List Time) (s : State) :
    ageSec (noteFault u code taken esc (faultRecord u code taken detected esc obj snaps s)) = ageSec s := by
  have hbase : (noteFault u code taken esc (faultRecord u code taken detected esc obj snaps s)).log.tb1Base = s.log.tb1Base :=
    (stage_units _ s).2.2
  rw [ageSec, hbase, noteFault_parts, faultRecord_parts]
  rfl

/-- A fault with its record and its status: the state in which its handling begins. -/
theorem unitOf_noted {u code taken : Nat} (detected : Nat) (esc : Bool) (obj : Nat) (snaps : List Time) (s : State) (h : taken ≠ 0) :
    unitOf (noteFault u code taken esc (faultRecord u code taken detected esc obj snaps s)) u
      = notedUnit code taken esc (unitOf s u) := by
  rw [unitOf_noteFault_of_ne (notedUnit_ne_default h), unitOf_faultRecord]

theorem unitOf_noted_other {u v : Nat} (code taken detected : Nat) (esc : Bool) (obj : Nat) (snaps : List Time) (s : State)
    (h : v ≠ u) : unitOf (noteFault u code taken esc (faultRecord u code taken detected esc obj snaps s)) v = unitOf s v := by
  rw [unitOf_noteFault_other _ _ _ _ h, unitOf_faultRecord]

/-! ### The branches of a fault -/

/-- An F1 of a unit in service takes its slot (R479). -/
theorem raiseFault_f1 {u : Nat} {s : State} (code obj : Nat) (snaps : List Time) (hr : s.log.restart = none)
    (hoff : unitOff s u = false) (hready : (unitOf s u).state = .ready) :
    raiseFault u code 1 obj snaps s =
      let t := noteFault u code 1 false (faultRecord u code 1 1 false obj snaps s)
      setUnit u { unitOf t u with state := .handlingF1, fenceCause := code, f1Obj := obj, f1Snaps := snaps } t := by
  simp [raiseFault, hr, hoff, hready]

/-- An F2 of a unit in service is handled as one (R481). -/
theorem raiseFault_f2 {u : Nat} {s : State} (code obj : Nat) (snaps : List Time) (hr : s.log.restart = none)
    (hoff : unitOff s u = false) (hready : (unitOf s u).state = .ready) :
    raiseFault u code 2 obj snaps s = takeF2 u code 2 false obj snaps s := by
  simp [raiseFault, hr, hoff, hready]

/-- A fault in a busy slot escalates (R550). -/
theorem raiseFault_busy {u cls : Nat} {s : State} (code obj : Nat) (snaps : List Time) (hcls : cls = 1 ∨ cls = 2)
    (hr : s.log.restart = none) (hoff : unitOff s u = false) (hbusy : (unitOf s u).state = .handlingF1) :
    raiseFault u code cls obj snaps s = takeF2 u code cls true obj snaps s := by
  rcases hcls with rfl | rfl <;> simp [raiseFault, hr, hoff, hbusy]

theorem raiseFault_f3 {u : Nat} {s : State} (code obj : Nat) (snaps : List Time) (hr : s.log.restart = none) :
    raiseFault u code 3 obj snaps s = takeF3 u code 3 false obj snaps s := by
  simp [raiseFault, hr]

theorem raiseFault_f0 {u : Nat} {s : State} (code obj : Nat) (snaps : List Time) (hr : s.log.restart = none) :
    raiseFault u code 0 obj snaps s = noteFault u code 0 false (faultRecord u code 0 0 false obj snaps s) := by
  simp [raiseFault, hr]

/-- The unit as its fence begins (R481, R486). -/
def fencingUnit (code u now : Nat) (f : FaultUnit) : FaultUnit :=
  { f with
    state := .handlingF2, fences := now :: recent now 86400 f.fences,
    retired := f.retired || (decide (3 ≤ (now :: recent now 86400 f.fences).length) && u != 125 && u != 126),
    fenceCause := code, fenceWork := 0 }

theorem takeF2_fence {u : Nat} (code detected : Nat) (esc : Bool) (obj : Nat) (snaps : List Time) (s : State)
    (hf : fenceable u = true) :
    unitOf (takeF2 u code detected esc obj snaps s) u = fencingUnit code u (ageSec s) (notedUnit code 2 esc (unitOf s u))
      ∧ (∀ v, v ≠ u → unitOf (takeF2 u code detected esc obj snaps s) v = unitOf s v)
      ∧ (takeF2 u code detected esc obj snaps s).log.restart = s.log.restart := by
  simp only [takeF2, hf, if_true]
  rw [unitOf_noted detected esc obj snaps s (by decide), ageSec_noteFault]
  refine ⟨unitOf_setUnit_of_ne u _ (unit_ne_default nofun), ?_, ?_⟩
  · intro v hv
    rw [unitOf_setUnit_other _ _ hv, unitOf_noted_other _ _ _ _ _ _ _ hv]
  · exact (stage_units _ s).2.1

/-- An F3 begins a restart (R488). -/
theorem beginRestart_isSome (u code : Nat) (s : State) : (beginRestart u code s).log.restart.isSome = true := by
  simp only [beginRestart]
  repeat' split
  all_goals first | rfl | assumption

theorem takeF2_restart {u : Nat} (code detected : Nat) (esc : Bool) (obj : Nat) (snaps : List Time) (s : State)
    (hf : fenceable u = false) : (takeF2 u code detected esc obj snaps s).log.restart.isSome = true := by
  rw [takeF2, if_neg (by simp [hf])]
  exact beginRestart_isSome u code _

end Sys2Proof.Machine

section

open Sys2Proof Sys2Proof.Machine

/-- Settles O49: the class and the state of the unit choose the branch of `raiseFault`, and each branch moves that unit alone. -/
theorem faultsMoveOnlyTheirUnit : Obligations.FaultsMoveOnlyTheirUnit := by
  unfold Obligations.FaultsMoveOnlyTheirUnit
  refine ⟨?f0, ?f1, ?f2, ?busy, ?retired, ?unfenceable, ?f3, ?restarting⟩
  case f0 =>
    intro u code obj snaps s v hd hr
    rw [raiseFault_f0 code obj snaps hr]
    by_cases hv : v = u
    · subst hv
      have hunit : unitOf (noteFault v code 0 false (faultRecord v code 0 0 false obj snaps s)) v
          = notedUnit code 0 false (unitOf (faultRecord v code 0 0 false obj snaps s) v) := by
        rw [unitOf, noteFault_units]
        exact look_put_once _ _ (.of_distinct v ((stage_units _ s).1 ▸ hd))
      rw [hunit, unitOf_faultRecord]
      rfl
    · rw [unitOf_noted_other _ _ _ _ _ _ _ hv]
  case f1 =>
    intro u code obj snaps s hr hoff hready t
    have ht : t = _ := raiseFault_f1 code obj snaps hr hoff hready
    rw [ht]
    refine ⟨?_, fun v hv => ?_, (stage_units _ s).2.1.trans hr⟩
    · rw [unitOf_setUnit_of_ne]
      exact unit_ne_default nofun
    · rw [unitOf_setUnit_other _ _ hv, unitOf_noted_other _ _ _ _ _ _ _ hv]
  case f2 =>
    intro u code obj snaps s hr hoff hready hf t
    have ht : t = _ := raiseFault_f2 code obj snaps hr hoff hready
    obtain ⟨hown, hother, hrestart⟩ := takeF2_fence code 2 false obj snaps s hf
    rw [← ht] at hown hother hrestart
    have hstate : (unitOf t u).state = .handlingF2 := by rw [hown]; rfl
    exact ⟨hstate, by simp [isFenced, ownFenced, hstate], hother, hrestart.trans hr⟩
  case busy =>
    intro u code cls obj snaps s hcls hr hoff hbusy hf t
    have ht : t = _ := raiseFault_busy code obj snaps hcls hr hoff hbusy
    obtain ⟨hown, hother, _⟩ := takeF2_fence code cls true obj snaps s hf
    rw [← ht] at hown hother
    rw [hown]
    exact ⟨rfl, rfl, rfl, hother⟩
  case retired =>
    intro u code obj snaps s hr hf hoff hready h125 h126 htwo
    rw [raiseFault_f2 code obj snaps hr hoff hready]
    obtain ⟨hown, _, _⟩ := takeF2_fence code 2 false obj snaps s hf
    rw [hown]
    simp [fencingUnit, notedUnit, h125, h126, htwo]
  case unfenceable =>
    intro u code cls obj snaps s hr hoff hf hcase
    rcases hcase with ⟨rfl, hready⟩ | ⟨hcls, hbusy⟩
    · rw [raiseFault_f2 code obj snaps hr hoff hready]
      exact takeF2_restart code 2 false obj snaps s hf
    · rw [raiseFault_busy code obj snaps hcls hr hoff hbusy]
      exact takeF2_restart code cls true obj snaps s hf
  case f3 =>
    intro u code obj snaps s hr
    rw [raiseFault_f3 code obj snaps hr]
    exact beginRestart_isSome u code _
  case restarting =>
    intro u code cls obj snaps s hr h125 h126
    rw [raiseFault, if_pos ⟨hr, h125, h126⟩]

end

/-! ### The tick of the time bases (R21, R84, R87, R115) -/

namespace Sys2Proof.Machine

theorem tb_setTb_other {n m : Nat} (t : TimeBase) (s : State) (h : m ≠ n) : tb (setTb n t s) m = tb s m := by
  by_cases hd : tbReset m = tbReset n
  · simp only [tb, setTb, hd]
    exact look_put_other _ s.clock.tbs t h
  · simp only [tb, setTb]
    unfold put
    split
    · exact look_dropKey_other _ s.clock.tbs h
    · exact look_insertKey_other _ s.clock.tbs t h

theorem tb_setTb_once {n : Nat} {s : State} (t : TimeBase) (h : ListedOnce n s.clock.tbs) : tb (setTb n t s) n = t :=
  look_put_once _ t h

theorem setTb_once {n m : Nat} {s : State} (t : TimeBase) (h : ListedOnce m s.clock.tbs) (hne : m ≠ n) :
    ListedOnce m (setTb n t s).clock.tbs :=
  h.put _ t hne

/-- What a tick of other bases leaves: power and records, the crystal, and base `n`. -/
structure TickKeeps (n : Nat) (s t : State) : Prop where
  power : t.power = s.power
  log : t.log = s.log
  phase : t.clock.crystalPhase = s.clock.crystalPhase
  base : tb t n = tb s n
  once : ListedOnce n s.clock.tbs → ListedOnce n t.clock.tbs

theorem TickKeeps.refl (n : Nat) (s : State) : TickKeeps n s s := ⟨rfl, rfl, rfl, rfl, id⟩

theorem TickKeeps.trans {n : Nat} {s t u : State} (h : TickKeeps n s t) (g : TickKeeps n t u) : TickKeeps n s u :=
  ⟨g.power.trans h.power, g.log.trans h.log, g.phase.trans h.phase, g.base.trans h.base, fun ho => g.once (h.once ho)⟩

theorem TickKeeps.setTb {n m : Nat} (t : TimeBase) (s : State) (h : n ≠ m) : TickKeeps n s (setTb m t s) :=
  ⟨rfl, rfl, rfl, tb_setTb_other t s h, fun ho => setTb_once t ho h⟩

/-- Whether a base runs, and how many cycles an edge counts, rests on power and restart alone. -/
theorem TickKeeps.runs {n : Nat} {s t : State} (h : TickKeeps n s t) (m : Nat) : tbRuns t m = tbRuns s m := by
  simp only [tbRuns, active, fabricUp, h.power, h.log]

theorem TickKeeps.span {n : Nat} {s t : State} (h : TickKeeps n s t) : tickSpan t = tickSpan s := by
  simp only [tickSpan, h.power]

theorem tickBase_keeps {n m : Nat} (s : State) (h : n ≠ m) : TickKeeps n s (tickBase m s) := by
  simp only [tickBase]
  split
  · exact .setTb _ s h
  · exact .refl n s

/-- The bases of a list, ticked in turn. -/
def tickList (l : List Nat) (s : State) : State := l.foldl (fun s n => tickBase n s) s

theorem tickList_keeps {n : Nat} {l : List Nat} (s : State) (h : n ∉ l) : TickKeeps n s (tickList l s) := by
  induction l generalizing s with
  | nil => exact .refl n s
  | cons m l ih =>
    obtain ⟨hm, hl⟩ : n ≠ m ∧ n ∉ l := by rwa [List.mem_cons, not_or] at h
    exact (tickBase_keeps s hm).trans (ih (tickBase m s) hl)

theorem tickBase_runs {n : Nat} {s : State} (h : ListedOnce n s.clock.tbs) (hr : tbRuns s n = true) :
    tb (tickBase n s) n = { tb s n with
      acc := (tb s n).acc + BitVec.ofNat 108 (if n = 3 then tickSpan s * tickInc s n else tickInc s n),
      inc := if n = 3 then tickInc s n else (tb s n).inc } := by
  simp only [tickBase, hr, if_true]
  exact tb_setTb_once _ h

theorem tickBase_stopped {n : Nat} {s : State} (hr : tbRuns s n = false) : tickBase n s = s := by
  simp [tickBase, hr]

/-- Ticking a base of the fabric keeps its increment and its source. -/
theorem tickBase_settings {n : Nat} {s : State} (h : ListedOnce n s.clock.tbs) (h3 : n ≠ 3) :
    (tb (tickBase n s) n).inc = (tb s n).inc ∧ (tb (tickBase n s) n).source = (tb s n).source := by
  cases hr : tbRuns s n with
  | true => rw [tickBase_runs h hr]; exact ⟨if_neg h3, rfl⟩
  | false => rw [tickBase_stopped hr]; exact ⟨rfl, rfl⟩

theorem tickTb2_keeps {n : Nat} (s : State) (h : n ≠ 2) :
    tb (tickTb2 s) n = tb s n := tb_setTb_other _ s h

theorem tickMeter_clock (s : State) : (tickMeter s).clock = s.clock := by
  simp only [tickMeter]
  split <;> rfl

theorem tb_tickMeter (s : State) (n : Nat) : tb (tickMeter s) n = tb s n := by
  rw [tb, tickMeter_clock, tb]

/-- TB11 and TB0 are tied by the chain; no other base is (R118). -/
theorem tieTb11_keeps {n : Nat} (s : State) (h0 : n ≠ 0 ∨ (tb s 0).source ≠ 2) (h11 : n ≠ 11) : TickKeeps n s (tieTb11 s) := by
  simp only [tieTb11]
  split
  · exact .setTb _ s h11
  · split
    · rename_i hs
      exact .setTb _ s (h0.resolve_right (not_not_intro hs))
    · exact .refl n s

/-- The order in which an edge ticks its bases. -/
theorem tickAll_eq (s : State) :
    tickAll s = tickMeter (tieTb11 (tickTb2 (tickList [3, 0, 1, 4, 5, 6, 7, 8, 9, 10, 11] s))) := rfl

/-- A base that no tie changes is as its own tick left it. -/
theorem tb_tickAll {n : Nat} (s : State) (h2 : n ≠ 2) (h11 : n ≠ 11)
    (h0 : n ≠ 0 ∨ (tb (tickList [3, 0, 1, 4, 5, 6, 7, 8, 9, 10, 11] s) 0).source ≠ 2) :
    tb (tickAll s) n = tb (tickList [3, 0, 1, 4, 5, 6, 7, 8, 9, 10, 11] s) n := by
  have htie : TickKeeps n _ _ := tieTb11_keeps (tickTb2 (tickList [3, 0, 1, 4, 5, 6, 7, 8, 9, 10, 11] s))
    (by rwa [tickTb2_keeps _ (by decide)]) h11
  rw [tickAll_eq, tb_tickMeter, htie.base, tickTb2_keeps _ h2]

/-- In a list of bases each ticks once, after those before it. -/
theorem tickList_split {n : Nat} {l₁ l₂ : List Nat} (s : State) (h₂ : n ∉ l₂) :
    tb (tickList (l₁ ++ n :: l₂) s) n = tb (tickBase n (tickList l₁ s)) n := by
  have hsplit : tickList (l₁ ++ n :: l₂) s = tickList l₂ (tickBase n (tickList l₁ s)) := by
    simp [tickList]
  rw [hsplit, (tickList_keeps _ h₂).base]

/-- The bases that tick after TB3 and TB0. -/
theorem split_bases {n : Nat} (h : n ∈ [1, 4, 5, 6, 7, 8, 9, 10]) :
    ∃ l₁ l₂, [1, 4, 5, 6, 7, 8, 9, 10, 11] = l₁ ++ n :: l₂ ∧ n ∉ l₁ ∧ n ∉ l₂ ∧ 0 ∉ l₁ := by
  obtain ⟨l₁, l₂, hl⟩ := List.append_of_mem (List.mem_append_left [11] h)
  have hl : [1, 4, 5, 6, 7, 8, 9, 10, 11] = l₁ ++ n :: l₂ := hl
  have hnodup : (l₁ ++ n :: l₂).Nodup := hl ▸ by decide
  have h0 : 0 ∉ l₁ ++ n :: l₂ := hl ▸ by decide
  obtain ⟨_, htail, hdisj⟩ := List.nodup_append.mp hnodup
  exact ⟨l₁, l₂, hl, fun hn => hdisj n hn n List.mem_cons_self rfl, (List.nodup_cons.mp htail).1,
    fun h => h0 (List.mem_append_left _ h)⟩

/-- A base of the fabric at an edge: it ticks with TB0's increment where it is locked to TB0, else with its own. -/
theorem tickAll_base {n : Nat} {s : State} (h : n ∈ [1, 4, 5, 6, 7, 8, 9, 10]) (hd : DistinctKeys s.clock.tbs) :
    (tbRuns s n = true → (tb (tickAll s) n).acc
        = (tb s n).acc + BitVec.ofNat 108 (if (tb s n).source = 4 then (tb s 0).inc else (tb s n).inc))
      ∧ (tbRuns s n = false → tb (tickAll s) n = tb s n) := by
  obtain ⟨l₁, l₂, hl, h₁, h₂, h0⟩ := split_bases h
  have hn : n ≠ 0 ∧ n ≠ 2 ∧ n ≠ 3 ∧ n ≠ 11 := by
    simp only [List.mem_cons, List.not_mem_nil, or_false] at h
    omega
  obtain ⟨hn0, hn2, hn3, hn11⟩ := hn
  let u := tickList (3 :: 0 :: l₁) s
  have hu : TickKeeps n s u := tickList_keeps s (by simp [hn3, hn0, h₁])
  have hend : tb (tickAll s) n = tb (tickBase n u) n := by
    rw [tb_tickAll s hn2 hn11 (.inl hn0), show [3, 0, 1, 4, 5, 6, 7, 8, 9, 10, 11] = (3 :: 0 :: l₁) ++ n :: l₂ from
      congrArg (3 :: 0 :: ·) hl, tickList_split s h₂]
  have hinc : (tb u 0).inc = (tb s 0).inc := by
    have h3 : TickKeeps 0 s (tickBase 3 s) := tickBase_keeps s (by decide)
    change (tb (tickList l₁ (tickBase 0 (tickBase 3 s))) 0).inc = _
    rw [(tickList_keeps _ h0).base, (tickBase_settings (h3.once (.of_distinct 0 hd)) (by decide)).1, h3.base]
  constructor
  · intro hr
    rw [hend, tickBase_runs (hu.once (.of_distinct n hd)) ((hu.runs n).trans hr)]
    simp only [tickInc, hn3, if_false, hu.base, hinc]
  · intro hr
    rw [hend, tickBase_stopped ((hu.runs n).trans hr), hu.base]

/-- TB0 ticks right after TB3, with its own increment where it follows nothing. -/
theorem tickAll_tb0 {s : State} (hd : DistinctKeys s.clock.tbs) (hr : tbRuns s 0 = true) (h2 : (tb s 0).source ≠ 2)
    (h4 : (tb s 0).source ≠ 4) : (tb (tickAll s) 0).acc = (tb s 0).acc + BitVec.ofNat 108 (tb s 0).inc := by
  have h3 : TickKeeps 0 s (tickBase 3 s) := tickBase_keeps s (by decide)
  have honce : ListedOnce 0 (tickBase 3 s).clock.tbs := h3.once (.of_distinct 0 hd)
  have hlist : tb (tickList [3, 0, 1, 4, 5, 6, 7, 8, 9, 10, 11] s) 0 = tb (tickBase 0 (tickBase 3 s)) 0 :=
    tickList_split (l₁ := [3]) s (by decide)
  have hsource : (tb (tickBase 0 (tickBase 3 s)) 0).source = (tb s 0).source := by
    rw [(tickBase_settings honce (by decide)).2, h3.base]
  rw [tb_tickAll s (by decide) (by decide) (.inr (by rwa [hlist, hsource])), hlist,
    tickBase_runs honce ((h3.runs 0).trans hr), h3.base]
  simp [tickInc, h3.base, h4]

/-- In bypass TB3 counts 15 of its increments at each edge of the reference (R21). -/
theorem tickAll_tb3 {s : State} (hd : DistinctKeys s.clock.tbs) (hup : active s 10 = true) (hby : s.power.bypass = true) :
    (tb (tickAll s) 3).acc = (tb s 3).acc + BitVec.ofNat 108 (15 * (tb s 3).inc) := by
  have hr : tbRuns s 3 = true := by simp [tbRuns, hup]
  have hlist : tb (tickList [3, 0, 1, 4, 5, 6, 7, 8, 9, 10, 11] s) 3 = tb (tickBase 3 s) 3 :=
    tickList_split (l₁ := []) s (by decide)
  rw [tb_tickAll s (by decide) (by decide) (.inl (by decide)), hlist, tickBase_runs (.of_distinct 3 hd) hr]
  simp [tickInc, tickSpan, hby]

/-- TB2 counts by its crystal, whose phase carries over what does not fill a cycle (R115). -/
theorem tickAll_tb2 {s : State} (hd : DistinctKeys s.clock.tbs) :
    (tb (tickAll s) 2).acc
        = (tb s 2).acc + BitVec.ofNat 108 ((tickSpan s * (tb s 2).inc * 32768 + s.clock.crystalPhase) / 600000000)
      ∧ (tickAll s).clock.crystalPhase = (tickSpan s * (tb s 2).inc * 32768 + s.clock.crystalPhase) % 600000000 := by
  let u := tickList [3, 0, 1, 4, 5, 6, 7, 8, 9, 10, 11] s
  have hu : TickKeeps 2 s u := tickList_keeps s (by decide)
  have htie : TickKeeps 2 (tickTb2 u) (tieTb11 (tickTb2 u)) := tieTb11_keeps _ (.inl (by decide)) (by decide)
  have hown : tb (tickTb2 u) 2 = { tb u 2 with
      acc := (tb u 2).acc + BitVec.ofNat 108 ((tickSpan u * (tb u 2).inc * 32768 + u.clock.crystalPhase) / 600000000) } :=
    tb_setTb_once _ (hu.once (.of_distinct 2 hd))
  have hphase : (tickTb2 u).clock.crystalPhase = (tickSpan u * (tb u 2).inc * 32768 + u.clock.crystalPhase) % 600000000 := rfl
  rw [tickAll_eq, tb_tickMeter, tickMeter_clock, htie.base, htie.phase, hown, hphase, hu.base, hu.phase, hu.span]
  exact ⟨rfl, rfl⟩

/-- With no step waiting, the edge settles nothing. -/
theorem settleAll_none {s : State} (h : ∀ n < 12, (tb s n).pend = none) : settleAll s = s := by
  have hbase {n : Nat} (hn : n < 12) : settleBase n s = s := by simp [settleBase, h n hn]
  have hfold (l : List Nat) (hl : ∀ n ∈ l, n < 12) : l.foldl (fun s n => settleBase n s) s = s := by
    induction l with
    | nil => rfl
    | cons n l ih =>
      rw [List.foldl_cons, hbase (hl n List.mem_cons_self)]
      exact ih fun m hm => hl m (List.mem_cons_of_mem n hm)
  rw [settleAll, hfold _ fun n hn => List.mem_range.mp hn, ite_self]

end Sys2Proof.Machine

section

open Sys2Proof Sys2Proof.Machine

/-- Settles O48: each base ticks once in the order of the edge, and the ties after it touch TB0 and TB11 only. -/
theorem everyTickAddsTheIncrement : Obligations.EveryTickAddsTheIncrement := by
  unfold Obligations.EveryTickAddsTheIncrement
  refine ⟨fun n s hn hd => (tickAll_base hn hd).1, fun n s hn hd => (tickAll_base hn hd).2, fun s hd => tickAll_tb0 hd,
    fun s hd => tickAll_tb3 hd, fun s hd => tickAll_tb2 hd, ?idle⟩
  case idle =>
    intro s hp hnone
    rw [step_nil hp, idle, fabricTick, settleAll_none hnone]

end

/-! ### The choice of a public-key engine (R452) -/

namespace Sys2Proof.Machine

/-- The request chosen is the oldest of the lowest class: those before it have a higher class, those after it none lower. -/
theorem pkeNext_splits {l : List PkeReq} {r : PkeReq} (h : pkeNext l = some r) :
    ∃ a b, l = a ++ r :: b ∧ (∀ x ∈ a, r.cls < x.cls) ∧ (∀ x ∈ b, r.cls ≤ x.cls) := by
  induction l generalizing r with
  | nil => cases h
  | cons y l ih =>
    cases hn : pkeNext l with
    | none =>
      have hl : l = [] := by
        cases l with
        | nil => rfl
        | cons z l =>
          simp only [pkeNext] at hn
          split at hn
          · split at hn <;> cases hn
          · cases hn
      subst hl
      simp only [pkeNext] at h
      cases h
      exact ⟨[], [], rfl, by simp, by simp⟩
    | some x =>
      obtain ⟨a, b, hl, ha, hb⟩ := ih hn
      simp only [pkeNext, hn] at h
      split at h <;> cases h
      · rename_i hlt
        refine ⟨y :: a, b, by rw [hl]; rfl, ?_, hb⟩
        intro z hz
        rcases List.mem_cons.mp hz with rfl | hz
        · exact hlt
        · exact ha z hz
      · rename_i hge
        refine ⟨[], l, rfl, by simp, ?_⟩
        intro z hz
        rw [hl] at hz
        rcases List.mem_append.mp hz with hz | hz
        · have := ha z hz
          omega
        · rcases List.mem_cons.mp hz with rfl | hz
          · omega
          · have := hb z hz
            omega

theorem pkeNext_none_iff (l : List PkeReq) : pkeNext l = none ↔ l = [] := by
  cases l with
  | nil => exact ⟨fun _ => rfl, fun _ => rfl⟩
  | cons y l =>
    refine ⟨fun h => ?_, nofun⟩
    simp only [pkeNext] at h
    split at h
    · split at h <;> cases h
    · cases h

/-- Taking a request off drops its first occurrence. -/
theorem dropReq_append {a b : List PkeReq} {r : PkeReq} (h : r ∉ a) : dropReq r (a ++ r :: b) = a ++ b := by
  induction a with
  | nil => simp [dropReq]
  | cons x a ih =>
    obtain ⟨hx, ha⟩ : r ≠ x ∧ r ∉ a := by rwa [List.mem_cons, not_or] at h
    simp [dropReq, Ne.symm hx, ih ha]

end Sys2Proof.Machine

section

open Sys2Proof Sys2Proof.Machine

/-- Settles O55, by induction on the queue: the choice among the later requests yields to the first one unless its class is lower. -/
theorem enginesServeByClassThenAge : Obligations.EnginesServeByClassThenAge := by
  unfold Obligations.EnginesServeByClassThenAge
  refine ⟨fun l r h => ?_, pkeNext_none_iff⟩
  obtain ⟨a, b, hl, ha, hb⟩ := pkeNext_splits h
  have hr : r ∉ a := fun hm => Nat.lt_irrefl _ (ha r hm)
  exact ⟨a, b, hl, hl ▸ dropReq_append hr, ha, hb⟩

end

/-! ### The life-cycle state (R425) -/

namespace Sys2Proof.Machine

/-- Step `i` of the thermometer is taken: either fuse of its pair is blown. -/
def stepTaken (t i : Nat) : Bool := bitOf t (2 * i) || bitOf t (2 * i + 1)

/-- The state of five steps: the length of an unbroken run from the first, or VOID. -/
def lcOfSteps : List Bool → LifeCycle
  | [false, false, false, false, false] => .blank
  | [true, false, false, false, false] => .mfg
  | [true, true, false, false, false] => .provision
  | [true, true, true, false, false] => .field
  | [true, true, true, true, false] => .rma
  | _ => .void

theorem lcOfThermo_eq (t : Nat) :
    lcOfThermo t = lcOfSteps [stepTaken t 0, stepTaken t 1, stepTaken t 2, stepTaken t 3, stepTaken t 4] := rfl

/-- `k` steps taken in a run are state `k`. -/
theorem lcOfSteps_run : ∀ k ≤ 5, lcCode (lcOfSteps ((List.range 5).map fun i => decide (i < k))) = k := by decide

/-- Steps that are no run are VOID. -/
theorem lcOfSteps_noRun : ∀ a b c d e : Bool, (¬ ∃ k ≤ 5, [a, b, c, d, e] = (List.range 5).map fun i => decide (i < k)) →
    lcOfSteps [a, b, c, d, e] = .void := by decide

end Sys2Proof.Machine

section

open Sys2Proof Sys2Proof.Machine

/-- Settles O56: the five pairs are the steps, and every pattern of five steps is a run or VOID. -/
theorem lifeCycleIsReadFromTheFuses : Obligations.LifeCycleIsReadFromTheFuses := by
  unfold Obligations.LifeCycleIsReadFromTheFuses
  have hsteps (t k : Nat) : (∀ i < 5, (bitOf t (2 * i) || bitOf t (2 * i + 1)) = decide (i < k)) ↔
      [stepTaken t 0, stepTaken t 1, stepTaken t 2, stepTaken t 3, stepTaken t 4]
        = (List.range 5).map fun i => decide (i < k) := by
    constructor
    · intro h
      exact List.map_congr_left (l := List.range 5) (f := stepTaken t) fun i hi => h i (List.mem_range.mp hi)
    · intro h i hi
      have hmap : (List.range 5).map (stepTaken t) = (List.range 5).map fun i => decide (i < k) := h
      exact List.map_inj_left.mp hmap i (List.mem_range.mpr hi)
  refine ⟨?run, ?void, rfl, rfl, rfl, rfl, rfl, rfl⟩
  case run =>
    intro t k hk h
    rw [lcOfThermo_eq, (hsteps t k).mp h]
    exact lcOfSteps_run k hk
  case void =>
    intro t h
    rw [lcOfThermo_eq]
    apply lcOfSteps_noRun
    rintro ⟨k, hk, hrun⟩
    exact h ⟨k, hk, (hsteps t k).mpr hrun⟩

end

/-! ### Junction entries and buckets (R318, R330) -/

namespace Sys2Proof.Machine

theorem ofBits_lt (l : List Bool) : ofBits l < 2 ^ l.length := by
  induction l with
  | nil => simp [ofBits]
  | cons b l ih =>
    have hb : b2n b ≤ 1 := by cases b <;> decide
    rw [ofBits, List.length_cons, Nat.pow_succ]
    omega

theorem jtPar_lt (v : Nat) : jtPar v < 256 := by
  have h := ofBits_lt ((List.range 8).map fun k => parity15 (v / 2 ^ (15 * k) % 2 ^ 15) == 1)
  rw [List.length_map, List.length_range] at h
  exact h

/-- A body of 120 bits stays below its parity field. -/
theorem jtJoin_toNat {body : Nat} (h : body < 2 ^ 120) : (jtJoin body).toNat = body + 2 ^ 120 * jtPar body := by
  have hp := jtPar_lt body
  have hfits : body + 2 ^ 120 * jtPar body < 2 ^ 128 := by omega
  rw [jtJoin, Nat.mod_eq_of_lt h, BitVec.toNat_ofNat, Nat.mod_eq_of_lt hfits]

/-- The body of an entry whose fields are in range. -/
def jtBody (title ctx gen age : Nat) : Nat := title + 2 ^ 64 * ctx + 2 ^ 85 * gen + 2 ^ 93 * age + 2 ^ 101

theorem jtBody_lt {title ctx gen age : Nat} (ht : title < 2 ^ 64) (hc : ctx < 2 ^ 21) (hg : gen < 256) (ha : age < 256) :
    jtBody title ctx gen age < 2 ^ 120 := by
  unfold jtBody
  omega

theorem jtEntry_toNat {title ctx gen age : Nat} (ht : title < 2 ^ 64) (hc : ctx < 2 ^ 21) (hg : gen < 256) (ha : age < 256) :
    (jtEntry title ctx gen age).toNat = jtBody title ctx gen age + 2 ^ 120 * jtPar (jtBody title ctx gen age) := by
  rw [jtEntry, Nat.mod_eq_of_lt ht, Nat.mod_eq_of_lt hc, Nat.mod_eq_of_lt hg, Nat.mod_eq_of_lt ha]
  exact jtJoin_toNat (jtBody_lt ht hc hg ha)

theorem hashH0_lt (key : Nat) : hashH0 key < 8192 := by
  unfold hashH0
  omega

theorem hashH1_lt (key : Nat) : hashH1 key < 8192 := by
  simp only [hashH1]
  split
  · exact Nat.xor_lt_two_pow (n := 13) (hashH0_lt key) (by decide)
  · omega

/-- Where the second hash meets the first, its lowest bit is turned. -/
theorem hashH0_ne_hashH1 (key : Nat) : hashH0 key ≠ hashH1 key := by
  simp only [hashH1]
  split
  · intro h
    have hzero : hashH0 key ^^^ (hashH0 key ^^^ 1) = 0 := by rw [← h, Nat.xor_self]
    rw [← Nat.xor_assoc, Nat.xor_self, Nat.zero_xor] at hzero
    exact absurd hzero (by decide)
  · rename_i h
    exact Ne.symm h

end Sys2Proof.Machine

section

open Sys2Proof Sys2Proof.Machine

/-- Settles O53: the fields lie side by side below the parity, and the second bucket is moved off the first. -/
theorem junctionEntriesRoundTrip : Obligations.JunctionEntriesRoundTrip := by
  unfold Obligations.JunctionEntriesRoundTrip
  refine ⟨?fields, ?buckets⟩
  case fields =>
    intro title ctx gen age ht hc hg ha
    have hn := jtEntry_toNat ht hc hg ha
    have hp := jtPar_lt (jtBody title ctx gen age)
    have hvalid : (jtEntry title ctx gen age).toNat / 2 ^ 101 % 2 = 1 := by
      rw [hn, jtBody]
      omega
    have hbody : (jtEntry title ctx gen age).toNat % 2 ^ 120 = jtBody title ctx gen age := by
      rw [hn, Nat.add_mul_mod_self_left, Nat.mod_eq_of_lt (jtBody_lt ht hc hg ha)]
    have hpar : (jtEntry title ctx gen age).toNat / 2 ^ 120 = jtPar (jtBody title ctx gen age) := by
      rw [hn, Nat.add_mul_div_left _ _ (by decide), Nat.div_eq_of_lt (jtBody_lt ht hc hg ha), Nat.zero_add]
    refine ⟨?_, ?_, ?_, ?_, ?_, ?_⟩
    · rw [jtTitle, hn, jtBody]
      omega
    · rw [jtCtx, hn, jtBody]
      omega
    · rw [jtGen, hn, jtBody]
      omega
    · rw [jtAge, hn, jtBody]
      omega
    · rw [jtValid, ← bitOf_toNat, bitOf, hvalid]
      rfl
    · rw [jtParityOk, hbody, hpar, beq_self_eq_true]
  case buckets =>
    intro key
    have h0 := hashH0_lt key
    have h1 := hashH1_lt key
    refine ⟨hashH0_ne_hashH1 key, h0, h1, ?_, ?_⟩
    · rw [hashD0]
      omega
    · rw [hashD1]
      omega

end

/-! ### Energy registers (R148, R152–R154) -/

namespace Sys2Proof.Machine

/-- The number that begins at a place of a string is the one written there. -/
theorem fieldU_append_left (a b c : Bytes) : fieldU (a ++ (b ++ c)) a.length b.length = leNat b := by
  rw [fieldU, List.drop_left, List.take_left]

theorem unsigned_lt (bits : Nat) (i : Int) : unsigned bits i < 2 ^ bits := by
  have hpos : (0 : Int) < ((2 ^ bits : Nat) : Int) := by exact_mod_cast Nat.two_pow_pos bits
  have hlt := Int.emod_lt_of_pos i hpos
  rw [unsigned]
  omega

theorem leNat_leInt (n : Nat) (i : Int) : leNat (leInt n i) = unsigned (8 * n) i := by
  have hw : 256 ^ n = 2 ^ (8 * n) := by rw [Nat.pow_mul]
  rw [leInt, leNat_leBytes, hw, Nat.mod_eq_of_lt (unsigned_lt _ i)]

/-- A number of `bits` bits is read back with its sign. -/
theorem signed_unsigned {i : Int} (hlo : -(2 ^ 71) ≤ i) (hhi : i < 2 ^ 71) : signed 72 (unsigned 72 i) = i := by
  simp only [signed, unsigned]
  omega

theorem regRecord_length (v : Int) (c : Nat) : (regRecord v c).length = 16 := by simp [regRecord]

theorem take_regRecord (v : Int) (c : Nat) :
    (regRecord v c).take 14 = leInt 9 (v / 2 ^ 32) ++ leInt 4 v ++ leBytes 1 c := by
  rw [regRecord]
  exact List.take_left' (by simp)

theorem recValid_regRecord (v : Int) (c : Nat) : recValid (regRecord v c) = true := by
  have hcrc : fieldU (regRecord v c) 14 2 = (crc16 ((regRecord v c).take 14)).toNat := by
    rw [take_regRecord, regRecord, fieldU, List.drop_left' (by simp), List.take_of_length_le (by simp), leNat_leBytes]
    exact Nat.mod_eq_of_lt (crc16 _).isLt
  simp [recValid, regRecord_length, hcrc]

theorem recCount_regRecord (v : Int) {c : Nat} (hc : c < 256) : recCount (regRecord v c) = c := by
  have h := fieldU_append_left (leInt 9 (v / 2 ^ 32) ++ leInt 4 v) (leBytes 1 c)
    (leBytes 2 (crc16 (leInt 9 (v / 2 ^ 32) ++ leInt 4 v ++ leBytes 1 c)).toNat)
  simp only [List.length_append, leInt_length, leBytes_length, leNat_leBytes] at h
  rw [recCount, regRecord, List.append_assoc]
  exact h.trans (Nat.mod_eq_of_lt hc)

/-- A value within the limits of a register is read back from its record. -/
theorem recValue_regRecord {v : Int} (c : Nat) (hlo : regMin ≤ v) (hhi : v ≤ regMax) : recValue (regRecord v c) = v := by
  have hhigh : fieldU (regRecord v c) 0 9 = unsigned 72 (v / 2 ^ 32) := by
    rw [fieldU, regRecord, List.drop_zero, List.append_assoc, List.append_assoc, List.take_left' (leInt_length 9 _), leNat_leInt]
  have hlow : fieldU (regRecord v c) 9 4 = unsigned 32 v := by
    rw [fieldU, regRecord, List.append_assoc, List.append_assoc, List.drop_left' (leInt_length 9 _),
      List.take_left' (leInt_length 4 _), leNat_leInt]
  unfold regMin at hlo
  unfold regMax at hhi
  rw [recValue, fieldS, hhigh, hlow]
  change signed 72 (unsigned 72 (v / 2 ^ 32)) * 2 ^ 32 + ((unsigned 32 v : Nat) : Int) = v
  rw [signed_unsigned (by omega) (by omega), unsigned]
  omega

theorem recCount_lt (b : Bytes) : recCount b < 256 := by
  rw [recCount, fieldU]
  generalize (b.drop 13) = l
  cases l with
  | nil => decide
  | cons x l =>
    have hx := x.isLt
    simp only [List.take_succ_cons, List.take_zero, leNat]
    omega

/-- The next count is later than its own, which is not later than it (R153). -/
theorem later_next {c : Nat} (hc : c < 256) : later ((c + 1) % 256) c = true ∧ later c ((c + 1) % 256) = false := by
  simp only [later, decide_eq_true_eq, decide_eq_false_iff_not]
  omega

/-- A write-through takes the record that is not the newer one; the next start finds it the newer (R152, R154). -/
theorem restoreReg_writeReg {r : EnergyReg} (hlo : regMin ≤ liveValue r) (hhi : liveValue r ≤ regMax) :
    liveValue (restoreReg (writeReg r)).1 = liveValue r ∧ (restoreReg (writeReg r)).2 = false := by
  have hmod (c : Nat) : (c + 1) % 256 < 256 := Nat.mod_lt _ (by decide)
  cases hb : r.nextB with
  | true =>
    obtain ⟨hnew, -⟩ := later_next (recCount_lt r.recA)
    simp only [restoreReg, writeReg, hb, if_true, recValid_regRecord, recCount_regRecord _ (hmod _), hnew, Bool.not_true,
      Bool.and_false, Bool.or_true, Bool.and_true, Bool.false_eq_true, if_false, recValue_regRecord _ hlo hhi]
    exact ⟨Int.add_zero _, trivial⟩
  | false =>
    obtain ⟨-, hold⟩ := later_next (recCount_lt r.recB)
    simp only [restoreReg, writeReg, hb, recValid_regRecord, recCount_regRecord _ (hmod _), hold, Bool.not_true,
      Bool.false_and, Bool.or_self, Bool.and_false, Bool.false_eq_true, if_false, recValue_regRecord _ hlo hhi]
    exact ⟨Int.add_zero _, trivial⟩

theorem writeReg_keeps (r : EnergyReg) : liveValue (writeReg r) = liveValue r ∧ (writeReg r).pending = 0
    ∧ (writeReg r).nextB = !r.nextB ∧ (if r.nextB then (writeReg r).recA = r.recA else (writeReg r).recB = r.recB) := by
  cases hb : r.nextB <;> simp [writeReg, hb, liveValue]

theorem clampI_eq (lo hi i : Int) (h : lo ≤ hi) : clampI lo hi i = max lo (min hi i) := by
  simp only [clampI]
  split
  · omega
  · split <;> omega

end Sys2Proof.Machine

section

open Sys2Proof Sys2Proof.Machine

/-- Settles O57: a record reads back its value and count, the newer count wins, and an advance is clamped. -/
theorem registersKeepTheirValue : Obligations.RegistersKeepTheirValue := by
  unfold Obligations.RegistersKeepTheirValue
  refine ⟨writeReg_keeps, fun r hlo hhi => restoreReg_writeReg hlo hhi, ?advance, ?held⟩
  case advance =>
    intro r d hlo hhi
    have hheld : regHeld r = false := by simp [regHeld, hlo, hhi]
    rw [← clampI_eq _ _ _ (by decide)]
    have hback (x : Int) : r.stored + (x - r.stored) = x := by omega
    simp [advance, hheld, liveValue, hback]
  case held =>
    intro r d h
    have hheld : regHeld r = true := by simpa [regHeld] using h
    rw [advance, if_pos hheld]

end

/-! ### Records of the tamper classes (R203, R204) -/

namespace Sys2Proof.Machine

open Sys2Proof

theorem tamperRecord_length (n : Nat) (first last : Time) (flags : Nat) : (tamperRecord n first last flags).length = 32 := by
  simp [tamperRecord]

/-- A record as it is written has a correct CRC. -/
theorem tamperValid_record (n : Nat) (first last : Time) (flags : Nat) : tamperValid (tamperRecord n first last flags) = true := by
  have hbody : (tamperRecord n first last flags).take 30 =
      leBytes 5 n ++ leBytes 9 first.toNat ++ leBytes 9 last.toNat ++ leBytes 1 flags ++ List.replicate 6 0 := by
    rw [tamperRecord]
    exact List.take_left' (by simp)
  have hcrc : fieldU (tamperRecord n first last flags) 30 2 = (crc16 ((tamperRecord n first last flags).take 30)).toNat := by
    rw [hbody, tamperRecord, fieldU, List.drop_left' (by simp), List.take_of_length_le (by simp), leNat_leBytes]
    exact Nat.mod_eq_of_lt (crc16 _).isLt
  simp [tamperValid, tamperRecord_length, hcrc]

/-- The count of a record is a field of 40 bits. -/
theorem fieldU_tamperRecord (n : Nat) (first last : Time) (flags : Nat) :
    fieldU (tamperRecord n first last flags) 0 5 = n % 256 ^ 5 := by
  rw [fieldU, tamperRecord, List.drop_zero]
  simp only [List.append_assoc]
  rw [leNat_take_leBytes]

/-- A record with more in its field than the 36 bits of a count, and a later record of a smaller field. -/
def wideTamper (b : Bytes) (count : Nat) (nextB : Bool) : Tamper :=
  { count := count, recA := tamperRecord (2 ^ 36 + 5) 0 0 0, recB := b, nextB := nextB }

/-- The wider field is taken for the newer record, whatever is in the other one; the count that it gives is 5. -/
theorem restoreTamper_wide {t : Tamper} (ha : t.recA = tamperRecord (2 ^ 36 + 5) 0 0 0) (hb : fieldU t.recB 0 5 < 2 ^ 36) :
    (restoreTamper t).count = 5 := by
  have hfield : fieldU t.recA 0 5 = 68719476741 := by
    have hfits : (2 ^ 36 + 5) % 256 ^ 5 = 68719476741 := by decide
    rw [ha, fieldU_tamperRecord, hfits]
  have hvalid : tamperValid t.recA = true := by rw [ha, tamperValid_record]
  have hno : ¬ 68719476741 < fieldU t.recB 0 5 := by omega
  have hkept : restoreTamper t = tamperFrom t t.recA true := by
    simp only [restoreTamper, hvalid, hfield, Bool.not_true, Bool.false_and, Bool.false_eq_true, if_false, Bool.false_or, hno,
      decide_false, Bool.and_false]
  have hfits : 68719476741 % 2 ^ 36 = 5 := by decide
  rw [hkept]
  exact (congrArg (· % 2 ^ 36) hfield).trans hfits

theorem logEv_legal (code unit obj : Nat) (snaps : List Time) (s : State) : (logEv code unit obj snaps s).legal = s.legal := by
  rw [logEv_parts]

theorem raiseV_legal (v : Nat) (s : State) : (raiseV v s).legal = s.legal := by
  rw [raiseV_parts]

theorem logNotice_legal (code unit obj : Nat) (snaps : List Time) (s : State) :
    (logNotice code unit obj snaps s).legal = s.legal := by
  rw [logNotice_parts]

theorem logTamper_legal (c : Nat) (s : State) : (logTamper c s).legal = s.legal := logEv_legal ..

/-- While the legal log has room, setting a class changes the table of classes by its count alone. -/
theorem tamperSet_tamper {c : Nat} {s : State} (h : s.legal.entries.length < 1024) :
    (tamperSet c s).legal.tamper = (tamperCount c (tbVal s 2) (!(tb s 2).valid) s).legal.tamper := by
  let t := logTamper c (tamperCount c (tbVal s 2) (!(tb s 2).valid) s)
  have hlegal : t.legal = (tamperCount c (tbVal s 2) (!(tb s 2).valid) s).legal := logTamper_legal ..
  have hfull : legalFull t = false := by
    rw [legalFull, hlegal]
    exact decide_eq_false (Nat.not_le.mpr h)
  have hauto (code : Nat) (d : Bytes) : (legalAuto code d t).legal.tamper = t.legal.tamper := by
    simp only [legalAuto, legalEntry, hfull, Bool.false_eq_true, if_false, apply_ite State.legal, raiseV_legal, logNotice_legal,
      logEv_legal, ite_self]
  rw [← hlegal]
  simp only [tamperSet]
  split
  · exact hauto ..
  · rfl

theorem mem_put_of_ne {α : Type} [DecidableEq α] {d v : α} (t : Tab α) (i : Nat) (h : v ≠ d) : (i, v) ∈ put d t i v := by
  rw [put, if_neg h]
  induction t with
  | nil => exact List.mem_singleton.mpr rfl
  | cons p r ih =>
    simp only [insertKey]
    split
    · exact List.mem_cons_self
    · split
      · exact List.mem_cons_self
      · exact List.mem_cons_of_mem _ ih

/-- A module in ALARM_HOLD whose debug port is closed, and whose class 16 has such a record. -/
def wideState : State :=
  { power := { aux := true }
    keys := { alarmHold := true, debugDis := 3 }
    legal := { tamper := [(16, wideTamper (tamperRecord 0 0 0 0) 5 true)] } }

/-- A debug access sets class 16 (R204, R448). -/
theorem wideState_step :
    step { wideState with pending := [.debugAccessAttempt 8] } = .next (tamperSet 16 wideState) := by
  have hclosed : debugClosed wideState = true := by simp [debugClosed, wideState]
  have hon : sourceOn wideState 16 = true := by simp [sourceOn]
  have haux : wideState.power.aux = true := rfl
  have hhold : wideState.keys.alarmHold = true := rfl
  rw [step_cons rfl]
  change Host.Outcome.next (if 8 ≤ 8 ∧ debugClosed wideState ∧ wideState.power.aux then tamperTrip 16 wideState else wideState) = _
  simp [tamperTrip, hclosed, hon, haux, hhold]

end Sys2Proof.Machine

section

open Sys2Proof Sys2Proof.Machine

/-- Refutes O37: where the field of a record holds more than 36 bits, the update of the class writes a record that the next start
takes for the older one, so that the class reads as 5 and not as the count of 6 in force. -/
theorem not_legalRecordsAreNeverLost : ¬ Obligations.LegalRecordsAreNeverLost := by
  unfold Obligations.LegalRecordsAreNeverLost
  intro h
  have hstored : TamperStored wideState := by
    intro p hp
    rw [List.mem_singleton.mp hp]
    exact ⟨by decide, restoreTamper_wide rfl (by rw [wideTamper, fieldU_tamperRecord]; decide)⟩
  obtain ⟨-, hafter⟩ := h { wideState with pending := [.debugAccessAttempt 8] } _ hstored wideState_step
  let t : Tamper := writeTamper { wideTamper (tamperRecord 0 0 0 0) 6 true with last := tbVal wideState 2, lastBad := !(tb wideState 2).valid }
  have htable : (tamperSet 16 wideState).legal.tamper = put {} [(16, wideTamper (tamperRecord 0 0 0 0) 5 true)] 16 t :=
    tamperSet_tamper (by decide)
  have hmem : (16, t) ∈ (tamperSet 16 wideState).legal.tamper := by
    rw [htable]
    exact mem_put_of_ne _ 16 fun he => absurd (congrArg Tamper.count he) (by decide)
  obtain ⟨-, hcount⟩ := hafter _ hmem
  have hwide : (restoreTamper t).count = 5 := restoreTamper_wide rfl (by
    change fieldU (tamperRecord 6 _ _ _) 0 5 < _
    rw [fieldU_tamperRecord]
    decide)
  exact absurd (hcount.symm.trans hwide) (by decide)

end

/-! ### Power domains, DRAM and fabric (R20–R44) -/

namespace Sys2Proof.Machine

open Sys2Proof

/-- The checks pass where the first one does and the others do. -/
@[simp] theorem firstFail_cons_none (c : Bool) (st : Status) (l : List (Bool × Status)) :
    firstFail ((c, st) :: l) = none ↔ c = false ∧ firstFail l = none := by
  cases c <;> simp

@[simp] theorem firstFail_nil : firstFail [] = none := rfl

/-- With no transition running, a domain that is off is switched on once the domains that it depends on have power (R23, R24). -/
theorem pdSetCheck_on {r : Req} {s : State} (src : Src) (hlo : 3 ≤ arg r 0 1) (hhi : arg r 0 1 ≤ 11) (hon : arg r 1 1 = 1)
    (htrans : s.power.transition = none) (hdep : ∀ e ∈ dependsOn (arg r 0 1), powered s e = true)
    (hact : activating s = false) (hrem : s.power.removePending = false) : pdSetCheck src r s = none := by
  have hfails : dependencyFails s (arg r 0 1) 1 = false := by
    simpa [dependencyFails] using hdep
  simp [pdSetCheck, hon, hfails, transitionBusy, htrans, hact, hrem, hlo, hhi]

/-- A domain that is on is switched off once nothing that depends on it is on; PD10 only once decommissioned (R23, R30). -/
theorem pdSetCheck_off {r : Req} {s : State} (src : Src) (hlo : 3 ≤ arg r 0 1) (hhi : arg r 0 1 ≤ 11) (hoff : arg r 1 1 = 0)
    (htrans : s.power.transition = none) (hdep : ∀ e ∈ dependents (arg r 0 1), bitOf s.power.on e = false)
    (hact : activating s = false) (hlegal : arg r 0 1 = 10 → s.legal.state = .decommissioned) :
    pdSetCheck src r s = none := by
  have hfails : dependencyFails s (arg r 0 1) 0 = false := by
    simpa [dependencyFails] using hdep
  simp [pdSetCheck, hoff, hfails, transitionBusy, htrans, hact, hlo, hhi]
  exact hlegal

theorem inForce_of_bit {s : State} {d a : Nat} (h : (bitOf s.power.on d == (a == 1)) = false) : inForce s d a = false := by
  simp [inForce, h]

/-- PD_SET to the other state starts the transition (R26–R28). -/
theorem pdSetRun_starts {m : Nat} {r : Req} {s : State}
    (hforce : (bitOf s.power.on (arg r 0 1) == (arg r 1 1 == 1)) = false)
    (hback : backInService s (arg r 0 1) (arg r 1 1) = false) :
    pdSetRun (.mb m) r s = (
        { status := .accepted, legal := if arg r 0 1 = 10 ∧ arg r 1 1 = 1 ∧ s.legal.state ≠ .inService then 0x40F else 0 },
      startTransition m (arg r 0 1) (arg r 1 1) s) := by
  simp only [pdSetRun, inForce_of_bit hforce, hback, Bool.false_eq_true, if_false]

theorem dramArbSetCheck_passes {r : Req} {s : State} (src : Src) (hup : active s 6 = true) (hf : isFenced s 92 = false)
    (h0 : 1 ≤ arg r 0 1 ∧ arg r 0 1 ≤ 15) (h1 : 1 ≤ arg r 1 1 ∧ arg r 1 1 ≤ 15) (h2 : 1 ≤ arg r 2 1 ∧ arg r 2 1 ≤ 15) :
    dramArbSetCheck src r s = none := by
  have hw : ∀ i < 3, 1 ≤ arg r i 1 ∧ arg r i 1 ≤ 15 := by
    intro i hi
    obtain rfl | rfl | rfl : i = 0 ∨ i = 1 ∨ i = 2 := by omega
    · exact h0
    · exact h1
    · exact h2
  simpa [dramArbSetCheck, hup, hf, Nat.one_le_iff_ne_zero] using hw

theorem plCouplingSetCheck_passes {r : Req} {s : State} (src : Src) (hoff : plOff s = false) (hg : arg r 0 1 ≤ 7)
    (hm : ∀ n ∈ maskChannels (arg r 1 2), plFenced s n = false ∧ transmitting (plOf s n) = false
      ∧ (groupOf s n = none ∨ groupOf s n = some (arg r 0 1))) : plCouplingSetCheck src r s = none := by
  have hgroup : ∀ n ∈ maskChannels (arg r 1 2), ((groupOf s n).isSome && groupOf s n != some (arg r 0 1)) = false := by
    intro n hn
    obtain ⟨-, -, h | h⟩ := hm n hn <;> simp [h]
  simp only [plCouplingSetCheck, firstFail_cons_none, firstFail_nil, hoff, List.any_eq_false, Bool.or_eq_false_iff,
    Bool.not_eq_true, decide_eq_false_iff_not, and_true, true_and]
  exact ⟨fun n hn => (hm n hn).1, ⟨Nat.not_lt.mpr hg, hgroup⟩, fun n hn => (hm n hn).2.1⟩

/-- The transition of a PD_SET ends: power follows, and its mailbox is answered (R26, R27). -/
theorem endTransition_pdSet {s : State} {m d : Nat} {on x : Bool} (failed : List Nat)
    (h : s.power.transition = some { domains := [d], on := on, by_ := .pdSet m, discarded := x }) :
    endTransition failed s = finishMb m .ok (le8 d ++ le8 (b2n on))
      (let t := if on then powerUp d failed s else powerOff d s
       { t with power := { t.power with transition := none } }) := by
  simp only [endTransition, h]
  rfl

theorem offWorkDiscard_off {s : State} {d : Nat} {by_ : TransitionBy}
    (h : s.power.transition = some { domains := [d], on := false, by_ := by_, discarded := false }) :
    offWorkDiscard s = let t := discardDomain d s
      { t with power := { t.power with transition := some { domains := [d], on := false, by_ := by_, discarded := true } } } := by
  simp only [offWorkDiscard, h, Bool.not_false, Bool.and_self, if_true, List.foldl_cons, List.foldl_nil]

/-- A bad word below the limit of the link is retransmitted and counted as an F1 (R32, R480). -/
theorem fabricError_counted {hop : Nat} {w : BitVec 72} {s : State} (hbad : wordBad w = true) (hup : fabricUp s = true)
    (hfew : ((look [] s.log.retransmits hop).filter fun t => decide (tb1Us s < t + 1000)).length < 16) :
    fabricError hop w s =
      countedFault 3 0xC14 1 0xFFFF [snapN hop, snapN (wordClass w)] (emit (.retransmit hop) { s with log := { s.log with
          retransmits := put [] s.log.retransmits hop
            (tb1Us s :: (look [] s.log.retransmits hop).filter fun t => decide (tb1Us s < t + 1000)) } }) := by
  have hno : ¬ 16 < (tb1Us s :: (look [] s.log.retransmits hop).filter fun t => decide (tb1Us s < t + 1000)).length := by
    rw [List.length_cons]
    omega
  simp only [fabricError, hbad, hup, Bool.and_self, if_true, hno, if_false]

theorem logBypass_parts (entered : Nat) (s : State) : logBypass entered s = { s with log := (logBypass entered s).log } :=
  logEv_parts ..

/-- Lock is lost with PD10 on and an external reference in use (R21, R480). -/
theorem lockLoss_external {hz : Nat} {s : State} (hlock : s.power.pllLocked = true) (hon : bitOf s.power.on 10 = true)
    (hext : s.power.refExternal = true) :
    lockLoss hz s = raiseFault 136 0xC17 3 0xFFFF [snapN ((tbVal s 1 - s.power.lockAt).toNat * 1000000 / 2 ^ 36)]
      (logEv 0x136 136 0xFFFF [snapN 2, snapN hz]
        (let t := logBypass 1 { s with power := { s.power with pllLocked := false, bypass := true } }
         { t with power := { t.power with refExternal := false } })) := by
  have hpower (t : State) : (logBypass 1 t).power = t.power := by rw [logBypass_parts]
  simp only [lockLoss, hlock, hon, if_true, hpower, hext]

theorem lockRegain_bypass {s : State} (hlock : s.power.pllLocked = false) (hby : s.power.bypass = true) :
    lockRegain s =
      let t := logBypass 0 { s with power := { s.power with pllLocked := true, lockAt := tbVal s 1, bypass := false } }
      if fabricUp t then followTb0 t else t := by
  simp only [lockRegain, hlock, hby, if_true, Bool.false_eq_true, if_false]

theorem raiseV_creditSeen (v : Nat) (s : State) : (raiseV v s).host.creditSeen = s.host.creditSeen := by
  simp only [raiseV, emit]
  repeat' split
  all_goals rfl

end Sys2Proof.Machine

section

open Sys2Proof Sys2Proof.Machine

/-- Settles O1: the commands pass their checks and take the branch of their run that is named; each event row meets its condition. -/
theorem powerAndFabricRowsTakeEffect : Obligations.PowerAndFabricRowsTakeEffect := by
  unfold Obligations.PowerAndFabricRowsTakeEffect
  refine ⟨?on, ?off, ?status, ?arb, ?fabric, ?ends, ?discard, ?promote, ?word, ?loss, ?regain, ?credit, ?coupling⟩
  case on =>
    rintro m d ⟨hlo, hhi⟩
    refine completes_of_runCmd (fun _ _ => rfl) ?_ ?_
    · rintro src r s ⟨rfl, rfl, hone, hbit, htrans, hdep, hact, hrem⟩
      exact pdSetCheck_on _ hlo hhi hone htrans hdep hact hrem
    · rintro src r s ⟨rfl, rfl, hone, hbit, htrans, hdep, hact, hrem⟩
      have hback : backInService s (arg r 0 1) (arg r 1 1) = false := by
        by_cases h : arg r 0 1 = 10
        · rw [h] at hbit
          simp [backInService, hbit]
        · simp [backInService, h]
      rw [pdSetRun_starts (by simp [hone, hbit]) hback, hone]
      simp [startTransition, persist]
  case off =>
    rintro m d ⟨hlo, hhi⟩
    refine completes_of_runCmd (fun _ _ => rfl) ?_ ?_
    · rintro src r s ⟨rfl, rfl, hzero, hbit, htrans, hdep, hact, hlegal⟩
      exact pdSetCheck_off _ hlo hhi hzero htrans hdep hact hlegal
    · rintro src r s ⟨rfl, rfl, hzero, hbit, htrans, hdep, hact, hlegal⟩
      rw [pdSetRun_starts (by simp [hzero, hbit]) (by simp [backInService, hzero]), hzero]
      simp [startTransition, persist]
  case status => exact completes_of_runCmd (check := noCheck) (fun _ _ => rfl) (fun _ _ _ _ => rfl) fun _ _ _ _ => rfl
  case arb =>
    exact completes_of_runCmd (fun _ _ => rfl) (fun src _ _ ⟨hup, hf, h0, h1, h2⟩ => dramArbSetCheck_passes src hup hf h0 h1 h2)
      fun _ _ _ _ => rfl
  case fabric =>
    intro src r s hready harg
    have hcheck : fabricStatusCheck src r s = none := by simp [fabricStatusCheck, harg]
    refine ⟨_, _, _, _, _, ?_, ?_, ?_, ?_, runCmd_passes hready hcheck⟩
    · exact Nat.lt_succ_iff.mp (Nat.mod_lt _ (Nat.succ_pos _))
    · exact Nat.lt_succ_iff.mp (Nat.mod_lt _ (Nat.succ_pos _))
    · rfl
    · rfl
  case ends =>
    rintro failed s m d on hup ⟨x, h⟩
    change Host.Outcome.next (if fabricUp s then awaitedOff (endTransition failed s) else s) = _
    rw [if_pos hup, endTransition_pdSet failed h]
  case discard => exact fun s d by_ h => congrArg Host.Outcome.next (offWorkDiscard_off h)
  case promote =>
    intro c s hc hup hfab
    exact congrArg Host.Outcome.next (if_pos ⟨hc, hup, hfab⟩)
  case word => exact fun hop w s hbad hup _ hfew => congrArg Host.Outcome.next (fabricError_counted hbad hup hfew)
  case loss => exact fun hz s hlock hon hext => congrArg Host.Outcome.next (lockLoss_external hlock hon hext)
  case regain =>
    intro s haux hlock hby
    change Host.Outcome.next (if s.power.aux ∧ !s.power.pllLocked then lockRegain s else s) = _
    rw [if_pos ⟨haux, by simp [hlock]⟩, lockRegain_bypass hlock hby]
  case credit =>
    intro s hup hlink hheld hseen
    change Host.Outcome.next (if fabricUp s ∧ s.host.linkUp ∧ !s.host.creditHeld then _ else s) = _
    rw [if_pos ⟨hup, hlink, by simp [hheld]⟩]
    simp only [raiseV_creditSeen, hseen, if_true]
  case coupling =>
    intro src r s hready hoff hg hm
    exact ⟨_, runCmd_passes hready (plCouplingSetCheck_passes src hoff hg hm), rfl⟩

end

/-! ### The accesses of the queues (R62, R63, R66–R68, R70–R72, R75) -/

namespace Sys2Proof.Machine

open Sys2Proof

@[simp] theorem bitOf_one_zero : bitOf 1 0 = true := rfl

@[simp] theorem bitOf_one_two : bitOf 1 2 = false := rfl

/-- A queue of a legal size and MODE starts afresh (R62). -/
theorem qCtrl_enable {q : Nat} {s : State} (hq : q < 128) (hen : (hqOf s q).en = false) (hcells : cellsLegal (hqOf s q).cfg = true)
    (hmode : hqMode (hqOf s q).cfg < 3) :
    qCtrl q 1 s = setHq q { hqOf s q with
      en := true, pkts := 0, written := 0, freed := 0, seqNext := 0, ring := [], counted := 0, popCell := 0 } s := by
  simp [qCtrl, hq, hen, hcells, hmode]

theorem qCtrl_enable_illegal {q : Nat} {s : State} (hq : q < 128) (hen : (hqOf s q).en = false)
    (hbad : cellsLegal (hqOf s q).cfg = false ∨ 3 ≤ hqMode (hqOf s q).cfg) :
    qCtrl q 1 s = setHq q { hqOf s q with error := true } s := by
  have hno : cellsLegal (hqOf s q).cfg = true → ¬ hqMode (hqOf s q).cfg < 3 := by
    intro hcells
    obtain h | h := hbad
    · simp [h] at hcells
    · exact Nat.not_lt.mpr h
  simp [qCtrl, hq, hen]
  intro hcells hmode
  exact absurd hmode (hno hcells)

theorem consume_taken {q n : Nat} {s : State} (hpos : 0 < n) (hle : n ≤ (hqOf s q).pkts) (hmode : hqMode (hqOf s q).cfg = 0)
    (hopen : flushOpen s q = false) :
    consume q n s = writeBack q (setHq q { hqOf s q with
      pkts := (hqOf s q).pkts - n, ring := (hqOf s q).ring.drop n
      freed := (hqOf s q).freed + BitVec.ofNat 32 (sumN ((hqOf s q).ring.take n)) } s) := by
  simp only [consume]
  rw [if_neg]
  simp [hmode, hopen]
  omega

theorem consume_error {q n : Nat} {s : State} (h : n = 0 ∨ (hqOf s q).pkts < n) :
    consume q n s = setHq q { hqOf s q with error := true } s :=
  if_pos (h.imp_right .inl)

theorem sqTail_taken {q v : Nat} {s : State} (fl : List Nat) (hring : v < ringSize (sqOf s q).cfg)
    (hroom : (v + ringSize (sqOf s q).cfg - (sqOf s q).tail) % ringSize (sqOf s q).cfg
      ≤ ((sqOf s q).head + ringSize (sqOf s q).cfg - (sqOf s q).tail - 1) % ringSize (sqOf s q).cfg) :
    sqTail q v fl s = setSq q { sqOf s q with tail := v, flushes := (sqOf s q).flushes ++ fl } s :=
  if_neg (not_or.mpr ⟨Nat.not_le.mpr hring, Nat.not_lt.mpr hroom⟩)

theorem cqHead_taken {q v : Nat} {s : State} (hring : v < ringSize (cqOf s q).cfg)
    (hspan : (v + ringSize (cqOf s q).cfg - (cqOf s q).head) % ringSize (cqOf s q).cfg
      ≤ ((cqOf s q).tail + ringSize (cqOf s q).cfg - (cqOf s q).head) % ringSize (cqOf s q).cfg) :
    cqHead q v s = endFlushes q (cqOf s q).head ((v + ringSize (cqOf s q).cfg - (cqOf s q).head) % ringSize (cqOf s q).cfg)
      (ringSize (cqOf s q).cfg) (hqKeys s) (setCq q { cqOf s q with head := v } s) :=
  if_neg (not_or.mpr ⟨Nat.not_le.mpr hring, Nat.not_lt.mpr hspan⟩)

/-- The next packet of a pond goes to the ring where its cells are free (R66, R67). -/
theorem packetToRing_pond {q : Nat} {p : Packet} {s : State} (hen : (hqOf s q).en = true) (hmode : hqMode (hqOf s q).cfg = 0)
    (hup : fabricUp s = true) (hpcie : pcieServes s = true) (hnext : nextPacket (hqOf s q) = .pond p)
    (hroom : packetCells p + ringInUse (hqOf s q) ≤ ringSize (hqOf s q).cfg) :
    packetToRing q s = ringWrite q p (takeNext q (.pond p) s) := by
  simp [packetToRing, hen, hmode, hup, hpcie, hnext, hroom]

theorem moderationTimeout_hq {q : Nat} {s : State} (hq : q < 128) (hcount : (hqOf s q).counted ≠ 0) :
    moderationTimeout q s = raiseV q (setHq q { hqOf s q with counted := 0 } s) := by
  simp only [moderationTimeout, hq, hcount, if_true, if_false]

theorem moderationTimeout_cq {q : Nat} {s : State} (hcount : (cqOf s q).counted ≠ 0) :
    moderationTimeout (192 + q) s = raiseV (128 + q) (setCq q { cqOf s q with counted := 0 } s) := by
  have hcq : ¬ 192 + q < 128 := by omega
  simp [moderationTimeout, hcq, hcount]

end Sys2Proof.Machine

section

open Sys2Proof Sys2Proof.Machine

/-- Settles O3: each access is of a queue of the module, whose row is the branch of the access's function that is named. -/
theorem queueAccessesTakeEffect : Obligations.QueueAccessesTakeEffect := by
  unfold Obligations.QueueAccessesTakeEffect
  refine ⟨?enable, ?illegal, ?consumed, ?consumedError, ?tail, ?tailError, ?headError, ?head, ?fetch, ?ring, ?pan, ?harvestVector,
    ?completionVector⟩
  case enable =>
    intro q s hq hup hen hcells hmode
    refine (within_next _ _ (Nat.lt_trans hq (by decide))).trans (congrArg Host.Outcome.next ?_)
    exact (if_pos hup).trans (qCtrl_enable hq hen hcells hmode)
  case illegal =>
    intro q s hq hup hen hbad
    refine (within_next _ _ (Nat.lt_trans hq (by decide))).trans (congrArg Host.Outcome.next ?_)
    exact (if_pos hup).trans (qCtrl_enable_illegal hq hen hbad)
  case consumed =>
    intro q n s hq hup hpos hle hmode hopen
    refine (within_next _ _ hq).trans (congrArg Host.Outcome.next ?_)
    exact (if_pos hup).trans (consume_taken hpos hle hmode hopen)
  case consumedError =>
    intro q n s hq hup h
    refine (within_next _ _ hq).trans (congrArg Host.Outcome.next ?_)
    exact (if_pos hup).trans (consume_error (h.imp_left (congrArg BitVec.toNat)))
  case tail =>
    intro q v fl s hq hup hring hroom
    refine (within_next _ _ hq).trans (congrArg Host.Outcome.next ?_)
    exact (if_pos hup).trans (sqTail_taken fl hring hroom)
  case tailError =>
    intro q v fl s hq hup hring
    refine (within_next _ _ hq).trans (congrArg Host.Outcome.next ?_)
    exact (if_pos hup).trans (if_pos (.inl hring))
  case headError =>
    intro q v s hq hup hring
    refine (within_next _ _ hq).trans (congrArg Host.Outcome.next ?_)
    exact (if_pos hup).trans (if_pos (.inl hring))
  case head =>
    intro q v s hq hup hring hspan
    refine (within_next _ _ hq).trans (congrArg Host.Outcome.next ?_)
    exact (if_pos hup).trans (cqHead_taken hring hspan)
  case fetch =>
    intro q cell buffer s hq hserved hpcie hen hclosing hne hroom hopen
    refine (within_next _ _ hq).trans (congrArg Host.Outcome.next (if_pos ?_))
    simp [hserved, hpcie, hen, hclosing, hne, hroom, hopen]
  case ring =>
    intro q p s hq hen hmode hup hpcie hnext hroom
    refine (within_next _ _ hq).trans (congrArg Host.Outcome.next ?_)
    exact (if_neg (by simp [hmode])).trans (packetToRing_pond hen hmode hup hpcie hnext hroom)
  case pan =>
    rintro q s t hq rfl hen hpkts hhanded
    refine (within_next _ _ hq).trans (congrArg Host.Outcome.next (if_pos ?_))
    simp [hen, hpkts, hhanded]
  case harvestVector =>
    intro q s hq hcount
    refine (within_next _ _ (Nat.lt_trans hq (by decide))).trans (congrArg Host.Outcome.next ?_)
    exact moderationTimeout_hq hq hcount
  case completionVector =>
    intro q s hq hcount
    refine (within_next _ _ (by omega)).trans (congrArg Host.Outcome.next ?_)
    exact moderationTimeout_cq hcount

end

/-! ### The commands of the queues and the plain registers (R12, R47, R62, R69, R71, R75) -/

namespace Sys2Proof.Machine

open Sys2Proof

/-- SCRATCH is a word of its own. -/
theorem windowWrite_scratch (path : Path) (v : Nat) (s : State) (hv : v < 2 ^ 32) :
    windowWrite path 0x24 4 v s = { s with host := { s.host with scratch := BitVec.ofNat 32 v } } := by
  have hmod : v % 4294967296 = v := Nat.mod_eq_of_lt hv
  simp [windowWrite, writeWord, writeReg32, isWide, hmod]

/-- Registers take writes of 32 and 64 bits only (R47). -/
theorem windowWrite_narrow (path : Path) {off w : Nat} (v : Nat) (s : State) (hw : w = 1 ∨ w = 2)
    (hoff : off < 0x10000 ∨ 0x20000 ≤ off) : windowWrite path off w v s = s := by
  have harea : ¬ (0x10000 ≤ off ∧ off < 0x20000) := by omega
  have hfour : w ≠ 4 ∧ w ≠ 8 := by omega
  simp only [windowWrite, harea, hfour.1, hfour.2, if_false, ite_self]

/-- The 64-bit register at offset 0 of a harvest queue is its ring base (R62). -/
theorem writeWide_ringBase {q : Nat} (v : Nat) (s : State) (hq : q < 128) :
    writeWide (0x100000 + 64 * q) v s = hqWhenOff q (fun h => { h with ringBase := BitVec.ofNat 64 v }) s := by
  have hlow : 0x100000 + 64 * q < 0x200000 := by omega
  have hidx : (0x100000 + 64 * q - 0x100000) / 64 = q := by omega
  have hmod : (0x100000 + 64 * q) % 64 = 0 := by omega
  simp only [writeWide, hlow, hidx, hmod, hq, if_true]

theorem isWide_ringBase {q : Nat} (hq : q < 128) : isWide (0x100000 + 64 * q) = true := by
  have hspan : 0x100000 + 64 * q < 0x104000 := by omega
  have hmod : (0x100000 + 64 * q) % 64 = 0 := by omega
  simp [isWide, hspan, hmod]

theorem windowWrite_ringBase (path : Path) {q : Nat} (v : Nat) (s : State) (hq : q < 128) :
    windowWrite path (0x100000 + 64 * q) 8 v s = holdLow (0x100000 + 64 * q) 0
      (hqWhenOff q (fun h => { h with ringBase := BitVec.ofNat 64 (v % 2 ^ 64) }) s) := by
  have halign : (0x100000 + 64 * q) % 8 = 0 := by omega
  have harea : ¬ 0x100000 + 64 * q < 0x20000 := by omega
  simp [windowWrite, halign, harea, isWide_ringBase hq, writeWide_ringBase _ _ hq]

theorem readWords_one (off : Nat) (s : State) : readWords 1 off s = (le32 (readWord off s).1, (readWord off s).2) :=
  congrArg (·, (readWord off s).2) (List.append_nil _)

/-- The word of FAULT_COUNT_F1 is read and cleared (R12). -/
theorem readWord_countF1 (s : State) :
    readWord 0x500030 s = (s.log.countF1 % 2 ^ 32, { s with log := { s.log with countF1 := 0 } }) := rfl

theorem readWord_rstCause (s : State) :
    readWord 0x600004 s = (s.power.rstCause, { s with power := { s.power with rstCause := 0 } }) := rfl

end Sys2Proof.Machine

section

open Sys2Proof Sys2Proof.Machine

/-- Settles O4: the commands by their checks and runs, the registers by what their offset names. -/
theorem queueCommandsAndRegistersComplete : Obligations.QueueCommandsAndRegistersComplete := by
  unfold Obligations.QueueCommandsAndRegistersComplete
  refine ⟨?info, ?flush, ?nop, ?test, ?scratch, ?narrow, ?base, ?count, ?cause⟩
  case info =>
    refine completes_of_runCmd (check := noCheck) (fun _ _ => rfl) (fun _ _ _ _ => rfl) fun src r s hq => ?_
    simp only [qInfoRun, hq, if_true]
  case flush =>
    intro sq idx r s hready hq
    refine runCmd_passes hready ?_
    simp [hqFlushCheck, hq]
  case nop => exact completes_of_runCmd (check := noCheck) (fun _ _ => rfl) (fun _ _ _ _ => rfl) fun _ _ _ _ => rfl
  case test =>
    refine completes_of_runCmd (fun _ _ => rfl) (fun src r s hv => ?_) fun _ _ _ _ => rfl
    simp [intTestCheck]
    omega
  case scratch =>
    intro v path s hup hv
    exact congrArg Host.Outcome.next ((if_pos hup).trans (windowWrite_scratch path v.toNat s hv))
  case narrow =>
    intro off w v path s hw hoff
    refine congrArg Host.Outcome.next ?_
    rw [windowWrite_narrow path v.toNat s hw hoff, ite_self]
  case base =>
    intro q v path s hq hup
    refine ⟨_, congrArg Host.Outcome.next (if_pos hup), ?_⟩
    rw [windowWrite_ringBase path _ s hq, Nat.mod_eq_of_lt v.isLt, BitVec.ofNat_toNat, BitVec.setWidth_eq]
    rfl
  case count =>
    intro s hup
    refine congrArg Host.Outcome.next ((if_pos ⟨hup, rfl, rfl⟩).trans ?_)
    simp only [windowRead, readWords_one, readWord_countF1, if_true]
    rfl
  case cause =>
    intro s hup
    refine congrArg Host.Outcome.next ((if_pos ⟨hup, rfl, rfl⟩).trans ?_)
    simp only [windowRead, readWords_one, readWord_rstCause, if_true]
    rfl

end

/-! ### The frames of the sideband port (R70, R78, R79) -/

namespace Sys2Proof.Machine

open Sys2Proof

theorem servePop_idle {s : State} (h : s.host.popStall = none) : servePop s = s := by
  simp only [servePop, h]

/-- A frame of its command byte, whole and taken while no POP is stalled, is served. -/
theorem smpFrame_serves {c : Nat} {f : Bytes} {s : State} (run : State → State) (hserves : smpServes s = true)
    (hidle : s.host.popStall = none) (hcmd : byteAt f 0 = c) (hlen : 6 ≤ f.length) : smpFrame c f run s = run s := by
  simp [smpFrame, servePop_idle hidle, hserves, hidle, hcmd, hlen]

/-- A stalled POP is answered once its queue has a cell. -/
theorem servePop_answers {q : Nat} {cell : Bytes} {s t : State} (hserves : smpServes s = true) (hstall : s.host.popStall = some q)
    (hcell : popCell q s = some (cell, t)) :
    servePop s = smpAnswer (popHeader q) cell (setSmp 3 0 { t with host := { t.host with popStall := none } }) := by
  simp only [servePop, hstall, hserves, hcell, if_true]

theorem popCell_empty {q : Nat} {s : State} (h : nextPacket (hqOf s q) = .none) : popCell q s = none := by
  simp only [popCell, h, ite_self]

/-- On an empty queue the POP goes on waiting. -/
theorem servePop_waits {q : Nat} {s : State} (hstall : s.host.popStall = some q) (h : nextPacket (hqOf s q) = .none) :
    servePop s = s := by
  simp only [servePop, hstall, popCell_empty h, ite_self]

end Sys2Proof.Machine

section

open Sys2Proof Sys2Proof.Machine

/-- Settles O5: each frame is served on a port that waits for none, by the branch of its command that is named. -/
theorem sidebandFramesAreServed : Obligations.SidebandFramesAreServed := by
  unfold Obligations.SidebandFramesAreServed
  refine ⟨?write, ?badWrite, ?read, ?status, ?pop, ?stall, ?refuse, ?cancel⟩
  case write =>
    intro f s hserves hidle hcmd hlen hgood
    exact congrArg Host.Outcome.next ((smpFrame_serves _ hserves hidle hcmd hlen).trans (if_pos hgood))
  case badWrite =>
    intro f s hserves hidle hcmd hlen hbad
    exact congrArg Host.Outcome.next ((smpFrame_serves _ hserves hidle hcmd hlen).trans (if_neg (by simp [hbad])))
  case read =>
    intro f s hserves hidle hcmd hlen hwords halign
    refine congrArg Host.Outcome.next ((smpFrame_serves _ hserves hidle hcmd hlen).trans ((if_pos hwords).trans ?_))
    rw [if_pos halign]
    rfl
  case status =>
    intro f s hserves hidle hcmd hlen
    exact ⟨_, rfl, congrArg Host.Outcome.next (smpFrame_serves _ hserves hidle hcmd hlen)⟩
  case pop =>
    intro f q cell t s hserves hidle hcmd hlen hq hcell
    refine congrArg Host.Outcome.next ((smpFrame_serves _ hserves hidle hcmd hlen).trans ?_)
    simp only [hq]
    exact servePop_answers hserves rfl hcell
  case stall =>
    intro f q s hserves hidle hcmd hlen hq hempty
    refine congrArg Host.Outcome.next ((smpFrame_serves _ hserves hidle hcmd hlen).trans ?_)
    simp only [hq]
    exact servePop_waits rfl hempty
  case refuse =>
    intro f s hserves hidle hcmd hlen hq
    refine congrArg Host.Outcome.next ((smpFrame_serves _ hserves hidle hcmd hlen).trans ?_)
    simp only [hq]
    rfl
  case cancel =>
    intro q s hstall hempty
    change Host.Outcome.next (if (servePop s).host.popStall.isSome then _ else _) = _
    rw [servePop_waits hstall hempty, if_pos (by simp [hstall])]

end

/-! ### The time-base commands (R86, R91–R98, R110, R116, R122) -/

namespace Sys2Proof.Machine

open Sys2Proof

theorem tbSetCheck_passes {r : Req} {s : State} (src : Src) (hset : settable (arg r 0 1) = true)
    (hup : active s (tbDomain (arg r 0 1)) = true) (hf : isFenced s (tbUnit (arg r 0 1)) = false)
    (hsource : sourceDenies s (arg r 0 1) = false) (hwhen : arg r 10 1 ≤ 1) (hpps : ppsWaits s (arg r 0 1) = false) :
    tbSetCheck src r s = none := by
  simp [tbSetCheck, tbOff, hset, hup, hf, hsource, hwhen, hpps]

theorem tbStepCheck_passes {r : Req} {s : State} (src : Src) (hset : settable (arg r 0 1) = true)
    (hup : active s (tbDomain (arg r 0 1)) = true) (hf : isFenced s (tbUnit (arg r 0 1)) = false)
    (hsource : sourceDenies s (arg r 0 1) = false)
    (hpps : (tb s (arg r 0 1)).valid = true → ppsWaits s (arg r 0 1) = false) : tbStepCheck src r s = none := by
  have hbusy : ((tb s (arg r 0 1)).valid && ppsWaits s (arg r 0 1)) = false := by
    cases hvalid : (tb s (arg r 0 1)).valid
    · rfl
    · exact hpps hvalid
  simp [tbStepCheck, tbOff, hset, hup, hf, hsource, hbusy]

theorem stepsTaken_false {s : State} {n : Nat} (h : (tb s n).lost = true ∨ (tb s n).valid = false) : stepsTaken s n = false := by
  obtain h | h := h <;> simp [stepsTaken, h]

theorem logTb_clock (code n : Nat) (ts : List Time) (s : State) : (logTb code n ts s).clock = s.clock := by
  rw [logTb, logEv_parts]

end Sys2Proof.Machine

section

open Sys2Proof Sys2Proof.Machine

/-- Settles O6: the commands pass their checks, and their runs take the branch that the state of the base names. -/
theorem timeBaseCommandsComplete : Obligations.TimeBaseCommandsComplete := by
  unfold Obligations.TimeBaseCommandsComplete
  refine ⟨?info, ?initial, ?setStep, ?setPps, ?step, ?stepLost, ?limit, ?source, ?utcNow, ?utcLater, ?lost, ?trim⟩
  case info =>
    refine completes_of_runCmd (fun _ _ => rfl) (fun src r s ⟨hn, hup⟩ => ?_) fun _ _ _ _ => rfl
    simp [tbInfoCheck, tbOff, hn, hup]
  case initial =>
    intro m
    refine completes_of_runCmd (fun _ _ => rfl) ?_ ?_
    · rintro src r s ⟨-, hset, hup, hf, hsource, hwhen, hpps, -⟩
      exact tbSetCheck_passes src hset hup hf hsource (by omega) hpps
    · rintro src r s ⟨rfl, -, -, -, -, hwhen, -, hvalid⟩
      simp [tbSetRun, hwhen, hvalid]
  case setStep =>
    intro m
    refine completes_of_runCmd (fun _ _ => rfl) ?_ ?_
    · rintro src r s ⟨-, hset, hup, hf, hsource, hwhen, hpps, -⟩
      exact tbSetCheck_passes src hset hup hf hsource (by omega) hpps
    · rintro src r s ⟨rfl, -, -, -, -, hwhen, -, hvalid⟩
      simp [tbSetRun, hwhen, hvalid]
  case setPps =>
    intro m
    refine completes_of_runCmd (fun _ _ => rfl) ?_ ?_
    · rintro src r s ⟨-, hset, hup, hf, hsource, hwhen, hpps⟩
      exact tbSetCheck_passes src hset hup hf hsource (Nat.le_of_eq hwhen) hpps
    · rintro src r s ⟨rfl, -, -, -, -, hwhen, -⟩
      simp [tbSetRun, hwhen]
  case step =>
    intro m
    refine completes_of_runCmd (fun _ _ => rfl) ?_ ?_
    · rintro src r s ⟨-, hset, hup, hf, hsource, hpps, -, -⟩
      exact tbStepCheck_passes src hset hup hf hsource fun _ => hpps
    · rintro src r s ⟨rfl, -, -, -, -, -, hvalid, hlost⟩
      simp [tbStepRun, stepsTaken, hvalid, hlost]
  case stepLost =>
    intro m
    refine completes_of_runCmd (fun _ _ => rfl) ?_ ?_
    · rintro src r s ⟨-, hset, hup, hf, hsource, -, hpps⟩
      exact tbStepCheck_passes src hset hup hf hsource hpps
    · rintro src r s ⟨rfl, -, -, -, -, hlost, -⟩
      simp [tbStepRun, stepsTaken_false hlost, fail]
  case limit =>
    refine completes_of_runCmd (fun _ _ => rfl) (fun src r s ⟨hset, hup, hf, hsign⟩ => ?_) fun _ _ _ _ => rfl
    simpa [tbLimitSetCheck, tbOff, hset, hup, hf] using hsign
  case source =>
    refine completes_of_runCmd (fun _ _ => rfl) ?_ ?_
    · rintro src r s ⟨hbase, hfree, hup, hf, hpps⟩
      have hsource : sourceAllowed 8 4 = true := rfl
      simp [tbSourceSetCheck, tbOff, tbDomain, tbUnit, hbase, hfree, hup, hf, hpps, hsource]
    · rintro src r s ⟨hbase, hfree, -, -, -⟩
      simp [tbSourceSetRun, slotsFollow, hbase, hfree]
  case utcNow =>
    refine completes_of_runCmd (check := noCheck) (fun _ _ => rfl) (fun _ _ _ _ => rfl) fun src r s hnow => ?_
    simp [tbUtcOffsetSetRun, hnow, applyUtc, logTb_clock, b2n]
  case utcLater =>
    refine completes_of_runCmd (check := noCheck) (fun _ _ => rfl) (fun _ _ _ _ => rfl) fun src r s hlater => ?_
    simp [tbUtcOffsetSetRun, hlater, b2n]
  case lost =>
    refine completes_of_runCmd (fun _ _ => rfl) (fun src r s ⟨hset, hup, hf⟩ => ?_) fun _ _ _ _ => rfl
    simp [tbDeclareLostCheck, tbOff, hset, hup, hf]
  case trim =>
    refine completes_of_runCmd (fun _ _ => rfl) (fun src r s ⟨htrim, hquad⟩ => ?_) fun _ _ _ _ => rfl
    have hno : ¬ (50000 < (argS r 0 4).natAbs ∨ 1000 < (argS r 4 2).natAbs) := by omega
    simp [tb2TrimSetCheck, hno]

end

/-! ### The time-base accesses and events (R85, R91, R92, R97, R108, R110, R112, R113, R116, R117) -/

namespace Sys2Proof.Machine

open Sys2Proof

/-- An increment within the limits of the host is taken as it is (R85). -/
theorem writeInc_taken {n v : Nat} {s : State} (hw : tbWritable s n = true) (hown : hostOwns s n = true)
    (hin : clampInc (v % 2 ^ 54) = v % 2 ^ 54) : writeInc n v s = setTb n { tb s n with inc := v % 2 ^ 54 } s := by
  simp only [writeInc, hw, hown, hin, Bool.not_true, Bool.false_eq_true, if_true, if_false]

theorem writeInc_clamped {n v : Nat} {s : State} (hw : tbWritable s n = true) (hown : hostOwns s n = true)
    (hout : clampInc (v % 2 ^ 54) ≠ v % 2 ^ 54) :
    writeInc n v s = logTb 0x202 n [] (setTb n { tb s n with inc := clampInc (v % 2 ^ 54), incClamped := true } s) := by
  simp only [writeInc, hw, hown, hout, Bool.not_true, Bool.false_eq_true, if_false]

theorem writeStepHi_owned {n v : Nat} {s : State} (hw : tbWritable s n = true) (hown : hostOwns s n = true) :
    writeStepHi n v s =
      if (tb s n).valid = true ∧ (tb s n).lost = false
      then addPend n (signed 72 ((tb s n).stepLo.toNat + 2 ^ 64 * (v % 256))) none s
      else refuseStep n (signed 72 ((tb s n).stepLo.toNat + 2 ^ 64 * (v % 256))) s := by
  simp [writeStepHi, stepsTaken, hw, hown]

/-- A step of a base that is VALID and not lost is applied within STEP_LIMIT and refused beyond it (R92, R93). -/
theorem hostStep_valid {n : Nat} (d : Int) {s : State} (hvalid : (tb s n).valid = true) (hlost : (tb s n).lost = false) :
    hostStep n d s =
      (if withinLimit (tb s n) d then .ok else .timeRefused, if withinLimit (tb s n) d then applyStep n d s else refuseStep n d s) := by
  cases hin : withinLimit (tb s n) d <;> simp [hostStep, hvalid, hlost, hin]

theorem settleStep_pending {n : Nat} {p : PendStep} {s t : State} (hpend : (tb s n).pend = some p)
    (ht : t = setTb n { tb s n with pend := none } s) (hvalid : (tb t n).valid = true) (hlost : (tb t n).lost = false) :
    settleStep n s = p.mbs.foldl (fun t' m => endStep n (if withinLimit (tb t n) p.sum then .ok else .timeRefused) m t')
      (if withinLimit (tb t n) p.sum then applyStep n p.sum t else refuseStep n p.sum t) := by
  simp only [settleStep, hpend, ← ht, hostStep_valid p.sum hvalid hlost]

theorem mainsMissing_holds {n : Nat} {s : State} (hsource : (tb s n).source = 3)
    (hrun : (tb s n).holdover = false ∨ (tb s n).crossings ≠ 0) (hup : active s (tbDomain n) = true) :
    mainsMissing n s =
      logTb 0x207 n [] (slotsFollow n (setTb n { tb s n with holdover := true, locked := false, inc := (tb s n).incF, crossings := 0 } s)) :=
  if_pos ⟨hsource, by simpa using hrun, hup⟩

/-- A port with a role takes messages while PD7 and its unit are in service. -/
theorem ptpMessage_taken {m : PtpMessage} {s : State} (hup : fabricUp s = true) (hon : active s 7 = true)
    (hf : isFenced s (93 + m.port) = false) (hrole : (ptpOf s m.port).role ≠ 0) :
    ¬ (!fabricUp s ∨ !active s 7 ∨ isFenced s (93 + m.port) ∨ (ptpOf s m.port).role = 0) := by
  simp [hup, hon, hf, hrole]

theorem ptpGives_role {s : State} {p : Nat} (h : ptpGives s p = true) : (ptpOf s p).role ≠ 0 := by
  intro hrole
  simp [ptpGives, hrole] at h

end Sys2Proof.Machine

section

open Sys2Proof Sys2Proof.Machine

/-- Settles O7: each row meets its condition and is then the function of the base, the servo or the port that is named. -/
theorem timeBaseEventsTakeEffect : Obligations.TimeBaseEventsTakeEffect := by
  unfold Obligations.TimeBaseEventsTakeEffect
  refine ⟨?now, ?clamped, ?taken, ?stepHi, ?settle, ?utc, ?temperature, ?battery, ?pps, ?timeout, ?crossing, ?missing, ?delay, ?sync,
    ?syncLost⟩
  case now => exact fun n s hn hup => (within_next _ _ hn).trans (congrArg Host.Outcome.next (if_pos hup))
  case clamped =>
    exact fun n v s hn hw hown hout => (within_next _ _ hn).trans (congrArg Host.Outcome.next (writeInc_clamped hw hown hout))
  case taken =>
    exact fun n v s hn hw hown hin => (within_next _ _ hn).trans (congrArg Host.Outcome.next (writeInc_taken hw hown hin))
  case stepHi =>
    exact fun n v s hn hw hown => (within_next _ _ hn).trans (congrArg Host.Outcome.next (writeStepHi_owned hw hown))
  case settle => exact fun n p s t hpend ht hvalid hlost => settleStep_pending hpend ht hvalid hlost
  case utc =>
    intro o at_ s hpend hreached
    refine congrArg Host.Outcome.next ?_
    simp only [utcEffective, hpend, hreached, if_true]
    rfl
  case temperature => exact fun _ _ => rfl
  case battery => exact fun s hmain hfail => congrArg Host.Outcome.next (if_neg (by simp [hmain, hfail]))
  case pps =>
    intro off s hup henable
    refine congrArg Host.Outcome.next ((if_pos hup).trans ?_)
    simp only [henable, if_true]
  case timeout =>
    rintro m p s hm hp rfl
    have hany : (s.clock.pps.any fun q => q.mb == p.mb) = true := List.any_eq_true.mpr ⟨p, hp, beq_self_eq_true _⟩
    exact (within_next _ _ hm).trans (congrArg Host.Outcome.next (if_pos hany))
  case crossing =>
    rintro mp ch before after at_ c s hmp hon hruns hbefore hafter rfl
    exact (within_next _ _ hmp).trans (congrArg Host.Outcome.next (if_pos ⟨hon, hruns, hbefore, hafter⟩))
  case missing =>
    exact fun n s hn hsource hrun hup => (within_next _ _ hn).trans (congrArg Host.Outcome.next (mainsMissing_holds hsource hrun hup))
  case delay =>
    intro m s hport hup hon hf hgives hprofile hkind
    refine (within_next _ _ hport).trans (congrArg Host.Outcome.next ?_)
    refine (if_neg (ptpMessage_taken hup hon hf (ptpGives_role hgives))).trans ?_
    simp only [hkind, hgives, hprofile]
    rfl
  case sync =>
    intro m s hport hup hon hf hrole hkind hsource hvalid hhigh
    refine (within_next _ _ hport).trans (congrArg Host.Outcome.next ?_)
    refine (if_neg (ptpMessage_taken hup hon hf (by simp [hrole]))).trans ((if_pos hkind).trans ?_)
    exact if_pos ⟨hrole, hsource, hvalid, hhigh⟩
  case syncLost => exact fun s hsource hhold => congrArg Host.Outcome.next (if_pos ⟨hsource, by simp [hhold]⟩)

end

/-! ### Milestones, PTP and the Aetheno chain (R100, R102–R104, R118, R119, R121, R122) -/

namespace Sys2Proof.Machine

open Sys2Proof

theorem msTriggerSetCheck_pps {r : Req} {s : State} (src : Src) (hf : isFenced s 4 = false) (hen : arg r 0 1 = 2) :
    msTriggerSetCheck src r s = none := by
  have hzero : bitOf 2 0 = false := rfl
  have hthree : bitOf 2 3 = false := rfl
  simp [msTriggerSetCheck, hen, hzero, hthree, hf]

theorem msTriggerSetCheck_crossing {r : Req} {s : State} (src : Src) (hf : isFenced s 4 = false) (hon : active s 10 = true)
    (hen : arg r 0 1 = 1) (hmp : arg r 1 1 < 32) (hch : arg r 2 1 < 4) (hevery : arg r 3 2 ≠ 0) :
    msTriggerSetCheck src r s = none := by
  simp [msTriggerSetCheck, hen, hon, hmp, hch, hevery, hf]

theorem msScheduleCheck_passes {r : Req} {s : State} {k : Nat} (src : Src) (hf : isFenced s 4 = false)
    (hvalid : (tb s 0).valid = true) (hfree : freeSlot s = some k)
    (hchain : arg r 11 1 = 0 ∨ arg r 11 1 = 1 ∧ oneMs ≤ timeDiff (argT r 0) (tbVal s 0)) : msScheduleCheck src r s = none := by
  obtain hchain | ⟨hchain, hms⟩ := hchain
  · simp [msScheduleCheck, hf, hvalid, hfree, hchain]
  · simp [msScheduleCheck, hf, hvalid, hfree, hchain, hms]

/-- A scheduled milestone takes the free slot; the master of the chain announces it where it asks for the chain (R103, R121). -/
theorem msScheduleRun_free {r : Req} {s : State} {k : Nat} (src : Src) (hfree : freeSlot s = some k) :
    msScheduleRun src r s = ({ payload := le8 k },
      if arg r 11 1 = 1 then emit (.frame 64 (triggerFrame (argT r 0) (arg r 9 2) false))
        (setSlot k (some { target := argT r 0, id := arg r 9 2 }) s)
      else setSlot k (some { target := argT r 0, id := arg r 9 2 }) s) := by
  simp only [msScheduleRun, hfree]

/-- A first frame from beyond the chain acquires TB11 without counting as good (R119). -/
theorem timeReceive_first {f : AethTime} {s : State} (hup : aethenoUp s = true) (hcrc : f.crcOk = true)
    (hfirst : s.clock.syncIn = false) (hhop : 32 ≤ f.hop) :
    timeReceive f s = followTb11
      (let t := acquireTb11 f.value { s with clock := { s.clock with
         syncIn := true, position := f.hop % 64, masterValid := f.masterValid } }
       { t with clock := { t.clock with goodFrames := 0 } }) := by
  have hfar : ¬ (f.offsetPs.natAbs < 10000 ∧ f.hop < 32) := by omega
  have hlocks : ((0 : Nat) == 16) = false := rfl
  simp only [timeReceive, hup, hcrc, hfirst, hfar, hlocks, Bool.not_true, Bool.not_false, Bool.false_and, Bool.false_eq_true,
    if_true, if_false]

theorem timeReceive_badCrc {f : AethTime} {s : State} (hup : aethenoUp s = true) (hcrc : f.crcOk = false) :
    timeReceive f s = { s with clock := { s.clock with goodFrames := 0 } } := by
  simp only [timeReceive, hup, hcrc, Bool.not_true, Bool.not_false, Bool.false_eq_true, if_true, if_false]

theorem delayReceive_response {f : AethDelay} {s : State} (hup : aethenoUp s = true) (hresp : f.response = true)
    (hsync : f.syncIn = true) (hsent : s.clock.delaySent.isSome = true) :
    delayReceive f s = { s with clock := { s.clock with
      roundTrip := unsigned 32 (((f.t4 : Int) - f.t1) - ((f.t3 : Int) - f.t2)), delaySent := none } } := by
  simp [delayReceive, hup, hresp, hsync, hsent]

end Sys2Proof.Machine

section

open Sys2Proof Sys2Proof.Machine

/-- Settles O8: the commands pass their checks; the frames are taken by a chain that is up. -/
theorem milestoneAndChainRowsComplete : Obligations.MilestoneAndChainRowsComplete := by
  unfold Obligations.MilestoneAndChainRowsComplete
  refine ⟨?ppsTrigger, ?crossingTrigger, ?capture, ?schedule, ?scheduleChain, ?port, ?chain, ?pop, ?send, ?badCrc, ?first, ?missed,
    ?exchange, ?response⟩
  case ppsTrigger =>
    refine completes_of_runCmd (fun _ _ => rfl) (fun src r s ⟨hf, hen⟩ => msTriggerSetCheck_pps src hf hen) ?_
    rintro src r s ⟨-, hen⟩
    have hzero : bitOf 2 0 = false := rfl
    simp [msTriggerSetRun, hen, hzero]
  case crossingTrigger =>
    refine completes_of_runCmd (fun _ _ => rfl)
      (fun src r s ⟨hf, hon, hen, hmp, hch, hevery⟩ => msTriggerSetCheck_crossing src hf hon hen hmp hch hevery) ?_
    rintro src r s ⟨-, -, hen, -⟩
    simp [msTriggerSetRun, hen]
  case capture => exact completes_of_runCmd (check := noCheck) (fun _ _ => rfl) (fun _ _ _ _ => rfl) fun _ _ _ _ => rfl
  case schedule =>
    intro k
    refine completes_of_runCmd (fun _ _ => rfl)
      (fun src r s ⟨hchain, hf, hvalid, hfree⟩ => msScheduleCheck_passes src hf hvalid hfree (.inl hchain)) ?_
    rintro src r s ⟨hchain, -, -, hfree⟩
    simp [msScheduleRun_free src hfree, hchain]
  case scheduleChain =>
    intro k
    refine completes_of_runCmd (fun _ _ => rfl)
      (fun src r s ⟨hchain, _, hf, hvalid, hfree, hms⟩ => msScheduleCheck_passes src hf hvalid hfree (.inr ⟨hchain, hms⟩)) ?_
    rintro src r s ⟨hchain, -, -, -, hfree, -⟩
    simp [msScheduleRun_free src hfree, hchain]
  case port =>
    refine completes_of_runCmd (fun _ _ => rfl) ?_ ?_
    · rintro src r s ⟨hon, hp, hf, hrole, hprofile, hsteps⟩
      simp [ptpPortCfgCheck, hon, hp, hf, hrole, hprofile]
      omega
    · rintro src r s ⟨-, -, -, hrole, -⟩
      simp only [ptpPortCfgRun, hrole]
  case chain =>
    refine completes_of_runCmd (fun _ _ => rfl) (fun src r s ⟨hon, hf, hone⟩ => ?_) fun src r s ⟨_, _, hone⟩ => ?_
    · simp [aethenoCfgCheck, hon, hf, hone]
    · simp only [aethenoCfgRun, hone, beq_self_eq_true, if_true]
      rfl
  case pop => exact fun v s hbit hup => congrArg Host.Outcome.next (if_pos ⟨hbit, hup⟩)
  case send => exact fun s hup => congrArg Host.Outcome.next (if_pos hup)
  case badCrc => exact fun f s hup hcrc => congrArg Host.Outcome.next (timeReceive_badCrc hup hcrc)
  case first => exact fun f s hup hcrc hfirst hhop => congrArg Host.Outcome.next (timeReceive_first hup hcrc hfirst hhop)
  case missed =>
    exact fun s hup hsync hhold =>
      congrArg (fun t => Host.Outcome.next (followTb11 t)) (if_pos ⟨hup, hsync, by simp [hhold]⟩)
  case exchange => exact fun s hup => congrArg Host.Outcome.next (if_pos hup)
  case response =>
    exact fun f s hup hresp hsync hsent => congrArg Host.Outcome.next (delayReceive_response hup hresp hsync hsent)

end

/-! ### The configuration and the reading commands of metrology (spec/04_metrology.md) -/

namespace Sys2Proof.Machine

open Sys2Proof

theorem metChanCfgCheck_passes {r : Req} {s : State} (src : Src) (hon : active s 10 = true) (hf : isFenced s 125 = false)
    (ha : arg r 0 1 < 96) (hk : arg r 1 1 ≤ 3) (hg : arg r 2 1 ≤ 5) (hvolt : arg r 1 1 = 1 → arg r 2 1 = 0)
    (hbound : arg r 1 1 ≠ kindNext s (arg r 0 1) → chanBound s (arg r 0 1) = false) : metChanCfgCheck src r s = none := by
  simp [metChanCfgCheck, metOff, hon, hf]
  exact ⟨⟨⟨ha, hk, hg⟩, hvolt⟩, hbound⟩

theorem bindBad_false {s : State} {m : Nat} {b : Binding} (hm : m < 32) (hw : b.wiring ≤ 4) (hhz : b.hz = 50 ∨ b.hz = 60)
    (hslots : ∀ k < 9, slotBad s m b k = false) : bindBad s m b = false := by
  simp [bindBad, hm, hw]
  exact ⟨Or.resolve_left hhz, hslots⟩

theorem calBad_false {r : Req} (ha : arg r 0 1 < 96) (htrim : (argS r 1 4).natAbs ≤ 107374182) (hoff : (argS r 5 4).natAbs ≤ 65536)
    (hph : (argS r 9 4).natAbs ≤ 131072) : calBad r = false := by
  simp [calBad, ha, htrim, hoff, hph]

theorem metRegCfgCheck_passes {r : Req} {s : State} (src : Src) (hon : active s 10 = true) (hf : isFenced s 125 = false)
    (hm : arg r 0 1 < 32) (hi : arg r 1 1 < 16) (hqty : arg r 2 1 ≤ 12) (hmode : arg r 3 1 ≤ 3) (hmask : arg r 4 1 < 16)
    (hreset : arg r 5 1 ≤ 1) (habs : arg r 3 1 = 0 → absoluteNeeded s (arg r 0 1) (arg r 1 1) = false) :
    metRegCfgCheck src r s = none := by
  simp [metRegCfgCheck, metOff, hon, hf, hm, hi, hqty, hmode, hmask, hreset]
  exact habs

theorem tpoBad_false {r : Req} {s : State} (hk : arg r 0 1 < 8) (hm : arg r 1 1 < 32) (hi : arg r 2 1 < 16) (hweight : arg r 3 6 ≠ 0)
    (hwidth : arg r 9 2 ≠ 0) (hmax : arg r 9 2 ≤ 1600) (hpol : arg r 11 1 ≤ 1) (hen : arg r 12 1 ≤ 1)
    (hmode : modeNext s (arg r 1 1) (arg r 2 1) ≠ 0) : tpoBad s r = false := by
  simp [tpoBad, hk, hm, hi, hweight, hwidth, hmax, hpol, hen, hmode]

theorem captureBad_false {r : Req} {s : State} (hne : captureAins r ≠ []) (hains : ∀ a ∈ captureAins r, a < 96)
    (hsamples : 1 ≤ arg r 8 2 ∧ arg r 8 2 ≤ 2048) (hnow : arg r 10 1 = 0) : captureBad s r = false := by
  have hzero : arg r 8 2 ≠ 0 := Nat.one_le_iff_ne_zero.mp hsamples.1
  simpa [captureBad, hne, hsamples.2, hzero, hnow] using hains

end Sys2Proof.Machine

section

open Sys2Proof Sys2Proof.Machine

/-- Settles O9: PD10 is up and the unit not fenced, the operands are legal, and the run is the setting named. -/
theorem metrologyConfigurationCompletes : Obligations.MetrologyConfigurationCompletes := by
  unfold Obligations.MetrologyConfigurationCompletes
  refine ⟨?chan, ?bind, ?cal, ?reg, ?output, ?interval, ?pulse, ?threshold⟩
  case chan =>
    exact completes_of_runCmd (fun _ _ => rfl)
      (fun src r s ⟨hon, hf, ha, hk, hg, hvolt, hbound⟩ => metChanCfgCheck_passes src hon hf ha hk hg hvolt hbound) fun _ _ _ _ => rfl
  case bind =>
    refine completes_of_runCmd (fun _ _ => rfl) (fun src r s ⟨hon, hf, hm, hw, hhz, hslots⟩ => ?_) fun _ _ _ _ => rfl
    have hbad : bindBad s (arg r 0 1) (bindingOf r) = false := bindBad_false hm hw hhz hslots
    simp [metBindCheck, metOff, hon, hf, hbad]
  case cal =>
    refine completes_of_runCmd (fun _ _ => rfl) (fun src r s ⟨hon, hf, ha, htrim, hoff, hph⟩ => ?_) fun _ _ _ _ => rfl
    simp [metCalSetCheck, metOff, hon, hf, calBad_false ha htrim hoff hph]
  case reg =>
    exact completes_of_runCmd (fun _ _ => rfl) (fun src r s ⟨hon, hf, hm, hi, hqty, hmode, hmask, hreset, habs⟩ =>
      metRegCfgCheck_passes src hon hf hm hi hqty hmode hmask hreset habs) fun _ _ _ _ => rfl
  case output =>
    refine completes_of_runCmd (fun _ _ => rfl) (fun src r s ⟨hon, hf, hq, hrate⟩ => ?_) fun src r s ⟨_, _, _, hrate⟩ => ?_
    · simp [metOutputCfgCheck, metOff, outputBad, hon, hf, hq, hrate]
    · simp only [metOutputCfgRun, hrate]
  case interval =>
    refine completes_of_runCmd (fun _ _ => rfl) (fun src r s ⟨hon, hf, hlen, hgroup⟩ => ?_) fun _ _ _ _ => rfl
    simp only [metIntervalSetCheck, metOff, hon, hf, hlen, hgroup, Bool.not_true, firstFail_false, firstFail_nil]
  case pulse =>
    refine completes_of_runCmd (fun _ _ => rfl)
      (fun src r s ⟨hon, hf, hk, hm, hi, hweight, hwidth, hmax, hpol, hen, hmode⟩ => ?_) fun _ _ _ _ => rfl
    simp [metTpoCfgCheck, metOff, hon, hf, tpoBad_false hk hm hi hweight hwidth hmax hpol hen hmode]
  case threshold =>
    refine completes_of_runCmd (fun _ _ => rfl) (fun src r s ⟨hon, hf, hm, hmin, hmax, hrev⟩ => ?_) fun _ _ _ _ => rfl
    simp [metThreshSetCheck, metOff, hon, hf, hm, hmin, hmax, hrev]

/-- Settles O10: a reading command passes with PD10 up and its operand in range, and its run is the reply named. -/
theorem metrologyReadingCompletes : Obligations.MetrologyReadingCompletes := by
  unfold Obligations.MetrologyReadingCompletes
  have hinfo (src : Src) (r : Req) (s : State) (h : active s 10 = true ∧ arg r 0 1 < 32) : metInfoCheck src r s = none := by
    simp [metInfoCheck, metOff, h.1, h.2]
  refine ⟨?info, ?cal, ?read, ?instant, ?harmonics, ?capture, ?captureRead, ?holdup, ?outage, ?rotation⟩
  case info => exact completes_of_runCmd (fun _ _ => rfl) hinfo fun _ _ _ _ => rfl
  case cal =>
    refine completes_of_runCmd (fun _ _ => rfl) (fun src r s ⟨hon, ha, hg⟩ => ?_) fun _ _ _ _ => rfl
    simp [metCalGetCheck, metOff, hon, ha, hg]
  case read => exact completes_of_runCmd (fun _ _ => rfl) hinfo fun _ _ _ _ => rfl
  case instant => exact completes_of_runCmd (fun _ _ => rfl) hinfo fun _ _ _ _ => rfl
  case harmonics =>
    refine completes_of_runCmd (fun _ _ => rfl) (fun src r s ⟨hon, ha⟩ => ?_) fun _ _ _ _ => rfl
    simp [metHarmonicsCheck, metOff, hon, ha]
  case capture =>
    intro m
    refine completes_of_runCmd (fun _ _ => rfl) ?_ ?_
    · rintro src r s ⟨-, hon, hf, hne, hains, hsamples, hnow, hidle⟩
      simp [metCaptureCheck, metOff, hon, hf, captureBad_false hne hains hsamples hnow, hidle]
    · rintro src r s ⟨rfl, -, -, -, -, -, hnow, -⟩
      simp [metCaptureRun, hnow]
  case captureRead =>
    refine completes_of_runCmd (fun _ _ => rfl) (fun src r s ⟨hon, hoff, hidle⟩ => ?_) fun _ _ _ _ => rfl
    simp only [metCaptureReadCheck, firstFail_cons_none, firstFail_nil, metOff, hon, hidle, Nat.not_lt.mpr hoff, decide_false,
      Bool.not_true, Option.isSome_none, and_self]
  case holdup =>
    intro m
    refine completes_of_runCmd (fun _ _ => rfl) (fun src r s ⟨_, hidle⟩ => ?_) ?_
    · simp [holdupTestCheck, hidle]
    · rintro src r s ⟨rfl, -⟩
      rfl
  case outage =>
    refine completes_of_runCmd (fun _ _ => rfl) (fun src r s ⟨hon, hn⟩ => ?_) fun _ _ _ _ => rfl
    simp [metOutageReadCheck, metOff, hon, hn]
  case rotation =>
    refine completes_of_runCmd (fun _ _ => rfl) (fun src r s hon => ?_) fun _ _ _ _ => rfl
    simp [metRotationCheck, metOff, hon]

end

/-! ### The events of metrology (spec/04_metrology.md) -/

namespace Sys2Proof.Machine

open Sys2Proof

/-- A tick with samples runs metrology, tariffs, the balance engine and the charge points in this order. -/
theorem tickEnd_samples {xs : List ChannelSamples} {s : State} (hxs : 0 < tickSamples xs) (hpos : s.meter.tickPos < 320) :
    tickEnd xs s =
      (let n := min (tickSamples xs) (320 - s.meter.tickPos)
       let (incs, t) := meterTick xs s
       let t := tariffTick n incs t
       let regular := decide (t.meter.tickPos = 0)
       let t := sendUnsent (cpTicks n (feedBalance (if regular then applySlots t else t)))
       if regular then legalSwitch (firstTick (applyConfig t)) else t) := by
  have hn : min (tickSamples xs) (320 - s.meter.tickPos) ≠ 0 := by omega
  simp only [tickEnd, hn, if_false]

/-- The harmonics of a window change the measurement channels only. -/
theorem windowHarmonics_parts (b : Binding) (x : SampleBlock) (freq : Nat) (s : State) :
    windowHarmonics b x freq s = { s with meter := { s.meter with chans := (windowHarmonics b x freq s).meter.chans } } := by
  refine List.foldlRecOn (motive := fun t : State => t = { s with meter := { s.meter with chans := t.meter.chans } }) b.slots _ rfl
    fun t ht a _ => ?_
  rw [ht]
  dsimp only
  split <;> rfl

/-- The frequency of a window is of its crossings, or a free value. -/
theorem freqValue_log (f : Option (Nat × Nat)) (s : State) : (freqValue f s).2.log = s.log := by
  cases f <;> rfl

theorem freqValue_host (f : Option (Nat × Nat)) (s : State) : (freqValue f s).2.host = s.host := by
  cases f <;> rfl

theorem pointOf_setPoint_runs {m : Nat} {p : MeteringPoint} (s : State) (h : runs p = true) : pointOf (setPoint m p s) m = p := by
  refine look_put_of_ne s.meter.points m ?_
  rintro rfl
  exact absurd h (by decide)

theorem pointOf_windowHarmonics (b : Binding) (x : SampleBlock) (freq m : Nat) (s : State) :
    pointOf (windowHarmonics b x freq s) m = pointOf s m := by
  rw [windowHarmonics_parts]
  rfl

/-- A window's results are its own point's; nothing outside meter and keys changes. -/
theorem windowEnd_runs {m : Nat} (x : SampleBlock) (ts : List Time) {s : State} (hruns : runs (pointOf s m) = true) :
    (windowEnd m x ts s).log = s.log ∧ (windowEnd m x ts s).host = s.host ∧
      (pointOf (windowEnd m x ts s) m).window.rms = (List.range 9).map fun k =>
        rmsOf (slotPrimary s (pointOf s m).bind x.first x.chans k) := by
  simp only [windowEnd, hruns, if_true]
  rw [pointOf_windowHarmonics, pointOf_setPoint_runs, windowHarmonics_parts]
  · exact ⟨freqValue_log (freqOf ts) s, freqValue_host (freqOf ts) s, rfl⟩
  · exact hruns

theorem alarmTimer_sets {m b e v : Nat} {s : State} (hruns : runs (pointOf s m) = true)
    (hoff : bitOf (pointOf s m).alarms b = false) (hsets : alarmSets s (pointOf s m) b = some (e, v)) :
    alarmTimer m b s = alarmTo m b true e v s := by
  simp only [alarmTimer, hruns, hoff, hsets, Bool.false_eq_true, if_true, if_false]

theorem alarmTimer_clears {m b : Nat} {s : State} (hruns : runs (pointOf s m) = true)
    (hset : bitOf (pointOf s m).alarms b = true) (hclears : alarmClears s (pointOf s m) b = true) :
    alarmTimer m b s = alarmTo m b false (look 0 (pointOf s m).alarmElem b) (clearValue s (pointOf s m) b) s := by
  simp only [alarmTimer, hruns, hset, hclears, if_true]

theorem captureDone_enough (first : Nat) {xs : List ChannelSamples} {c : Capture} {s : State} (hc : s.meter.capturing = some c)
    (hnow : c.atCrossing = false) (henough : ∀ a ∈ c.ains, c.samples ≤ (codesOf xs a).length) :
    captureDone first xs s = finishMb c.mb .ok (le16 (c.samples * c.ains.length))
      { s with meter := { s.meter with capture := captureWords c first xs s, capturing := none } } := by
  have hshort : ¬ (c.atCrossing ∨ c.ains.any fun a => decide ((codesOf xs a).length < c.samples)) := by
    simpa [hnow] using henough
  simp only [captureDone, hc, hshort, if_false]

/-- A passed hold-up test of a unit that is not degraded answers pass and the measured values (R165). -/
theorem holdupEnd_test {us m : Nat} (cap esr : Nat) {s : State} (hcheck : s.meter.check = .test m) (hpass : 4000 ≤ us)
    (hfine : s.meter.degraded = false) :
    holdupEnd us cap esr s = finishMb m .ok (le8 0 ++ le32 us ++ le32 cap ++ le16 esr)
      { s with meter := { s.meter with check := .none, checkPassed := true } } := by
  simp [holdupEnd, hcheck, hpass, hfine, b2n]

end Sys2Proof.Machine

section

open Sys2Proof Sys2Proof.Machine

/-- Settles O11: each row meets its condition and is then the function of the meter that is named. -/
theorem metrologyEventsTakeEffect : Obligations.MetrologyEventsTakeEffect := by
  unfold Obligations.MetrologyEventsTakeEffect
  refine ⟨?tick, ?spare, ?retry, ?window, ?phasors, ?alarm, ?clear, ?store, ?interval, ?capture, ?fail, ?commit, ?cutoff, ?supply,
    ?checkStart, ?checkEnd⟩
  case tick =>
    intro xs s hacc hxs hpos
    change Host.Outcome.next (if accumulates s then tickEnd xs s else s) = _
    rw [if_pos hacc, tickEnd_samples hxs hpos]
  case spare => exact fun m s hon => congrArg Host.Outcome.next (if_pos hon)
  case retry =>
    exact fun z r s hon hsusp hgood =>
      congrArg Host.Outcome.next ((if_pos hon).trans (if_pos ⟨hsusp, by simp [hgood]⟩))
  case window =>
    intro m x ts s hm hon hruns
    exact ⟨_, (within_next _ _ hm).trans (congrArg Host.Outcome.next (if_pos hon)), windowEnd_runs x ts hruns⟩
  case phasors => exact fun _ _ => rfl
  case alarm =>
    exact fun m b e v s hm hon hruns hoff hsets =>
      (within_next _ _ hm).trans (congrArg Host.Outcome.next ((if_pos hon).trans (alarmTimer_sets hruns hoff hsets)))
  case clear =>
    exact fun m b s hm hon hruns hset hclears =>
      (within_next _ _ hm).trans (congrArg Host.Outcome.next ((if_pos hon).trans (alarmTimer_clears hruns hset hclears)))
  case store => exact fun s hon => congrArg Host.Outcome.next (if_pos hon)
  case interval => exact fun off s hon hdue => congrArg Host.Outcome.next (if_pos ⟨hon, hdue⟩)
  case capture =>
    exact fun first times xs c s hc hnow henough => congrArg Host.Outcome.next (captureDone_enough first hc hnow henough)
  case fail => exact fun c s hmain => congrArg Host.Outcome.next (if_pos hmain)
  case commit => exact fun s hpfail hon => congrArg Host.Outcome.next (if_pos ⟨hpfail, hon⟩)
  case cutoff => exact fun s hmain hpfail => congrArg Host.Outcome.next (if_pos ⟨by simp [hmain], hpfail⟩)
  case supply => exact fun s haux hmain hpfail => congrArg Host.Outcome.next (if_pos ⟨haux, by simp [hmain], hpfail⟩)
  case checkStart =>
    exact fun s hidle hmain hpfail => congrArg Host.Outcome.next (if_pos ⟨hidle, hmain, by simp [hpfail]⟩)
  case checkEnd =>
    exact fun us cap esr m s hcheck hpass hfine => congrArg Host.Outcome.next (holdupEnd_test cap esr hcheck hpass hfine)

end

/-! ### The tariff and billing commands (R181–R190, R193, R212) -/

namespace Sys2Proof.Machine

open Sys2Proof

/-- A tariff command passes with PD10 up, unit 126 in service and legal operands. -/
theorem tarCheck_passes {bad : Req → State → Bool} {r : Req} {s : State} (src : Src) (hon : active s 10 = true)
    (hf : isFenced s 126 = false) (hbad : bad r s = false) : tarCheck bad src r s = none := by
  simp only [tarCheck, metOff, hon, hf, hbad, Bool.not_true, firstFail_false, firstFail_nil]

theorem metInfoCheck_passes {r : Req} {s : State} (src : Src) (hon : active s 10 = true) (hm : arg r 0 1 < 32) :
    metInfoCheck src r s = none := by
  simp [metInfoCheck, metOff, hon, hm]

theorem slotReadCheck_passes {r : Req} {s : State} (src : Src) (hon : active s 10 = true) (hm : arg r 0 1 < 32)
    (hk : arg r 1 1 < 4) : slotReadCheck src r s = none := by
  simp [slotReadCheck, metOff, hon, hm, hk]

theorem tarWeekBad_false {r : Req} {s : State} (ht : arg r 0 1 < 8) (hw : arg r 1 1 < 8) (hdays : ∀ d ∈ weekDays r, d < 16) :
    tarWeekBad r s = false := by
  simpa [tarWeekBad, ht, hw] using hdays

theorem tarSeasonBad_false {r : Req} {s : State} (ht : arg r 0 1 < 8) (hi : arg r 1 1 < 8) (hmonth : arg r 2 1 ≤ 12)
    (hday : 1 ≤ arg r 3 1 ∧ arg r 3 1 ≤ 31) (hweek : arg r 4 1 < 8) : tarSeasonBad r s = false := by
  have hzero : arg r 3 1 ≠ 0 := Nat.one_le_iff_ne_zero.mp hday.1
  simp [tarSeasonBad, ht, hi, hmonth, hday.2, hzero, hweek]

theorem tarSpecialBad_false {r : Req} {s : State} (ht : arg r 0 1 < 8) (hi : arg r 1 1 < 64) (hmonth : arg r 4 1 ≤ 12)
    (hday : 1 ≤ arg r 5 1 ∧ arg r 5 1 ≤ 31) (hprofile : arg r 6 1 < 16) : tarSpecialBad r s = false := by
  have hzero : arg r 5 1 ≠ 0 := Nat.one_le_iff_ne_zero.mp hday.1
  simp [tarSpecialBad, ht, hi, hmonth, hday.2, hzero, hprofile]

theorem tarActivateCheck_passes {r : Req} {s : State} (src : Src) (hon : active s 10 = true) (hf : isFenced s 126 = false)
    (ht : arg r 0 1 < 8) (hprofile : undefinedProfile (tableOf s (arg r 0 1)).passive = false)
    (hidle : (tableOf s (arg r 0 1)).activation = none) : tarActivateCheck src r s = none := by
  simp [tarActivateCheck, metOff, hon, hf, ht, hprofile, hidle]

theorem billRegBad_false {r : Req} {s : State} (hm : arg r 0 1 < 32) (hk : arg r 1 1 < 4) (hi : arg r 2 1 < 16)
    (hdigits : 5 ≤ arg r 3 1 ∧ arg r 3 1 ≤ 9) (hdec : arg r 4 1 ≤ 3) (hmode : modeNext s (arg r 0 1) (arg r 2 1) ≠ 0) :
    billRegBad r s = false := by
  simp [billRegBad, hm, hk, hi, hdigits, hdec, hmode]

end Sys2Proof.Machine

section

open Sys2Proof Sys2Proof.Machine

/-- Settles O12: PD10 is up, unit 126 in service and the operands legal; the run is the edit, the closing or the reply named. -/
theorem tariffCommandsComplete : Obligations.TariffCommandsComplete := by
  unfold Obligations.TariffCommandsComplete
  refine ⟨?status, ?day, ?week, ?season, ?special, ?table, ?activateNow, ?activateLater, ?assign, ?reg, ?close, ?read, ?history,
    ?demand, ?demandRead⟩
  case status => exact completes_of_runCmd (fun _ _ => rfl) (fun src _ _ ⟨hon, hm⟩ => metInfoCheck_passes src hon hm) fun _ _ _ _ => rfl
  case day =>
    exact completes_of_runCmd (fun _ _ => rfl) (fun src _ _ ⟨hon, hf, hbad⟩ => tarCheck_passes src hon hf hbad) fun _ _ _ _ => rfl
  case week =>
    exact completes_of_runCmd (fun _ _ => rfl)
      (fun src _ _ ⟨hon, hf, ht, hw, hdays⟩ => tarCheck_passes src hon hf (tarWeekBad_false ht hw hdays)) fun _ _ _ _ => rfl
  case season =>
    refine completes_of_runCmd (fun _ _ => rfl)
      (fun src _ _ ⟨hon, hf, ht, hi, hmonth, hday, hweek⟩ =>
        tarCheck_passes src hon hf (tarSeasonBad_false ht hi hmonth.2 hday hweek)) fun src r s ⟨_, _, _, _, hmonth, _⟩ => ?_
    simp only [tarSeasonRun, Nat.one_le_iff_ne_zero.mp hmonth.1, if_false]
  case special =>
    refine completes_of_runCmd (fun _ _ => rfl)
      (fun src _ _ ⟨hon, hf, ht, hi, hmonth, hday, hprofile⟩ =>
        tarCheck_passes src hon hf (tarSpecialBad_false ht hi hmonth.2 hday hprofile)) fun src r s ⟨_, _, _, _, hmonth, _⟩ => ?_
    simp only [tarSpecialRun, Nat.one_le_iff_ne_zero.mp hmonth.1, if_false]
  case table =>
    exact completes_of_runCmd (fun _ _ => rfl) (fun src _ _ ⟨hon, hf, hbad⟩ => tarCheck_passes src hon hf hbad) fun _ _ _ _ => rfl
  case activateNow =>
    exact completes_of_runCmd (fun _ _ => rfl)
      (fun src _ _ ⟨hon, hf, ht, hprofile, hidle, _⟩ => tarActivateCheck_passes src hon hf ht hprofile hidle)
      fun _ _ _ ⟨_, _, _, _, _, hnow⟩ => if_pos hnow
  case activateLater =>
    exact completes_of_runCmd (fun _ _ => rfl)
      (fun src _ _ ⟨hon, hf, ht, hprofile, hidle, _⟩ => tarActivateCheck_passes src hon hf ht hprofile hidle)
      fun _ _ _ ⟨_, _, _, _, _, hlater⟩ => if_neg hlater
  case assign =>
    refine completes_of_runCmd (fun _ _ => rfl) (fun src r s ⟨hon, hf, hm, ht⟩ => tarCheck_passes src hon hf ?_) fun _ _ _ _ => rfl
    simp [tarAssignBad, hm, ht]
  case reg =>
    exact completes_of_runCmd (fun _ _ => rfl)
      (fun src _ _ ⟨hon, hf, hm, hk, hi, hdigits, hdec, hmode⟩ =>
        tarCheck_passes src hon hf (billRegBad_false hm hk hi hdigits hdec hmode)) fun _ _ _ _ => rfl
  case close =>
    refine completes_of_runCmd (fun _ _ => rfl) (fun src r s ⟨hon, hf, ht⟩ => tarCheck_passes src hon hf ?_) fun _ _ _ _ => rfl
    simp [billCloseBad, ht]
  case read =>
    exact completes_of_runCmd (fun _ _ => rfl) (fun src _ _ ⟨hon, hm, hk⟩ => slotReadCheck_passes src hon hm hk) fun _ _ _ _ => rfl
  case history =>
    refine completes_of_runCmd (fun _ _ => rfl) (fun src r s ⟨hon, hm, hn⟩ => ?_) fun _ _ _ _ => rfl
    simp [billHistoryCheck, metOff, hon, hm, hn]
  case demand =>
    exact completes_of_runCmd (fun _ _ => rfl) (fun src _ _ ⟨hon, hf, hbad⟩ => tarCheck_passes src hon hf hbad) fun _ _ _ _ => rfl
  case demandRead =>
    exact completes_of_runCmd (fun _ _ => rfl) (fun src _ _ ⟨hon, hm, hk⟩ => slotReadCheck_passes src hon hm hk) fun _ _ _ _ => rfl

end

/-! ### Prepayment, the legal commands, and the events of tariffs and displays (R182–R212) -/

namespace Sys2Proof.Machine

open Sys2Proof

theorem prepayCheck_disable {r : Req} {s : State} (src : Src) (hmet : active s 10 = true) (hdrives : active s 11 = true)
    (hf : isFenced s 126 = false) (hpoint : isFenced s (128 + arg r 90 1 / 2) = false) (hbad : prepayBad r s = false)
    (hoff : arg r 1 1 = 0) : prepayCheck src r s = none := by
  simp [prepayCheck, metOff, hmet, hdrives, hf, hpoint, hbad, hoff]

/-- A point that was disabled and stays so keeps its state, prices and limits; it drives nothing (R198). -/
theorem prepayRun_disabled {r : Req} {s : State} (src : Src) (hoff : arg r 1 1 = 0)
    (hdisabled : (prepayOf s (arg r 0 1)).enable = false) :
    prepayRun src r s = ({ payload := r.payload }, logPrepay 0x408 (arg r 0 1) r.opcode r.counter
      (setPrepay (arg r 0 1) { prepayOf s (arg r 0 1) with
        enable := false, prices := (List.range 16).map (fun k => arg r (2 + 4 * k) 4), low := argS r 66 8, emergency := argS r 74 8,
        reconnect := argS r 82 8, ctd := arg r 90 1, cfb := arg r 91 1, tfb := arg r 92 2, auto := arg r 94 1 == 1 }
        (releaseDrives (.point (arg r 0 1)) s))) := by
  have hon : (arg r 1 1 == 1) = false := by simp [hoff]
  simp only [prepayRun, hon, hdisabled, Bool.false_eq_true, false_and, if_false]

theorem prepayReconnectCheck_passes {r : Req} {s : State} (src : Src) (hon : active s 10 = true) (hf : isFenced s 126 = false)
    (hm : arg r 0 1 < 32) (hstate : (prepayOf s (arg r 0 1)).state = .reconnectReady)
    (hcredit : creditBack (prepayOf s (arg r 0 1)) = true) : prepayReconnectCheck src r s = none := by
  simp [prepayReconnectCheck, metOff, hon, hf, hm, hstate, hcredit]

theorem metRotationCheck_passes {s : State} (src : Src) (r : Req) (hon : active s 10 = true) : metRotationCheck src r s = none := by
  simp [metRotationCheck, metOff, hon]

theorem rateChange_due {t : Nat} {s : State} (hon : bitOf s.power.on 10 = true) (hvalid : (tb s 2).valid = true) :
    rateChange t s = evalTable t (beforeSwitch s) :=
  if_pos ⟨hon, hvalid⟩

/-- The feedback of an enabled point that changes is taken, and acts by the state of the contactor (R200). -/
theorem prepayFeedback_opened {m : Nat} {s : State} (hen : (prepayOf s m).enable = true)
    (hwas : isClosed s (prepayOf s m).cfb = true) (hstate : (prepayOf s m).state = .opening) :
    prepayFeedback m false s = enterDisconnected m 0 (setClosed (prepayOf s m).cfb false s) := by
  simp [prepayFeedback, hen, hwas, hstate]

theorem prepayFeedback_closed {m : Nat} {s : State} (hen : (prepayOf s m).enable = true)
    (hwas : isClosed s (prepayOf s m).cfb = false) (hstate : (prepayOf s m).state = .closing) :
    prepayFeedback m true s = logPrepay 0x40B m 0 0 (setPrepay m { prepayOf s m with state := .connected, cause := 0 }
      (setClosed (prepayOf s m).cfb true s)) := by
  simp [prepayFeedback, hen, hwas, hstate]

theorem prepayTimeout_opening {m : Nat} {s : State} (hen : (prepayOf s m).enable = true)
    (hstate : (prepayOf s m).state = .opening) (hclosed : isClosed s (prepayOf s m).cfb = true) :
    prepayTimeout m s = notice234 0x40C m [snapN 1] (tamperSet 22 (enterFault m 1 s)) := by
  simp [prepayTimeout, hen, hstate, hclosed]

theorem prepayTimeout_closing {m : Nat} {s : State} (hen : (prepayOf s m).enable = true)
    (hstate : (prepayOf s m).state = .closing) (hopen : isClosed s (prepayOf s m).cfb = false) :
    prepayTimeout m s = enterFault m 2 s := by
  simp [prepayTimeout, hen, hstate, hopen]

theorem activationReached_due {t : Nat} {at_ : Time} {s : State} (hact : (tableOf s t).activation = some at_)
    (hvalid : (tb s 2).valid = true) (hdue : at_.toNat ≤ (calTime s).toNat) : activationReached s t = true := by
  simp [activationReached, hact, hvalid, hdue]

/-- A display that answers has no missed ping (R208). -/
theorem pingDisplay_answers {d : Nat} {b : Bytes} {s : State} (hen : (displayOf s d).enable = true)
    (hon : bitOf s.power.on 10 = true) (hreply : b.head? = some 0xA5#8) (hfine : (displayOf s d).fault = false) :
    pingDisplay d b s = setDisplay d { displayOf s d with missed := 0, fault := false } (toDisplay d 3 0 [] s) := by
  simp [pingDisplay, hen, hon, hreply, hfine]

theorem pingDisplay_third {d : Nat} {b : Bytes} {s : State} (hen : (displayOf s d).enable = true)
    (hon : bitOf s.power.on 10 = true) (hreply : b.head? ≠ some 0xA5#8) (hfine : (displayOf s d).fault = false)
    (hmissed : (displayOf s d).missed = 2) :
    pingDisplay d b s = logTariff 0x40E 0xFFFF 0 0 0 [snapN d, snapN 1] (tamperSet 24
      (setDisplay d { displayOf s d with missed := 3, fault := true } (toDisplay d 3 0 [] s))) := by
  simp [pingDisplay, hen, hon, hreply, hfine, hmissed]

end Sys2Proof.Machine

section

open Sys2Proof Sys2Proof.Machine

/-- Settles O13: the commands pass their checks, and their runs take the branch that the state of the point or the log names. -/
theorem prepaymentAndLegalCommandsComplete : Obligations.PrepaymentAndLegalCommandsComplete := by
  unfold Obligations.PrepaymentAndLegalCommandsComplete
  refine ⟨?config, ?credit, ?switch, ?reconnect, ?status, ?tamper, ?cvRead, ?cvShow, ?display, ?logRead, ?decommission, ?legal⟩
  case config =>
    exact completes_of_runCmd (fun _ _ => rfl)
      (fun src _ _ ⟨hmet, hdrives, hf, hpoint, hbad, hoff, _⟩ => prepayCheck_disable src hmet hdrives hf hpoint hbad hoff)
      fun src _ _ ⟨_, _, _, _, _, hoff, hdisabled⟩ => prepayRun_disabled src hoff hdisabled
  case credit =>
    refine completes_of_runCmd (fun _ _ => rfl) (fun src r s ⟨hon, hf, hm, htoken⟩ => ?_) fun _ _ _ _ => rfl
    simp [prepayCreditCheck, metOff, hon, hf, hm, htoken]
  case switch =>
    refine completes_of_runCmd (fun _ _ => rfl) (fun src r s ⟨hon, hf, hm, hact⟩ => ?_) fun src r s ⟨_, _, _, hact⟩ => ?_
    · exact tarCheck_passes src hon hf (by simp [prepaySwitchBad, hm, hact])
    · simp [prepaySwitchRun, prepaySwitch, hact]
  case reconnect =>
    exact completes_of_runCmd (fun _ _ => rfl)
      (fun src _ _ ⟨hon, hf, hm, hstate, hcredit⟩ => prepayReconnectCheck_passes src hon hf hm hstate hcredit) fun _ _ _ _ => rfl
  case status => exact completes_of_runCmd (fun _ _ => rfl) (fun src _ _ ⟨hon, hm⟩ => metInfoCheck_passes src hon hm) fun _ _ _ _ => rfl
  case tamper =>
    refine completes_of_runCmd (fun _ _ => rfl) (fun src r s hclass => ?_) fun _ _ _ _ => rfl
    simp [tamperReadCheck, hclass]
  case cvRead => exact completes_of_runCmd (fun _ _ => rfl) (fun src r _ hon => metRotationCheck_passes src r hon) fun _ _ _ _ => rfl
  case cvShow => exact completes_of_runCmd (fun _ _ => rfl) (fun src r _ hon => metRotationCheck_passes src r hon) fun _ _ _ _ => rfl
  case display =>
    exact completes_of_runCmd (fun _ _ => rfl) (fun src _ _ ⟨hon, hf, hbad⟩ => tarCheck_passes src hon hf hbad) fun _ _ _ _ => rfl
  case logRead =>
    intro e
    refine completes_of_runCmd (fun _ _ => rfl) (fun src r s hentry => ?_) fun src r s hentry => ?_
    · simp [legalLogCheck, hentry]
    · simp only [legalLogRun, hentry]
  case decommission =>
    refine completes_of_runCmd (fun _ _ => rfl) (fun src r s ⟨hon, hf, hstate⟩ => ?_) fun _ _ _ _ => rfl
    simp [decommissionCheck, metOff, hon, hf, hstate]
  case legal => exact completes_of_runCmd (check := noCheck) (fun _ _ => rfl) (fun _ _ _ _ => rfl) fun _ _ _ _ => rfl

/-- Settles O14: each event meets its condition and is then the function of the table, the point or the display that is named. -/
theorem tariffEventsTakeEffect : Obligations.TariffEventsTakeEffect := by
  unfold Obligations.TariffEventsTakeEffect
  refine ⟨?rate, ?dst, ?subinterval, ?period, ?activation, ?opened, ?closed, ?weld, ?stuck, ?bypass, ?ping, ?lost, ?scroll, ?button,
    ?expiry⟩
  case rate =>
    exact fun t s ht hon hvalid => (within_next _ _ ht).trans (congrArg Host.Outcome.next (rateChange_due hon hvalid))
  case dst =>
    exact fun t s ht hon hvalid => (within_next _ _ ht).trans (congrArg Host.Outcome.next (rateChange_due hon hvalid))
  case subinterval =>
    rintro m s u hm rfl hon hdue
    exact (within_next _ _ hm).trans (congrArg Host.Outcome.next (if_pos ⟨hon, hdue⟩))
  case period =>
    intro t b s ht hon hdue
    refine (within_next _ _ ht).trans (congrArg Host.Outcome.next ((if_pos hon).trans ?_))
    simp only [scheduledClose, hdue]
  case activation =>
    intro t at_ s ht hon hact hvalid hdue
    refine (within_next _ _ ht).trans (congrArg Host.Outcome.next ((if_pos hon).trans ?_))
    exact if_pos (activationReached_due hact hvalid hdue)
  case opened =>
    exact fun m s hm hen hwas hstate =>
      (within_next _ _ hm).trans (congrArg Host.Outcome.next (prepayFeedback_opened hen hwas hstate))
  case closed =>
    exact fun m s hm hen hwas hstate =>
      (within_next _ _ hm).trans (congrArg Host.Outcome.next (prepayFeedback_closed hen hwas hstate))
  case weld =>
    exact fun m s hm hen hstate hclosed =>
      (within_next _ _ hm).trans (congrArg Host.Outcome.next (prepayTimeout_opening hen hstate hclosed))
  case stuck =>
    exact fun m s hm hen hstate hopen =>
      (within_next _ _ hm).trans (congrArg Host.Outcome.next (prepayTimeout_closing hen hstate hopen))
  case bypass =>
    exact fun m s hm hen hstate hgates =>
      (within_next _ _ hm).trans (congrArg Host.Outcome.next (if_pos ⟨hen, hstate, hgates⟩))
  case ping =>
    exact fun d r s hd hen hon hreply hfine =>
      (within_next _ _ hd).trans (congrArg Host.Outcome.next (pingDisplay_answers hen hon hreply hfine))
  case lost =>
    exact fun d r s hd hen hon hreply hfine hmissed =>
      (within_next _ _ hd).trans (congrArg Host.Outcome.next (pingDisplay_third hen hon hreply hfine hmissed))
  case scroll =>
    exact fun d s hd hen hon hitems =>
      (within_next _ _ hd).trans (congrArg Host.Outcome.next (if_pos ⟨hen, hon, hitems⟩))
  case button => exact fun s hon => congrArg Host.Outcome.next (if_pos hon)
  case expiry => exact fun s hshown => congrArg Host.Outcome.next (if_pos hshown)

end

/-! ### The charge-point commands (R214, R218, R221–R224, R228–R245) -/

namespace Sys2Proof.Machine

open Sys2Proof

/-- A charge-point command passes with PD11 up, the charge point's unit in service, legal operands and no other use of it. -/
theorem cpCheck_passes {bad busy : Req → State → Bool} {r : Req} {s : State} (src : Src) (hon : active s 11 = true)
    (hn : arg r 0 1 < 8) (hf : isFenced s (128 + arg r 0 1) = false) (hbad : bad r s = false) (hbusy : busy r s = false) :
    cpCheck bad busy src r s = none := by
  simp [cpCheck, hon, hn, hf, hbad, hbusy]

theorem cpReadCheck_passes {r : Req} {s : State} (src : Src) (hon : active s 11 = true) (hn : arg r 0 1 < 8) :
    cpReadCheck src r s = none := by
  simp [cpReadCheck, hon, hn]

theorem cpCfgBad_disable {r : Req} {s : State} (hoff : arg r 1 1 = 0) : cpCfgBad r s = false := by
  simp [cpCfgBad, hoff]

theorem cpCfgBusy_disable {r : Req} {s : State} (hoff : arg r 1 1 = 0) (hstate : (cpOf s (arg r 0 1)).state = .off) :
    cpCfgBusy r s = false := by
  simp [cpCfgBusy, cfgBusy, hoff, hstate]

theorem cfgBusy_idle {r : Req} {s : State} (hstate : (cpOf s (arg r 0 1)).state = .idle) : cfgBusy r s = false := by
  simp only [cfgBusy, hstate]

theorem cpOf_releaseDrives (u : DriveUser) (s : State) (n : Nat) : cpOf (releaseDrives u s) n = cpOf s n := rfl

theorem cpCfgRun_disable {r : Req} {s : State} (src : Src) (hoff : arg r 1 1 = 0)
    (hstate : (cpOf (heard (arg r 0 1) s) (arg r 0 1)).state = .off) :
    cpCfgRun src r s = ({ payload := r.payload }, releaseDrives (.charge (arg r 0 1)) (heard (arg r 0 1) s)) := by
  have hne : ¬ arg r 1 1 = 1 := by omega
  simp only [cpCfgRun, hne, cpOf_releaseDrives, hstate, if_true, if_false]

/-- An OFF charge point with one contactor is enabled: it goes to IDLE and runs on (R218). -/
theorem cpCfgRun_enable {r : Req} {s t u : State} (src : Src) (hon : arg r 1 1 = 1) (hone : arg r 6 1 = 255)
    (ht : t = takeDrive (.charge (arg r 0 1)) (arg r 5 1) (arg r 7 1) (releaseDrives (.charge (arg r 0 1)) (heard (arg r 0 1) s)))
    (hu : u = setCp (arg r 0 1) { cpOf t (arg r 0 1) with cfg := cpCfgOf r } t) (hstate : (cpOf u (arg r 0 1)).state = .off)
    (hremoval : (cpGo (arg r 0 1) .idle (setCp (arg r 0 1) (freshDecode (cpOf u (arg r 0 1))) u)).power.removal = none) :
    cpCfgRun src r s = ({ payload := r.payload },
      cpRun (arg r 0 1) (cpGo (arg r 0 1) .idle (setCp (arg r 0 1) (freshDecode (cpOf u (arg r 0 1))) u))) := by
  have hctdA : (cpCfgOf r).ctdA = arg r 5 1 := rfl
  have hcfbA : (cpCfgOf r).cfbA = arg r 7 1 := rfl
  have hctdB : (cpCfgOf r).ctdB = 255 := hone
  simp only [cpCfgRun, hon, hctdA, hcfbA, hctdB, if_true, ← ht, ← hu, hstate, hremoval, Option.isSome_none, Bool.false_eq_true,
    if_false]

theorem authoriseCheck_passes {r : Req} {s : State} {x : Session} (src : Src) (hon : active s 11 = true) (hn : arg r 0 1 < 8)
    (hf : isFenced s (128 + arg r 0 1) = false) (hbad : authoriseBad r s = false)
    (hsession : (cpOf s (arg r 0 1)).session = some x) (hid : x.id = arg r 1 4) : authoriseCheck src r s = none := by
  have hcheck : cpCheck authoriseBad never src r s = none := cpCheck_passes src hon hn hf hbad rfl
  have hsid : sessionId (cpOf s (arg r 0 1)) = arg r 1 4 := by
    simp [sessionId, hsession, hid]
  simp [authoriseCheck, hcheck, hsession, hsid]

/-- An authorisation that allows is kept with its method and identifier in the open session (R222). -/
theorem authoriseRun_allows {r : Req} {s : State} {x : Session} (src : Src) (hmethod : arg r 5 1 = 1) (hallow : arg r 6 1 = 1)
    (hsession : (cpOf (heard (arg r 0 1) s) (arg r 0 1)).session = some x) :
    (authoriseRun src r s).2 =
      let c := cpOf (heard (arg r 0 1) s) (arg r 0 1)
      cpRun (arg r 0 1) (logCp 0x50A (arg r 0 1) c.state [] (setCp (arg r 0 1) { c with
        session := some { x with method := 1, identifier := fieldB r.payload 7 24 }, authorised := true,
        authPending := false } (heard (arg r 0 1) s))) := by
  simp only [authoriseRun, hmethod, hallow, hsession, beq_self_eq_true, if_true, Option.getD_some]

theorem limitRun_nonzero {r : Req} {s : State} (src : Src) (hlimit : arg r 1 2 ≠ 0) :
    (limitRun src r s).2 = cpRun (arg r 0 1) (setCp (arg r 0 1)
      { cpOf (heard (arg r 0 1) s) (arg r 0 1) with limit := arg r 1 2 } (heard (arg r 0 1) s)) := by
  simp only [limitRun, hlimit, false_and, if_false]

theorem stopRun_energised {r : Req} {s : State} {x : Session} (src : Src)
    (hstate : (cpOf (heard (arg r 0 1) s) (arg r 0 1)).state = .energised)
    (hsession : (cpOf (heard (arg r 0 1) s) (arg r 0 1)).session = some x) :
    (stopRun src r s).2 = cpRun (arg r 0 1) (cpGo (arg r 0 1) .stopping (setCp (arg r 0 1)
      { cpOf (heard (arg r 0 1) s) (arg r 0 1) with session := some { x with stopped := true } } (heard (arg r 0 1) s))) := by
  simp only [stopRun, hstate, hsession, if_true, Option.getD_some]

theorem resetReady_true {s : State} {c : ChargePoint} (hfault : c.state = .fault) (hremoval : s.power.removal = none)
    (hold : c.faultAt + 3000000 ≤ tb1Us s) (hopen : allOpen s c = true) (hgone : tripGone c = true) : resetReady s c = true := by
  simp [resetReady, hfault, hremoval, hold, hopen, hgone]

theorem rcdBad_false {r : Req} {s : State} (h1 : 100000 ≤ arg r 1 4 ∧ arg r 1 4 ≤ 200000)
    (h2 : 30000 ≤ arg r 5 4 ∧ arg r 5 4 ≤ 60000) (h3 : 3000 ≤ arg r 9 4 ∧ arg r 9 4 ≤ 6000)
    (hnom : 5000 ≤ arg r 13 2 ∧ arg r 13 2 ≤ 30000) : rcdBad r s = false := by
  simp [rcdBad, h1, h2, h3, hnom]

end Sys2Proof.Machine

section

open Sys2Proof Sys2Proof.Machine

/-- Settles O15: the commands pass their checks; the run of one that acts on a sequencer starts by hearing Nulvo. -/
theorem chargePointCommandsComplete : Obligations.ChargePointCommandsComplete := by
  unfold Obligations.ChargePointCommandsComplete
  refine ⟨?disable, ?enable, ?status, ?authorise, ?limit, ?stop, ?availability, ?reset, ?residual, ?insulation, ?sessionRead, ?slac,
    ?v2g, ?trust, ?pilot, ?record⟩
  case disable =>
    refine completes_of_runCmd (fun _ _ => rfl) ?_ ?_
    · rintro src r s ⟨hon, hn, hf, hoff, hstate, -⟩
      exact cpCheck_passes src hon hn hf (cpCfgBad_disable hoff) (cpCfgBusy_disable hoff hstate)
    · rintro src r s ⟨-, -, -, hoff, -, hstate⟩
      exact cpCfgRun_disable src hoff hstate
  case enable =>
    refine completes_of_runCmd (fun _ _ => rfl) (fun _ _ _ h => h.1) ?_
    intro src r s h
    extract_lets n t c u at h
    obtain ⟨-, hon, hone, hstate, hremoval⟩ := h
    exact cpCfgRun_enable src hon hone (t := t) (u := u) rfl rfl hstate hremoval
  case status => exact completes_of_runCmd (fun _ _ => rfl) (fun src _ _ ⟨hon, hn⟩ => cpReadCheck_passes src hon hn) fun _ _ _ _ => rfl
  case authorise =>
    intro x
    refine completes_of_runCmd (fun _ _ => rfl) ?_ ?_
    · rintro src r s ⟨hon, hn, hf, hmethod, hallow, hsession, hid, -⟩
      exact authoriseCheck_passes src hon hn hf (by simp [authoriseBad, hmethod, hallow]) hsession hid
    · rintro src r s ⟨-, -, -, hmethod, hallow, -, -, hsession⟩
      exact Prod.ext rfl (authoriseRun_allows src hmethod hallow hsession)
  case limit =>
    refine completes_of_runCmd (fun _ _ => rfl) ?_ ?_
    · rintro src r s ⟨hon, hn, hf, hmin, hmax⟩
      exact cpCheck_passes src hon hn hf (by simp [limitBad, hmin, hmax]) rfl
    · rintro src r s ⟨-, -, -, hmin, -⟩
      have hlimit : arg r 1 2 ≠ 0 := by omega
      refine Prod.ext rfl ?_
      dsimp only
      rw [limitRun_nonzero src hlimit]
  case stop =>
    intro x
    refine completes_of_runCmd (fun _ _ => rfl) (fun src r s ⟨hon, hn, hf, _⟩ => cpCheck_passes src hon hn hf rfl rfl) ?_
    rintro src r s ⟨-, -, -, hstate, hsession⟩
    exact Prod.ext rfl (stopRun_energised src hstate hsession)
  case availability =>
    refine completes_of_runCmd (fun _ _ => rfl) ?_ ?_
    · rintro src r s ⟨hon, hn, hf, hoff⟩
      exact cpCheck_passes src hon hn hf (by simp [availBad, hoff]) rfl
    · rintro src r s ⟨-, -, -, hoff⟩
      simp [availRun, hoff]
  case reset =>
    refine completes_of_runCmd (fun _ _ => rfl) ?_ fun _ _ _ _ => rfl
    rintro src r s ⟨hon, hn, hf, hfault, hremoval, hold, hopen, hgone⟩
    have hready := resetReady_true hfault hremoval hold hopen hgone
    exact cpCheck_passes src hon hn hf rfl (by simp [resetBusy, hready])
  case residual =>
    refine completes_of_runCmd (fun _ _ => rfl) ?_ fun _ _ _ _ => rfl
    rintro src r s ⟨hon, hn, hf, hidle, h1, h2, h3, hnom⟩
    exact cpCheck_passes src hon hn hf (rcdBad_false h1 h2 h3 hnom) (cfgBusy_idle hidle)
  case insulation =>
    refine completes_of_runCmd (fun _ _ => rfl) ?_ fun _ _ _ _ => rfl
    rintro src r s ⟨hon, hn, hf, hidle, hperiod, hwarn⟩
    exact cpCheck_passes src hon hn hf (by simp [imdBad, hperiod, hwarn]) (cfgBusy_idle hidle)
  case sessionRead =>
    refine completes_of_runCmd (fun _ _ => rfl) (fun src r s ⟨hon, hn, hheld⟩ => ?_) fun _ _ _ _ => rfl
    simp [sessionReadCheck, hon, hn, hheld]
  case slac => exact completes_of_runCmd (fun _ _ => rfl) (fun src _ _ ⟨hon, hn⟩ => cpReadCheck_passes src hon hn) fun _ _ _ _ => rfl
  case v2g =>
    refine completes_of_runCmd (fun _ _ => rfl) ?_ fun _ _ _ _ => rfl
    rintro src r s ⟨hon, hn, hf, hidle, hbad⟩
    exact cpCheck_passes src hon hn hf hbad (cfgBusy_idle hidle)
  case trust =>
    refine completes_of_runCmd (fun _ _ => rfl) (fun src r s ⟨hon, hn⟩ => ?_) fun _ _ _ _ => rfl
    simp [trustCheck, hon, hn]
  case pilot => exact completes_of_runCmd (fun _ _ => rfl) (fun src _ _ ⟨hon, hn⟩ => cpReadCheck_passes src hon hn) fun _ _ _ _ => rfl
  case record =>
    refine completes_of_runCmd (fun _ _ => rfl) (fun src r s ⟨hon, hq, hcurve⟩ => ?_) fun src r s ⟨_, _, hcurve⟩ => ?_
    · simp [recordCfgCheck, hon, hq, hcurve]
    · simp only [recordCfgRun, hcurve]

end

/-! ### The events of the charge points (R218–R243) -/

namespace Sys2Proof.Machine

open Sys2Proof

/-- The fourth agreeing measurement of a new pilot state is accepted (R220). -/
theorem pilotDecision_fourth {n : Nat} {codes : List Nat} {vh vl : Int} {p : Pilot} {s : State} (hduty : (cpOf s n).duty ≠ 0)
    (hdrive : driveLow (cpOf s n).state = false) (hplateaus : pilotPlateaus (cpOf s n) codes = (vh, vl))
    (hholds : pilotHolds (cpOf s n).pilot (pwmNow (cpOf s n)) vh vl = false) (hdecode : pilotDecode (pwmNow (cpOf s n)) vh vl = p)
    (hcandidate : (cpOf s n).candidate = p) (hagreed : (cpOf s n).agreed = 3) (hnew : p ≠ (cpOf s n).pilot) :
    pilotDecision n codes s = pilotAccept n p (setCp n { cpOf s n with
      plateaus := ((vh.tdiv 1000, vl.tdiv 1000) :: (cpOf s n).plateaus).take 16, candidate := p, agreed := 4 } s) := by
  simp [pilotDecision, hduty, hdrive, hplateaus, hholds, hdecode, hcandidate, hagreed, hnew]

/-- The tenth window in a new band of the proximity resistance is accepted (R226). -/
theorem proximity_tenth {n v rp : Nat} {s : State} (hsocket : (cpOf s n).cfg.socket = true) (hon : (cpOf s n).state ≠ .off)
    (hohms : proximityOhms (cpOf s n) v = some rp) (hseen : (cpOf s n).cableSeen = cableBand rp)
    (hcount : (cpOf s n).cableCount = 9) (hnew : cableBand rp ≠ (cpOf s n).cable) :
    proximity n v s = cableAccept n (cableBand rp)
      (setCp n { cpOf s n with rp := min rp 4294967295, cableSeen := cableBand rp, cableCount := 10 } s) := by
  simp [proximity, hsocket, hon, hohms, hseen, hcount, hnew]

theorem cpFeedback_uncommanded {n : Nat} {s : State} (hfb : (cpOf s n).cfg.cfbA < 16) (hwas : isClosed s (cpOf s n).cfg.cfbA = true)
    (hstate : (cpOf s n).state = .energised) (hdriven : driveOn (setClosed (cpOf s n).cfg.cfbA false s) (cpOf s n).cfg.ctdA = true) :
    cpFeedback n false false s = cpFault n causeUncommanded (setClosed (cpOf s n).cfg.cfbA false s) := by
  simp [cpFeedback, Nat.not_le.mpr hfb, hwas, hstate, hdriven]

theorem cpTimeout_closing {n : Nat} {s : State} (hstate : (cpOf s n).state = .closing) (hpend : (cpOf s n).closePending = false)
    (hopen : allClosed s (cpOf s n) = false) : cpTimeout n s = cpFault n causeFailToClose s := by
  simp [cpTimeout, hstate, hpend, hopen]

theorem cpTimeout_opening {n : Nat} {s : State} (hstate : (cpOf s n).state = .opening) (hclosed : allOpen s (cpOf s n) = false) :
    cpTimeout n s = cpFault n causeWeld s := by
  simp [cpTimeout, hstate, hclosed]

/-- The residual self-test passes within 30 % of its nominal value (R232). -/
theorem selfTestEnd_running {n : Nat} (l : List ChannelSamples) {s : State} (hrun : (cpOf s n).selfTest = .running) :
    selfTestEnd n l s =
      if 10 * (windowSum id 6400 (residualNow s (cpOf s n) l) - (6400 * (cpOf s n).testNom : Nat)).natAbs ≤ 3 * 6400 * (cpOf s n).testNom
      then cpRun n (setCp n { cpOf s n with selfTest := .passed } s)
      else cpFault n causeRcdTest (setCp n { cpOf s n with selfTest := .none } s) := by
  simp only [selfTestEnd, hrun, selfTestOk, if_true, decide_eq_true_eq]

theorem imdPeriod_second {n : Nat} {p q : List Int} {r : Int} {s : State} (hruns : imdRuns (cpOf s n) = true)
    (hohms : insulation (cpOf s n) p q = some r) (hfault : imdClass (cpOf s n) (some r) = 2)
    (hlast : (cpOf s n).imd.head? = some 2) :
    imdPeriod n p q false s = cpFault n causeImdFault (setCp n { cpOf s n with
      imd := (2 :: (cpOf s n).imd).take 2, imdStart := tb1Us s, rIso := unsigned 32 r } s) := by
  simp [imdPeriod, hruns, hohms, hfault, hlast]

/-- An energised charge point whose demand or heartbeat is gone stops (R223, R242). -/
theorem cpStep_stops {n : Nat} {s : State} (hstate : (cpOf s n).state = .energised) (hplugged : pilotA (cpOf s n) = false)
    (hpilot : pilotStops (cpOf s n) = false) (hends : deliveryEnds (cpOf s n) = true ∨ heartbeatStops (cpOf s n) = true) :
    cpStep n s = cpGo n .stopping (setCp n { cpOf s n with
      session := some { (cpOf s n).session.getD {} with stopped := deliveryEnds (cpOf s n) } } s) := by
  simp only [cpStep, hstate, hplugged, hpilot, hends, Bool.false_eq_true, or_self, if_true, if_false]

theorem energyRequest_delivery {n : Nat} {s : State} (hdigital : (cpOf s n).cfg.digital = true)
    (hsession : (cpOf s n).session.isSome = true) :
    energyRequest n .powerDelivery s =
      (let t := cpRun n (setCp n { cpOf s n with nulvoLost := false, requested := true } s)
       v2gSend n 1 ((cpOf t n).state == .energised) t) := by
  have hsome : ¬ (cpOf s n).session.isNone = true := by simpa using Option.isSome_iff_ne_none.mp hsession
  simp only [energyRequest, hdigital, hsome, Bool.not_true, Bool.false_eq_true, or_self, if_false]

theorem soundFrame_first {pl : Nat} (run : Bytes) (gs : List Nat) {s : State} (hpl : 8 ≤ pl)
    (hdigital : (cpOf s (pl - 8)).cfg.digital = true) (hworks : cpWorks s (pl - 8) = true) (hon : active s 8 = true)
    (hf : isFenced s (103 + pl) = false) (hmode : (plOf s pl).mode = 3) (hfresh : ∀ x ∈ s.charge.sounds, x.pl ≠ pl) :
    soundFrame pl run gs s = { s with charge := { s.charge with sounds := s.charge.sounds ++
      [{ runId := run, pl := pl, count := 1, sums := (List.range 58).map fun k => nthN gs k }] } } := by
  have hnone : (s.charge.sounds.any fun x => x.pl == pl && x.runId == run) = false :=
    List.any_eq_false.mpr fun x hx => by simp [hfresh x hx]
  have hlow : ¬ pl < 8 := Nat.not_lt.mpr hpl
  simp only [soundFrame, hlow, hdigital, hworks, hon, hf, hmode, hnone, Bool.not_true, Bool.false_eq_true, ne_eq, not_true,
    or_self, if_false]

theorem slacWinner_one (p : Nat) (m : Int) : slacWinner [(p, m)] = some p := by
  simp [slacWinner]

theorem slacEnd_one {run : Bytes} {x : SlacSounds} {s : State} (hsounds : s.charge.sounds = [x]) (hrun : x.runId = run)
    (helig : slacEligible s x.pl = true) :
    slacEnd run s =
      (let n := x.pl - 8
       let t := { s with charge := { s.charge with sounds := [] } }
       let means := (List.range 8).map fun k => if x.pl = 8 + k then slacMean x else 32767
       let t := setCp n { cpOf t n with slacRun := run, slacMeans := means, slacAnswered := true } t
       emit (.frame x.pl (run ++ x.sums.map fun (v : Nat) => BitVec.ofNat 8 (min 255 (openDiv (v : Int) (10 * x.count)).toNat)))
         (logCp 0x50C n (cpOf t n).state [] t)) := by
  have hheard : ([x].filter fun y => y.runId == run) = [x] := by simp [hrun]
  have hrest : ([x].filter fun y => y.runId != run) = [] := by simp [hrun]
  have hstill : slacEligible { s with charge := { s.charge with sounds := [] } } x.pl = true := helig
  simp only [slacEnd, hsounds, hheard, hrest, List.isEmpty_cons, List.map_cons, List.map_nil, slacWinner_one, hstill,
    List.foldl_cons, List.foldl_nil, Bool.false_eq_true, beq_self_eq_true, Bool.or_true, Bool.and_self, if_true, if_false]
  rw [List.map_congr_left (l := List.range 8) (g := fun k => if x.pl = 8 + k then slacMean x else 32767)]
  · rfl
  · intro k _
    by_cases h : x.pl = 8 + k <;> simp [h]

theorem sessionEmit_asks {r : SessionRec} {s : State} (hwaits : waitingSession s = some r) (hpke : active s 5 = true)
    (hon : active s 11 = true) (hbare : r.signature = []) (hsign : (signSession s r).isSome = true) (hidle : r.signing = false) :
    sessionEmit s = pkeAsk { cls := 3, job := .session r.session.id } (setWaiting { r with signing := true } s) := by
  have hkey : ¬ (signSession s r).isNone = true := by simpa using Option.isSome_iff_ne_none.mp hsign
  simp only [sessionEmit, hwaits, hpke, hon, hbare, hkey, hidle, Bool.not_true, Bool.false_eq_true, ne_eq, not_true, or_self, if_false]

theorem sessionEmit_signed {r : SessionRec} {s t : State} (hwaits : waitingSession s = some r) (hpke : active s 5 = true)
    (hon : active s 11 = true) (hsigned : r.signature ≠ []) (hemit : emitSession r s = some t) :
    sessionEmit s = setWaiting { r with emitted := true } t := by
  simp [sessionEmit, hwaits, hpke, hon, hsigned, sessionOut, hemit]

end Sys2Proof.Machine

section

open Sys2Proof Sys2Proof.Machine

/-- Settles O16: the charge point works, and its row is the branch of its sequencer that the state names. -/
theorem chargePointEventsTakeEffect : Obligations.ChargePointEventsTakeEffect := by
  unfold Obligations.ChargePointEventsTakeEffect
  have works {what : String} {n : Nat} {s t e u : State} (hn : n < 8) (hworks : cpWorks s n = true) (h : t = u) :
      within what n 8 (if cpWorks s n then t else e) = .next u := by
    rw [within_next _ _ hn, if_pos hworks, h]
  refine ⟨?pilot, ?proximity, ?uncommanded, ?closing, ?opening, ?pullIn, ?stopping, ?selfTest, ?insulation, ?auth, ?heartbeat,
    ?stops, ?delivery, ?sound, ?runEnd, ?asks, ?signed⟩
  case pilot =>
    exact fun n hi lo vh vl p s hn hworks hduty hdrive hplateaus hholds hdecode hcandidate hagreed hnew => works hn hworks
      (congrArg (newDuty n) (pilotDecision_fourth hduty hdrive hplateaus hholds hdecode hcandidate hagreed hnew))
  case proximity =>
    exact fun n v rp s hn hworks hsocket hon hohms hseen hcount hnew => works hn hworks
      (proximity_tenth hsocket hon hohms hseen hcount hnew)
  case uncommanded =>
    exact fun n s hn hworks hfb hwas hstate hdriven => works hn hworks (cpFeedback_uncommanded hfb hwas hstate hdriven)
  case closing => exact fun n s hn hworks hstate hpend hopen => works hn hworks (cpTimeout_closing hstate hpend hopen)
  case opening => exact fun n s hn hworks hstate hclosed => works hn hworks (cpTimeout_opening hstate hclosed)
  case pullIn => exact fun n s hn hworks => works hn hworks rfl
  case stopping => exact fun n s hn hworks hstate => works hn hworks (if_pos hstate)
  case selfTest => exact fun n l s hn hworks hrun => works hn hworks (selfTestEnd_running l hrun)
  case insulation =>
    exact fun n p q r s hn hworks hruns hohms hfault hlast => works hn hworks (imdPeriod_second hruns hohms hfault hlast)
  case auth => exact fun n s hn hworks hpend => works hn hworks (if_pos hpend)
  case heartbeat => exact fun n s hn hworks _ => works hn hworks rfl
  case stops => exact fun n s hstate hplugged hpilot hends => cpStep_stops hstate hplugged hpilot hends
  case delivery =>
    exact fun n s hn hworks hdigital hsession => works hn hworks (energyRequest_delivery hdigital hsession)
  case sound =>
    exact fun pl run gs s hpl hlt hdigital hworks hon hf hmode hfresh => (within_next _ _ hlt).trans
      (congrArg Host.Outcome.next (soundFrame_first run gs hpl hdigital hworks hon hf hmode hfresh))
  case runEnd => exact fun run x s hsounds hrun helig => congrArg Host.Outcome.next (slacEnd_one hsounds hrun helig)
  case asks =>
    exact fun r s hwaits hpke hon hbare hsign hidle =>
      congrArg Host.Outcome.next (sessionEmit_asks hwaits hpke hon hbare hsign hidle)
  case signed =>
    exact fun r t s hwaits hpke hon hsigned hemit =>
      congrArg Host.Outcome.next (sessionEmit_signed hwaits hpke hon hsigned hemit)

end

/-! ### The powerline channels (spec/07_powerline.md) -/

namespace Sys2Proof.Machine

open Sys2Proof

/-- PL_CFG without a change of mode, band or network passes with its limits in range, for a channel that is off. -/
theorem plCfgCheck_unchanged {r : Req} {s : State} (src : Src) (hon : active s 8 = true) (hn : arg r 0 1 < 16)
    (hf : isFenced s (103 + arg r 0 1) = false) (hsame : plCfgChanges (plOf s (arg r 0 1)) r = false) (hmode : arg r 1 1 = 0)
    (hband : arg r 2 1 ≤ 2) (hnet : arg r 3 1 ≤ 3) (hatten : arg r 4 1 ≤ 63) (himp : 6 ≤ arg r 5 1 ∧ arg r 5 1 ≤ 24)
    (hretries : arg r 6 1 ≤ 7) (hage : 10 ≤ arg r 7 2 ∧ arg r 7 2 ≤ 3600) : plCfgCheck src r s = none := by
  have hnow : (plOf s (arg r 0 1)).mode = 0 := by
    simp [plCfgChanges, hmode] at hsame
    exact hsame.1.1
  have hlast : arg r 0 1 ≤ 15 := Nat.le_of_lt_succ hn
  simp [plCfgCheck, plOff, plFenced, hon, hlast, hf, hsame, hnow, hmode, hband, hnet, hatten, himp, hretries, hage]

theorem plCfgRun_unchanged {r : Req} {s : State} (src : Src) (hsame : plCfgChanges (plOf s (arg r 0 1)) r = false)
    (hmode : arg r 1 1 = 0) :
    plCfgRun src r s = ({ payload := r.payload }, logPl 0x601 (arg r 0 1) 0xFFFF 0xFF [] (setPl (arg r 0 1)
      { plOf s (arg r 0 1) with
        mode := 0, band := arg r 2 1, net := arg r 3 1, atten := arg r 4 1, impThresh := arg r 5 1, maxRetries := arg r 6 1,
        tmMaxAge := arg r 7 2 } s)) := by
  simp only [plCfgRun, hsame, hmode, Bool.false_eq_true, if_false]

theorem plNetCfgCheck_noKeys {r : Req} {s : State} (src : Src) (hon : active s 8 = true) (hk : arg r 0 1 < 4) (hhq : arg r 15 1 ≤ 127)
    (hhop : arg r 17 2 ≤ 1023) (htoll : 5 ≤ arg r 19 1 ∧ arg r 19 1 ≤ 100) (h0 : arg r 13 1 = 0xFF) (h1 : arg r 14 1 = 0xFF)
    (hidle : ∀ n ∈ netChannels s (arg r 0 1), transmitting (plOf s n) = false) : plNetCfgCheck src r s = none := by
  have hlast : arg r 0 1 ≤ 3 := Nat.le_of_lt_succ hk
  simpa [plNetCfgCheck, plOff, hon, hlast, hhq, hhop, htoll, h0, h1] using hidle

theorem plNetCfgRun_noKeys {r : Req} {s : State} (src : Src) (h0 : arg r 13 1 = 0xFF) (h1 : arg r 14 1 = 0xFF) :
    plNetCfgRun src r s = ({ payload := r.payload },
      let k := arg r 0 1
      let t := setPlNet k { plNetOf s k with
        pan := arg r 1 2, short := arg r 3 2, eui := arg r 5 8, key0 := 0xFF, key1 := 0xFF, hq := arg r 15 1,
        wAir := arg r 16 1, wHop := arg r 17 2, tollDelta := arg r 19 1 } s
      logEv 0x602 (103 + ((netChannels t k).headD 0)) k [0, 0, 0, 0] t) := by
  simp only [plNetCfgRun, h0, h1, if_true]

theorem plBadCh_false {s : State} {n : Nat} (hn : n < 16) (hmode : (plOf s n).mode ≠ 3) : plBadCh s n = false := by
  simp [plBadCh, hn, hmode]

theorem plFenced_false {s : State} {n : Nat} (hf : isFenced s (103 + n) = false) : plFenced s n = false := by
  simp [plFenced, hf]

theorem plTmRefreshCheck_passes {r : Req} {s : State} (src : Src) (hon : active s 8 = true) (hn : arg r 0 1 < 16)
    (hf : isFenced s (103 + arg r 0 1) = false) (hmode : (plOf s (arg r 0 1)).mode ≠ 3)
    (hnbr : (nbrOf (plOf s (arg r 0 1)) (arg r 1 2)).isSome = true) (hslot : arg r 3 1 ≤ 5)
    (hidle : ∀ i ∈ refreshSlots s (plOf s (arg r 0 1)).net (arg r 3 1),
      (look {} ((nbrOf (plOf s (arg r 0 1)) (arg r 1 2)).getD {}).fwd i).pending = false) : plTmRefreshCheck src r s = none := by
  have hknown : (nbrOf (plOf s (arg r 0 1)) (arg r 1 2)).isNone = false := by simpa [← Option.isSome_iff_ne_none] using hnbr
  have hrange : ¬ (5 < arg r 3 1 ∧ arg r 3 1 ≠ 0xFF) := by omega
  simp only [plTmRefreshCheck, firstFail_cons_none, firstFail_nil, plOff, hon, plFenced_false hf, plBadCh_false hn hmode, hknown,
    hrange, List.any_eq_false.mpr fun i hi => by simpa using hidle i hi, Bool.not_true, Bool.or_self, decide_false, and_self]

theorem plRouteSetCheck_passes {r : Req} {s : State} (src : Src) (hon : active s 8 = true) (hn : arg r 0 1 < 16)
    (hf : isFenced s (103 + arg r 0 1) = false) (hmode : (plOf s (arg r 0 1)).mode ≠ 3)
    (hnext : ∀ x ∈ routeArgs r, x.2.2 ≠ 0 → (nbrOf (plOf s (arg r 0 1)) x.2.1.next).isSome = true)
    (hroom : (applyRoutes 0 (plOf s (arg r 0 1)).routes (routeArgs r)).length ≤ 2048) : plRouteSetCheck src r s = none := by
  have hknown : ((routeArgs r).any fun x => x.2.2 != 0 && (nbrOf (plOf s (arg r 0 1)) x.2.1.next).isNone) = false := by
    refine List.any_eq_false.mpr fun x hx => ?_
    by_cases h : x.2.2 = 0
    · simp [h]
    · simpa [h, ← Option.isSome_iff_ne_none] using hnext x hx h
  simp only [plRouteSetCheck, firstFail_cons_none, firstFail_nil, plOff, hon, plFenced_false hf, plBadCh_false hn hmode, hknown,
    Nat.not_lt.mpr hroom, Bool.not_true, Bool.or_self, decide_false, and_self]

/-- A frame to a next hop with room is queued for its submission queue entry (R276). -/
theorem plTxRun_queued {r : Req} {q i : Nat} {h : Hop} {s t : State} (hhop : nextHop s (plOf s (arg r 0 1)).net (arg r 1 2) = some h)
    (hroute : routePl h
      { dest := arg r 1 2, payload := r.payload.drop 4, hopsLeft := Config.plHops, secure := bitOf (arg r 3 1) 0,
        ack := bitOf (arg r 3 1) 1, high := bitOf (arg r 3 1) 2, queue := 3, host := some (q, i) } s = some t) :
    plTxRun (.sq q i) r s = ({ status := .accepted }, t) := by
  simp only [plTxRun, hhop, hroute]

/-- An unsecured frame for the module, of a sender that is no neighbour, is counted and accepted (R268). -/
theorem receivePl_unsecured {n : Nat} {f : PlFrame} {s t : State} (hfcs : f.fcsOk = true) (hplain : f.secured = false)
    (ht : t = (frameSlots s n f).foldl (fun t x => countSlot n x t) s) (hpan : f.pan = (plNetOf t (plOf s n).net).pan)
    (hdest : 2 ≤ f.kind ∨ f.dest = (plNetOf t (plOf s n).net).short) (hnew : nbrOf (plOf t n) f.source = none) :
    receivePl n f s = acceptPl n f f.payload (setPl n { plOf t n with rx := (plOf t n).rx + 1 } t) := by
  have hours : ¬ (f.pan ≠ (plNetOf t (plOf s n).net).pan ∨ (f.kind < 2 ∧ f.dest ≠ (plNetOf t (plOf s n).net).short)) := by
    rintro (h | ⟨hkind, h⟩)
    · exact h hpan
    · exact hdest.elim (Nat.not_le.mpr hkind) h
  simp only [receivePl, ← ht, hfcs, hours, hplain, hnew, securePl, Bool.true_eq_false, Bool.false_eq_true, false_and, if_true, if_false]

theorem transmitTurn_ack {n : Nat} {g : PlGrant} {a : AckDue} {rest : List AckDue} {s : State} (hruns : plRuns s n = true)
    (hturn : ackTurn s n = some n) (hacks : (plOf s n).acks = a :: rest) :
    transmitTurn n g s =
      if g.ackInTime then emit (.linkAck n a.seq) (setPl n { plOf s n with acks := rest, acked := (plOf s n).acked + 1 } s)
      else logPl 0x60B n a.dest 0xFF [] (setPl n { plOf s n with acks := rest } s) := by
  simp only [transmitTurn, hruns, hturn, ackTransmit, hacks, if_true]

/-- A channel whose data turn comes on an idle line transmits. -/
theorem transmitTurn_data {n : Nat} {g : PlGrant} {s : State} (hruns : plRuns s n = true) (hack : ackTurn s n = none)
    (hquiet : ∀ m ∈ couplers s n, transmitting (plOf s m) = false) (hturn : dataTurn s n = some n) :
    transmitTurn n g s = dataTransmit n g s := by
  have hidle : ((couplers s n).any fun m => transmitting (plOf s m)) = false :=
    List.any_eq_false.mpr fun m hm => by simp [hquiet m hm]
  simp only [transmitTurn, hruns, hack, hidle, hturn, Bool.false_eq_true, if_true, if_false]

theorem dataTransmit_fresh {n : Nat} {g : PlGrant} {f : PlTx} {c : PlChannel} {s : State} (hsent : (plOf s n).sent = none)
    (htake : takeData s (plOf s n) = some (f, c)) (hhigh : g.highWindow = true → f.high = true)
    (hkey : keyLost (turnTaken n (setPl n c s)) n f = false) :
    dataTransmit n g s = sendPl n g f (turnTaken n (setPl n c s)) := by
  have hmay : ¬ (g.highWindow ∧ !f.high) := fun ⟨hw, hl⟩ => by simp [hhigh hw] at hl
  simp only [dataTransmit, hsent, htake, hmay, hkey, Bool.false_eq_true, if_false]

theorem dataTransmit_again {n : Nat} {g : PlGrant} {x : PlSent} {s : State} (hsent : (plOf s n).sent = some x)
    (hhigh : g.highWindow = true → x.frame.high = true) (hkey : keyLost (turnTaken n s) n x.frame = false) :
    dataTransmit n g s = resendPl n g x (turnTaken n s) := by
  have hmay : ¬ (g.highWindow ∧ !x.frame.high) := fun ⟨hw, hl⟩ => by simp [hhigh hw] at hl
  simp only [dataTransmit, hsent, hmay, hkey, Bool.false_eq_true, if_false]

theorem plNotAcked_access {n : Nat} {x : PlSent} {s : State} (hsent : (plOf s n).sent = some x) :
    plNotAcked n true x.frame.seq s = completePl n x false 2 s := by
  simp only [plNotAcked, hsent, ne_eq, not_true, if_true, if_false]

theorem plNotAcked_missed {n : Nat} {x : PlSent} {s t : State} (hsent : (plOf s n).sent = some x) (hfresh : x.retry = false)
    (ht : t = countMiss n x.frame.next x.slot s) :
    plNotAcked n false x.frame.seq s =
      if (plOf t n).maxRetries < x.sent then completePl n x false 1 t
      else setPl n { plOf t n with sent := some { x with retry := true } } t := by
  simp only [plNotAcked, hsent, hfresh, ne_eq, not_true, Bool.false_eq_true, if_false, ht]

theorem refreshTimer_asks {n short slot : Nat} {e : Neighbour} {s t : State}
    (hnbr : nbrOf (plOf (endOldRefresh n s) n) short = some e) (hpend : (look {} e.fwd slot).pending = true)
    (hqueued : (((plOf (endOldRefresh n s) n).reply ++ (plOf (endOldRefresh n s) n).fwd ++ (plOf (endOldRefresh n s) n).nulvo
      ++ (plOf (endOldRefresh n s) n).host).any fun f => f.next == short) = false)
    (hroom : enqueuePl n
      { dest := short, next := short, queue := 2,
        secure := (plKeyIndex (endOldRefresh n s) (plOf (endOldRefresh n s) n).net).isSome } (endOldRefresh n s) = some t) :
    refreshTimer n short slot s = t := by
  simp only [refreshTimer, hnbr, hpend, hqueued, hroom, and_self, if_true]

end Sys2Proof.Machine

section

open Sys2Proof Sys2Proof.Machine

/-- Settles O17: PD8 is up and the channel in service, the operands are legal, and the run is the change or the reply named. -/
theorem powerlineCommandsComplete : Obligations.PowerlineCommandsComplete := by
  unfold Obligations.PowerlineCommandsComplete
  refine ⟨?config, ?net, ?status, ?nbrRead, ?nbrDelete, ?tmRead, ?tmRefresh, ?routeSet, ?routeRead, ?routeFlush, ?tx, ?beacon⟩
  case config =>
    exact completes_of_runCmd (fun _ _ => rfl)
      (fun src _ _ ⟨hon, hn, hf, hsame, hmode, hband, hnet, hatten, himp, hretries, hage⟩ =>
        plCfgCheck_unchanged src hon hn hf hsame hmode hband hnet hatten himp hretries hage)
      fun src _ _ ⟨_, _, _, hsame, hmode, _⟩ => plCfgRun_unchanged src hsame hmode
  case net =>
    exact completes_of_runCmd (fun _ _ => rfl)
      (fun src _ _ ⟨hon, hk, hhq, hhop, htoll, h0, h1, hidle⟩ => plNetCfgCheck_noKeys src hon hk hhq hhop htoll h0 h1 hidle)
      fun src _ _ ⟨_, _, _, _, _, h0, h1, _⟩ => plNetCfgRun_noKeys src h0 h1
  case status =>
    refine completes_of_runCmd (fun _ _ => rfl) (fun src r s ⟨hon, hn⟩ => ?_) fun _ _ _ _ => rfl
    simp [plStatusCheck, plOff, hon, hn]
  case nbrRead =>
    refine completes_of_runCmd (fun _ _ => rfl) (fun src r s ⟨hon, hn, hmode, hidx⟩ => ?_) fun _ _ _ _ => rfl
    simp [plNbrReadCheck, plOff, hon, plBadCh_false hn hmode, hidx]
  case nbrDelete =>
    refine completes_of_runCmd (fun _ _ => rfl) (fun src r s ⟨hon, hn, hf, hmode, hnbr, hfree⟩ => ?_) fun _ _ _ _ => rfl
    simpa [plNbrDeleteCheck, plOff, hon, plFenced_false hf, plBadCh_false hn hmode, hfree, ← Option.isSome_iff_ne_none] using hnbr
  case tmRead =>
    refine completes_of_runCmd (fun _ _ => rfl) (fun src r s ⟨hon, hn, hmode, hnbr, hdir, hslot⟩ => ?_) fun src r s h => ?_
    · simpa [plTmReadCheck, plOff, hon, plBadCh_false hn hmode, hdir, hslot, ← Option.isSome_iff_ne_none] using hnbr
    · obtain ⟨-, -, -, -, hdir, -⟩ := h
      simp [plTmReadRun, hdir]
  case tmRefresh =>
    intro m
    refine completes_of_runCmd (fun _ _ => rfl)
      (fun src r s ⟨_, hon, hn, hf, hmode, hnbr, hslot, hidle⟩ => plTmRefreshCheck_passes src hon hn hf hmode hnbr hslot hidle) ?_
    rintro src r s ⟨rfl, -⟩
    rfl
  case routeSet =>
    exact completes_of_runCmd (fun _ _ => rfl)
      (fun src _ _ ⟨hon, hn, hf, hmode, hnext, hroom⟩ => plRouteSetCheck_passes src hon hn hf hmode hnext hroom) fun _ _ _ _ => rfl
  case routeRead =>
    intro b
    refine completes_of_runCmd (fun _ _ => rfl) (fun src r s ⟨hon, hn, hmode, _⟩ => ?_) fun src r s ⟨_, _, _, hb⟩ => ?_
    · simp [plRouteReadCheck, plOff, hon, plBadCh_false hn hmode]
    · simp only [plRouteReadRun, hb]
  case routeFlush =>
    refine completes_of_runCmd (fun _ _ => rfl) (fun src r s ⟨hon, hn, hf, hmode⟩ => ?_) fun _ _ _ _ => rfl
    simp [plRouteFlushCheck, plOff, hon, plFenced_false hf, plBadCh_false hn hmode]
  case tx =>
    intro q i h t
    refine completes_of_runCmd (fun _ _ => rfl) (fun src r s ⟨_, hon, hn, hf, hmode, _⟩ => ?_) ?_
    · simp [plTxCheck, plOff, hon, plFenced_false hf, hn, hmode]
    · rintro src r s ⟨rfl, -, -, -, -, hhop, hroute⟩
      exact plTxRun_queued hhop hroute
  case beacon =>
    refine completes_of_runCmd (fun _ _ => rfl) (fun src r s ⟨hon, hk, hlen⟩ => ?_) fun _ _ _ _ => rfl
    simp [plBeaconSetCheck, plOff, hon, hlen]
    omega

/-- Settles O18: the channel runs, and its row is the branch that its queue, its frame or its table names. -/
theorem powerlineEventsTakeEffect : Obligations.PowerlineEventsTakeEffect := by
  unfold Obligations.PowerlineEventsTakeEffect
  have runs {what : String} {n : Nat} {s t u : State} (hn : n < 16) (hruns : plRuns s n = true) (h : t = u) :
      within what n 16 (if plRuns s n then t else s) = .next u := by
    rw [within_next _ _ hn, if_pos hruns, h]
  have turns {n : Nat} {g : PlGrant} {s u : State} (hn : n < 16) (h : transmitTurn n g s = u) :
      exec (.plTransmitTurn n g) s = .next u := (within_next _ _ hn).trans (congrArg _ h)
  refine ⟨?receive, ?ack, ?data, ?again, ?acked, ?access, ?missed, ?refresh, ?reassembly, ?ageing, ?lapse⟩
  case receive =>
    intro n f s t hn hruns hon hfcs hplain ht hpan hdest hnew
    refine (within_next _ _ hn).trans (congrArg Host.Outcome.next ((if_pos ?_).trans ?_))
    · rw [hruns, hon, Bool.and_self]
    · exact receivePl_unsecured hfcs hplain ht hpan hdest hnew
  case ack => exact fun n g s a rest hn hruns hturn hacks => turns hn (transmitTurn_ack hruns hturn hacks)
  case data =>
    exact fun n g f c s hn hruns hack hquiet hturn hsent htake hhigh hkey =>
      turns hn ((transmitTurn_data hruns hack hquiet hturn).trans (dataTransmit_fresh hsent htake hhigh hkey))
  case again =>
    exact fun n g x s hn hruns hack hquiet hturn hsent hhigh hkey =>
      turns hn ((transmitTurn_data hruns hack hquiet hturn).trans (dataTransmit_again hsent hhigh hkey))
  case acked =>
    intro n x e s hn hruns hsent hnbr
    refine runs hn hruns ?_
    simp only [plAcked, hsent, hnbr]
  case access => exact fun n x s hn hruns hsent => runs hn hruns (plNotAcked_access hsent)
  case missed => exact fun n x s t hn hruns hsent hfresh ht => runs hn hruns (plNotAcked_missed hsent hfresh ht)
  case refresh =>
    exact fun n short slot e t s hn hruns hnbr hpend hqueued hroom =>
      runs hn hruns (refreshTimer_asks hnbr hpend hqueued hroom)
  case reassembly =>
    rintro n tag p s hn hruns hp rfl hlate
    have hany : ((plOf s n).parts.any fun q => q.tag == p.tag && decide (q.last + 60 ≤ tb1Sec s)) = true :=
      List.any_eq_true.mpr ⟨p, hp, by simp [hlate]⟩
    exact runs hn hruns (if_pos hany)
  case ageing =>
    intro n short e s hn hruns hnbr hold hfree
    refine runs hn hruns ?_
    simp only [nbrAgeing, hnbr, hold, hfree, and_self, if_true]
  case lapse =>
    intro n d x s hn hruns hroute hlapsed
    refine runs hn hruns ?_
    simp only [routeLapse, hroute, hlapsed, if_true]

end

/-! ### The radio channels (spec/08_radio.md) -/

namespace Sys2Proof.Machine

open Sys2Proof

theorem rfFenced_false {s : State} {n : Nat} (hf : isFenced s (119 + n) = false) : rfFenced s n = false := by
  simp [rfFenced, hf]

/-- RF_CFG without a change of PHY, network or home channel passes for a channel that is off with its parameters in range. -/
theorem rfCfgCheck_unchanged {r : Req} {s : State} (src : Src) (hon : active s 9 = true) (hn : arg r 0 1 < 6)
    (hf : isFenced s (119 + arg r 0 1) = false) (hsame : rfCfgChanges (rfOf s (arg r 0 1)) r = false) (hphy : arg r 1 1 = 0)
    (hnet : arg r 6 1 ≤ 1) (hmod : arg r 3 1 ≤ 1) (hgfsk : arg r 4 1 ≤ 1) (hfec : arg r 5 1 ≤ 4) (haccess : rfAccessBad r = false) :
    rfCfgCheck src r s = none := by
  simp [rfCfgCheck, rfOff, phyAllowed, hon, hn, rfFenced_false hf, hsame, hphy, hnet, hmod, hgfsk, hfec, haccess]

theorem rfCfgRun_unchanged {r : Req} {s : State} (src : Src) (hsame : rfCfgChanges (rfOf s (arg r 0 1)) r = false)
    (hphy : arg r 1 1 = 0) :
    rfCfgRun src r s = ({ payload := r.payload }, logRf 0x701 (arg r 0 1) 0xFFFF (setRf (arg r 0 1) { rfOf s (arg r 0 1) with
      phy := 0, rate := arg r 2 1, modIndex := arg r 3 1, gfsk := arg r 4 1, fec := arg r 5 1, net := arg r 6 1,
      home := arg r 7 1, txPower := argS r 8 1, feTx := argS r 9 2, feRx := argS r 11 2, minBe := arg r 13 1,
      maxBe := arg r 14 1, maxBackoffs := arg r 15 1, unitBackoff := arg r 16 2, cca := argS r 18 1, lbt := arg r 19 1,
      lbtMin := arg r 20 2, lbtRand := arg r 22 2, txOnMax := arg r 24 2, txOffMin := arg r 26 2, maxRetries := arg r 28 1,
      evtLbt := arg r 29 1 } s)) := by
  simp only [rfCfgRun, hsame, hphy, Bool.false_eq_true, if_false]

theorem rfNetCfgCheck_noKeys {r : Req} {s : State} (src : Src) (hon : active s 9 = true) (hk : arg r 0 1 ≤ 1)
    (hch : 1 ≤ arg r 7 1 ∧ arg r 7 1 ≤ 129) (hhq : arg r 22 1 ≤ 127) (hduty : arg r 23 2 ≤ 10000) (hreserve : arg r 25 2 ≤ arg r 23 2)
    (hplan : planFits (arg r 1 4) (arg r 5 2) (arg r 7 1) = true) (h1 : arg r 20 1 = 0xFF) (h2 : arg r 21 1 = 0xFF)
    (hidle : ∀ n ∈ rfNetChannels s (arg r 0 1), rfTransmitting (rfOf s n) = false ∧ rfSending s n = false) :
    rfNetCfgCheck src r s = none := by
  have hsome : arg r 7 1 ≠ 0 := Nat.one_le_iff_ne_zero.mp hch.1
  simpa [rfNetCfgCheck, rfOff, hon, hk, hch.2, hsome, hhq, hduty, hreserve, hplan, h1, h2] using hidle

theorem rfNetCfgRun_noKeys {r : Req} {s : State} (src : Src) (h1 : arg r 20 1 = 0xFF) (h2 : arg r 21 1 = 0xFF) :
    rfNetCfgRun src r s = ({ payload := r.payload },
      let k := arg r 0 1
      let t := setRfNet k { rfNetOf s k with
        f0 := arg r 1 4, spacing := arg r 5 2, nCh := arg r 7 1, pan := arg r 8 2, short := arg r 10 2, eui := arg r 12 8,
        key1 := 0xFF, key2 := 0xFF, hq := arg r 22 1, dutyLimit := arg r 23 2, ackReserve := arg r 25 2 } s
      logEv 0x702 (119 + ((rfNetChannels t k).headD 0)) k [snapN 0xFFFF, 0, 0, 0] t) := by
  simp only [rfNetCfgRun, h1, h2, if_true]

theorem rfLinkUpdateCheck_passes {r : Req} {s : State} {l : Link} (src : Src) (hon : active s 9 = true)
    (hf : isFenced s (119 + arg r 0 1) = false) (hlink : namedLink s r = some l) (hmin : 2 ≤ (arg r 3 4 + 2 ^ 32 - l.e) % 2 ^ 32)
    (hmax : (arg r 3 4 + 2 ^ 32 - l.e) % 2 ^ 32 < 2 ^ 31)
    (hhop : hopBad (rfNetAt s (arg r 0 1)).nCh (arg r 7 17) (arg r 24 1) (arg r 25 1) = false) (hidle : l.update = none) :
    rfLinkUpdateCheck src r s = none := by
  have hahead : ¬ ((arg r 3 4 + 2 ^ 32 - l.e) % 2 ^ 32 < 2 ∨ 2 ^ 31 ≤ (arg r 3 4 + 2 ^ 32 - l.e) % 2 ^ 32) := by omega
  simp only [rfLinkUpdateCheck, firstFail_cons_none, firstFail_nil, rfOff, hon, rfFenced_false hf, hlink, Option.getD_some, hahead,
    hhop, hidle, Bool.not_true, Option.isNone_some, Option.isSome_none, Bool.or_self, decide_false, and_self]

/-- A frame with a good check sequence of the network is counted (R294). -/
theorem receiveRf_broadcast {n e : Nat} {f : RfFrame} {s : State} (hfcs : f.fcsOk = true)
    (hpan : f.pan = (rfNetOf s (rfOf s n).net).pan) (hcast : f.broadcast = true)
    (hsender : senderEui (rfNetOf s (rfOf s n).net) f = some e) :
    receiveRf n f s = checkRf n e f (setRf n { rfOf s n with rx := (rfOf s n).rx + 1 } s) := by
  simp [receiveRf, hfcs, hpan, hcast, hsender]

theorem receiveRf_other {n : Nat} {f : RfFrame} {s : State} (hfcs : f.fcsOk = true)
    (hpan : f.pan = (rfNetOf s (rfOf s n).net).pan) (hcast : f.broadcast = false)
    (hdest : f.dest ≠ (rfNetOf s (rfOf s n).net).short) :
    receiveRf n f s = toNulvo (0x30 + n) f.payload (setRf n { rfOf s n with rx := (rfOf s n).rx + 1 } s) := by
  simp [receiveRf, hfcs, hpan, hcast, hdest]

theorem backoffExpiry_busy {n : Nat} {x : List Int} {a : Access} {s : State} (haccess : (rfOf s n).access = some a)
    (hbusy : rfBusy (rfOf s n) x = true) (hlast : (rfOf s n).maxBackoffs ≤ a.busy + 1) :
    backoffExpiry n x s = completeRf n a.frame 2 s := by
  simp only [backoffExpiry, haccess, hbusy, hlast, if_true]

theorem backoffExpiry_free {n : Nat} {x : List Int} {a : Access} {s : State} (haccess : (rfOf s n).access = some a)
    (hfree : rfBusy (rfOf s n) x = false) (hkey : rfKeyLost s n a.frame = false)
    (hstart : csmaMayStart s n (csmaUs (rfOf s n) a.frame) = true) (hack : a.frame.ack = true) :
    backoffExpiry n x s =
      (let f := { a.frame with sent := a.frame.sent + 1 }
       let t := rfOnAir n 0 f.payload.length (emit (.frame (16 + n) (rfFrameBytes s n f)) s)
       setRf n { rfOf t n with tx := (rfOf t n).tx + 1, access := none, sent := some f } t) := by
  simp only [backoffExpiry, haccess, hfree, hkey, hstart, hack, Bool.false_eq_true, if_true, if_false]

theorem windowTune_idle {n i : Nat} {l : Link} {s : State} (hlink : linkOf (rfOf s n) i = some l) (hsync : l.state = .synced)
    (htuned : (rfOf s n).tuned = none) (hdown : (rfOf s n).downlink = none) (hsent : (rfOf s n).sent = none)
    (hquiet : rfSending s n = false) : windowTune n i s = setRf n { rfOf s n with tuned := some i } s := by
  simp only [windowTune, hlink, hsync, htuned, hdown, hsent, hquiet, Option.isSome_none, Bool.or_self, Bool.false_eq_true, if_false]

theorem applyUpdate_state (l : Link) : (applyUpdate l).state = l.state := by
  unfold applyUpdate
  repeat' split
  all_goals rfl

/-- The window of an acknowledged anchor ends: its link goes on to the next event (R303). -/
theorem linkWindowEnd_hit {n i : Nat} {l : Link} {s : State} (hlink : linkOf (rfOf s n) i = some l)
    (htuned : (rfOf s n).tuned = none) (hhit : l.hit = true) (hsync : l.state = .synced)
    (hfits : tooWide (applyUpdate { l with e := (l.e + 1) % 2 ^ 32, hit := false }) = false) :
    linkWindowEnd n i s = setLink n i (some (applyUpdate { l with e := (l.e + 1) % 2 ^ 32, hit := false })) s := by
  have hstate : (applyUpdate { l with e := (l.e + 1) % 2 ^ 32, hit := false }).state = .synced :=
    (applyUpdate_state _).trans hsync
  simp only [linkWindowEnd, hlink, htuned, hhit, hstate, hfits, reduceCtorEq, Bool.false_eq_true, if_true, if_false]

theorem supervision_lapsed {n i : Nat} {l : Link} {s : State} (hlink : linkOf (rfOf s n) i = some l)
    (hold : (l.sup : Int) * 1000000000 ≤ nsBetween (rfNow s n) l.aLast) : supervision n i s = removeLink n i 1 s := by
  simp only [supervision, hlink, hold, if_true]

/-- Past the limit of the network the duty time of a channel limits data and acknowledgements alike (R291). -/
theorem ackLimited_past {n : Nat} {s : State} (hset : (rfNetAt s n).dutyLimit < 10000)
    (hpast : (rfNetAt s n).dutyLimit * 360000 ≤ dutyUs s n) : ackLimited s n = true := by
  simp [ackLimited, dutyAt, hset, hpast]

theorem dataLimited_past {n : Nat} {s : State} (hset : (rfNetAt s n).dutyLimit < 10000)
    (hpast : (rfNetAt s n).dutyLimit * 360000 ≤ dutyUs s n) : dataLimited s n = true := by
  have hreserved : ((rfNetAt s n).dutyLimit - (rfNetAt s n).ackReserve) * 360000 ≤ dutyUs s n :=
    Nat.le_trans (Nat.mul_le_mul_right _ (Nat.sub_le _ _)) hpast
  simp [dataLimited, dutyAt, hset, hreserved]

theorem deviceAgeing_old {k e : Nat} {d : Device} {s : State} (hdev : devOf (rfNetOf s k) e = some d) (hlink : d.link = none)
    (hold : d.heard + 86400 ≤ tb1Sec s) :
    deviceAgeing k e s = setRfNet k { rfNetOf s k with devices := dropKey (rfNetOf s k).devices e } s := by
  simp only [deviceAgeing, hdev, hlink, hold, Option.isNone_none, and_self, if_true]

end Sys2Proof.Machine

section

open Sys2Proof Sys2Proof.Machine

/-- Settles O19: PD9 is up and the channel in service, the operands are legal, and the run is the change or the reply named. -/
theorem radioCommandsComplete : Obligations.RadioCommandsComplete := by
  unfold Obligations.RadioCommandsComplete
  refine ⟨?config, ?net, ?status, ?linkAdd, ?linkUpdate, ?linkRemove, ?linkRead, ?tx, ?devDelete⟩
  case config =>
    exact completes_of_runCmd (fun _ _ => rfl)
      (fun src _ _ ⟨hon, hn, hf, hsame, hphy, hnet, hmod, hgfsk, hfec, haccess⟩ =>
        rfCfgCheck_unchanged src hon hn hf hsame hphy hnet hmod hgfsk hfec haccess)
      fun src _ _ ⟨_, _, _, hsame, hphy, _⟩ => rfCfgRun_unchanged src hsame hphy
  case net =>
    exact completes_of_runCmd (fun _ _ => rfl)
      (fun src _ _ ⟨hon, hk, hch, hhq, hduty, hreserve, hplan, h1, h2, hidle⟩ =>
        rfNetCfgCheck_noKeys src hon hk hch hhq hduty hreserve hplan h1 h2 hidle)
      fun src _ _ ⟨_, _, _, _, _, _, _, h1, h2, _⟩ => rfNetCfgRun_noKeys src h1 h2
  case status =>
    refine completes_of_runCmd (fun _ _ => rfl) (fun src r s ⟨hon, hn⟩ => ?_) fun _ _ _ _ => rfl
    simp [rfStatusCheck, rfOff, hon, hn]
  case linkAdd =>
    intro t
    refine completes_of_runCmd (fun _ _ => rfl) (fun _ _ _ ⟨hcheck, _⟩ => hcheck) fun src r s ⟨_, hdev⟩ => ?_
    simp only [rfLinkAddRun, hdev]
  case linkUpdate =>
    intro l
    refine completes_of_runCmd (fun _ _ => rfl)
      (fun src r s ⟨hon, _, hf, hlink, hmin, hmax, hhop, hidle⟩ => rfLinkUpdateCheck_passes src hon hf hlink hmin hmax hhop hidle)
      fun src r s ⟨_, _, _, hlink, _⟩ => ?_
    simp only [rfLinkUpdateRun, hlink, Option.getD_some]
  case linkRemove =>
    refine completes_of_runCmd (fun _ _ => rfl) (fun src r s ⟨hon, _, hf, hlink⟩ => ?_) fun _ _ _ _ => rfl
    simpa [rfLinkRemoveCheck, rfOff, hon, rfFenced_false hf, ← Option.isSome_iff_ne_none] using hlink
  case linkRead =>
    refine completes_of_runCmd (fun _ _ => rfl) (fun src r s ⟨hon, hlink⟩ => ?_) fun _ _ _ _ => rfl
    simpa [rfLinkReadCheck, rfOff, hon, ← Option.isSome_iff_ne_none] using hlink
  case tx =>
    intro q i t
    refine completes_of_runCmd (fun _ _ => rfl) (fun src r s ⟨_, hon, hn, hf, hphy, hair, _⟩ => ?_) ?_
    · simp [rfTxCheck, rfOff, hon, hn, rfFenced_false hf, hphy, hair]
    · rintro src r s ⟨rfl, -, -, -, -, -, hroom⟩
      simp only [rfTxRun, hroom]
  case devDelete =>
    intro d
    refine completes_of_runCmd (fun _ _ => rfl) (fun src r s ⟨hon, hk, hdev, hlink⟩ => ?_) fun _ _ _ _ => rfl
    simp [rfDevDeleteCheck, rfOff, hon, hk, hdev, hlink]

/-- Settles O20: the channel runs, and its row is the branch that its access, its link or its device names. -/
theorem radioEventsTakeEffect : Obligations.RadioEventsTakeEffect := by
  unfold Obligations.RadioEventsTakeEffect
  have runs {what : String} {n : Nat} {s t u : State} (hn : n < 6) (hruns : rfRuns s n = true) (h : t = u) :
      within what n 6 (if rfRuns s n then t else s) = .next u := by
    rw [within_next _ _ hn, if_pos hruns, h]
  have receives {n : Nat} {f : RfFrame} {s u : State} (hn : n < 6) (hruns : rfRuns s n = true) (hon : active s 9 = true)
      (h : receiveRf n f s = u) : exec (.rfFrameReceive n f) s = .next u :=
    (within_next _ _ hn).trans (congrArg Host.Outcome.next ((if_pos (by rw [hruns, hon, Bool.and_self])).trans h))
  refine ⟨?broadcast, ?other, ?busy, ?free, ?acked, ?failed, ?tune, ?window, ?supervision, ?duty, ?device⟩
  case broadcast =>
    exact fun n f e s hn hruns hon hfcs hpan hcast hsender => receives hn hruns hon (receiveRf_broadcast hfcs hpan hcast hsender)
  case other =>
    exact fun n f s hn hruns hon hfcs hpan hcast hdest => receives hn hruns hon (receiveRf_other hfcs hpan hcast hdest)
  case busy =>
    rintro n y z x a s hn hruns rfl haccess hbusy hlast
    exact runs hn hruns (backoffExpiry_busy haccess hbusy hlast)
  case free =>
    rintro n y z x a s hn hruns rfl haccess hfree hkey hstart hack
    exact runs hn hruns (backoffExpiry_free haccess hfree hkey hstart hack)
  case acked =>
    intro n f s hn hruns hdown hsent
    refine runs hn hruns ?_
    simp only [rfAcked, hdown, hsent]
  case failed =>
    intro n f s hn hruns hdown hsent hlast
    refine runs hn hruns ?_
    simp only [rfNotAcked, hdown, hsent, hlast, if_true]
  case tune =>
    exact fun n i l s hn hruns hlink hsync htuned hdown hsent hquiet =>
      runs hn hruns (windowTune_idle hlink hsync htuned hdown hsent hquiet)
  case window =>
    exact fun n i l s hn hruns hlink htuned hhit hsync hfits =>
      runs hn hruns (congrArg (startAccess n) (linkWindowEnd_hit hlink htuned hhit hsync hfits))
  case supervision => exact fun n i l s hn hruns hlink hold => runs hn hruns (supervision_lapsed hlink hold)
  case duty =>
    intro n s hn hruns hset hpast
    refine ⟨runs hn hruns ?_, runs hn hruns ?_⟩
    · simp only [dutyChange, ackLimited_past hset hpast, if_true]
    · simp only [dutyChange, dataLimited_past hset hpast, Bool.false_eq_true, if_false]
  case device =>
    intro k e d s hk hup hon hdev hlink hold
    refine (within_next _ _ hk).trans (congrArg Host.Outcome.next ((if_pos ?_).trans (deviceAgeing_old hdev hlink hold)))
    rw [hup, hon, Bool.and_self]

end

/-! ### The ingest commands (R313–R358) -/

namespace Sys2Proof.Machine

open Sys2Proof

theorem fipOff_false {s : State} {n : Nat} (hon : active s (fipDomain n) = true) : fipOff s n = false := by
  simp [fipOff, hon]

theorem fipCfgCheck_passes {r : Req} {s : State} (src : Src) (hn : arg r 0 1 < 16) (hon : active s (fipDomain (arg r 0 1)) = true)
    (hf : isFenced s (8 + arg r 0 1) = false) (hhq : arg r 1 1 < 128) (huhq : arg r 2 1 < 128 ∨ arg r 2 1 = 0xFF)
    (hevict : arg r 3 1 ≤ 1) (hunknown : arg r 4 1 ≤ 1) (hidle : (fipOf s (arg r 0 1)).flights = []) :
    fipCfgCheck src r s = none := by
  have huhq' : 128 ≤ arg r 2 1 → arg r 2 1 = 255 := by omega
  simpa [fipCfgCheck, fipOff_false hon, hn, hf, hhq, hevict, hunknown, hidle] using huhq'

theorem ingSteerSetCheck_passes {r : Req} {s : State} (src : Src)
    (hmap : ∀ i < 64, arg r i 1 < 16 ∧ active s (fipDomain (arg r i 1)) = true) (hmin : 8 ≤ arg r 64 1) (hmax : arg r 64 1 ≤ 128) :
    ingSteerSetCheck src r s = none := by
  have hoff : ((mapOf r).any (fipOff s)) = false := by
    simpa [mapOf] using fun i hi => fipOff_false (hmap i hi).2
  have hrange : ((mapOf r).any fun n => decide (16 ≤ n)) = false := by
    simpa [mapOf] using fun i hi => (hmap i hi).1
  simp [ingSteerSetCheck, hoff, hrange, hmin, hmax]

theorem ingPortCfgCheck_passes {r : Req} {s : State} {u : Nat} (src : Src) (hunit : portUnit (arg r 0 1) = some u)
    (hf : isFenced s u = false) (hon : portNeeds7 (arg r 0 1) = true → active s 7 = true) (hframing : arg r 1 1 ≤ 1)
    (hack : arg r 2 1 ≤ 1) (hpfc : arg r 5 1 ≤ 7) (hidle : anyFlight s = false) : ingPortCfgCheck src r s = none := by
  simpa [ingPortCfgCheck, hunit, hf, hframing, hack, hpfc, hidle] using hon

theorem ingParseSetCheck_passes {r : Req} {s : State} (src : Src) (ht : arg r 0 1 < 16) (hn : arg r 1 1 ≤ 32)
    (hkinds : ∀ k < arg r 1 1, (objectOf r k).kind ≤ 2) (hidle : anyFlight s = false) : ingParseSetCheck src r s = none := by
  simpa [ingParseSetCheck, ht, hn, hidle] using hkinds

theorem ingAckTemplateCheck_passes {r : Req} {s : State} (src : Src) (ht : arg r 0 1 < 16) (hsec : arg r 1 1 ≤ 1)
    (hmin : 1 ≤ arg r 2 1) (hmax : arg r 2 1 ≤ 96) (hidle : anyFlight s = false) : ingAckTemplateCheck src r s = none := by
  have hsome : arg r 2 1 ≠ 0 := Nat.one_le_iff_ne_zero.mp hmin
  simp [ingAckTemplateCheck, ht, hsec, hsome, hmax, hidle]

/-- A VALID context under its own title needs no removal from the directory (R339). -/
theorem ctxWriteRun_sameTitle {r : Req} {s t : State} (src : Src) (hvalid : ctxValid (ctxWritten r (ctxOf s (arg r 0 4))) = true)
    (htitle : ctxTitle (ctxWritten r (ctxOf s (arg r 0 4))) = ctxTitle (ctxOf s (arg r 0 4)))
    (henter : dirInsert
      { title := ctxTitle (ctxWritten r (ctxOf s (arg r 0 4))), ctx := arg r 0 4,
        gen := ctxGen (ctxWritten r (ctxOf s (arg r 0 4))) } s = some t) :
    ctxWriteRun src r s = ({ payload := le8 (ctxGen (ctxWritten r (ctxOf s (arg r 0 4)))) },
      membersUpdate (arg r 0 4) (ctxOf s (arg r 0 4)) (ctxWritten r (ctxOf s (arg r 0 4)))
        (setCtx (arg r 0 4) (ctxWritten r (ctxOf s (arg r 0 4))) t)) := by
  rw [htitle] at henter
  simp only [ctxWriteRun, hvalid, htitle, and_self, if_true, henter]

theorem ctxWriteRun_noRoom {r : Req} {s : State} (src : Src) (hvalid : ctxValid (ctxWritten r (ctxOf s (arg r 0 4))) = true)
    (hfull : dirInsert
      { title := ctxTitle (ctxWritten r (ctxOf s (arg r 0 4))), ctx := arg r 0 4,
        gen := ctxGen (ctxWritten r (ctxOf s (arg r 0 4))) }
        (if ctxTitle (ctxWritten r (ctxOf s (arg r 0 4))) = ctxTitle (ctxOf s (arg r 0 4)) then s
         else dirRemove (ctxTitle (ctxOf s (arg r 0 4))) (arg r 0 4) s) = none) :
    ctxWriteRun src r s = (fail .nores, logEv 0x804 0xFFFF 0xFFFF [snapN (arg r 0 4), 0, 0] s) := by
  simp only [ctxWriteRun, hvalid, true_and, if_true, hfull]

theorem ctxCheck_passes {r : Req} {s : State} (src : Src) (hon : active s 6 = true) (hf : isFenced s 92 = false)
    (hi : arg r 0 4 < 2097152) : ctxCheck src r s = none := by
  simp [ctxCheck, ctxGate, hon, hf, hi]

theorem jtReadCheck_passes {r : Req} {s : State} (src : Src) (hn : arg r 0 1 < 16) (hon : active s (fipDomain (arg r 0 1)) = true)
    (hf : isFenced s (8 + arg r 0 1) = false) (hmin : 1 ≤ arg r 3 2) (hmax : arg r 3 2 ≤ 1023) (hend : arg r 1 2 + arg r 3 2 ≤ 8192) :
    jtReadCheck src r s = none := by
  have hsome : arg r 3 2 ≠ 0 := Nat.one_le_iff_ne_zero.mp hmin
  simp [jtReadCheck, fipOff_false hon, hn, hf, hsome, hmax, hend]

/-- A submitted frame that steering finds room for waits in the FIFO of its pipeline (R312). -/
theorem ingSubmitRun_steered {r : Req} {n i f : Nat} {e : Entry} {s : State} (hentry : entryAt s n i = some e)
    (hsteer : steerTo s (submitDesc n i r e.fetched e.untrusted).steer (submitDesc n i r e.fetched e.untrusted).bytes.length = some f) :
    ingSubmitRun (.sq n i) r s = ({ status := .accepted },
      claimEntry (some (n, i)) (8 + f) (placeIn f (submitDesc n i r e.fetched e.untrusted) s)) := by
  simp only [ingSubmitRun, hentry, hsteer]
  rfl

theorem dxUplinkCfgCheck_passes {r : Req} {s : State} (src : Src) (hon : active s 7 = true) (he : arg r 1 1 < 4)
    (hf : isFenced s (93 + arg r 1 1) = false) (hhq : arg r 0 1 < 128) (hslot : dtlsSlotBad (arg r 20 2) = false)
    (hmax : 512 ≤ arg r 22 2 ∧ arg r 22 2 ≤ 8960) (htimeout : 100 ≤ arg r 24 4 ∧ arg r 24 4 ≤ 100000)
    (hretry : 10 ≤ arg r 28 2 ∧ arg r 28 2 ≤ 10000) : dxUplinkCfgCheck src r s = none := by
  simp [dxUplinkCfgCheck, hon, he, hf, hhq, hslot, hmax, htimeout, hretry]

theorem endRequest_idle {n : Nat} (answered : Bool) {s : State} (hidle : (smbOf s n).requests = []) : endRequest n answered s = s := by
  simp only [endRequest, hidle]

end Sys2Proof.Machine

section

open Sys2Proof Sys2Proof.Machine

/-- Settles O21: the pipelines, ports or units named are in service, the operands legal, and the run is the change or the reply named. -/
theorem ingestCommandsComplete : Obligations.IngestCommandsComplete := by
  unfold Obligations.IngestCommandsComplete
  refine ⟨?status, ?config, ?steer, ?port, ?parse, ?ackTemplate, ?write, ?noRoom, ?read, ?delete, ?invalidate, ?jtRead, ?submit, ?peer,
    ?uplink, ?serial, ?serialTx⟩
  case status =>
    refine completes_of_runCmd (fun _ _ => rfl) (fun src r s ⟨hn, hon⟩ => ?_) fun _ _ _ _ => rfl
    simp [ingStatusCheck, fipOff_false hon, hn]
  case config =>
    exact completes_of_runCmd (fun _ _ => rfl)
      (fun src _ _ ⟨hn, hon, hf, hhq, huhq, hevict, hunknown, hidle⟩ =>
        fipCfgCheck_passes src hn hon hf hhq huhq hevict hunknown hidle) fun _ _ _ _ => rfl
  case steer =>
    exact completes_of_runCmd (fun _ _ => rfl) (fun src _ _ ⟨hmap, hmin, hmax⟩ => ingSteerSetCheck_passes src hmap hmin hmax)
      fun _ _ _ _ => rfl
  case port =>
    exact completes_of_runCmd (fun _ _ => rfl)
      (fun src _ _ ⟨⟨_, hunit, hf⟩, hon, hframing, hack, hpfc, hidle⟩ =>
        ingPortCfgCheck_passes src hunit hf hon hframing hack hpfc hidle) fun _ _ _ _ => rfl
  case parse =>
    exact completes_of_runCmd (fun _ _ => rfl)
      (fun src _ _ ⟨ht, hn, hkinds, hidle⟩ => ingParseSetCheck_passes src ht hn hkinds hidle) fun _ _ _ _ => rfl
  case ackTemplate =>
    exact completes_of_runCmd (fun _ _ => rfl)
      (fun src _ _ ⟨ht, hsec, hmin, hmax, hidle⟩ => ingAckTemplateCheck_passes src ht hsec hmin hmax hidle) fun _ _ _ _ => rfl
  case write =>
    intro t
    exact completes_of_runCmd (fun _ _ => rfl) (fun _ _ _ ⟨hcheck, _⟩ => hcheck)
      fun src _ _ ⟨_, hvalid, htitle, henter⟩ => ctxWriteRun_sameTitle src hvalid htitle henter
  case noRoom =>
    exact completes_of_runCmd (fun _ _ => rfl) (fun _ _ _ ⟨hcheck, _⟩ => hcheck)
      fun src _ _ ⟨_, hvalid, hfull⟩ => ctxWriteRun_noRoom src hvalid hfull
  case read => exact completes_of_runCmd (fun _ _ => rfl) (fun src _ _ ⟨hon, hf, hi⟩ => ctxCheck_passes src hon hf hi) fun _ _ _ _ => rfl
  case delete =>
    exact completes_of_runCmd (fun _ _ => rfl) (fun src _ _ ⟨hon, hf, hi⟩ => ctxCheck_passes src hon hf hi) fun _ _ _ _ => rfl
  case invalidate =>
    refine completes_of_runCmd (fun _ _ => rfl) (fun src r s ⟨hone, hi⟩ => ?_) fun src r s ⟨hone, _⟩ => ?_
    · simp [jtInvalidateCheck, hone, hi]
    · simp [jtInvalidateRun, hone]
  case jtRead =>
    exact completes_of_runCmd (fun _ _ => rfl)
      (fun src _ _ ⟨hn, hon, hf, hmin, hmax, hend⟩ => jtReadCheck_passes src hn hon hf hmin hmax hend) fun _ _ _ _ => rfl
  case submit =>
    rintro n i e f src r s hready ⟨rfl, hentry, hwaits, hcheck, hsteer⟩
    change (if submitWaits (.sq n i) s then .next s else runCmd 0x080C ingSubmitCheck ingSubmitRun (.sq n i) s) = _
    rw [hwaits, if_neg Bool.false_ne_true, runCmd_passes hready hcheck, ingSubmitRun_steered hentry hsteer]
  case peer =>
    refine completes_of_runCmd (fun _ _ => rfl) (fun src r s ⟨hon, hp, hen, hslot⟩ => ?_) fun _ _ _ _ => rfl
    simp [dxPeerCfgCheck, hon, hp, hen, hslot]
  case uplink =>
    exact completes_of_runCmd (fun _ _ => rfl)
      (fun src _ _ ⟨hon, he, hf, hhq, hslot, hmin, hmax, htmin, htmax, hrmin, hrmax⟩ =>
        dxUplinkCfgCheck_passes src hon he hf hhq hslot ⟨hmin, hmax⟩ ⟨htmin, htmax⟩ ⟨hrmin, hrmax⟩) fun _ _ _ _ => rfl
  case serial =>
    refine completes_of_runCmd (fun _ _ => rfl) (fun src r s ⟨hon, hn, hf, hbad, hidle⟩ => ?_) fun _ _ _ _ => rfl
    simp [smbCfgCheck, hon, hn, hf, hbad, hidle]
  case serialTx =>
    intro q i
    refine completes_of_runCmd (fun _ _ => rfl) (fun src r s ⟨_, hon, hn, hf, hmode, _⟩ => ?_) ?_
    · simp [smbTxCheck, hon, hn, hf, hmode]
    · rintro src r s ⟨rfl, -, -, -, -, hidle⟩
      simp only [smbTxRun, endRequest_idle false hidle, hidle, List.nil_append]
      rfl

end

/-! ### The events of ingest (R314–R395) -/

namespace Sys2Proof.Machine

open Sys2Proof

/-- A serial frame that fails its framing, its check or, in bus mode, has collided is counted and logged (R314). -/
theorem smbReceive_bad {n addr : Nat} {ok coll apdu : Bool} {b : Bytes} {s : State} (hup : fabricUp s = true) (hon : active s 7 = true)
    (hf : isFenced s (99 + n) = false) (hmode : (smbOf s n).mode ≠ 0) (hbad : ok = false ∨ (coll = true ∧ (smbOf s n).mode = 2)) :
    smbReceive n ok coll apdu addr b s = logEv 0x80C (99 + n) 0xFFFF [0, 0, snapN (0x10 + n)]
      (setSmb n { smbOf s n with errors := ((smbOf s n).errors + 1) % 2 ^ 32 } s) := by
  have hfails : (ok && !(coll && (smbOf s n).mode == 2)) = false := by
    obtain h | ⟨hcoll, hbus⟩ := hbad
    · simp [h]
    · simp [hcoll, hbus]
  have hserves : (fabricUp s && active s 7 && !isFenced s (99 + n) && (smbOf s n).mode != 0) = true := by
    simp [hup, hon, hf, hmode]
  simp only [smbReceive, hserves, hfails, Bool.false_eq_true, if_true, if_false]

theorem smbReceive_noApdu {n addr : Nat} {coll : Bool} {b : Bytes} {s : State} (hup : fabricUp s = true) (hon : active s 7 = true)
    (hf : isFenced s (99 + n) = false) (hmode : (smbOf s n).mode ≠ 0) (hline : coll = true → (smbOf s n).mode ≠ 2) :
    smbReceive n true coll false addr b s = toNulvo (0x10 + n) b (endRequest n true s) := by
  have hgood : (true && !(coll && (smbOf s n).mode == 2)) = true := by
    cases coll <;> simp_all
  have hserves : (fabricUp s && active s 7 && !isFenced s (99 + n) && (smbOf s n).mode != 0) = true := by
    simp [hup, hon, hf, hmode]
  simp only [smbReceive, hserves, hgood, Bool.not_false, Bool.true_or, if_true]

theorem dataReceive_otherPort {n u : Nat} {a b : Bytes} {s : State} (hruns : ethRuns s n = true) (hu : u ≠ udpPort s (0x40 + n)) :
    dataReceive n a u b s = toNulvo (0x40 + n) b s := by
  simp only [dataReceive, hruns, hu, ne_eq, not_false_eq_true, if_true]

theorem dataReceive_record {n i : Nat} {a b : Bytes} {s : State} (hruns : ethRuns s n = true) (hrec : dtlsRecord b = true)
    (hslot : dtlsSlotOf s a = some i) :
    dataReceive n a (udpPort s (0x40 + n)) b s =
      queueSession i (.openRec i b (some { eth := n, addr := a, rx := tbVal s 0, untrusted := timeUntrusted s })) s := by
  simp only [dataReceive, hruns, hrec, hslot, ne_eq, not_true, if_true, if_false]

/-- A datagram for the port of the uplink that is no DTLS record is an envelope in clear (R355). -/
theorem dataReceive_clear {n : Nat} {a b : Bytes} {s : State} (hruns : ethRuns s n = true) (hrec : dtlsRecord b = false) :
    dataReceive n a (udpPort s (0x40 + n)) b s =
      envelopeReceive none { eth := n, addr := a, rx := tbVal s 0, untrusted := timeUntrusted s } b s := by
  simp only [dataReceive, hruns, hrec, ne_eq, not_true, Bool.false_eq_true, if_true, if_false]

theorem envelopeReceive_unknown {d : DxFrom} {b : Bytes} {s : State} (slot : Option Nat)
    (hpeer : peerOf s (beNat (fieldB b 4 8)) d.addr = none) : envelopeReceive slot d b s = rejectEnvelope d.eth s := by
  simp only [envelopeReceive, hpeer]

/-- A good envelope of a peer without DTLS is taken. -/
theorem envelopeReceive_good {d : DxFrom} {b : Bytes} {p : Nat} {x : Peer} {l : List (Bytes × Bytes)} {s : State}
    (hpeer : peerOf s (beNat (fieldB b 4 8)) d.addr = some (p, x)) (hclear : x.dtls = 0xFFFF)
    (hframes : innerFrames (fieldU b 16 2) (b.drop 32) = some l) (hhead : headerOk b 1 = true)
    (hsize : 60 ≤ b.length ∧ b.length ≤ 8960) (hcount : 1 ≤ fieldU b 16 2 ∧ fieldU b 16 2 ≤ 255) :
    envelopeReceive none d b s = takeEnvelope
      { eth := d.eth, peer := p, seq := fieldU b 12 4, frames := l, size := b.length, rx := d.rx, untrusted := d.untrusted } s := by
  have hfits : dtlsFits x none = true := by simp [dtlsFits, hclear]
  simp only [envelopeReceive, hpeer, hframes, hhead, hsize, hcount, hfits, and_self, decide_true, Bool.and_self, if_true]

theorem takeEnvelope_entered {e : EthWait} {s t : State} (hempty : s.ingest.ingress = []) (henter : enterEnvelope e s = some t) :
    takeEnvelope e s = t := by
  simp only [takeEnvelope, hempty, List.isEmpty_nil, if_true, henter]

/-- A repeated envelope whose answer is there is answered again (R348). -/
theorem enterEnvelope_repeat {e : EthWait} {r : ReplyEntry} {i : Nat} {s : State}
    (hfound : findReply s (.envelope e.peer e.seq) none = some (i, r)) (hsent : r.sent = true) :
    enterEnvelope e s = some (queueAck r s) := by
  simp only [enterEnvelope, hfound, hsent, if_true]

theorem enterEnvelope_placed {e : EthWait} {i : Nat} {s s' t : State} (hnew : findReply s (.envelope e.peer e.seq) none = none)
    (hreserve : reserveReply { key := .envelope e.peer e.seq, port := 0x40 + e.eth, addr := e.peer, open_ := e.frames.length } s
      = some (i, s')) (hplace : placeAll (innerDescs e i 0 e.frames) s' = some t) : enterEnvelope e s = some t := by
  simp only [enterEnvelope, hnew, hreserve, hplace]

/-- An envelope behind others waits in the ingress buffer while it has room. -/
theorem takeEnvelope_waits {w : EthWait} {s : State} (hbehind : s.ingest.ingress ≠ []) (hroom : ingressUsed s + w.size ≤ 1048576) :
    takeEnvelope w s = setPause { s with ingest := { s.ingest with ingress := s.ingest.ingress ++ [w] } } := by
  have hsome : ¬ s.ingest.ingress.isEmpty = true := by simpa using hbehind
  simp only [takeEnvelope, hsome, hroom, if_true, Bool.false_eq_true, if_false]

theorem ackReceive_found {n : Nat} {b : Bytes} {e : Envelope} {s : State} (hruns : ethRuns s n = true) (hhead : headerOk b 2 = true)
    (hlen : b.length = 32) (hcount : fieldU b 16 2 = 0)
    (hfound : (s.ingest.uplink.unacked.find? fun x => x.seq == fieldU b 12 4) = some e) (heth : s.ingest.uplink.eth = n) :
    ackReceive n b s = deliverRecords e.records (setUplink { s.ingest.uplink with
      unacked := s.ingest.uplink.unacked.filter fun x => x.seq != fieldU b 12 4 } s) := by
  simp only [ackReceive, hruns, hhead, hlen, hcount, hfound, heth, beq_self_eq_true, Bool.and_self, if_true]

theorem retransmitEnvelope_again {k : Nat} {e : Envelope} {s : State} (hruns : uplinkRuns s = true)
    (hfound : (s.ingest.uplink.unacked.find? fun x => x.seq == k) = some e) (hquiet : e.attempts ≠ 7) :
    retransmitEnvelope k s = sendEnvelope s.ingest.uplink e.bytes (setUplink { s.ingest.uplink with
      unacked := s.ingest.uplink.unacked.map fun x => if x.seq = k then
        { e with attempts := e.attempts + 1, wait := min 10000 (2 * e.wait) } else x } s) := by
  have hno : ¬ e.attempts + 1 = 8 := by omega
  simp only [retransmitEnvelope, hfound, hruns, hno, if_true, if_false]

/-- The head frame of a FIFO is admitted once its reservations and a tag are there (R321). -/
theorem admitFrame_admitted {n tag : Nat} {d : IngDesc} {rest : List IngDesc} {fl : Flight} {s t : State} (hmay : mayAdmit s n = true)
    (hhead : (fipOf s n).fifo = d :: rest) (htag : freeTag (fipOf s n) = some tag) (hreserve : reserveAll n d s = .ok (fl, t)) :
    admitFrame n s = enterStages n { fl with tag := tag, seq := t.ingest.nextSeq }
      (setFip n { fipOf t n with
          fifo := rest, flights := (fipOf t n).flights ++ [{ fl with tag := tag, seq := t.ingest.nextSeq }],
          admitted := (fipOf t n).admitted + 1 }
        { t with ingest := { t.ingest with nextSeq := nextIngestSeq t.ingest.nextSeq } }) := by
  simp only [admitFrame, hmay, hhead, htag, hreserve, if_true]
  rfl

theorem admitFrame_closed {n tag : Nat} {d : IngDesc} {rest : List IngDesc} {c : Credit} {s t : State} (hmay : mayAdmit s n = true)
    (hhead : (fipOf s n).fifo = d :: rest) (htag : freeTag (fipOf s n) = some tag) (hreserve : reserveAll n d s = .error (c, t)) :
    admitFrame n s = closeAdmission n c { desc := d } t := by
  simp only [admitFrame, hmay, hhead, htag, hreserve, if_true]

theorem reopen_cells {n q c : Nat} {s : State} (hup : fabricUp s = true) (hon : active s (fipDomain n) = true)
    (hclosed : (fipOf s n).closed = some (.cells q c true)) (hen : (hqOf s q).en = true) (hback : c + 4096 ≤ s.host.pondFree) :
    reopen n s = logIng 0x801 n 0xFFFF {} (setFip n { fipOf s n with closed := none } s) := by
  have hcredit : admitCreditBack s (.cells q c true) = true := by simp [admitCreditBack, hen, hback]
  simp only [reopen, hclosed, hup, hon, hcredit, Bool.and_self, if_true]

theorem frameValidate_serves {n tag : Nat} {fl : Flight} {s : State} (hfl : flightOf s n tag = some fl)
    (hverdict : fl.verdict.isSome = true) (hserves : fipServes s n = true) : frameValidate n tag s = validateFrame n fl s := by
  simp only [frameValidate, hfl, hverdict, hserves, Bool.and_self, if_true]

theorem flightOf_tag {s : State} {n tag : Nat} {fl : Flight} (h : flightOf s n tag = some fl) : fl.tag = tag := by
  simpa using List.find?_some h

theorem validateFrame_rewritten {n : Nat} {fl : Flight} {s : State} (hgen : ctxGen (ctxOf s fl.ctx) ≠ ctxGen fl.seen) :
    validateFrame n fl s = discardFrame n fl .discarded (logIng 0x805 n fl.tag fl s) :=
  if_pos hgen

/-- A frame that is no READING, in a context for local use, is one EVENT record (R395). -/
theorem validateFrame_event {n : Nat} {fl : Flight} {s : State} (hgen : ctxGen (ctxOf s fl.ctx) = ctxGen fl.seen)
    (hentry : fl.entry = none) (hparse : ctxParse (ctxOf s fl.ctx) = 0xFF)
    (hevent : (parseApdu [] (fl.plain.getD [])).readings = none) (hlocal : ctxLocal (ctxOf s fl.ctx) = true)
    (huplink : ctxUplink (ctxOf s fl.ctx) = false) :
    validateFrame n fl s =
      (let b := fl.plain.getD []
       let c := (frameClock (ctxOf s fl.ctx) (parseApdu [] b).meterTime (rxSeconds s fl.desc.rxTb0)).1
       let t := applyMsgs fl.ctx fl [] (setCtx fl.ctx { c with seq2 := (c.seq2 + 1) % 2 ^ 32 } s)
       finishFrame n fl [harvestRecord (frameHeader fl 3 (frameFlags fl false) (ingestFlags fl) true)
           (readingHead b.length (parseApdu [] b) fl ++ b)] [] false (if fl.verdict = some .dup then 2 else 0) t) := by
  have hsame : ¬ ctxGen (ctxOf s fl.ctx) ≠ ctxGen fl.seen := fun h => h hgen
  have hack (t : State) : ackBytes t fl = none := by simp [ackBytes, hentry]
  have hstore (t : State) : storeAck fl none t = t := by simp only [storeAck, hentry]
  have halarm : alarmOf (ctxOf s fl.ctx) [] = none := rfl
  simp only [validateFrame, hsame, hparse, hevent, hack, hstore, halarm, hlocal, huplink, Option.getD_none, List.length_nil,
    List.take_nil, List.any_nil, Nat.not_lt_zero, decide_false, Option.isSome_none, Bool.false_eq_true, if_true, if_false, b2n,
    Nat.mul_zero, Nat.add_zero, List.append_nil]

theorem recordDelivered_found {q k i : Nat} {e : ReplyEntry} {s : State}
    (hfound : (s.host.delivered.find? fun x => x.1 == q && x.2.1 == k) = some (q, k, i)) (he : replyOf s i = some e) :
    recordDelivered q k s = settleReply i (setReply i (some { e with records := e.records - 1 })
      { s with host := { s.host with delivered := s.host.delivered.filter fun y => y != (q, k, i) } }) := by
  have he' : replyOf { s with host := { s.host with delivered := s.host.delivered.filter fun y => y != (q, k, i) } } i = some e := he
  simp only [recordDelivered, hfound, recordDone, he']

end Sys2Proof.Machine

section

open Sys2Proof Sys2Proof.Machine

/-- Settles O22: each event meets its condition and is then the branch of its port, its pipeline or the reply store that is named. -/
theorem ingestEventsTakeEffect : Obligations.IngestEventsTakeEffect := by
  unfold Obligations.IngestEventsTakeEffect
  have datagram {n u : Nat} {a b : Bytes} {s t : State} (hn : n < 4) (h : dataReceive n a u b s = t) :
      exec (.dxDataReceive n a u true true b) s = .next t := (within_next _ _ hn).trans (congrArg Host.Outcome.next h)
  refine ⟨?bad, ?noApdu, ?otherPort, ?unknown, ?dtls, ?repeated, ?placed, ?waits, ?ack, ?timeout, ?again, ?takes, ?close, ?reopened,
    ?event, ?rewritten, ?learn, ?scrub, ?delivered, ?expiry⟩
  case bad =>
    exact fun n ok coll apdu a b s hn hup hon hf hmode hbad =>
      (within_next _ _ hn).trans (congrArg Host.Outcome.next (smbReceive_bad hup hon hf hmode hbad))
  case noApdu =>
    exact fun n coll a b s hn hup hon hf hmode hline =>
      (within_next _ _ hn).trans (congrArg Host.Outcome.next (smbReceive_noApdu hup hon hf hmode hline))
  case otherPort => exact fun n a u b s hn hruns hu => datagram hn (dataReceive_otherPort hruns hu)
  case unknown =>
    exact fun n a b s hn hruns hrec hpeer => datagram hn ((dataReceive_clear hruns hrec).trans (envelopeReceive_unknown none hpeer))
  case dtls => exact fun n a b i s hn hruns hrec hslot => datagram hn (dataReceive_record hruns hrec hslot)
  case repeated =>
    intro n a b p x l i e s hn hruns hrec hpeer hclear hframes hhead hsize hcount hempty hfound hsent
    refine datagram hn ((dataReceive_clear hruns hrec).trans ?_)
    rw [envelopeReceive_good hpeer hclear hframes hhead hsize hcount]
    exact takeEnvelope_entered hempty (enterEnvelope_repeat hfound hsent)
  case placed =>
    rintro n a b p x l i w s' t s hn hruns hrec hpeer hclear hframes hhead hsize hcount hempty hnew rfl hreserve hplace
    refine datagram hn ((dataReceive_clear hruns hrec).trans ?_)
    rw [envelopeReceive_good hpeer hclear hframes hhead hsize hcount]
    exact takeEnvelope_entered hempty (enterEnvelope_placed hnew hreserve hplace)
  case waits => exact fun w s hbehind hroom => takeEnvelope_waits hbehind hroom
  case ack =>
    exact fun n b e s hn hruns hhead hlen hcount hfound heth =>
      (within_next _ _ hn).trans (congrArg Host.Outcome.next (ackReceive_found hruns hhead hlen hcount hfound heth))
  case timeout => exact fun s hruns hinner hroom => congrArg Host.Outcome.next (if_pos (by simp [hruns, hinner, hroom]))
  case again => exact fun k e s hruns hfound hquiet => congrArg Host.Outcome.next (retransmitEnvelope_again hruns hfound hquiet)
  case takes =>
    exact fun n d rest tag fl t s hn hmay hhead htag hreserve =>
      (within_next _ _ hn).trans (congrArg Host.Outcome.next (admitFrame_admitted hmay hhead htag hreserve))
  case close =>
    exact fun n d rest tag c t s hn hmay hhead htag hreserve =>
      (within_next _ _ hn).trans (congrArg Host.Outcome.next (admitFrame_closed hmay hhead htag hreserve))
  case reopened =>
    exact fun n q c s hn hup hon hclosed hen hback =>
      (within_next _ _ hn).trans (congrArg Host.Outcome.next (reopen_cells hup hon hclosed hen hback))
  case event =>
    intro n fl tag s hn hfl hverdict hserves hentry hgen hparse hevent hlocal huplink
    refine (within_next _ _ hn).trans (congrArg Host.Outcome.next ((frameValidate_serves hfl hverdict hserves).trans ?_))
    exact validateFrame_event hgen hentry hparse hevent hlocal huplink
  case rewritten =>
    intro n fl tag s hn hfl hverdict hserves hgen
    refine (within_next _ _ hn).trans (congrArg Host.Outcome.next ((frameValidate_serves hfl hverdict hserves).trans ?_))
    rw [validateFrame_rewritten hgen, flightOf_tag hfl]
  case learn =>
    intro n k c g r s hn hserves hlearn
    refine (within_next _ _ hn).trans (congrArg Host.Outcome.next ((if_pos hserves).trans ?_))
    simp only [junctionLearn, hlearn]
  case scrub => exact fun n s hn hserves => (within_next _ _ hn).trans (congrArg Host.Outcome.next (if_pos ⟨hserves, rfl⟩))
  case delivered =>
    exact fun q k i e s hq hup hfound he =>
      (within_next _ _ hq).trans (congrArg Host.Outcome.next ((if_pos hup).trans (recordDelivered_found hfound he)))
  case expiry =>
    intro i e s hup he hsent
    refine congrArg Host.Outcome.next ((if_pos hup).trans ?_)
    simp only [replyExpiry, he, hsent, if_true]

end

/-! ### Lanes, session slots and revocation (R362–R390) -/

namespace Sys2Proof.Machine

open Sys2Proof

/-- The rows of sessions ask for PD5 only. -/
theorem sessCheck_passes {s : State} (src : Src) (r : Req) (hon : active s 5 = true) : sessCheck src r s = none := by
  simp [sessCheck, pd5Check, hon]

/-- A configuration that names one pipeline changes this one. -/
theorem borrowed_one {n : Nat} (hn : n < 16) : ((List.range 16).filter fun i => n == 0xFF || i == n) = [n] := by
  revert n
  decide

theorem clBorrowCfgRun_one {r : Req} {s : State} (src : Src) (hn : arg r 0 1 < 16) :
    clBorrowCfgRun src r s =
      (let t := { s with lanes := { s.lanes with borrowMax := put 2 s.lanes.borrowMax (arg r 0 1) (arg r 1 1) } }
       ({ payload := (List.range 16).flatMap fun i => le8 (borrowMax t i) }, t)) := by
  simp only [clBorrowCfgRun, borrowed_one hn, List.foldl_cons, List.foldl_nil]

/-- A passed test gives the lane and its fenced unit back to service (R364). -/
theorem clTestEnd_passed {l m : Nat} {s : State} (htest : (laneOf s l).state = .test) (hmb : (laneOf s l).testMb = some m)
    (hfenced : (unitOf s (24 + l)).state = .fenced) :
    clTestEnd l 0 s = finishMb m .ok (le8 0 ++ le8 0) (logLane 0x921 (some l) 0xFFFF 0 0 []
      (setUnit (24 + l) { unitOf s (24 + l) with state := .ready } (setLane l { laneOf s l with state := .idle, testMb := none } s))) := by
  simp only [clTestEnd, htest, hmb, hfenced, decide_true, if_true, Bool.not_true]
  rfl

theorem revoke_key {k : Nat} {s : State} (hon : active s 5 = true) :
    revoke (some k) s =
      (let t := { s with keys := { s.keys with revocations := s.keys.revocations.filter fun x => x != some k } }
       let p := (List.range 64).foldl (fun p l => revokeLane (some k) l p) (0, t)
       raiseV 232 (logNotice 0x922 0xFFFF k [snapN p.1, snapN (omkOf p.2 k).gen, snapN p.1, snapN (lcCode (lcState p.2))] p.2)) := by
  have hstill : active { s with keys := { s.keys with revocations := s.keys.revocations.filter fun x => x != some k } } 5 = true := hon
  simp only [revoke, hstill, reduceCtorEq, if_true, if_false, Option.getD_some]

theorem laneGrant_own {l : Nat} {s : State} (h : laneTarget s l = some (l / 4)) : laneGrant l s = startOp l (l / 4) s := by
  simp only [laneGrant, h, ne_eq, not_true, false_and, if_false]

/-- An operation that ends clears its key material; a session's result is released (R366). -/
theorem laneEnd_session {l i : Nat} {o : LaneOp} {s : State} (hop : (laneOf s l).op = some o) (hsession : sessionOf o.kind = some i) :
    laneEnd l false s = sessionDone (laneOf s l) o i (setLane l (clearLane (laneOf s l)) s) := by
  simp only [laneEnd, hop, hsession, Bool.false_eq_true, if_false]

theorem laneEnd_mismatch {l : Nat} {o : LaneOp} {s : State} (hop : (laneOf s l).op = some o) :
    laneEnd l true s = laneMismatch l o s := by
  simp only [laneEnd, hop, if_true]

theorem laneTimeout_session {n i : Nat} {q : LaneReq} {rest : List LaneReq} {s : State} (hqueue : laneQueue s n = q :: rest)
    (hsession : sessionOf q.kind = some i) (hold : q.since.toNat * 1000000 / 2 ^ 36 + 10000 ≤ tb1Us s) :
    laneTimeout n s = sessionFails i q.kind (logLane 0x92B (some (4 * n)) i 0 1 [] (setLaneQueue n (dequeue s rest) s)) := by
  simp only [laneTimeout, hqueue, hsession, hold, if_true]

end Sys2Proof.Machine

section

open Sys2Proof Sys2Proof.Machine

/-- Settles O23: PD5 is up, and each row is the branch of the lane, its queue or its session that is named. -/
theorem laneRowsComplete : Obligations.LaneRowsComplete := by
  unfold Obligations.LaneRowsComplete
  have serves {s : State} (hup : fabricUp s = true) (hworks : working s 5 = true) : (fabricUp s && working s 5) = true := by
    rw [hup, hworks, Bool.and_self]
  refine ⟨?status, ?test, ?passed, ?borrow, ?sessStatus, ?sessClear, ?revoke, ?grant, ?done, ?mismatch, ?timeout⟩
  case status =>
    refine completes_of_runCmd (fun _ _ => rfl) (fun src r s ⟨hon, hl⟩ => ?_) fun _ _ _ _ => rfl
    simp [clStatusCheck, pd5Check, hon, hl]
  case test =>
    intro m
    refine completes_of_runCmd (fun _ _ => rfl) (fun src r s ⟨_, hon, hl, hretired, htestable⟩ => ?_) ?_
    · simp [clTestCheck, pd5Check, hon, hl, hretired, htestable]
    · rintro src r s ⟨rfl, -⟩
      rfl
  case passed =>
    exact fun l m s hl hup hworks htest hmb hfenced => (within_next _ _ hl).trans
      (congrArg Host.Outcome.next ((if_pos (serves hup hworks)).trans (clTestEnd_passed htest hmb hfenced)))
  case borrow =>
    intro n hn
    refine completes_of_runCmd (fun _ _ => rfl) ?_ ?_
    · rintro src r s ⟨hon, rfl, hmax⟩
      simp [clBorrowCfgCheck, pd5Check, hon, Nat.not_le.mpr hn, hmax]
    · rintro src r s ⟨-, rfl, -⟩
      exact clBorrowCfgRun_one src hn
  case sessStatus => exact completes_of_runCmd (fun _ _ => rfl) (fun src r _ hon => sessCheck_passes src r hon) fun _ _ _ _ => rfl
  case sessClear => exact completes_of_runCmd (fun _ _ => rfl) (fun src r _ hon => sessCheck_passes src r hon) fun _ _ _ _ => rfl
  case revoke =>
    intro k s hup hon hwaits
    refine congrArg Host.Outcome.next ((if_pos ?_).trans (revoke_key hon))
    rw [hup, hwaits, Bool.and_self]
  case grant => exact fun l s hl htarget => (within_next _ _ hl).trans (congrArg Host.Outcome.next (laneGrant_own htarget))
  case done =>
    exact fun l o i s hl hup hworks hop hsession => (within_next _ _ hl).trans
      (congrArg Host.Outcome.next ((if_pos (serves hup hworks)).trans (laneEnd_session hop hsession)))
  case mismatch =>
    exact fun l o s hl hup hworks hop => (within_next _ _ hl).trans
      (congrArg Host.Outcome.next ((if_pos (serves hup hworks)).trans (laneEnd_mismatch hop)))
  case timeout =>
    exact fun n q rest i s hn hup hqueue hsession hold => (within_next _ _ hn).trans
      (congrArg Host.Outcome.next ((if_pos hup).trans (laneTimeout_session hqueue hsession hold)))

end

/-! ### The events of the balance engine (R410, R414–R416, R420) -/

namespace Sys2Proof.Machine

open Sys2Proof

/-- The oldest interval past its deadline closes with cause 1 (R414). -/
theorem balDeadline_past {k : Nat} {i : BalInterval} {l : List BalInterval} {s : State} (hserves : groupServes s k = true)
    (hopens : (grpOf s k).opens = i :: l) (hpast : i.start + 60 * (grpOf s k).len + (grpOf s k).deadline ≤ tb2Sec s) :
    balDeadline k s = closeBal k i 1 s := by
  have hdue : decide (i.start + secsOf (grpOf s k) + (grpOf s k).deadline ≤ tb2Sec s) = true := decide_eq_true hpast
  simp only [balDeadline, hopens, List.find?_cons_of_pos (p := fun j : BalInterval =>
    decide (j.start + secsOf (grpOf s k) + (grpOf s k).deadline ≤ tb2Sec s)) hdue, hserves, if_true]

/-- No interval closes before its start. -/
theorem balDeadline_early {k : Nat} {s : State} (hearly : ∀ i ∈ (grpOf s k).opens, tb2Sec s < i.start) : balDeadline k s = s := by
  have hnone : ((grpOf s k).opens.find? fun i => decide (i.start + secsOf (grpOf s k) + (grpOf s k).deadline ≤ tb2Sec s)) = none := by
    refine List.find?_eq_none.mpr fun i hi => ?_
    have hlt := hearly i hi
    rw [decide_eq_true_eq]
    omega
  simp only [balDeadline, hnone]

theorem balEmit_first {k q : Nat} {c : BalClosed} {s t : State} (hserves : groupServes s k = true)
    (hwaits : waitingClosed (grpOf s k) = some c) (hout : s.balance.outHq = some q) (hfirst : firstClosed s c = true)
    (hemit : emitRecord q (c.header ++ c.payload) s = some t) :
    balEmit k s = setGrp k { grpOf t k with ring := (grpOf t k).ring.map fun x =>
      if x.order = c.order then { x with emitted := true } else x } t := by
  simp only [balEmit, hwaits, hout, hserves, hfirst, hemit, Bool.and_self, if_true]

theorem phaseEmit_pending {i q : Nat} {b : Bytes} {s t : State} (hserves : balServes s = true) (hon : active s 6 = true)
    (hpend : (phaseOf s i).pending = some b) (hout : s.balance.outHq = some q) (hemit : emitRecord q b s = some t) :
    phaseEmit i s = setPhase i { phaseOf t i with pending := none, updated := false } t := by
  simp only [phaseEmit, hpend, hout, hserves, hon, hemit, Bool.and_self, if_true]

end Sys2Proof.Machine

section

open Sys2Proof Sys2Proof.Machine

/-- Settles O25: the group or the context is one of the module, and its row is the branch that its intervals or its record name. -/
theorem balanceEventsTakeEffect : Obligations.BalanceEventsTakeEffect := by
  unfold Obligations.BalanceEventsTakeEffect
  refine ⟨?opens, ?deadline, ?early, ?emit, ?phase⟩
  case opens =>
    intro k s hk hserves hen hlast
    refine (within_next _ _ hk).trans (congrArg Host.Outcome.next (if_pos ?_))
    simp only [hserves, hen, hlast, decide_true, Bool.and_self]
  case deadline =>
    exact fun k i l s hk hserves hopens hpast =>
      (within_next _ _ hk).trans (congrArg Host.Outcome.next (balDeadline_past hserves hopens hpast))
  case early =>
    intro k i l s hk _ hopens _ hi hl
    refine (within_next _ _ hk).trans (congrArg Host.Outcome.next (balDeadline_early ?_))
    rw [hopens]
    exact List.forall_mem_cons.mpr ⟨hi, hl⟩
  case emit =>
    exact fun k c q t s hk hserves hwaits hout hfirst hemit =>
      (within_next _ _ hk).trans (congrArg Host.Outcome.next (balEmit_first hserves hwaits hout hfirst hemit))
  case phase =>
    exact fun i b q t s hi hserves hon hpend hout hemit =>
      (within_next _ _ hi).trans (congrArg Host.Outcome.next (phaseEmit_pending hserves hon hpend hout hemit))

end

/-! ### Life cycle, tamper, random numbers and the public-key engines (R423–R455) -/

namespace Sys2Proof.Machine

open Sys2Proof

/-- A command that waited for a public-key engine: its checks pass again, and its effect is what the table of effects gives. -/
theorem signed_of_effect {op : Nat} {pre : Src → Req → State → Prop} {rep : Src → Req → State → Reply}
    {eff : Src → Req → State → State} (hcheck : ∀ src r s, pre src r s → (pkeEffect op).1 src r s = none)
    (heffect : ∀ src r s, pre src r s → (pkeEffect op).2 src r s = (rep src r s, eff src r s)) : Signed op pre rep eff := by
  rintro m r q s hjob rfl hstarted hlegal hpre
  rw [pkeDone_passes hjob hstarted hlegal (hcheck _ r s hpre), heffect _ r s hpre]

/-- Engine 0 in service is enough for a request (R451). -/
theorem pkeAllFenced_false {s : State} (h : isFenced s 88 = false) : pkeAllFenced s = false :=
  List.all_eq_false.mpr ⟨0, by decide, by simp [h]⟩

theorem lcNextDikCheck_passes {s : State} (src : Src) (r : Req) (hup : active s 5 = true) (hfree : isFenced s 88 = false)
    (hroot : (activeRoot s).isSome = true) (hnext : (rootFor s (lcNext (lcState s))).isSome = true)
    (hrng : s.keys.rngHealthy = true) : lcNextDikCheck src r s = none := by
  simp [lcNextDikCheck, hup, pkeAllFenced_false hfree, ← Option.not_isSome, hroot, hnext, rngStopped, hrng]

theorem lcNextDikEffect_roots {old new : Bytes} {s : State} (src : Src) (r : Req) (hold : activeRoot s = some old)
    (hnew : rootFor s (lcNext (lcState s)) = some new) :
    lcNextDikEffect src r s =
      ({ payload := le8 (lcCode (lcNext (lcState s))) ++ dikPublic new
          ++ Config.ecdsaSign (dikOf old) (Config.sha384 (statementBytes (lcNext (lcState s)) (dikPublic new))) }, s) := by
  simp only [lcNextDikEffect, attest, hold, hnew, Option.getD_some]

/-- The bundle of an LC_ADVANCE of 209 bytes to FIELD follows its first byte (R426). -/
theorem advBundle_field {r : Req} (hdst : arg r 0 1 = 3) (hlen : r.payload.length = 209) :
    advBundle r = fieldB r.payload 1 208 := by
  simp [advBundle, hdst, hlen]

theorem fieldB_ne_nil {b : Bytes} {off n : Nat} (hoff : off < b.length) (hn : n ≠ 0) : fieldB b off n ≠ [] := by
  rw [fieldB, Ne, List.take_eq_nil_iff, List.drop_eq_nil_iff]
  omega

theorem rowMet_field {r : Req} {s : State} (hsession : r.session = 0) (hstate : lcState s = .provision) (hdst : arg r 0 1 = 3)
    (hhold : s.keys.alarmHold = false) : rowMet (.mb 3) r s = true := by
  simp [rowMet, hstate, hdst, lcOf, mb3Tag, hsession, hhold]

/-- A bundle that opens under the key of FIELD and carries AUK_3 is not at fault (R426). -/
theorem bundleBad_field {r : Req} {root ks : Bytes} {s : State} (hdst : arg r 0 1 = 3) (hlen : r.payload.length = 209)
    (hroot : rootFor s .field = some root) (hkeys : bundleKeys root (fieldB r.payload 1 208) = some ks)
    (hauk : bundleHas (fieldB r.payload 1 208) 3 = true) (hlatch : s.keys.latch = false) : bundleBad r s = false := by
  have hne : fieldB r.payload 1 208 ≠ [] := fieldB_ne_nil (by omega) (by decide)
  simp [bundleBad, advBundle_field hdst hlen, hdst, lcOf, hroot, hkeys, hauk, hlatch, hne]

theorem transitionComplete_run {x : LcRun} {j : Journal} {s : State} (hrun : s.keys.run = some x)
    (hjournal : s.keys.journal = some j) (hrevoked : s.keys.revocations.contains none = false) :
    transitionComplete s = softRestart
      (finishMb x.mb .ok (le8 (lcCode (lcState (completeTransition j 0xB21 s)))) (completeTransition j 0xB21 s)) := by
  simp only [transitionComplete, hrun, hjournal, hrevoked, Bool.false_eq_true, if_false]

theorem recoverComplete_waiting {m : Nat} {b : Bytes} {s : State} (h : s.keys.recover = some (m, b)) :
    recoverComplete s =
      (let t := logBoot 0xB23 0xFFFF [] { s with keys := { s.keys with latch := false, alarmHold := false, recover := none } }
       importBundle b (softRestart (zeroStore (finishMb m .ok (le8 (lcCode (lcState t))) t)))) := by
  simp only [recoverComplete, h]

/-- A tripping sample of a source that is on, with the security domain up, outside ALARM_HOLD and VOID (R434). -/
theorem tamperTrip_active {cls : Nat} {s : State} (hon : sourceOn s cls = true) (haux : s.power.aux = true)
    (hhold : s.keys.alarmHold = false) (hvoid : lcState s ≠ .void) (hup : fabricUp s = true) :
    tamperTrip cls s =
      (if alarms s cls then softRestart (alarmRunning cls (setLatch s)) else recordTrip cls s) := by
  have hup' : fabricUp (setLatch s) = true := hup
  have hgo : ¬(s.keys.alarmHold = true ∨ lcState s = .void) := by simp [hhold, hvoid]
  simp only [tamperTrip, hon, haux, Bool.not_true, Bool.false_eq_true, if_true, if_false, if_neg hgo, alarmTrip, hup']

theorem tamperTrip_asleep {cls : Nat} {s : State} (hon : sourceOn s cls = true) (haux : s.power.aux = false) :
    tamperTrip cls s = sleepTrip cls s := by
  simp only [tamperTrip, hon, haux, Bool.not_false, if_true]

theorem tamperSample_trips {x : TamperSample} {s : State} (h : sampleTrips s x = true) :
    tamperSample x s = tamperTrip (sampleClass x) (noteSample x s) := by
  simp only [tamperSample, h, if_true]

theorem tamperSample_noted {x : TamperSample} {s : State} (h : sampleTrips s x = false) :
    tamperSample x s = noteSample x s := by
  simp only [tamperSample, h, Bool.false_eq_true, if_false]

theorem cfgModes_le {r : Req} (h : ∀ i < 8, arg r i 1 ≤ 2) : (cfgModes r).any (fun x => decide (2 < x)) = false := by
  simpa [cfgModes] using h

theorem cfgActions_le {r : Req} (h : ∀ i < 13, arg r (8 + i) 1 ≤ 1) :
    (cfgActions r).any (fun x => decide (1 < x)) = false := by
  simpa [cfgActions] using h

theorem pkeEnd_passed {n : Nat} {q : PkeReq} {s t : State} (hrun : pkeRunning s n = some q)
    (ht : t = (let u := setPke n none s
      { u with keys := { u.keys with pkeOps := put 0 u.keys.pkeOps n ((look 0 u.keys.pkeOps n + 1) % 2 ^ 32) } })) :
    pkeEnd n true s = pkeServe (pkeDone q t) := by
  simp only [pkeEnd, hrun, ht, if_true]

theorem pkeEnd_failed {n : Nat} {q : PkeReq} {s t : State} (hrun : pkeRunning s n = some q)
    (ht : t = (let u := setPke n none s
      { u with keys := { u.keys with pkeOps := put 0 u.keys.pkeOps n ((look 0 u.keys.pkeOps n + 1) % 2 ^ 32) } })) :
    pkeEnd n false s = pkeServe (pkeDrop q (countWork (88 + n) 1
      (raiseFault (88 + n) 0x90C 2 0xFFFF [0, snapN 1, snapN (lcCode (lcState t))] t))) := by
  simp only [pkeEnd, hrun, ht, Bool.false_eq_true, if_false]

theorem pkeAge_waited {i : Nat} {q : PkeReq} {s : State} (hq : s.keys.pkeQueue[i]? = some q) (hrisen : q.risen = false)
    (hlate : pkeWait ≤ tbVal s 1 - q.since) :
    pkeAge i s = { s with keys :=
      { s.keys with pkeQueue := setAt s.keys.pkeQueue i { q with cls := max 1 (q.cls - 1), risen := true } } } := by
  simp only [pkeAge, hq, hrisen, hlate, Bool.not_false, and_self, if_true]

end Sys2Proof.Machine

section

open Sys2Proof Sys2Proof.Machine

/-- Settles O26: the commands where their checks pass, the events by the branch that the state names. -/
theorem lifeCycleAndTamperRowsTakeEffect : Obligations.LifeCycleAndTamperRowsTakeEffect := by
  unfold Obligations.LifeCycleAndTamperRowsTakeEffect
  refine ⟨?lcStatus, ?nextDik, ?nextDikDone, ?advance, ?transition, ?recover, ?recovered, ?debug, ?trip, ?sleep, ?noted, ?tck,
    ?thermal, ?tmpCfg, ?tmpStatus, ?secStatus, ?reseed, ?health, ?remask, ?skipped, ?pkeEnd, ?pkeAge⟩
  case lcStatus => exact completes_of_runCmd (check := noCheck) (fun _ _ => rfl) (fun _ _ _ _ => rfl) fun _ _ _ _ => rfl
  case nextDik =>
    refine fun m => completes_of_runCmd (fun _ _ => rfl) ?_ ?_
    · exact fun src r s ⟨_, hup, hfree, hroot, hnext, hrng⟩ => lcNextDikCheck_passes src r hup hfree hroot hnext hrng
    · rintro _ r s ⟨rfl, -⟩
      rfl
  case nextDikDone =>
    refine fun old new => signed_of_effect ?_ ?_
    · exact fun src r s ⟨hup, hfree, hold, hnew, hrng⟩ =>
        lcNextDikCheck_passes src r hup hfree (by simp [hold]) (by simp [hnew]) hrng
    · exact fun src r s ⟨_, _, hold, hnew, _⟩ => lcNextDikEffect_roots src r hold hnew
  case advance =>
    refine fun root ks => completes_of_runCmd (fun _ _ => rfl) ?_ ?_
    · rintro _ r s ⟨rfl, hsession, hstate, hdst, hlen, hroot, hkeys, hauk, hlatch, hhold, hrng, hrun⟩
      simp [lcAdvanceCheck, rowMet_field hsession hstate hdst hhold, bundleBad_field hdst hlen hroot hkeys hauk hlatch,
        rngStopped, hrng, hrun]
    · rintro _ r s ⟨rfl, -, -, hdst, hlen, -⟩
      simp only [lcAdvanceRun, hdst, lcOf, advBundle_field hdst hlen, fail]
  case transition =>
    exact fun x j s hup hrun hjournal hrevoked =>
      congrArg Host.Outcome.next ((if_pos hup).trans (transitionComplete_run hrun hjournal hrevoked))
  case recover =>
    refine fun m => completes_of_runCmd (fun _ _ => rfl) ?_ ?_
    · rintro _ r s ⟨rfl, hhold, htoken, htrip⟩
      simp [lcRecoverCheck, hhold, htoken, htrip]
    · rintro _ r s ⟨rfl, -⟩
      rfl
  case recovered =>
    exact fun m b s hup hwait => congrArg Host.Outcome.next ((if_pos hup).trans (recoverComplete_waiting hwait))
  case debug =>
    refine completes_of_runCmd (fun _ _ => rfl) ?_ fun _ _ _ _ => rfl
    rintro _ r s ⟨hstate, htoken, hrng⟩
    simp [lcDebugOpenCheck, hstate, htoken, rngStopped, hrng]
  case trip =>
    rintro x s u htrips rfl hon haux hhold hvoid hup
    exact congrArg Host.Outcome.next ((tamperSample_trips htrips).trans (tamperTrip_active hon haux hhold hvoid hup))
  case sleep =>
    rintro x s u htrips rfl hon haux
    exact congrArg Host.Outcome.next ((tamperSample_trips htrips).trans (tamperTrip_asleep hon haux))
  case noted => exact fun x s htrips => congrArg Host.Outcome.next (tamperSample_noted htrips)
  case tck => exact fun k s hk hclosed haux => congrArg Host.Outcome.next (if_pos ⟨hk, hclosed, haux⟩)
  case thermal =>
    rintro die t c s _ rfl
    refine congrArg Host.Outcome.next ?_
    cases s.power.main <;> rfl
  case tmpCfg =>
    refine completes_of_runCmd (fun _ _ => rfl) ?_ ?_
    · rintro _ r s ⟨hfree, hmodes, hactions, hallowed, -⟩
      have hlc : ((lcState s == .field || lcState s == .rma) && !tightens s (cfgModes r) (cfgActions r)) = false := by
        obtain h | h := hallowed
        · simp [h]
        · simp [h]
      simp [tmpCfgCheck, hfree, cfgModes_le hmodes, cfgActions_le hactions, hlc]
    · rintro _ r s ⟨-, -, -, -, hchanged⟩
      simp only [tmpCfgRun, hchanged, ne_eq, not_false_eq_true, true_or, decide_true, if_true]
  case tmpStatus => exact completes_of_runCmd (check := noCheck) (fun _ _ => rfl) (fun _ _ _ _ => rfl) fun _ _ _ _ => rfl
  case secStatus => exact completes_of_runCmd (check := noCheck) (fun _ _ => rfl) (fun _ _ _ _ => rfl) fun _ _ _ _ => rfl
  case reseed => exact fun s haux hrng => congrArg Host.Outcome.next (if_pos (by simp [haux, hrng]))
  case health =>
    exact fun s haux hrng => congrArg Host.Outcome.next ((if_pos haux).trans (by simp [rngHealth, hrng]))
  case remask =>
    rintro s haux hmain hrng _ _ _ _ rfl rfl rfl rfl
    refine congrArg Host.Outcome.next ((if_pos (by simp [haux, hmain])).trans ?_)
    simp only [remask, hrng, if_true]
  case skipped =>
    intro s haux hmain hrng
    refine congrArg Host.Outcome.next ((if_pos (by simp [haux, hmain])).trans ?_)
    simp only [remask, hrng, Bool.false_eq_true, if_false]
  case pkeEnd =>
    intro n q s t hn hup hworks hrun ht
    have runs (ok : Bool) : exec (.pkeOperationEnd n ok) s = .next (pkeEnd n ok s) :=
      (within_next _ _ hn).trans (congrArg Host.Outcome.next (if_pos (by simp [hup, hworks])))
    exact ⟨(runs true).trans (congrArg Host.Outcome.next (pkeEnd_passed hrun ht)),
      (runs false).trans (congrArg Host.Outcome.next (pkeEnd_failed hrun ht))⟩
  case pkeAge =>
    exact fun i q s hup hworks hq hrisen hlate =>
      congrArg Host.Outcome.next ((if_pos (by simp [hup, hworks])).trans (pkeAge_waited hq hrisen hlate))

end

/-! ### Operator keys, general keys and authority keys (R381–R384, R436–R446) -/

namespace Sys2Proof.Machine

open Sys2Proof

/-- A command that needs a public-key engine passes the first two checks with PD5 up, unit 137 and engine 0 in service (R451). -/
theorem firstFail_storeGate_engine {s : State} (l : List (Bool × Status)) (hup : active s 5 = true)
    (hstore : isFenced s 137 = false) (hpke : isFenced s 88 = false) : firstFail (storeGate s true ++ l) = firstFail l := by
  simp [storeGate, hup, hstore, pkeAllFenced_false hpke]

/-- A command that needs no engine passes them with unit 137 in service. -/
theorem firstFail_storeGate_own {s : State} (l : List (Bool × Status)) (hstore : isFenced s 137 = false) :
    firstFail (storeGate s false ++ l) = firstFail l := by
  simp [storeGate, hstore]

/-! ### When the checks pass -/

theorem omkLoadCheck_root {r : Req} {s : State} (src : Src) (hup : active s 5 = true) (hstore : isFenced s 137 = false)
    (hpke : isFenced s 88 = false) (hslot : arg r 0 1 < 64) (hmode : arg r 1 1 = 0) (hrng : s.keys.rngHealthy = true)
    (hfree : s.keys.revocations.contains (some (arg r 0 1)) = false) (hkey : (omkImport s r).isSome = true) :
    omkLoadCheck src r s = none := by
  rw [omkLoadCheck, hmode]
  have hmem : some (arg r 0 1) ∉ s.keys.revocations := by simpa using hfree
  refine (firstFail_storeGate_engine _ hup hstore hpke).trans ?_
  simp [hslot, rngStopped, hrng, hmem, hkey]

theorem omkLoadCheck_stored {r : Req} {s : State} (src : Src) (hstore : isFenced s 137 = false) (hslot : arg r 0 1 < 64)
    (hmode : arg r 1 1 = 1) (hrng : s.keys.rngHealthy = true)
    (hfree : s.keys.revocations.contains (some (arg r 0 1)) = false) (hfits : gkFits s (arg r 2 1) [2] 4 = true)
    (hkey : (omkImport s r).isSome = true) : omkLoadCheck src r s = none := by
  rw [omkLoadCheck, hmode]
  have hmem : some (arg r 0 1) ∉ s.keys.revocations := by simpa using hfree
  refine (firstFail_storeGate_own _ hstore).trans ?_
  simp [hslot, rngStopped, hrng, hmem, hfits, hkey]

theorem omkCommitCheck_passes {r : Req} {i : Nat} {s : State} (src : Src) (hstore : isFenced s 137 = false)
    (hslot : arg r 0 1 < 64) (hfree : s.keys.revocations.contains (some (arg r 0 1)) = false)
    (hcand : (omkOf s (arg r 0 1)).candidate = some i) (hverified : (omkOf s (arg r 0 1)).verified = true) :
    omkCommitCheck src r s = none := by
  refine (firstFail_storeGate_own _ hstore).trans ?_
  simp only [hfree, hcand, hverified, Nat.not_le.mpr hslot, decide_false, firstFail_cons_none, firstFail_nil, Option.isNone_some,
    Bool.not_true, Bool.or_self, and_self]

theorem keyImportCheck_root {r : Req} {s : State} (src : Src) (hup : active s 5 = true) (hstore : isFenced s 137 = false)
    (hpke : isFenced s 88 = false) (hslot : arg r 0 1 < 255) (htype : arg r 1 1 = 2) (husage : usageOk 2 (arg r 2 1) = true)
    (hmode : arg r 3 1 = 0) (hlen : r.payload.length = 142) (hrng : s.keys.rngHealthy = true)
    (hempty : (gkRec s (arg r 0 1)).typ = 0) (hkey : (gkImport s r).isSome = true) : keyImportCheck src r s = none := by
  rw [keyImportCheck, hmode, htype]
  refine (firstFail_storeGate_engine _ hup hstore hpke).trans ?_
  simp [wrappedLen, hlen, husage, Nat.ne_of_lt hslot, rngStopped, hrng, hempty, hkey]

theorem keyImportCheck_stored {r : Req} {s : State} (src : Src) (hstore : isFenced s 137 = false) (hslot : arg r 0 1 < 255)
    (htype : arg r 1 1 = 2) (husage : usageOk 2 (arg r 2 1) = true) (hmode : arg r 3 1 = 1) (hlen : r.payload.length = 142)
    (hrng : s.keys.rngHealthy = true) (hempty : (gkRec s (arg r 0 1)).typ = 0) (hfits : gkFits s (arg r 4 1) [2] 4 = true)
    (hkey : (gkImport s r).isSome = true) : keyImportCheck src r s = none := by
  rw [keyImportCheck, hmode, htype]
  refine (firstFail_storeGate_own _ hstore).trans ?_
  simp [wrappedLen, hlen, husage, Nat.ne_of_lt hslot, rngStopped, hrng, hempty, hfits, hkey]

theorem keyGenerateCheck_passes {r : Req} {s : State} (src : Src) (hup : active s 5 = true) (hstore : isFenced s 137 = false)
    (hpke : isFenced s 88 = false) (hslot : arg r 0 1 < 255) (htype : arg r 1 1 = 4) (husage : usageOk 4 (arg r 2 1) = true)
    (hrng : s.keys.rngHealthy = true) (hempty : (gkRec s (arg r 0 1)).typ = 0) : keyGenerateCheck src r s = none := by
  rw [keyGenerateCheck, htype]
  refine (firstFail_storeGate_engine _ hup hstore hpke).trans ?_
  simp [husage, Nat.ne_of_lt hslot, rngStopped, hrng, hempty]

theorem dikReadCheck_passes {s : State} (src : Src) (r : Req) (hup : active s 5 = true) (hstore : isFenced s 137 = false)
    (hpke : isFenced s 88 = false) (hroot : (activeRoot s).isSome = true) : dikReadCheck src r s = none := by
  refine (firstFail_storeGate_engine _ hup hstore hpke).trans ?_
  simp [hroot]

/-- In PROVISION a general mailbox may set an authority key too (R445). -/
theorem keyAuthSetCheck_passes {r : Req} {s : State} (src : Src) (hup : active s 5 = true) (hstore : isFenced s 137 = false)
    (hpke : isFenced s 88 = false) (hauk : 1 ≤ arg r 0 1 ∧ arg r 0 1 ≤ 3) (hstate : lcState s = .provision)
    (hrng : s.keys.rngHealthy = true) (hkey : (aukImport s r).isSome = true) : keyAuthSetCheck src r s = none := by
  refine (firstFail_storeGate_engine _ hup hstore hpke).trans ?_
  have hrange : ¬(arg r 0 1 < 1 ∨ 3 < arg r 0 1) := by omega
  simp only [hrange, decide_false, hstate, bne_self_eq_false, Bool.and_false, rngStopped, hrng, Bool.not_true,
    ← Option.not_isSome, hkey, firstFail_cons_none, firstFail_nil, and_self]

/-! ### What the rows do -/

theorem omkLoadEffect_first {r : Req} {key : Bytes} {s : State} (src : Src) (hkey : omkImport s r = some key)
    (hnone : (omkOf s (arg r 0 1)).candidate = none) :
    omkLoadEffect src r s = ({},
      let slot := arg r 0 1
      let o := omkOf s slot
      let k := keepKey (omkIndex slot (spareInst o)) 2 0 key s
      logKey 0x906 slot o.gen 0 [] (setOmk slot { o with candidate := some (spareInst o), verified := false }
        (setOmkRec slot (spareInst o) k.1 k.2))) := by
  simp only [omkLoadEffect, hkey, hnone, Option.getD_some, eraseOpt]

theorem omkLoadEffect_replaces {r : Req} {key : Bytes} {i : Nat} {s : State} (src : Src) (hkey : omkImport s r = some key)
    (hcand : (omkOf s (arg r 0 1)).candidate = some i) :
    omkLoadEffect src r s = ({},
      let slot := arg r 0 1
      let o := omkOf s slot
      let k := keepKey (omkIndex slot i) 2 0 key (eraseOpt slot (some i) s)
      logKey 0x906 slot o.gen 0 [] (setOmk slot { o with candidate := some i, verified := false } (setOmkRec slot i k.1 k.2))) := by
  simp only [omkLoadEffect, hkey, hcand, Option.getD_some]

theorem graceLeft_none {o : OmkSlot} (s : State) (h : o.grace = none) : graceLeft s o = 0 := by simp [graceLeft, h]

theorem graceEnd_none {slot : Nat} {s : State} (h : (omkOf s slot).grace = none) : graceEnd slot s = s := by
  simp [graceEnd, h]

theorem omkOf_setOmk_held {slot : Nat} {o : OmkSlot} (s : State) (h : o ≠ {}) : omkOf (setOmk slot o s) slot = o :=
  look_put_of_ne _ _ h

/-- A KEY_GRACE_SET with no grace generation ends none (R443). -/
theorem keyGraceSetRun_current {r : Req} {s : State} (src : Src) (hcurrent : (omkOf s (arg r 0 1)).current.isSome = true)
    (hgrace : (omkOf s (arg r 0 1)).grace = none) :
    keyGraceSetRun src r s = ({ payload := le32 (arg r 1 4) ++ le32 0 },
      setOmk (arg r 0 1) { omkOf s (arg r 0 1) with graceSecs := arg r 1 4 } s) := by
  have hheld : ({ omkOf s (arg r 0 1) with graceSecs := arg r 1 4 } : OmkSlot) ≠ {} := by
    intro h
    rw [congrArg OmkSlot.current h] at hcurrent
    exact absurd hcurrent (by decide)
  have hread := omkOf_setOmk_held (slot := arg r 0 1) s hheld
  have hnone := (congrArg OmkSlot.grace hread).trans hgrace
  unfold keyGraceSetRun
  extract_lets slot o t u
  have hu : u = t := graceEnd_none hnone
  rw [hu, graceLeft_none t hnone]

theorem graceEnd_passed {slot : Nat} {s : State} (hheld : (omkOf s slot).grace.isSome = true)
    (hpassed : graceLeft s (omkOf s slot) = 0) : graceEnd slot s = endGrace slot s := by
  simp only [graceEnd, hheld, hpassed, decide_true, Bool.and_self, if_true]

theorem keyImportEffect_wrapped {r : Req} {key : Bytes} {s : State} (src : Src) (htype : arg r 1 1 = 2)
    (hkey : gkImport s r = some key) :
    keyImportEffect src r s = ({ payload := leBytes 3 (kcvOf key) }, storeGk (arg r 0 1) 2 (arg r 2 1) key s) := by
  simp only [keyImportEffect, htype, hkey, Option.getD_some, keyFace, Nat.le_refl, if_true]

theorem lockoutEnd_locked {m k : Nat} {s : State} (h : look none s.host.lockout m = some k) :
    lockoutEnd m s =
      (let t := { s with host := { s.host with lockout := put none s.host.lockout m none } }
       raiseV 232 (logNotice 0x90F 137 m [snapN m, snapN k, 0, 0, 0, snapN (lcCode (lcState s))]
         (setSess m k { sessOf s m k with fails := 0 } t))) := by
  simp only [lockoutEnd, h]
  rfl

end Sys2Proof.Machine

section

open Sys2Proof Sys2Proof.Machine

/-- Settles O27: a command that needs an engine asks for it, and what was asked is carried out when its checks pass again. -/
theorem keyCommandsComplete : Obligations.KeyCommandsComplete := by
  unfold Obligations.KeyCommandsComplete
  refine ⟨?load, ?loaded, ?loadStored, ?verify, ?commitFirst, ?commitNext, ?revoke, ?graceEnd, ?status, ?graceSet, ?importAsk,
    ?imported, ?importStored, ?generate, ?generated, ?erase, ?info, ?dik, ?dikDone, ?authSet, ?authDone, ?rotate, ?lockout⟩
  case load =>
    refine fun m => completes_of_runCmd (fun _ _ => rfl) ?_ ?_
    · exact fun src r s ⟨_, hup, hstore, hpke, hslot, hmode, hrng, hfree, hkey⟩ =>
        omkLoadCheck_root src hup hstore hpke hslot hmode hrng hfree hkey
    · rintro _ r s ⟨rfl, -, -, -, -, hmode, -⟩
      exact if_pos hmode
  case loaded =>
    refine fun key => signed_of_effect ?_ ?_
    · exact fun src r s ⟨hup, hstore, hpke, hslot, hmode, hrng, hfree, hkey, _⟩ =>
        omkLoadCheck_root src hup hstore hpke hslot hmode hrng hfree (by simp [hkey])
    · exact fun src r s ⟨_, _, _, _, _, _, _, hkey, hnone⟩ => omkLoadEffect_first src hkey hnone
  case loadStored =>
    refine fun key i => completes_of_runCmd (fun _ _ => rfl) ?_ ?_
    · exact fun src r s ⟨hstore, hslot, hmode, hrng, hfree, hfits, hkey, _⟩ =>
        omkLoadCheck_stored src hstore hslot hmode hrng hfree hfits (by simp [hkey])
    · exact fun src r s ⟨_, _, hmode, _, _, _, hkey, hcand⟩ =>
        (if_neg (by omega)).trans (omkLoadEffect_replaces src hkey hcand)
  case verify =>
    refine fun key => completes_of_runCmd (fun _ _ => rfl) ?_ ?_
    · rintro _ r s ⟨hstore, hslot, hfree, hkey, -⟩
      refine (firstFail_storeGate_own _ hstore).trans ?_
      simp only [hfree, hkey, Nat.not_le.mpr hslot, decide_false, firstFail_cons_none, firstFail_nil, Option.isNone_some, and_self]
    · rintro _ r s ⟨-, -, -, hkey, hkcv⟩
      exact if_pos (by simpa only [hkey, Option.getD_some] using hkcv)
  case commitFirst =>
    refine fun i => completes_of_runCmd (fun _ _ => rfl) ?_ ?_
    · exact fun src r s ⟨hstore, hslot, hfree, hcand, hverified, _⟩ =>
        omkCommitCheck_passes src hstore hslot hfree hcand hverified
    · rintro _ r s ⟨-, -, -, hcand, -, hcurrent, hgrace, hsecs⟩
      simp only [omkCommitRun, hcand, hcurrent, hgrace, hsecs, Option.isNone_none, if_true, if_false, eraseOpt, false_and]
      rfl
  case commitNext =>
    refine fun i c => completes_of_runCmd (fun _ _ => rfl) ?_ ?_
    · exact fun src r s ⟨hstore, hslot, hfree, hcand, hverified, _⟩ =>
        omkCommitCheck_passes src hstore hslot hfree hcand hverified
    · rintro _ r s ⟨-, -, -, hcand, -, hcurrent, hgrace, hsecs⟩
      simp only [omkCommitRun, hcand, hcurrent, hgrace, hsecs, Option.isNone_some, Bool.false_eq_true, if_false, eraseOpt,
        false_and]
      rfl
  case revoke =>
    refine completes_of_runCmd (fun _ _ => rfl) ?_ fun _ _ _ _ => rfl
    rintro _ r s ⟨hstore, hslot, hfree, hheld⟩
    refine (firstFail_storeGate_own _ hstore).trans ?_
    simp only [hfree, hheld, Nat.not_le.mpr hslot, decide_false, firstFail_cons_none, firstFail_nil, and_self]
  case graceEnd =>
    exact fun slot s hslot hup hheld hpassed =>
      (within_next _ _ hslot).trans (congrArg Host.Outcome.next ((if_pos hup).trans (graceEnd_passed hheld hpassed)))
  case status =>
    refine completes_of_runCmd (fun _ _ => rfl) ?_ fun _ _ _ _ => rfl
    rintro _ r s ⟨hup, -, hslot, hcurrent⟩
    simp [keygenStatusCheck, pd5Check, hup, hslot, hcurrent]
  case graceSet =>
    refine completes_of_runCmd (fun _ _ => rfl) ?_ ?_
    · rintro _ r s ⟨hstore, hslot, hsecs, hcurrent, -⟩
      simp [keyGraceSetCheck, hstore, hslot, hsecs, hcurrent]
    · exact fun src r s ⟨_, _, _, hcurrent, hgrace⟩ => keyGraceSetRun_current src hcurrent hgrace
  case importAsk =>
    refine fun m => completes_of_runCmd (fun _ _ => rfl) ?_ ?_
    · exact fun src r s ⟨_, hup, hstore, hpke, hslot, htype, husage, hmode, hlen, hrng, hempty, hkey⟩ =>
        keyImportCheck_root src hup hstore hpke hslot htype husage hmode hlen hrng hempty hkey
    · rintro _ r s ⟨rfl, -, -, -, -, -, -, hmode, -⟩
      exact if_pos hmode
  case imported =>
    refine fun key => signed_of_effect ?_ ?_
    · exact fun src r s ⟨hup, hstore, hpke, hslot, htype, husage, hmode, hlen, hrng, hempty, hkey⟩ =>
        keyImportCheck_root src hup hstore hpke hslot htype husage hmode hlen hrng hempty (by simp [hkey])
    · exact fun src r s ⟨_, _, _, _, htype, _, _, _, _, _, hkey⟩ => keyImportEffect_wrapped src htype hkey
  case importStored =>
    refine fun key => completes_of_runCmd (fun _ _ => rfl) ?_ ?_
    · exact fun src r s ⟨hstore, hslot, htype, husage, hmode, hlen, hrng, hempty, hfits, hkey⟩ =>
        keyImportCheck_stored src hstore hslot htype husage hmode hlen hrng hempty hfits (by simp [hkey])
    · exact fun src r s ⟨_, _, htype, _, hmode, _, _, _, _, hkey⟩ =>
        (if_neg (by omega)).trans (keyImportEffect_wrapped src htype hkey)
  case generate =>
    refine fun m => completes_of_runCmd (fun _ _ => rfl) ?_ ?_
    · exact fun src r s ⟨_, hup, hstore, hpke, hslot, htype, husage, hrng, hempty⟩ =>
        keyGenerateCheck_passes src hup hstore hpke hslot htype husage hrng hempty
    · rintro _ r s ⟨rfl, -⟩
      rfl
  case generated =>
    refine signed_of_effect ?_ ?_
    · exact fun src r s ⟨hup, hstore, hpke, hslot, htype, husage, hrng, hempty⟩ =>
        keyGenerateCheck_passes src hup hstore hpke hslot htype husage hrng hempty
    · rintro src r s ⟨-, -, -, -, htype, -⟩
      change keyGenerateEffect src r s = _
      simp only [keyGenerateEffect, htype, Nat.reduceEqDiff, if_false]
  case erase =>
    refine completes_of_runCmd (fun _ _ => rfl) ?_ fun _ _ _ _ => rfl
    rintro _ r s ⟨hstore, hheld⟩
    exact (firstFail_storeGate_own _ hstore).trans (by simp [hheld])
  case info =>
    refine fun key => completes_of_runCmd (fun _ _ => rfl) ?_ ?_
    · intro _ r s hkey
      simp [keyInfoCheck, hkey]
    · intro _ r s hkey
      simp only [keyInfoRun, hkey, Option.getD_some]
  case dik =>
    refine fun m => completes_of_runCmd (fun _ _ => rfl) ?_ ?_
    · exact fun src r s ⟨_, hup, hstore, hpke, hroot⟩ => dikReadCheck_passes src r hup hstore hpke hroot
    · rintro _ r s ⟨rfl, -⟩
      rfl
  case dikDone =>
    refine fun root => signed_of_effect ?_ ?_
    · exact fun src r s ⟨hup, hstore, hpke, hroot⟩ => dikReadCheck_passes src r hup hstore hpke (by simp [hroot])
    · rintro src r s ⟨-, -, -, hroot⟩
      change dikReadEffect src r s = _
      simp only [dikReadEffect, hroot, Option.getD_some]
  case authSet =>
    refine fun m => completes_of_runCmd (fun _ _ => rfl) ?_ ?_
    · exact fun src r s ⟨_, hup, hstore, hpke, hauk, hstate, hrng, hkey⟩ =>
        keyAuthSetCheck_passes src hup hstore hpke hauk hstate hrng hkey
    · rintro _ r s ⟨rfl, -⟩
      rfl
  case authDone =>
    refine fun key => signed_of_effect ?_ ?_
    · exact fun src r s ⟨hup, hstore, hpke, hauk, hstate, hrng, hkey⟩ =>
        keyAuthSetCheck_passes src hup hstore hpke hauk hstate hrng (by simp [hkey])
    · rintro src r s ⟨-, -, -, -, -, -, hkey⟩
      change keyAuthSetEffect src r s = _
      simp only [keyAuthSetEffect, hkey, Option.getD_some]
  case rotate =>
    refine fun m => completes_of_runCmd (fun _ _ => rfl) ?_ ?_
    · rintro _ r s ⟨rfl, hstore, hsession⟩
      simp [keyAuthRotateCheck, hstore, hsession]
    · rintro _ r s ⟨rfl, -⟩
      rfl
  case lockout =>
    exact fun m k s hm hup hlocked =>
      (within_next _ _ hm).trans (congrArg Host.Outcome.next ((if_pos hup).trans (lockoutEnd_locked hlocked)))

end

/-! ### Staging and activation of firmware (R466–R476) -/

namespace Sys2Proof.Machine

open Sys2Proof

/-- An answer leaves the firmware alone. -/
theorem finishMb_firm (n : Nat) (st : Status) (payload : Bytes) (s : State) : (finishMb n st payload s).firm = s.firm := by
  unfold finishMb
  dsimp only
  split
  · split
    · rw [answerMb_parts]
    · rfl
  · rfl

theorem logBoot_firm (code bank : Nat) (named : List Time) (s : State) : (logBoot code bank named s).firm = s.firm := by
  rw [logBoot_parts]

theorem writeBank_stage (b : Nat) (k : Bank) (s : State) : (writeBank b k s).firm.stage = s.firm.stage := by
  by_cases h : b = 0 <;> simp [writeBank, dirWrite, setBank, h]

/-- A staging that is open takes writes and a close (R469). -/
theorem stagingOpen_erased {x : Staging} {s : State} (hx : s.firm.staging = some x) (herased : x.erased = true)
    (hclosing : x.closing = false) : stagingOpen s = true := by
  simp [stagingOpen, hx, herased, hclosing]

theorem stageWriteBad_inside {r : Req} {x : Staging} {s : State} (hx : s.firm.staging = some x) (halign : arg r 0 4 % 4096 = 0)
    (hfits : arg r 0 4 + (r.payload.length - 4) ≤ x.length) : stageWriteBad r s = false := by
  simp [stageWriteBad, hx, halign, hfits]

theorem stageOpenDone_erased {m : Nat} {x : Staging} {s : State} (hx : s.firm.staging = some x) (herased : x.erased = false)
    (hmb : x.mb = some m) :
    stageOpenDone s = finishMb m .ok (le8 x.bank)
      (setFlash x.bank [] { s with firm := { s.firm with staging := some { x with erased := true, mb := none } } }) := by
  simp only [stageOpenDone, hx, herased, hmb, Bool.false_eq_true, if_false]

/-- An image that passes every check is STAGED and, where an image runs, only the answer follows (R470). -/
theorem stageCloseDone_passed {m : Nat} {x : Staging} {s : State} (hx : s.firm.staging = some x) (hclosing : x.closing = true)
    (hmb : x.mb = some m) (himage : s.firm.stage ≠ .noImage)
    (hpass : firstReason (imageChecks s (container s x.bank x.length) (some x.ik) x.length) = 0) :
    stageCloseDone s =
      (let c := container s x.bank x.length
       let u := { s with firm := { s.firm with staging := none } }
       let v := logBoot 0xB04 x.bank [] (writeBank x.bank (stagedRecord c x.ik x u) u)
       finishMb m .ok (le8 0 ++ le32 (imgVersion c) ++ le16 (imgSvn c) ++ le8 (imgCe c) ++ le8 (imgMpe c)) v) := by
  have hstage (st : Status) (p : Bytes) (k : Bank) : ¬(finishMb m st p (logBoot 0xB04 x.bank []
      (writeBank x.bank k { s with firm := { s.firm with staging := none } }))).firm.stage = .noImage := by
    rw [finishMb_firm, logBoot_firm, writeBank_stage]
    exact himage
  simp only [stageCloseDone, hx, hclosing, hmb, hpass, if_true, hstage, and_false, if_false, reasonStatus]

theorem activatePrepared_passed {a : Activation} {s : State} (ha : s.firm.act = some a) (hstep : a.step = .preparing)
    (hown : a.scheduled = false) (hrun : s.keys.run = none) (hpass : bankReason s a.bank = 0) :
    activatePrepared s = beginPause a (prepareImage a.bank s) := by
  simp only [activatePrepared, ha, hstep, hown, hrun, hpass, Option.isSome_none, Bool.false_eq_true, if_true, if_false]

theorem pauseEnd_measured {a : Activation} {m : Nat} {s : State} (ha : s.firm.act = some a) (hstep : a.step = .pause)
    (hown : a.scheduled = false) (hmb : a.mb = some m) :
    pauseEnd (usSince a.pauseAt s) s =
      (let us := usSince a.pauseAt s
       let t := runImage a.bank (switchImage (discardAllFlights s))
       let u := releaseHold (logBootNotice 0xB06 a.bank [snapN us]
         (resumeRf { t with firm := { t.firm with stage := .ready, act := none } }))
       discardAccepted (some m) (finishMb m .ok (activatePayload u a.bank us 0) u)) := by
  simp only [pauseEnd, ha, hstep, hown, hmb, and_self, if_true, Bool.false_eq_true, if_false]

/-- A slot of the module's own clock that is due is captured with source 6 (R121). -/
theorem milestoneFire_own {k : Nat} {m : Scheduled} {s : State} (hm : look none s.clock.slots k = some m)
    (hchain : m.chain = false) (hact : m.activate = false) (hdue : m.target ≤ tbVal s 0) :
    milestoneFire k s = capture 6 (m.id % 256) m.id (tbVal s 0 - m.target).toNat (setSlot k none s) := by
  simp only [milestoneFire, hm, hchain, Bool.false_eq_true, if_false, hdue, if_true, fireSlot, hact]

theorem triggerReceive_scheduled {f : AethTrigger} {k : Nat} {s : State} (hup : aethenoUp s = true)
    (hsync : s.clock.syncIn = true) (hcrc : f.crcOk = true) (hact : f.activate = false) (hk : freeSlot s = some k) :
    triggerReceive f s = setSlot k (some { target := f.target, id := f.id, chain := true, activate := f.activate })
      (emit (.frame 64 (triggerFrame f.target f.id f.activate)) s) := by
  have hfree (e : Emission) : freeSlot (emit e s) = some k := hk
  simp only [triggerReceive, hup, hsync, hcrc, Bool.and_self, if_true, hfree, hact, Bool.false_eq_true, if_false]

end Sys2Proof.Machine

section

open Sys2Proof Sys2Proof.Machine

/-- Settles O28: the commands where their checks pass, the events by the stage that a staging or an activation has reached. -/
theorem firmwareRowsTakeEffect : Obligations.FirmwareRowsTakeEffect := by
  unfold Obligations.FirmwareRowsTakeEffect
  refine ⟨?status, ?stageOpen, ?opened, ?stageWrite, ?stageClose, ?closed, ?stageAbort, ?confirm, ?opkey, ?activate, ?prepared,
    ?pauseEnds, ?activateAt, ?cancelled, ?fires, ?trigger, ?legal⟩
  case status => exact completes_of_runCmd (check := noCheck) (fun _ _ => rfl) (fun _ _ _ _ => rfl) fun _ _ _ _ => rfl
  case stageOpen =>
    refine fun m ik => completes_of_runCmd (fun _ _ => rfl) ?_ ?_
    · rintro _ r s ⟨rfl, hup, hpke, ⟨hpos, hmax⟩, hik, htrial, hbusy⟩
      simp [fwStageOpenCheck, imagePkeOff, hup, pkeAllFenced_false hpke, Nat.pos_iff_ne_zero.mp hpos, hmax, hik, htrial, hbusy]
    · rintro _ r s ⟨rfl, -, -, -, hik, -⟩
      simp only [fwStageOpenRun, hik, Option.getD_some]
      rfl
  case opened =>
    exact fun m x s hserved hx herased hmb =>
      congrArg Host.Outcome.next ((if_pos hserved).trans (stageOpenDone_erased hx herased hmb))
  case stageWrite =>
    refine fun x => completes_of_runCmd (fun _ _ => rfl) ?_ ?_
    · rintro _ r s ⟨hx, herased, hclosing, halign, hfits⟩
      simp [fwStageWriteCheck, stageWriteBad_inside hx halign hfits, stagingOpen_erased hx herased hclosing]
    · rintro _ r s ⟨hx, -⟩
      simp only [fwStageWriteRun, hx, List.length_drop]
  case stageClose =>
    refine fun m x => completes_of_runCmd (fun _ _ => rfl) ?_ ?_
    · rintro _ r s ⟨rfl, hx, herased, hclosing⟩
      simp [fwStageCloseCheck, stagingOpen_erased hx herased hclosing]
    · rintro _ r s ⟨rfl, hx, -⟩
      simp only [fwStageCloseRun, hx]
      rfl
  case closed =>
    exact fun m x s hserved hx hclosing hmb himage hpass =>
      congrArg Host.Outcome.next ((if_pos hserved).trans (stageCloseDone_passed hx hclosing hmb himage hpass))
  case stageAbort =>
    refine fun x => completes_of_runCmd (fun _ _ => rfl) ?_ fun _ _ _ _ => rfl
    rintro _ r s ⟨hx, hclosing⟩
    simp [fwStageAbortCheck, hx, hclosing]
  case confirm =>
    refine completes_of_runCmd (fun _ _ => rfl) ?_ ?_
    · rintro _ r s ⟨hbusy, -⟩
      simp [fwConfirmCheck, hbusy]
    · rintro _ r s ⟨-, htrial⟩
      exact if_pos htrial
  case opkey =>
    refine completes_of_runCmd (fun _ _ => rfl) ?_ ?_
    · intro _ r s hdigest
      simp [fwOpkeySetCheck, hdigest]
    · intro _ r s hdigest
      simp only [fwOpkeySetRun, hdigest, Bool.false_eq_true, if_false]
  case activate =>
    refine fun m b => completes_of_runCmd (fun _ _ => rfl) ?_ ?_
    · rintro _ r s ⟨rfl, hbank, hbusy, htransition, hpending⟩
      simp [activateCheck, hbank, hbusy, htransition, hpending]
    · rintro _ r s ⟨rfl, hbank, -⟩
      simp only [activateRun, hbank]
      rfl
  case prepared =>
    exact fun a s hup ha hstep hown hrun hpass =>
      congrArg Host.Outcome.next ((if_pos hup).trans (activatePrepared_passed ha hstep hown hrun hpass))
  case pauseEnds =>
    exact fun a m s hup ha hstep hown hmb =>
      congrArg Host.Outcome.next ((if_pos hup).trans (pauseEnd_measured ha hstep hown hmb))
  case activateAt =>
    refine fun m b k => completes_of_runCmd (fun _ _ => rfl) ?_ ?_
    · rintro _ r s ⟨rfl, htarget, hchain, hfree, hvalid, hahead, hbank, hbusy, hpending, hslot⟩
      refine (if_neg htarget).trans ?_
      simp [hchain, hfree, hvalid, hahead, hbank, hbusy, hpending, hslot]
    · rintro _ r s ⟨rfl, htarget, -, -, -, -, hbank, -, -, hslot⟩
      simp only [activateAtRun, htarget, if_false, hbank, hslot, beq_iff_eq]
      rfl
  case cancelled =>
    refine completes_of_runCmd (fun _ _ => rfl) ?_ ?_
    · rintro _ r s ⟨htarget, hchain⟩
      simp [activateAtCheck, htarget, hchain]
    · rintro _ r s ⟨htarget, -⟩
      exact if_pos htarget
  case fires =>
    exact fun k m s hk hup hm hchain hact hdue =>
      (within_next _ _ hk).trans (congrArg Host.Outcome.next ((if_pos hup).trans (milestoneFire_own hm hchain hact hdue)))
  case trigger =>
    exact fun f k s hup hsync hcrc hact hslot =>
      congrArg Host.Outcome.next (triggerReceive_scheduled hup hsync hcrc hact hslot)
  case legal =>
    refine fun m => completes_of_runCmd (fun _ _ => rfl) ?_ ?_
    · rintro _ r s ⟨rfl, hup, hmetrology, hlegal, hbank, hstate, hroom, hbusy, -⟩
      simp [activateLegalCheck, hup, hmetrology, hlegal, hbank, hstate, hroom, hbusy]
    · rintro _ r s ⟨rfl, -, -, -, -, -, -, -, hreason⟩
      exact if_neg fun h => h hreason

end

/-! ### Fault sources and the handling of faults (R469, R477–R493) -/

namespace Sys2Proof.Machine

open Sys2Proof

/-- An uncorrectable error of a unit of the module is handled as its place says (R482). -/
theorem eccError_place {e : EccError} {s t : State} (hu : e.unit < 138) (haux : s.power.aux = true) (h : eccError e s = t) :
    exec (.eccError e) s = .next t :=
  (within_next _ _ hu).trans (congrArg Host.Outcome.next ((if_pos haux).trans h))

theorem faultInjectCheck_passes {r : Req} {s : State} (src : Src) (hstate : lcState s = .mfg ∨ lcState s = .provision)
    (hunit : arg r 0 1 < 138) (hclass : arg r 1 1 ≤ 3) (hcode : arg r 2 2 < 4096) : faultInjectCheck src r s = none := by
  have hlc : (lcState s != .mfg && lcState s != .provision) = false := by
    obtain h | h := hstate <;> simp [h]
  have harg : ¬(138 ≤ arg r 0 1 ∨ 3 < arg r 1 1 ∨ 4096 ≤ arg r 2 2) := by omega
  simp [faultInjectCheck, hlc, harg]

theorem injecting_request {src : Src} {r : Req} {s : State} (htaken : takenReq s src = some r) (hop : r.opcode = 0x0C08)
    (hcheck : faultInjectCheck src r s = none) : injecting src s = some r := by
  simp only [injecting, htaken, hop, hcheck, and_self, if_true]

theorem unitRecoverCheck_passes {r : Req} {s : State} (src : Src) (hup : active s (unitDomain (arg r 0 1)) = true)
    (hfenceable : fenceable (arg r 0 1) = true) (hfenced : (unitOf s (arg r 0 1)).state = .fenced)
    (hkept : (unitOf s (arg r 0 1)).retired = false) : unitRecoverCheck src r s = none := by
  simp [unitRecoverCheck, hup, hfenceable, hfenced, hkept]

theorem recoveryEnd_passed {u m : Nat} {s : State} (hstate : (unitOf s u).state = .recovering)
    (hmb : (unitOf s u).recoverMb = some m) :
    recoveryEnd u true s = finishMb m .ok (le8 0) (logEv 0xC06 u 0xFFFF [snapN 0, snapN 0]
      (unitReturns u (setUnit u { unitOf s u with state := .ready, recoverMb := none } s))) := by
  simp only [recoveryEnd, hstate, hmb, if_true, unitStateCode]

theorem recoveryEnd_failed {u m : Nat} {s : State} (hstate : (unitOf s u).state = .recovering)
    (hmb : (unitOf s u).recoverMb = some m) :
    recoveryEnd u false s = finishMb m .fenced [] (logEv 0xC06 u 0xFFFF [snapN 1, snapN 1]
      (setUnit u { unitOf s u with state := .fenced, recoverMb := none } s)) := by
  simp only [recoveryEnd, hstate, if_true, Bool.false_eq_true, if_false, recoveryFails, hmb]

/-- Items of units that the module has are each taken, none is passed over. -/
theorem foldl_units {found : List Mismatch} (hunits : ∀ m ∈ found, m.unit < 138) (s : State) :
    found.foldl (fun t m => if m.unit < 138 then mismatch m t else t) s = found.foldl (fun t m => mismatch m t) s := by
  induction found generalizing s with
  | nil => rfl
  | cons m found ih =>
    rw [List.foldl_cons, List.foldl_cons, if_pos (hunits m List.mem_cons_self)]
    exact ih (fun x hx => hunits x (List.mem_cons_of_mem m hx)) _

theorem reconcile_units {found : List Mismatch} {s : State} (hup : fabricUp s = true) (hunits : ∀ m ∈ found, m.unit < 138) :
    reconcile found s = found.foldl (fun t m => mismatch m t) s :=
  (if_pos hup).trans (foldl_units hunits s)

/-- An item found for the first time raises no fault (R492). -/
theorem mismatch_first {m : Mismatch} {s : State} (hnew : ∀ x ∈ (unitOf s m.unit).mismatches, x.1 ≠ m.item)
    (hready : shownState s m.unit = .ready) :
    mismatch m s =
      (let t := setUnit m.unit { unitOf s m.unit with
          mismatches := (m.item, ageSec s) :: (unitOf s m.unit).mismatches.filter fun x =>
            x.1 != m.item && decide (ageSec s < x.2 + 60)
          firstMismatch := tbVal s 0 } s
       let t := { t with log := { t.log with
          events := bitSet t.log.events 3, mismatchCount := (t.log.mismatchCount + 1) % 2 ^ 32 } }
       let snaps := [snapN m.item, snapN m.hardware, snapN m.intent, snapN 1]
       logEv 0xC05 m.unit 0xFFFF snaps (raiseV 236 (notice 0xC05 0 m.unit (snapBytes 5 snaps) t))) := by
  have hfirst : ((unitOf s m.unit).mismatches.any fun x => x.1 == m.item && decide (ageSec s < x.2 + 60)) = false := by
    refine List.any_eq_false.mpr fun x hx => ?_
    simp [hnew x hx]
  simp only [mismatch, hready, hfirst, if_true, Bool.false_eq_true, if_false]

end Sys2Proof.Machine

section

open Sys2Proof Sys2Proof.Machine

/-- Settles O29: each source raises the fault of its class and code, and the handling moves on by the state of the unit. -/
theorem faultRowsTakeEffect : Obligations.FaultRowsTakeEffect := by
  unfold Obligations.FaultRowsTakeEffect
  refine ⟨?watchdog, ?lockstep, ?bus, ?mram, ?supply, ?working, ?code, ?tables, ?runtime, ?pond, ?buffer, ?inject, ?handled,
    ?repeated, ?fence, ?recover, ?recovered, ?failed, ?pass, ?first⟩
  case watchdog => exact fun pair s hpair hup => (within_next _ _ hpair).trans (congrArg Host.Outcome.next (if_pos hup))
  case lockstep =>
    exact fun pair pc check s hpair hup => (within_next _ _ hpair).trans (congrArg Host.Outcome.next (if_pos hup))
  case bus => exact fun u source tr s hu haux => (within_next _ _ hu).trans (congrArg Host.Outcome.next (if_pos haux))
  case mram => exact fun addr n s haux => congrArg Host.Outcome.next (if_pos haux)
  case supply => exact fun d rail s hd haux => (within_next _ _ hd).trans (congrArg Host.Outcome.next (if_pos haux))
  case working => exact fun e s hu haux hplace => eccError_place hu haux (by simp only [eccError, hplace])
  case code => exact fun e s hu haux hplace => eccError_place hu haux (by simp only [eccError, hplace])
  case tables => exact fun e s hu haux hplace => eccError_place hu haux (by simp only [eccError, hplace])
  case runtime => exact fun e s hu haux hplace => eccError_place hu haux (by simp only [eccError, hplace])
  case pond => exact fun e s hu haux hplace => eccError_place hu haux (by simp only [eccError, hplace])
  case buffer => exact fun e s hu haux hplace => eccError_place hu haux (by simp only [eccError, hplace])
  case inject =>
    rintro src r s hready hstate hunit hclass hcode t rfl
    have hcheck := faultInjectCheck_passes src hstate hunit hclass hcode
    have hrun := runCmd_passes (run := faultInjectRun) hready hcheck
    obtain ⟨-, htaken, hop, -⟩ := hready
    change (match runCmd 0x0C08 faultInjectCheck faultInjectRun src s with
      | .next t => Host.Outcome.next (injectAfter (injecting src s) t)
      | o => o) = _
    rw [hrun, injecting_request htaken hop hcheck]
    rfl
  case handled =>
    exact fun u s hu hstate => (within_next _ _ hu).trans (congrArg Host.Outcome.next (if_pos hstate))
  case repeated =>
    exact fun u s hu hstate => (within_next _ _ hu).trans (congrArg Host.Outcome.next (if_pos hstate))
  case fence =>
    exact fun u s hu hstate hup =>
      (within_next _ _ hu).trans (congrArg Host.Outcome.next ((if_pos hstate).trans (if_pos hup)))
  case recover =>
    exact fun m r s hready _ hup hfenceable hfenced hkept =>
      runCmd_passes (run := unitRecoverRun) hready (unitRecoverCheck_passes (.mb m) hup hfenceable hfenced hkept)
  case recovered =>
    exact fun u m s hu hstate hmb =>
      (within_next _ _ hu).trans (congrArg Host.Outcome.next (recoveryEnd_passed hstate hmb))
  case failed =>
    exact fun u m s hu hstate hmb =>
      (within_next _ _ hu).trans (congrArg Host.Outcome.next (recoveryEnd_failed hstate hmb))
  case pass => exact fun found s hup hunits => congrArg Host.Outcome.next (reconcile_units hup hunits)
  case first =>
    intro m s hnew hready hup hunit
    refine congrArg Host.Outcome.next ((reconcile_units hup ?_).trans (mismatch_first hnew hready))
    exact fun x hx => (List.mem_singleton.mp hx) ▸ hunit

end

/-! ### The logbook's commands and timers (R498, R499, R502–R504) -/

namespace Sys2Proof.Machine

open Sys2Proof

theorem bucketOf_setBucket_period {code : Nat} {b : Bucket} (s : State) (h : b.period ≠ 0) :
    bucketOf (setBucket code b s) code = b :=
  look_put_of_ne _ _ fun hb => h (congrArg Bucket.period hb)

theorem periodInForce_own {code : Nat} {s : State} (h : (bucketOf s code).period ≠ 0) :
    periodInForce s code = (bucketOf s code).period := if_pos h

/-- A period that is set is in force (R499). -/
theorem logRateSetRun_set {r : Req} {s : State} (src : Src) (hperiod : arg r 2 4 ≠ 0) :
    logRateSetRun src r s = ({ payload := le32 (arg r 2 4) },
      logEv 0xC09 6 0xFFFF [snapN (arg r 0 2), snapN (periodInForce s (arg r 0 2)), snapN (arg r 2 4)]
        (setBucket (arg r 0 2) { bucketOf s (arg r 0 2) with period := arg r 2 4 } s)) := by
  unfold logRateSetRun
  extract_lets code old b t now
  have hread : bucketOf t code = { bucketOf s code with period := arg r 2 4 } := bucketOf_setBucket_period s hperiod
  have hset : (bucketOf t code).period = arg r 2 4 := congrArg Bucket.period hread
  have hnow : now = arg r 2 4 := (periodInForce_own (hset ▸ hperiod)).trans hset
  rw [hnow]

theorem tokenRefill_due {code : Nat} {s : State} (hused : (bucketOf s code).used ≠ 0)
    (hdue : refillPeriod code (bucketOf s code) * 68719476736 ≤ (bucketClock s - (bucketOf s code).since).toNat * 1000) :
    tokenRefill code s = setBucket code { bucketOf s code with
      used := (bucketOf s code).used - 1
      since := (bucketOf s code).since
        + BitVec.ofNat 72 (refillPeriod code (bucketOf s code) * 68719476736 / 1000) } s := by
  refine if_pos ?_
  simp only [refillDue, hused, ne_eq, not_false_eq_true, decide_true, Bool.true_and, decide_eq_true_eq]
  exact hdue

theorem tokenRefill_early {code : Nat} {s : State}
    (hearly : (bucketClock s - (bucketOf s code).since).toNat * 1000 < refillPeriod code (bucketOf s code) * 68719476736) :
    tokenRefill code s = s := by
  refine if_neg ?_
  simp only [refillDue, Bool.and_eq_true, decide_eq_true_eq, not_and, Nat.not_le]
  exact fun _ => hearly

theorem windowLastRead_next {s : State} (hup : fabricUp s = true) (hcursor : s.log.cursor < 2 ^ 32 - 1) :
    windowLastRead 8 s = loadWindow (s.log.cursor + 1) (emit (.readData 0 (fieldB (windowBytes s) 120 8)) s) := by
  have hmod : (s.log.cursor + 1) % 2 ^ 32 = s.log.cursor + 1 := Nat.mod_eq_of_lt (by omega)
  simp only [windowLastRead, hup, if_true, hmod, Nat.reduceSub]

end Sys2Proof.Machine

section

open Sys2Proof Sys2Proof.Machine

/-- Settles O30: the commands pass by the range of their arguments, the timers act while the fabric or PD0 is up. -/
theorem logbookCommandsComplete : Obligations.LogbookCommandsComplete := by
  unfold Obligations.LogbookCommandsComplete
  refine ⟨?info, ?read, ?flushes, ?rate, ?clear, ?status, ?timer, ?refill, ?early, ?cursor, ?window⟩
  case info => exact completes_of_runCmd (check := noCheck) (fun _ _ => rfl) (fun _ _ _ _ => rfl) fun _ _ _ _ => rfl
  case read =>
    refine completes_of_runCmd (fun _ _ => rfl) ?_ fun _ _ _ _ => rfl
    rintro _ r s ⟨hpos, hmax⟩
    simp [logReadCheck, Nat.pos_iff_ne_zero.mp hpos, hmax]
  case flushes => exact completes_of_runCmd (check := noCheck) (fun _ _ => rfl) (fun _ _ _ _ => rfl) fun _ _ _ _ => rfl
  case rate =>
    refine completes_of_runCmd (fun _ _ => rfl) ?_ ?_
    · rintro _ r s ⟨hcode, hmin, hmax⟩
      simp [logRateSetCheck, hcode, hmin, hmax]
    · exact fun src r s ⟨_, hmin, _⟩ => logRateSetRun_set src (by omega)
  case clear => exact completes_of_runCmd (check := noCheck) (fun _ _ => rfl) (fun _ _ _ _ => rfl) fun _ _ _ _ => rfl
  case status =>
    refine completes_of_runCmd (fun _ _ => rfl) ?_ fun _ _ _ _ => rfl
    intro _ r s hunit
    simp [faultStatusCheck, hunit]
  case timer => exact fun s hup => congrArg Host.Outcome.next (if_pos hup)
  case refill =>
    rintro code s _ haux rfl hused hdue
    exact congrArg Host.Outcome.next ((if_pos haux).trans (tokenRefill_due hused hdue))
  case early =>
    exact fun code s haux hearly => congrArg Host.Outcome.next ((if_pos haux).trans (tokenRefill_early hearly))
  case cursor => exact fun v s hup => congrArg Host.Outcome.next (if_pos hup)
  case window => exact fun s hup hcursor => congrArg Host.Outcome.next (windowLastRead_next hup hcursor)

end

/-! ### Removal and resumption (R520–R523, R529) -/

namespace Sys2Proof.Machine

open Sys2Proof

/-- A latched removal leaves the fabric up. -/
theorem fabricUp_latchRemoval (w : Nat) (s : State) : fabricUp (latchRemoval w s) = fabricUp s := by
  have hrestart : (latchRemoval w s).log.restart = s.log.restart := by
    unfold latchRemoval
    rw [raiseV_parts]
    exact (stage_units _ _).2.1
  unfold fabricUp
  rw [hrestart, latchRemoval, raiseV_parts, noticeHp, logNotice_parts]

/-- The first request latches the removal and closes what runs (R520). -/
theorem requestRemoval_first {src : RemovalSource} {s : State} (hfirst : s.power.removePending = false) (hup : fabricUp s = true) :
    requestRemoval src s = closeForRemoval (latchRemoval (sourceWord src) s) := by
  simp only [requestRemoval, hfirst, Bool.false_eq_true, if_false, fabricUp_latchRemoval, hup, if_true]

theorem requestRemoval_further {src : RemovalSource} {s : State} (hpending : s.power.removePending = true) :
    requestRemoval src s = noticeHp 0x130 [snapN (sourceWord src), snapN (hpStatus s), snapN s.power.drain] s := if_pos hpending

theorem removeReqN_low {s : State} (hmain : s.power.main = true) (hprsnt : s.power.prsnt = true) :
    removalSource (.removeReqN true) s =
      requestRemoval (.removeReqN true) { s with power := { s.power with removeReq := true } } := if_pos ⟨rfl, hmain, hprsnt⟩

theorem removeReqN_high (s : State) :
    removalSource (.removeReqN false) s = { s with power := { s.power with removeReq := false } } := by
  simp [removalSource]

theorem Word32.odd_of_getLsbD {v : Word32} (h : v.getLsbD 0 = true) : v.toNat % 2 = 1 := by
  rwa [BitVec.getLsbD, Nat.testBit_zero, decide_eq_true_eq] at h

theorem inflightEnds_step {x : Removal} {s : State} (hx : s.power.removal = some x) (hstep : x.step = .inflight)
    (hpause : s.firm.stage ≠ .pause) (hdone : noFlights s = true ∨ 100000 ≤ usSince x.start s) : inflightEnds s = true := by
  simpa [inflightEnds, atStep, removalAge, hx, hstep, hpause] using hdone

theorem drainEnds_step {x : Removal} {s : State} (hx : s.power.removal = some x) (hstep : x.step = .drain)
    (hrun : s.keys.run = none) (hact : s.firm.legalAct = none)
    (hdone : allUndelivered s = 0 ∨ x.drain * 1000 ≤ usSince x.start s) : drainEnds s = true := by
  simpa [drainEnds, atStep, removalAge, removalDrain, hx, hstep, hrun, hact] using hdone

theorem resumeComplete_waiting {ds : List Nat} {m : Nat} {x : Bool} {s t u : State}
    (htrans : s.power.transition = some { domains := ds, on := true, by_ := .resume m, discarded := x })
    (ht : t = ds.foldl (fun u d => powerUp d ((List.range 64).filter fun l => !Config.laneTestOk s.power.starts l) u) s)
    (hu : u = logHp 0x133 [snapN (ofBits ((List.range 12).map ds.contains))] { t with power := { t.power with transition := none } }) :
    resumeComplete s = awaitedOff (finishMb m .ok (le16 (onWord u)) u) := by
  simp only [resumeComplete, htrans, hu, ht]

end Sys2Proof.Machine

section

open Sys2Proof Sys2Proof.Machine

/-- Settles O31: a request latches or is recorded, each step ends by its condition, and a resumption ends the removal. -/
theorem removalRunsItsSteps : Obligations.RemovalRunsItsSteps := by
  unfold Obligations.RemovalRunsItsSteps
  refine ⟨?first, ?ctrl, ?further, ?rise, ?inflight, ?drain, ?cfg, ?resume, ?resumed⟩
  case first =>
    exact fun s hmain hprsnt hfirst hup =>
      congrArg Host.Outcome.next ((removeReqN_low hmain hprsnt).trans (requestRemoval_first hfirst hup))
  case ctrl =>
    exact fun v s hup hbit hfirst => congrArg Host.Outcome.next
      ((if_pos (Word32.odd_of_getLsbD hbit)).trans ((if_pos hup).trans (requestRemoval_first hfirst hup)))
  case further =>
    exact fun s hmain hprsnt hpending =>
      congrArg Host.Outcome.next ((removeReqN_low hmain hprsnt).trans (requestRemoval_further hpending))
  case rise => exact fun s => congrArg Host.Outcome.next (removeReqN_high s)
  case inflight =>
    exact fun s x hup hx hstep hpause hdone =>
      congrArg Host.Outcome.next (if_pos ⟨hup, inflightEnds_step hx hstep hpause hdone⟩)
  case drain =>
    exact fun s x hup hx hstep hrun hact hdone =>
      congrArg Host.Outcome.next (if_pos ⟨hup, drainEnds_step hx hstep hrun hact hdone⟩)
  case cfg =>
    refine completes_of_runCmd (fun _ _ => rfl) ?_ ?_
    · rintro _ r s ⟨hdrain, -⟩
      simp [hpCfgCheck, hdrain]
    · rintro _ r s ⟨-, hnone⟩
      refine Prod.ext rfl (if_neg ?_)
      simp [atStep, hnone]
  case resume =>
    rintro m r s hready hsafe hprsnt hreq htrans _ _ rfl rfl
    refine runCmd_passes (run := hpResumeRun) hready ?_
    simp [hpResumeCheck, hsafe, hprsnt, hreq, htrans]
  case resumed =>
    exact fun s ds m x t u hup htrans ht hu =>
      congrArg Host.Outcome.next ((if_pos hup).trans (resumeComplete_waiting htrans ht hu))

end

/-! ### Power, presence, the PCIe link, resets and restarts (R463–R465, R488, R511) -/

namespace Sys2Proof.Machine

open Sys2Proof

theorem selectReference_none (s : State) : selectReference false 0 s = { s with power := { s.power with refExternal := false } } := by
  simp [selectReference]

/-- A restart with PD10 off (R488). -/
theorem releaseRestart_pd10Off {r : Restart} {s : State} (hr : s.log.restart = some r) (hpd10 : bitOf s.power.on 10 = false) :
    releaseRestart s =
      boot (if r.code = 0xB0E then 18 else 2) (afterF3 r) (resetDomains false 5 { s with log := { s.log with pd10Restart := none } }) := by
  simp only [releaseRestart, hr, hpd10, Bool.false_eq_true, if_false]

theorem rstInNAssert_running {s : State} (haux : s.power.aux = true) (hhigh : s.power.rstIn = false) (hmain : s.power.main = true)
    (hrestart : s.log.restart = none) :
    exec .rstInNAssert s = .next
      (let t := resetDomains true 5 (clearRemoval s)
       { t with power := { t.power with rstIn := true } }) := by
  change Host.Outcome.next (if _ then _ else _) = _
  rw [if_pos ⟨haux, by simp [hhigh]⟩]
  simp only [hrestart, hmain, Option.isSome_none, Bool.false_eq_true, if_false, if_true]

theorem allCool_iff {temps : List Int} : allCool temps = true ↔ ∀ t ∈ temps, t < 1000 := by simp [allCool]

/-- Every die below 100 °C ends a thermal hold, and the start goes on (R543). -/
theorem thermalEnd_cool {temps : List Int} {s : State} (hhold : s.power.thermalHold = true) (hcool : ∀ t ∈ temps, t < 1000)
    (hmain : s.power.main = true) (hrst : s.power.rstIn = false) (hrestart : s.log.restart = none) :
    thermalEnd temps s =
      logHp 0x138 [snapN s.power.cutoffDie, snapI (temps.getD s.power.cutoffDie 0), snapN (holdMs s)]
        (boot 4 id { s with power := { s.power with thermalHold := false } }) := by
  simp only [thermalEnd, hhold, allCool_iff.mpr hcool, hmain, hrst, hrestart, Bool.and_self, Bool.not_false, and_self, if_true,
    Option.isSome_none, Bool.false_eq_true, if_false]

theorem thermalEnd_hot {temps : List Int} {s : State} (hhot : ∃ t ∈ temps, 1000 ≤ t) : thermalEnd temps s = s := by
  obtain ⟨t, ht, hge⟩ := hhot
  refine if_neg fun h => ?_
  have hlt := allCool_iff.mp (Bool.and_eq_true _ _ ▸ h).2 t ht
  omega

end Sys2Proof.Machine

section

open Sys2Proof Sys2Proof.Machine

/-- Settles O32: each pin, link and reset row is the branch that the supply, the pins and a pending restart name. -/
theorem powerLinkAndResetRowsTakeEffect : Obligations.PowerLinkAndResetRowsTakeEffect := by
  unfold Obligations.PowerLinkAndResetRowsTakeEffect
  refine ⟨fun _ => rfl, ?insertion, ?inrush, ?retry, ?powerGood, ?perst, fun _ => rfl, ?linkDown, ?linkUp, ?reset, ?noKey, ?rstIn,
    ?released, ?restart, ?cool, ?hot⟩
  case insertion =>
    exact fun s haux hprsnt => congrArg Host.Outcome.next (if_pos ⟨haux, by simp [hprsnt]⟩)
  case inrush => exact fun peak s hswitch hmain => congrArg Host.Outcome.next (if_pos ⟨hswitch, by simp [hmain]⟩)
  case retry =>
    exact fun s haux hprsnt hswitch hmain hone hthree =>
      congrArg Host.Outcome.next (if_pos ⟨haux, hprsnt, by simp [hswitch], by simp [hmain], hone, hthree⟩)
  case powerGood =>
    intro mv us s haux hprsnt hswitch hmain hpfail
    change Host.Outcome.next (if _ then _ else _) = _
    rw [if_pos ⟨haux, hprsnt, hswitch, by simp [hmain], by simp [hpfail]⟩]
    simp only [selectReference_none]
  case perst =>
    intro s haux hperst hmain
    change Host.Outcome.next (if _ then _ else _) = _
    rw [if_pos ⟨haux, by simp [hperst]⟩]
    simp only [hmain, if_true]
  case linkDown => exact fun s hlink => congrArg Host.Outcome.next (if_pos hlink)
  case linkUp =>
    exact fun b s hup hactive hperst hlink =>
      congrArg Host.Outcome.next (if_pos ⟨hup, hactive, by simp [hperst], by simp [hlink]⟩)
  case reset => exact fun v s hup hkey hbit => congrArg Host.Outcome.next (if_pos ⟨hup, hkey, hbit⟩)
  case noKey => exact fun v s hkey => congrArg Host.Outcome.next (if_neg fun h => hkey h.2.1)
  case rstIn => exact fun s haux hhigh hmain hrestart => rstInNAssert_running haux hhigh hmain hrestart
  case released =>
    intro s hlow hmain hhold
    exact congrArg Host.Outcome.next ((if_pos hlow).trans (if_pos ⟨hmain, by simp [hhold]⟩))
  case restart =>
    exact fun s r hmain hhold hrst hr hpd10 => congrArg Host.Outcome.next
      ((if_pos ⟨hmain, by simp [hhold], by simp [hrst]⟩).trans (releaseRestart_pd10Off hr hpd10))
  case cool =>
    exact fun temps s hhold hcool hmain hrst hrestart =>
      congrArg Host.Outcome.next (thermalEnd_cool hhold hcool hmain hrst hrestart)
  case hot => exact fun temps s hhot => congrArg Host.Outcome.next (thermalEnd_hot hhot)

end

/-! ### What every part of a step keeps: the queue of commands and the canonical form of the memories

Each function of the model that changes the state has one lemma here, `<function>_kept`, whose proof follows the
function's definition: a branch for a branch, the callee's lemma for a call, `apart` for an update of parts that hold no
memory, `host`, `firm` or `meter` for an update of a part that holds one and leaves it as it was. -/

namespace Sys2Proof.Machine

open Sys2Proof

/-- The queue is `p`, and where `c` holds the memories are canonical. A step's lemmas take the rest of the queue for `p`
and the canonical form of the memories before the step for `c`. -/
def Kept (p : List Instr) (c : Prop) (s : State) : Prop := s.pending = p ∧ (c → MemoriesCanonical s)

variable {p : List Instr} {c : Prop} {s t : State}

theorem Kept.branch {a b : State} {q : Prop} {inst : Decidable q} (ha : Kept p c a) (hb : Kept p c b) :
    Kept p c (@ite _ q inst a b) := by
  split
  · exact ha
  · exact hb

theorem Kept.when {f : State → State} {q : Prop} {inst : Decidable q} (hf : ∀ {t}, Kept p c t → Kept p c (f t)) (h : Kept p c s) :
    Kept p c (@ite _ q inst (f s) s) := Kept.branch (hf h) h

theorem Kept.unless {f : State → State} {q : Prop} {inst : Decidable q} (hf : ∀ {t}, Kept p c t → Kept p c (f t))
    (h : Kept p c s) : Kept p c (@ite _ q inst s (f s)) := Kept.branch h (hf h)

theorem Kept.foldl {α : Type} {f : State → α → State} {l : List α} (hf : ∀ t a, Kept p c t → Kept p c (f t a))
    (h : Kept p c s) : Kept p c (l.foldl f s) :=
  List.foldlRecOn (motive := fun t : State => Kept p c t) l f h fun t ht a _ => hf t a ht

/-- An update keeps the memories when it keeps each of the four (R47, R177, R457). -/
theorem Kept.update {host log power clock keys firm legal meter tariff drives charge line radio ingest lanes balance}
    (h : Kept p c t) (ha : host.areas = t.host.areas) (h0 : firm.flash0 = t.firm.flash0) (h1 : firm.flash1 = t.firm.flash1)
    (hc : meter.capture = t.meter.capture) :
    Kept p c
      (State.mk t.pending host log power clock keys firm legal meter tariff drives charge line radio ingest lanes balance) := by
  rw [Kept, MemoriesCanonical, ha, h0, h1, hc]
  exact h

/-- An update of parts that hold no memory. -/
theorem Kept.apart {log power clock keys legal tariff drives charge line radio ingest lanes balance} (h : Kept p c t) :
    Kept p c
      (State.mk t.pending t.host log power clock keys t.firm legal t.meter tariff drives charge line radio ingest lanes balance) :=
  .update h rfl rfl rfl rfl

theorem Kept.host {host log power clock keys legal tariff drives charge line radio ingest lanes balance} (h : Kept p c t)
    (ha : host.areas = t.host.areas) :
    Kept p c
      (State.mk t.pending host log power clock keys t.firm legal t.meter tariff drives charge line radio ingest lanes balance) :=
  .update h ha rfl rfl rfl

theorem Kept.firm {log power clock keys firm legal tariff drives charge line radio ingest lanes balance} (h : Kept p c t)
    (h0 : firm.flash0 = t.firm.flash0) (h1 : firm.flash1 = t.firm.flash1) :
    Kept p c
      (State.mk t.pending t.host log power clock keys firm legal t.meter tariff drives charge line radio ingest lanes balance) :=
  .update h rfl h0 h1 rfl

theorem Kept.meter {log power clock keys legal meter tariff drives charge line radio ingest lanes balance} (h : Kept p c t)
    (hc : meter.capture = t.meter.capture) :
    Kept p c
      (State.mk t.pending t.host log power clock keys t.firm legal meter tariff drives charge line radio ingest lanes balance) :=
  .update h rfl rfl rfl hc

theorem Kept.of_pair {α : Type} {x : α} {d : α × State} (hd : d = (x, t)) (h : Kept p c d.2) : Kept p c t := by
  rwa [hd] at h

/-- The state of an answer that may be none. -/
def KeptIn (p : List Instr) (c : Prop) (o : Option State) : Prop := ∀ t, o = some t → Kept p c t

/-- The state beside an answer that may be none. -/
def KeptWith {α : Type} (p : List Instr) (c : Prop) (o : Option (α × State)) : Prop := ∀ x t, o = some (x, t) → Kept p c t

theorem KeptIn.none : KeptIn p c Option.none := fun _ h => nomatch h

theorem KeptIn.some (h : Kept p c s) : KeptIn p c (Option.some s) := fun _ ht => Option.some.inj ht ▸ h

theorem KeptWith.none {α : Type} : KeptWith (α := α) p c Option.none := fun _ _ h => nomatch h

theorem KeptWith.some {α : Type} {d : α × State} (h : Kept p c d.2) : KeptWith p c (Option.some d) :=
  fun _ _ ht => Kept.of_pair (Option.some.inj ht) h

theorem KeptIn.branch {o o' : Option State} {q : Prop} {inst : Decidable q} (h : KeptIn p c o) (h' : KeptIn p c o') :
    KeptIn p c (@ite _ q inst o o') := by
  split
  · exact h
  · exact h'

theorem KeptWith.branch {α : Type} {o o' : Option (α × State)} {q : Prop} {inst : Decidable q} (h : KeptWith p c o)
    (h' : KeptWith p c o') : KeptWith p c (@ite _ q inst o o') := by
  split
  · exact h
  · exact h'

theorem Kept.branch_pair {α : Type} {d e : α × State} {q : Prop} {inst : Decidable q} (hd : Kept p c d.2) (he : Kept p c e.2) :
    Kept p c (@ite _ q inst d e).2 := by
  split
  · exact hd
  · exact he

theorem KeptIn.foldlM {α : Type} {f : State → α → Option State} (hf : ∀ {t} a, Kept p c t → KeptIn p c (f t a)) (l : List α)
    (h : Kept p c s) : KeptIn p c (l.foldlM f s) := by
  induction l generalizing s with
  | nil => exact .some h
  | cons a l ih =>
    intro t ht
    rw [List.foldlM_cons] at ht
    obtain ⟨u, hu, hl⟩ := Option.bind_eq_some_iff.mp ht
    exact ih (hf a h u hu) t hl

theorem Kept.foldl_pair {α β : Type} {f : β × State → α → β × State} {d : β × State} {l : List α}
    (hf : ∀ d a, Kept p c d.2 → Kept p c (f d a).2) (h : Kept p c d.2) : Kept p c (l.foldl f d).2 :=
  List.foldlRecOn (motive := fun d : β × State => Kept p c d.2) l f h fun d hd a _ => hf d a hd

/-- The host part of one state that is kept fits into another. -/
theorem Kept.host_of {u : State} (hu : Kept p c u) (h : Kept p c s) : Kept p c { s with host := u.host } :=
  ⟨h.1, fun hc => ⟨(hu.2 hc).1, (h.2 hc).2⟩⟩

/-- The state that an admission leaves, refused or not. -/
def admissionState {α β : Type} : Except (α × State) (β × State) → State
  | .error d => d.2
  | .ok d => d.2

end Sys2Proof.Machine

/-! ### Vectors, notices, log entries, mailboxes and queues keep the memories (spec/02, spec/14) -/

namespace Sys2Proof.Machine

open Sys2Proof

variable {p : List Instr} {c : Prop} {s t : State}

theorem raiseV_kept {v} (h : Kept p c s) : Kept p c (raiseV v s) :=
  .branch (.branch (.host h rfl) (.host h rfl)) (.host h rfl)

theorem sendPending_kept {n} (h : Kept p c s) : Kept p c (sendPending n s) := by
  induction n with
  | zero => exact h
  | succ n ih => exact .branch (.host (.apart ih) rfl) ih

theorem stage_kept {a} (h : Kept p c s) : Kept p c (stage a s) :=
  .branch (.branch (.apart (.apart h)) (.apart (.apart h)))
      (.branch (.branch (.apart (.apart h)) (.apart (.apart h))) (.apart (.apart h)))

theorem logEv_kept {code unit obj snaps} (h : Kept p c s) : Kept p c (logEv code unit obj snaps s) :=
  stage_kept h

theorem flush_kept (h : Kept p c s) : Kept p c (flush s) :=
  .unless logEv_kept (.when raiseV_kept (.apart h))

/-- A notice writes its slot of mailbox memory through `writeBytes`, which keeps the canonical form (R47, R55). -/
theorem notice_kept {code sev unit detail} (h : Kept p c s) : Kept p c (notice code sev unit detail s) :=
  ⟨h.1, fun hc => ⟨wf_writeBytes _ _ _ (h.2 hc).1, (h.2 hc).2⟩⟩

theorem logNotice_kept {code unit obj snaps} (h : Kept p c s) : Kept p c (logNotice code unit obj snaps s) :=
  notice_kept (logEv_kept h)

theorem logTb_kept {code n named} (h : Kept p c s) : Kept p c (logTb code n named s) :=
  logEv_kept h

theorem setBank_kept {b k} (h : Kept p c s) : Kept p c (setBank b k s) :=
  .branch (.firm h rfl rfl) (.firm h rfl rfl)

theorem logBoot_kept {code bank named} (h : Kept p c s) : Kept p c (logBoot code bank named s) :=
  logEv_kept h

theorem logBootNotice_kept {code bank named} (h : Kept p c s) : Kept p c (logBootNotice code bank named s) :=
  raiseV_kept (notice_kept (logBoot_kept h))

theorem logKey_kept {code obj gen discarded named} (h : Kept p c s) : Kept p c (logKey code obj gen discarded named s) :=
  logEv_kept h

theorem logTamper_kept {a} (h : Kept p c s) : Kept p c (logTamper a s) :=
  logEv_kept h

theorem legalEntry_kept {code opcode session counter detail} (h : Kept p c s) :
    Kept p c (legalEntry code opcode session counter detail s) :=
  .branch (logTamper_kept (.apart h)) (.branch (raiseV_kept (logNotice_kept (.apart h))) (.when logEv_kept (.apart h)))

theorem legalAuto_kept {code detail} (h : Kept p c s) : Kept p c (legalAuto code detail s) :=
  legalEntry_kept h

theorem tamperSet_kept {a} (h : Kept p c s) : Kept p c (tamperSet a s) :=
  .when legalAuto_kept (logTamper_kept (.apart h))

/-- A response writes mailbox memory through `writeBytes`, which keeps the canonical form (R47, R51). -/
theorem answerMb_kept {n r key st payload} (h : Kept p c s) : Kept p c (answerMb n r key st payload s) :=
  .when raiseV_kept (.host (.host ⟨h.1, fun hc => ⟨wf_writeBytes _ _ _ (h.2 hc).1, (h.2 hc).2⟩⟩ rfl) rfl)

theorem finishMb_kept {n st payload} (h : Kept p c s) : Kept p c (finishMb n st payload s) := by
  dsimp only [finishMb]
  split
  · exact .branch (answerMb_kept h) h
  · exact h

theorem postCqAt_kept {head sq tag st type info payload} (h : Kept p c s) :
    Kept p c (postCqAt head sq tag st type info payload s) :=
  .when raiseV_kept (.host (.host h rfl) rfl)

theorem postCq_kept {sq tag st type info payload} (h : Kept p c s) : Kept p c (postCq sq tag st type info payload s) :=
  postCqAt_kept h

theorem flushDone_kept {sq q} (h : Kept p c s) : Kept p c (flushDone sq q s) :=
  .branch (.host (.host h rfl) rfl) (.host h rfl)

theorem completeSq_kept {sq e rep} (h : Kept p c s) : Kept p c (completeSq sq e rep s) :=
  .branch (.host h rfl) (.branch (.host h rfl) (postCq_kept (.when flushDone_kept (by
            split
            · exact .branch (.host h rfl) (.host (.host h rfl) rfl)
            · exact .host h rfl))))

theorem postWaitFence_kept {sq w} (h : Kept p c s) : Kept p c (postWaitFence sq w s) :=
  postCqAt_kept (.foldl (fun _ _ => flushDone_kept) h)

theorem postWaiting_kept {sq} (h : Kept p c s) : Kept p c (postWaiting sq s) :=
  .foldl (fun _ _ h => by
      split
      · exact completeSq_kept h
      · exact h) (.foldl (fun _ _ => postWaitFence_kept) (.host h rfl))

theorem postAllWaiting_kept (h : Kept p c s) : Kept p c (postAllWaiting s) :=
  .foldl (fun _ _ => postWaiting_kept) h

theorem respond_kept {src r key rep} (h : Kept p c s) : Kept p c (respond src r key rep s) := by
  dsimp only [respond]
  split
  · exact .branch (.host (.host h rfl) rfl) (answerMb_kept h)
  · split
    · exact .branch (.host h rfl) (completeSq_kept h)
    · exact h

theorem mb1Entry_kept {src r code} (h : Kept p c s) : Kept p c (mb1Entry src r code s) := by
  dsimp only [mb1Entry]
  split
  · exact .branch (legalEntry_kept h) h
  · exact h

theorem carryOut_kept {run src r} (hrun : ∀ {t}, Kept p c t → Kept p c (run src r t).2) (h : Kept p c s) :
    Kept p c (carryOut run src r s) :=
  .branch (.branch (respond_kept h) (respond_kept (.branch (hrun h) (mb1Entry_kept (hrun h))))) (respond_kept (hrun h))

theorem countFailure_kept {n session} (h : Kept p c s) : Kept p c (countFailure n session s) :=
  .branch (.apart h) (.when tamperSet_kept (raiseV_kept (logNotice_kept (.host (.apart h) rfl))))

theorem unevaluated_kept {n r} (h : Kept p c s) : KeptIn p c (unevaluated n r s) := by
  dsimp only [unevaluated]
  split
  · exact .some h
  · exact .branch (.some h) (.branch (.some (countFailure_kept h)) .none)

theorem authenticate_kept {n header r} (h : Kept p c s) : Kept p c (authenticate n header r s).2 := by
  dsimp only [authenticate]
  split
  · exact h
  · exact .branch_pair (.apart h) (countFailure_kept h)

theorem checkReq_kept {n header r} (h : Kept p c s) : Kept p c (checkReq n header r s).2 := by
  have h1 : Kept p c (if 1 ≤ n ∧ n ≤ 3 then authenticate n header r s else (none, s)).2 := .branch_pair (authenticate_kept h) h
  dsimp only [checkReq]
  split
  · exact h
  · split
    · exact h1
    · exact h1

theorem admitReq_kept {n header r} (h : Kept p c s) : Kept p c (admitReq n header r s).2 := by
  dsimp only [admitReq]
  split
  · rename_i t ht
    exact KeptIn.branch (unevaluated_kept h) .none t ht
  · exact checkReq_kept h

theorem takeRequest_kept {n} (h : Kept p c s) : Kept p c (takeRequest n s) := by
  dsimp only [takeRequest]
  split
  · split
    · exact answerMb_kept (admitReq_kept (.apart h))
    · exact admitReq_kept (.apart h)
  · exact h

theorem writeBack_kept {q} (h : Kept p c s) : Kept p c (writeBack q s) :=
  .branch (.host h rfl) h

theorem countAvail_kept {q n} (h : Kept p c s) : Kept p c (countAvail q n s) := by
  induction n generalizing s with
  | zero => exact h
  | succ n ih => exact ih (.when raiseV_kept (writeBack_kept (.apart h)))

theorem handOff_kept {q} (h : Kept p c s) : Kept p c (handOff q s) :=
  .branch (.branch (.host h rfl) (.branch h (.unless countAvail_kept (.host h rfl))))
      (.branch (.branch (.host h rfl) (.unless countAvail_kept (.host h rfl))) h)

theorem release_kept {q pl k} (h : Kept p c s) : Kept p c (release q pl k s) := by
  dsimp only [release]
  split
  · exact handOff_kept (.host h rfl)
  · exact handOff_kept (.host h rfl)
  · exact .host (.host h rfl) rfl

theorem writePacket_kept {q pl k bytes reply} (h : Kept p c s) : Kept p c (writePacket q pl k bytes reply s) :=
  .branch (release_kept h) (by
      split
      · exact handOff_kept (.host h rfl)
      · exact handOff_kept (.host h rfl)
      · exact .unless countAvail_kept (.host (.host h rfl) rfl))

theorem spillPan_kept {q} (h : Kept p c s) : Kept p c (spillPan q s) :=
  .branch h (.branch (.branch (handOff_kept (.host (.host h rfl) rfl)) h)
      (.branch (.branch (handOff_kept (.host (.host h rfl) rfl)) h) h))

theorem spillStuck_kept {q} (h : Kept p c s) : Kept p c (spillStuck q s) :=
  .branch (spillPan_kept h) h

theorem grant_kept {q k pl} (h : Kept p c s) : Kept p c (grant q k pl s) :=
  .branch (.host (.host h rfl) rfl) (.branch (.host h rfl) (handOff_kept (.host h rfl)))

theorem reserve_kept {q k} (h : Kept p c s) : Kept p c (reserve q k s).2 := by
  dsimp only [reserve]
  split
  · exact grant_kept (.branch h (spillStuck_kept h))
  · exact .branch (.host (.branch h (spillStuck_kept h)) rfl) (.branch h (spillStuck_kept h))

theorem emitRecord_kept {q bytes} (h : Kept p c s) : KeptIn p c (emitRecord q bytes s) := by
  dsimp only [emitRecord]
  split
  · rename_i _ s1 ht1
    have h1 := Kept.of_pair ht1 (reserve_kept h)
    exact .some (writePacket_kept h1)
  · rename_i s1 ht1
    have h1 := Kept.of_pair ht1 (reserve_kept h)
    exact .none

theorem takeNext_kept {q n} (h : Kept p c s) : Kept p c (takeNext q n s) := by
  dsimp only [takeNext]
  split
  · exact .host (.host h rfl) rfl
  · exact handOff_kept (.host h rfl)
  · exact handOff_kept (.host h rfl)
  · exact h

theorem countRead_kept {q} (h : Kept p c s) : Kept p c (countRead q s) :=
  writeBack_kept (.host h rfl)

theorem writeCells_kept {base size pos a n} (h : Kept p c s) : Kept p c (writeCells base size pos a n s) := by
  induction n generalizing s with
  | zero => exact h
  | succ n ih => exact ih (.apart h)

theorem markDelivered_kept {q a} (h : Kept p c s) : Kept p c (markDelivered q a s) := by
  dsimp only [markDelivered]
  split
  · exact .host h rfl
  · exact h

theorem ringWrite_kept {q a} (h : Kept p c s) : Kept p c (ringWrite q a s) :=
  .when raiseV_kept (markDelivered_kept (writeBack_kept (.host (writeCells_kept h) rfl)))

theorem packetToRing_kept {q} (h : Kept p c s) : Kept p c (packetToRing q s) :=
  .branch (by
      split
      · exact .branch (ringWrite_kept (takeNext_kept h)) (spillPan_kept h)
      · exact .branch (ringWrite_kept (takeNext_kept h)) (spillPan_kept h)
      · exact .branch (ringWrite_kept (takeNext_kept h)) (spillPan_kept h)
      · exact h) (.branch (spillStuck_kept h) h)

theorem tailTimeout_kept {q} (h : Kept p c s) : Kept p c (tailTimeout q s) :=
  .branch (handOff_kept (.host (spillStuck_kept h) rfl)) (spillStuck_kept h)

theorem moderationTimeout_kept {q} (h : Kept p c s) : Kept p c (moderationTimeout q s) :=
  .branch (.branch h (raiseV_kept (.host h rfl))) (.branch (.branch h (raiseV_kept (.host h rfl))) h)

theorem consume_kept {q n} (h : Kept p c s) : Kept p c (consume q n s) :=
  .branch (.host h rfl) (writeBack_kept (.host h rfl))

theorem flushHq_kept {q} (h : Kept p c s) : Kept p c (flushHq q s) :=
  writeBack_kept (.host (.host h rfl) rfl)

theorem hqFlushRun_kept {x r} (h : Kept p c s) : Kept p c (hqFlushRun x r s).2 :=
  flushHq_kept h

theorem sqTail_kept {q v flushes} (h : Kept p c s) : Kept p c (sqTail q v flushes s) :=
  .branch (.host h rfl) (.host h rfl)

theorem endFlushes_kept {cq head n size qs} (h : Kept p c s) : Kept p c (endFlushes cq head n size qs s) := by
  induction qs generalizing s with
  | nil => exact h
  | cons q qs ih => exact ih (.apart h)

theorem cqHead_kept {q v} (h : Kept p c s) : Kept p c (cqHead q v s) :=
  .branch (.host h rfl) (endFlushes_kept (.host h rfl))

theorem qCtrl_kept {q v} (h : Kept p c s) : Kept p c (qCtrl q v s) :=
  .branch (.branch (.branch (.host h rfl) (.host h rfl)) (.branch (.host (flushHq_kept (.host h rfl)) rfl) (.host h rfl)))
      (.branch (.branch (.branch (.host h rfl) (.host h rfl)) (.branch (.host h rfl) (.host h rfl)))
      (.branch (.branch (.host (.foldl (fun _ _ h => .host h rfl) h) rfl) (.host h rfl))
      (.branch (.branch (.host h rfl) (.host h rfl)) (.host h rfl))))

theorem qInfoRun_kept {x r} (h : Kept p c s) : Kept p c (qInfoRun x r s).2 :=
  h

theorem sqNopRun_kept {x a} (h : Kept p c s) : Kept p c (sqNopRun x a s).2 :=
  h

theorem intTestRun_kept {x r} (h : Kept p c s) : Kept p c (intTestRun x r s).2 :=
  raiseV_kept h

end Sys2Proof.Machine

/-! ### Taking a fault keeps the memories (spec/14) -/

namespace Sys2Proof.Machine

open Sys2Proof

variable {p : List Instr} {c : Prop} {s : State}

theorem loadEngine_kept {u} (h : Kept p c s) : Kept p c (loadEngine u s) := by
  dsimp only [loadEngine]
  split
  · exact .firm h rfl rfl
  · exact h

theorem loadDomain_kept {d} (h : Kept p c s) : Kept p c (loadDomain d s) :=
  .foldl (fun _ _ => loadEngine_kept) h

theorem clearDomain_kept {d} (h : Kept p c s) : Kept p c (clearDomain d s) :=
  .foldl (fun _ _ h => .firm h rfl rfl) h

theorem faultRecord_kept {u code taken detected esc obj snaps} (h : Kept p c s) :
    Kept p c (faultRecord u code taken detected esc obj snaps s) :=
  stage_kept h

theorem beginRestart_kept {u code} (h : Kept p c s) : Kept p c (beginRestart u code s) :=
  .branch (.branch (.apart h) h) (.apart (flush_kept
      (.branch (logEv_kept (.apart (.apart (.branch (.apart h) h)))) (.apart (.branch (.apart h) h)))))

theorem takeF3_kept {u code detected esc obj snaps} (h : Kept p c s) : Kept p c (takeF3 u code detected esc obj snaps s) :=
  beginRestart_kept (.apart (.apart (faultRecord_kept h)))

theorem takeF2_kept {u code detected esc obj snaps} (h : Kept p c s) : Kept p c (takeF2 u code detected esc obj snaps s) :=
  .branch (.apart (.apart (.apart (faultRecord_kept h)))) (takeF3_kept h)

theorem logOnly_kept {u code cls} (h : Kept p c s) : Kept p c (logOnly u code cls s) :=
  .apart (.apart (stage_kept h))

theorem recoveryFails_kept {u detail} (h : Kept p c s) : Kept p c (recoveryFails u detail s) := by
  dsimp only [recoveryFails]
  split
  · exact finishMb_kept (logEv_kept (.apart h))
  · exact logEv_kept (.apart h)

theorem raiseFault_kept {u code cls obj snaps} (h : Kept p c s) : Kept p c (raiseFault u code cls obj snaps s) :=
  .branch h (.branch (takeF3_kept h) (.branch (.apart (.apart (faultRecord_kept h)))
      (.branch (.apart (.apart (faultRecord_kept h))) (by
            split
            · exact takeF2_kept h
            · exact .branch (takeF3_kept h) (logOnly_kept h)
            · exact .branch (takeF3_kept h) (logOnly_kept h)
            · exact .branch (takeF3_kept h) (recoveryFails_kept (logOnly_kept h))
            · exact .branch (.apart (.apart (.apart (faultRecord_kept h)))) (takeF2_kept h)))))

theorem countedFault_kept {u code cls obj snaps} (h : Kept p c s) : Kept p c (countedFault u code cls obj snaps s) :=
  .branch h (.apart (.apart (faultRecord_kept h)))

end Sys2Proof.Machine

/-! ### Powerline channels keep the memories (spec/07) -/

namespace Sys2Proof.Machine

open Sys2Proof

variable {p : List Instr} {c : Prop} {s t : State}

theorem placeFrame_kept {d} (h : Kept p c s) : KeptIn p c (placeFrame d s) := by
  dsimp only [placeFrame]
  split
  · exact .some (.apart h)
  · exact .none

theorem placeAll_kept {ds} (h : Kept p c s) : KeptIn p c (placeAll ds s) := by
  induction ds generalizing s with
  | nil => exact .some h
  | cons d ds ih =>
    dsimp only [placeAll]
    split
    · rename_i t ht
      exact ih (placeFrame_kept h t ht)
    · exact .none

theorem placeLink_kept {d} (h : Kept p c s) : KeptIn p c (placeLink d s) := by
  dsimp only [placeLink]
  split
  · exact .branch (.some (.apart h)) .none
  · exact .none

theorem reserveReply_kept {e} (h : Kept p c s) : KeptWith p c (reserveReply e s) :=
  .branch (.some (.apart (.apart h))) (by
      split
      · exact .some (.apart (.apart (.apart h)))
      · exact .none)

theorem syncSlots_kept {k} (h : Kept p c s) : Kept p c (syncSlots k s) :=
  .branch (.foldl (fun _ _ h => .apart h) (.branch h (.apart h))) (.branch h (.apart h))

theorem logPl_kept {code n short slot named} (h : Kept p c s) : Kept p c (logPl code n short slot named s) :=
  logEv_kept h

theorem noticePl_kept {code n short slot} (h : Kept p c s) : Kept p c (noticePl code n short slot s) :=
  raiseV_kept (notice_kept (logPl_kept h))

theorem linkRecord_kept {n event slot detail short route e} (h : Kept p c s) :
    Kept p c (linkRecord n event slot detail short route e s) := by
  dsimp only [linkRecord]
  split
  · rename_i s1 ht1
    have h1 := emitRecord_kept (.apart h) _ ht1
    exact h1
  · exact logPl_kept (.apart (.apart h))

theorem retoll_kept {n short} (h : Kept p c s) : Kept p c (retoll n short s) := by
  dsimp only [retoll]
  split
  · exact h
  · exact .branch (.apart (linkRecord_kept (.apart h))) (.apart h)

theorem finishHost_kept {host rep} (h : Kept p c s) : Kept p c (finishHost host rep s) := by
  dsimp only [finishHost]
  split
  · split
    · exact .branch (completeSq_kept h) h
    · exact h
  · exact h

theorem dropPlQueues_kept {n st} (h : Kept p c s) : Kept p c (dropPlQueues n st s) :=
  .foldl (fun _ _ => finishHost_kept) (.apart h)

theorem settleRefresh_kept {n} (h : Kept p c s) : Kept p c (settleRefresh n s) :=
  .foldl (fun _ _ => finishMb_kept) (.apart h)

theorem endRefresh_kept {n short slot filed} (h : Kept p c s) : Kept p c (endRefresh n short slot filed s) := by
  dsimp only [endRefresh]
  split
  · exact h
  · exact settleRefresh_kept (.apart (.apart h))

theorem setPending_kept {n short slot} (h : Kept p c s) : Kept p c (setPending n short slot s) := by
  dsimp only [setPending]
  split
  · exact h
  · exact .apart h

theorem earlyRefresh_kept {n short slot detail} (h : Kept p c s) : Kept p c (earlyRefresh n short slot detail s) := by
  dsimp only [earlyRefresh]
  split
  · exact h
  · exact .branch h (linkRecord_kept (logPl_kept (setPending_kept (.apart h))))

theorem enqueueOne_kept {n f} (h : Kept p c s) : KeptIn p c (enqueueOne n f s) :=
  .branch .none (.branch (by
        split
        · exact .none
        · exact .branch .none (.some (.apart (.apart (.apart h))))) (.some (.apart (.apart h))))

theorem enqueuePl_kept {n f} (h : Kept p c s) : KeptIn p c (enqueuePl n f s) :=
  .foldlM (fun _ => enqueueOne_kept) _ h

theorem routePl_kept {h1 f} (h : Kept p c s) : KeptIn p c (routePl h1 f s) :=
  enqueuePl_kept h

theorem dropForward_kept {n short} (h : Kept p c s) : Kept p c (dropForward n short s) :=
  logPl_kept (.apart h)

theorem countRequests_kept {n short} (h : Kept p c s) : Kept p c (countRequests n short s) :=
  .foldl (fun _ _ h => by
      split
      · exact h
      · exact .branch (.branch (endRefresh_kept h) (.apart h)) h) h

theorem dropSiblings_kept {n f} (h : Kept p c s) : Kept p c (dropSiblings n f s) := by
  dsimp only [dropSiblings]
  split
  · exact .apart h
  · exact h

theorem finishPl_kept {n x delivered result} (h : Kept p c s) : Kept p c (finishPl n x delivered result s) :=
  .branch h (finishHost_kept (.branch h (dropSiblings_kept h)))

theorem completePl_kept {n x delivered result} (h : Kept p c s) : Kept p c (completePl n x delivered result s) :=
  .branch (dropForward_kept (.host (finishPl_kept (by
            split
            · exact retoll_kept (.apart (.apart h))
            · exact .apart h)) rfl)) (finishPl_kept (by
        split
        · exact retoll_kept (.apart (.apart h))
        · exact .apart h))

theorem failUnsent_kept {n sent mod f} (h : Kept p c s) : Kept p c (failUnsent n sent mod f s) :=
  .when dropForward_kept (finishPl_kept (.apart h))

theorem noteRequest_kept {n short slot} (h : Kept p c s) : Kept p c (noteRequest n short slot s) := by
  dsimp only [noteRequest]
  split
  · exact .apart h
  · exact h

theorem sendPl_kept {n g f} (h : Kept p c s) : Kept p c (sendPl n g f s) :=
  .unless completePl_kept (.apart (.host (.branch (noteRequest_kept (countRequests_kept h)) h) rfl))

theorem resendPl_kept {n g x} (h : Kept p c s) : Kept p c (resendPl n g x s) :=
  .host (.when noteRequest_kept (.apart h)) rfl

theorem turnTaken_kept {n} (h : Kept p c s) : Kept p c (turnTaken n s) := by
  dsimp only [turnTaken]
  split
  · exact .apart h
  · exact h

theorem dataTransmit_kept {n g} (h : Kept p c s) : Kept p c (dataTransmit n g s) := by
  dsimp only [dataTransmit]
  split
  · exact .branch h (.branch (failUnsent_kept (turnTaken_kept h)) (resendPl_kept (turnTaken_kept h)))
  · split
    · exact h
    · exact .branch h (.branch (failUnsent_kept (turnTaken_kept (.apart h))) (sendPl_kept (turnTaken_kept (.apart h))))

theorem ackTransmit_kept {n g} (h : Kept p c s) : Kept p c (ackTransmit n g s) := by
  dsimp only [ackTransmit]
  split
  · exact h
  · exact .branch (.host (.apart h) rfl) (logPl_kept (.apart h))

theorem transmitTurn_kept {n g} (h : Kept p c s) : Kept p c (transmitTurn n g s) :=
  .branch (by
      split
      · exact .branch (ackTransmit_kept h) h
      · exact .branch h (.branch (dataTransmit_kept h) h)) h

theorem plAcked_kept {n} (h : Kept p c s) : Kept p c (plAcked n s) := by
  dsimp only [plAcked]
  split
  · exact h
  · exact completePl_kept (by
          split
          · exact .apart h
          · exact h)

theorem countMiss_kept {n short slot} (h : Kept p c s) : Kept p c (countMiss n short slot s) := by
  dsimp only [countMiss]
  split
  · exact h
  · exact .when earlyRefresh_kept (.apart h)

theorem accessFails_kept {n seq} (h : Kept p c s) : Kept p c (accessFails n seq s) := by
  dsimp only [accessFails]
  split
  · exact .branch (completePl_kept (.apart h)) h
  · exact h

theorem plNotAcked_kept {n accessFailed seq} (h : Kept p c s) : Kept p c (plNotAcked n accessFailed seq s) := by
  dsimp only [plNotAcked]
  split
  · exact .branch (accessFails_kept h) h
  · exact .branch h (.branch (completePl_kept h)
        (.branch h (.branch (completePl_kept (countMiss_kept h)) (.apart (countMiss_kept h)))))

theorem endOldRefresh_kept {n} (h : Kept p c s) : Kept p c (endOldRefresh n s) :=
  .branch (settleRefresh_kept (.apart h)) h

theorem refreshTimer_kept {n short slot} (h : Kept p c s) : Kept p c (refreshTimer n short slot s) := by
  dsimp only [refreshTimer]
  split
  · exact endOldRefresh_kept h
  · exact .branch (by
          split
          · rename_i s1 ht1
            have h1 := enqueuePl_kept (endOldRefresh_kept h) _ ht1
            exact h1
          · exact endOldRefresh_kept h) (endOldRefresh_kept h)

theorem reassemblyTimeout_kept {n tag} (h : Kept p c s) : Kept p c (reassemblyTimeout n tag s) :=
  .branch (logPl_kept (.apart h)) h

theorem removeNbr_kept {n short detail} (h : Kept p c s) : Kept p c (removeNbr n short detail s) := by
  dsimp only [removeNbr]
  split
  · exact h
  · exact settleRefresh_kept (.apart (linkRecord_kept (logPl_kept h)))

theorem nbrAgeing_kept {n short} (h : Kept p c s) : Kept p c (nbrAgeing n short s) := by
  dsimp only [nbrAgeing]
  split
  · exact h
  · exact .branch (removeNbr_kept h) h

theorem routeLapse_kept {n dest} (h : Kept p c s) : Kept p c (routeLapse n dest s) := by
  dsimp only [routeLapse]
  split
  · exact h
  · exact .branch (linkRecord_kept (logPl_kept (.apart h))) h

theorem setImpulsive_kept {n slot on} (h : Kept p c s) : Kept p c (setImpulsive n slot on s) :=
  linkRecord_kept (noticePl_kept (.apart h))

theorem countSlot_kept {n x} (h : Kept p c s) : Kept p c (countSlot n x s) :=
  .branch (setImpulsive_kept (.apart h)) (.when setImpulsive_kept (.apart h))

theorem addNbr_kept {n short eui} (h : Kept p c s) : Kept p c (addNbr n short eui s) :=
  linkRecord_kept (logPl_kept (.apart h))

theorem ensureNbr_kept {n short eui} (h : Kept p c s) : KeptIn p c (ensureNbr n short eui s) := by
  dsimp only [ensureNbr]
  split
  · exact .some h
  · exact .branch (.some (addNbr_kept h)) (by
          split
          · exact .some (addNbr_kept (removeNbr_kept h))
          · exact .none)

theorem nbrTableFull_kept {n short} (h : Kept p c s) : Kept p c (nbrTableFull n short s) :=
  linkRecord_kept (noticePl_kept (.apart h))

theorem deliverLocal_kept {n f bytes} (h : Kept p c s) : KeptIn p c (deliverLocal n f bytes s) :=
  .branch (.some (.host h rfl)) (placeLink_kept h)

theorem storeFragment_kept {n f tag off size bytes} (h : Kept p c s) : KeptIn p c (storeFragment n f tag off size bytes s) :=
  .branch .none (.branch (deliverLocal_kept (.apart h)) (.some (.apart h)))

theorem forwardPl_kept {n f bytes} (h : Kept p c s) : KeptIn p c (forwardPl n f bytes s) :=
  .branch (.some (dropForward_kept h)) (by
      split
      · exact .some (.host h rfl)
      · exact routePl_kept h)

theorem answerBeacon_kept {n bytes} (h : Kept p c s) : Kept p c (answerBeacon n bytes s) :=
  .branch (.host h rfl) (by
      split
      · rename_i s1 ht1
        have h1 := enqueuePl_kept h _ ht1
        exact h1
      · exact h)

theorem placePl_kept {n f bytes} (h : Kept p c s) : KeptIn p c (placePl n f bytes s) :=
  .branch (.some (answerBeacon_kept h)) (.branch (.some (.host h rfl)) (.branch (by
          split
          · exact storeFragment_kept h
          · exact deliverLocal_kept h) (forwardPl_kept h)))

theorem learnReverse_kept {n short x} (h : Kept p c s) : Kept p c (learnReverse n short x s) := by
  dsimp only [learnReverse]
  split
  · exact h
  · exact .when earlyRefresh_kept (.apart h)

theorem learnForward_kept {n short a} (h : Kept p c s) : Kept p c (learnForward n short a s) := by
  dsimp only [learnForward]
  split
  · exact h
  · exact retoll_kept (.when endRefresh_kept (.apart h))

theorem answerRequest_kept {n short} (h : Kept p c s) : Kept p c (answerRequest n short s) := by
  dsimp only [answerRequest]
  split
  · exact h
  · split
    · rename_i s1 ht1
      have h1 := enqueuePl_kept h _ ht1
      exact h1
    · exact h

theorem dueAck_kept {n f} (h : Kept p c s) : Kept p c (dueAck n f s) :=
  .branch (.apart h) h

theorem commitPl_kept {n f} (h : Kept p c s) : Kept p c (commitPl n f s) :=
  dueAck_kept (.when answerRequest_kept (by
        split
        · exact learnForward_kept (.foldl (fun _ _ => learnReverse_kept) (.branch (.apart (by
                      split
                      · exact .apart h
                      · exact h)) (by
                    split
                    · exact .apart h
                    · exact h)))
        · exact .foldl (fun _ _ => learnReverse_kept) (.branch (.apart (by
                    split
                    · exact .apart h
                    · exact h)) (by
                  split
                  · exact .apart h
                  · exact h))))

theorem acceptPl_kept {n f bytes} (h : Kept p c s) : Kept p c (acceptPl n f bytes s) :=
  .branch h (by
      split
      · exact nbrTableFull_kept h
      · rename_i s1 ht1
        have h1 := ensureNbr_kept h _ ht1
        split
        · exact h
        · rename_i s2 ht2
          have h2 := placePl_kept h1 _ ht2
          exact commitPl_kept h2)

theorem securePl_kept {n f} (h : Kept p c s) : Kept p c (securePl n f s) :=
  .branch (acceptPl_kept h) (by
      split
      · exact h
      · split
        · exact noticePl_kept (.apart h)
        · exact .branch (noticePl_kept (.apart h)) (acceptPl_kept h))

theorem receivePl_kept {n f} (h : Kept p c s) : Kept p c (receivePl n f s) := by
  unfold receivePl
  extract_lets k s1 net x s2 seen y
  have h1 : Kept p c s1 := .foldl (fun _ _ => countSlot_kept) h
  have h2 : Kept p c s2 := .apart h1
  exact .branch h1 (.branch h1 (.branch h2 (.branch (dueAck_kept (.apart h2)) (securePl_kept h2))))

end Sys2Proof.Machine

/-! ### Radio channels keep the memories (spec/08) -/

namespace Sys2Proof.Machine

open Sys2Proof

variable {p : List Instr} {c : Prop} {s : State}

theorem logRf_kept {code n i} (h : Kept p c s) : Kept p c (logRf code n i s) :=
  logEv_kept h

theorem noticeRf_kept {code n i} (h : Kept p c s) : Kept p c (noticeRf code n i s) :=
  raiseV_kept (notice_kept (logRf_kept h))

theorem rfLinkRecord_kept {n event detail i l} (h : Kept p c s) : Kept p c (rfLinkRecord n event detail i l s) := by
  dsimp only [rfLinkRecord]
  split
  · rename_i s1 ht1
    have h1 := emitRecord_kept (.apart h) _ ht1
    exact h1
  · exact logRf_kept (.apart (.apart h))

theorem stampRf_kept {n f} (h : Kept p c s) : KeptWith p c (stampRf n f s) :=
  .branch (.some (.apart h)) (.branch (by
        split
        · exact .branch (.some (.apart (.apart h))) .none
        · exact .none) (.branch (.some (.apart (.apart h))) .none))

theorem startAccess_kept {n} (h : Kept p c s) : Kept p c (startAccess n s) :=
  .branch h (by
      split
      · exact .apart (.apart (.apart h))
      · exact .apart (.apart (.apart h))
      · exact .apart (.apart (.apart h))
      · exact h)

theorem enqueueRf_kept {n f} (h : Kept p c s) : KeptIn p c (enqueueRf n f s) := by
  dsimp only [enqueueRf]
  split
  · exact .branch .none (by
          split
          · exact .none
          · rename_i _ s1 ht1
            have h1 := stampRf_kept h _ _ ht1
            split
            · exact .some (.apart h1)
            · exact .none)
  · exact .branch .none (by
          split
          · exact .none
          · rename_i _ s1 ht1
            have h1 := stampRf_kept h _ _ ht1
            exact .some (startAccess_kept (.apart h1)))

theorem completeRf_kept {n f result} (h : Kept p c s) : Kept p c (completeRf n f result s) :=
  startAccess_kept (finishHost_kept (.apart h))

theorem nextBackoff_kept {n a} (h : Kept p c s) : Kept p c (nextBackoff n a s) :=
  .apart (.apart (.apart h))

theorem backoffExpiry_kept {n energy} (h : Kept p c s) : Kept p c (backoffExpiry n energy s) := by
  dsimp only [backoffExpiry]
  split
  · exact h
  · exact .branch (.branch (completeRf_kept h) (nextBackoff_kept h))
        (.branch (completeRf_kept h) (.branch (.branch (.apart (.apart (.host h rfl)))
        (completeRf_kept (.apart (.apart (.host h rfl))))) (nextBackoff_kept h)))

theorem endDownlink_kept {n i result} (h : Kept p c s) : Kept p c (endDownlink n i result s) := by
  dsimp only [endDownlink]
  split
  · exact .apart h
  · split
    · exact .apart h
    · exact finishHost_kept (.apart (.apart (.apart h)))

theorem sendDownlink_kept {n i listen} (h : Kept p c s) : Kept p c (sendDownlink n i listen s) := by
  dsimp only [sendDownlink]
  split
  · exact h
  · split
    · exact h
    · exact .branch h (.branch (endDownlink_kept h) (.unless endDownlink_kept (.apart (.apart (.apart (.host h rfl))))))

theorem rfAcked_kept {n} (h : Kept p c s) : Kept p c (rfAcked n s) := by
  dsimp only [rfAcked]
  split
  · exact endDownlink_kept h
  · split
    · exact completeRf_kept h
    · exact h

theorem rfNotAcked_kept {n} (h : Kept p c s) : Kept p c (rfNotAcked n s) := by
  dsimp only [rfNotAcked]
  split
  · exact .branch (endDownlink_kept h) (.apart h)
  · split
    · exact .branch (completeRf_kept h) (nextBackoff_kept (.apart h))
    · exact h

theorem removeLink_kept {n i detail} (h : Kept p c s) : Kept p c (removeLink n i detail s) := by
  dsimp only [removeLink]
  split
  · exact h
  · exact .foldl (fun _ _ => finishHost_kept) (by
          split
          · exact .apart (.apart (.apart (noticeRf_kept (rfLinkRecord_kept h))))
          · exact .apart (.apart (noticeRf_kept (rfLinkRecord_kept h))))

theorem enterReAcquire_kept {n i l} (h : Kept p c s) : Kept p c (enterReAcquire n i l s) :=
  noticeRf_kept (rfLinkRecord_kept (.apart h))

theorem windowTune_kept {n i} (h : Kept p c s) : Kept p c (windowTune n i s) := by
  dsimp only [windowTune]
  split
  · exact h
  · split
    · exact h
    · exact .branch (.apart h) (.apart h)

theorem missEvent_kept {n i l} (h : Kept p c s) : Kept p c (missEvent n i l s) := by
  dsimp only [missEvent]
  split
  · exact .branch (rfLinkRecord_kept (.apart h)) (.apart h)
  · exact .apart h
  · exact h

theorem resumeLinks_kept {n} (h : Kept p c s) : Kept p c (resumeLinks n s) :=
  .foldl (fun _ _ => enterReAcquire_kept) h

theorem linkWindowEnd_kept {n i} (h : Kept p c s) : Kept p c (linkWindowEnd n i s) := by
  dsimp only [linkWindowEnd]
  split
  · exact h
  · split
    · exact .unless missEvent_kept (.branch (.apart h) h)
    · split
      · exact .apart (.unless missEvent_kept (.branch (.apart h) h))
      · exact .when enterReAcquire_kept (.apart (.unless missEvent_kept (.branch (.apart h) h)))

theorem supervision_kept {n i} (h : Kept p c s) : Kept p c (supervision n i s) := by
  dsimp only [supervision]
  split
  · exact h
  · exact .branch (removeLink_kept h) h

theorem dutyEvent_kept {n detail was now} (h : Kept p c s) : Kept p c (dutyEvent n detail was now s) :=
  .branch h (logRf_kept (rfLinkRecord_kept h))

theorem dutyChange_kept {n ack} (h : Kept p c s) : Kept p c (dutyChange n ack s) :=
  .branch (dutyEvent_kept (.apart h)) (dutyEvent_kept (.apart h))

theorem deviceAgeing_kept {k eui} (h : Kept p c s) : Kept p c (deviceAgeing k eui s) := by
  dsimp only [deviceAgeing]
  split
  · exact h
  · exact .branch (.apart h) h

theorem closeWindow_kept {n i} (h : Kept p c s) : Kept p c (closeWindow n i s) :=
  .branch (.apart h) h

theorem commitAnchor_kept {n x f} (h : Kept p c s) : Kept p c (commitAnchor n x f s) := by
  dsimp only [commitAnchor]
  split
  · split
    · exact h
    · exact closeWindow_kept (sendDownlink_kept (.when rfLinkRecord_kept (.apart h)))
  · split
    · exact h
    · exact noticeRf_kept (rfLinkRecord_kept (.apart h))
  · exact h
  · exact h

theorem ensureDev_kept {k eui short} (h : Kept p c s) : KeptIn p c (ensureDev k eui short s) := by
  dsimp only [ensureDev]
  split
  · exact .some h
  · exact .branch (.some (.apart h)) (by
          split
          · exact .some (.apart (.apart h))
          · exact .none)

theorem sendRfAck_kept {n pending f} (h : Kept p c s) : Kept p c (sendRfAck n pending f s) :=
  .apart (.host (.apart h) rfl)

theorem ackRf_kept {n x f} (h : Kept p c s) : Kept p c (ackRf n x f s) :=
  .branch h (.branch (logRf_kept h) (commitAnchor_kept (sendRfAck_kept h)))

theorem placeRf_kept {n eui x1 f bytes} (h : Kept p c s) : KeptIn p c (placeRf n eui x1 f bytes s) :=
  .branch (.some (.host h rfl)) (.branch (.some (.host h rfl)) (placeLink_kept h))

theorem commitRf_kept {n eui x f} (h : Kept p c s) : Kept p c (commitRf n eui x f s) :=
  ackRf_kept (by
      split
      · exact .apart h
      · exact h)

theorem acceptRf_kept {n eui x f bytes} (h : Kept p c s) : Kept p c (acceptRf n eui x f bytes s) := by
  dsimp only [acceptRf]
  split
  · exact rfLinkRecord_kept (noticeRf_kept (.apart h))
  · rename_i s1 ht1
    have h1 := ensureDev_kept h _ ht1
    split
    · exact h
    · rename_i s2 ht2
      have h2 := placeRf_kept h1 _ ht2
      exact commitRf_kept h2

theorem checkRf_kept {n eui f} (h : Kept p c s) : Kept p c (checkRf n eui f s) :=
  .branch h (.branch (ackRf_kept (.apart h)) (.branch (acceptRf_kept h) (by
          split
          · exact logRf_kept (.apart h)
          · exact h
          · exact .branch (noticeRf_kept (.apart h)) (by
                  split
                  · exact logRf_kept h
                  · exact acceptRf_kept h))))

theorem receiveRf_kept {n f} (h : Kept p c s) : Kept p c (receiveRf n f s) :=
  .branch h (.branch (.host (.apart h) rfl) (by
        split
        · exact .apart h
        · exact checkRf_kept (.apart h)))

end Sys2Proof.Machine

/-! ### Sensor buses and the ingest stages keep the memories (spec/09) -/

namespace Sys2Proof.Machine

open Sys2Proof

variable {p : List Instr} {c : Prop} {s : State}

theorem smbSend_kept {n b} (h : Kept p c s) : Kept p c (smbSend n b s) :=
  .host (.branch (.host h rfl) h) rfl

theorem queueAck_kept {e} (h : Kept p c s) : Kept p c (queueAck e s) :=
  .branch (.branch (.host h rfl) h) (.branch h (.branch (by
          dsimp only
          split
          · rename_i s1 ht1
            have h1 := enqueueRf_kept h _ ht1
            exact h1
          · exact h) (.branch (by
            dsimp only
            split
            · split
              · rename_i s1 ht1
                have h1 := routePl_kept h _ ht1
                exact h1
              · exact h
            · exact h) (smbSend_kept h))))

theorem sendReply_kept {i} (h : Kept p c s) : Kept p c (sendReply i s) := by
  dsimp only [sendReply]
  split
  · exact h
  · exact .apart (.apart (queueAck_kept h))

theorem settleReply_kept {i} (h : Kept p c s) : Kept p c (settleReply i s) := by
  dsimp only [settleReply]
  split
  · exact h
  · exact .branch (sendReply_kept h) h

theorem replyWritten_kept {i n} (h : Kept p c s) : Kept p c (replyWritten i n s) := by
  dsimp only [replyWritten]
  split
  · exact h
  · exact settleReply_kept (.apart h)

theorem freeReply_kept {i} (h : Kept p c s) : Kept p c (freeReply i s) := by
  dsimp only [freeReply]
  split
  · exact .apart h
  · exact h

theorem recordDone_kept {i} (h : Kept p c s) : Kept p c (recordDone i s) := by
  dsimp only [recordDone]
  split
  · exact h
  · exact settleReply_kept (.apart h)

theorem recordDelivered_kept {hq seq} (h : Kept p c s) : Kept p c (recordDelivered hq seq s) := by
  dsimp only [recordDelivered]
  split
  · exact h
  · exact recordDone_kept (.host h rfl)

theorem replyExpiry_kept {i} (h : Kept p c s) : Kept p c (replyExpiry i s) := by
  dsimp only [replyExpiry]
  split
  · exact .branch (.apart h) h
  · exact h

theorem logIng_kept {code n tag fl} (h : Kept p c s) : Kept p c (logIng code n tag fl s) :=
  logEv_kept h

theorem parityError_kept {n i} (h : Kept p c s) : Kept p c (parityError n i s) :=
  .when raiseFault_kept (countedFault_kept (.apart (.apart h)))

theorem checkBucket_kept {n b} (h : Kept p c s) : Kept p c (checkBucket n b s) :=
  .foldl (fun _ _ h => .branch h (parityError_kept h)) h

theorem writeRecords_kept {q pl k entry l} (h : Kept p c s) : Kept p c (writeRecords q pl k entry l s) := by
  induction l generalizing k s with
  | nil => exact release_kept h
  | cons b l ih =>
    cases l with
    | nil => exact writePacket_kept h
    | cons b' l => exact ih (writePacket_kept h)

theorem tellHost_kept {fl rep} (h : Kept p c s) : Kept p c (tellHost fl rep s) :=
  finishHost_kept h

theorem finishFrame_kept {n fl records uplink acked outcome} (h : Kept p c s) :
    Kept p c (finishFrame n fl records uplink acked outcome s) :=
  tellHost_kept (.apart (.apart (by
          split
          · exact replyWritten_kept (by
                  split
                  · exact writeRecords_kept (writeRecords_kept h)
                  · exact writeRecords_kept h)
          · exact freeReply_kept (by
                  split
                  · exact writeRecords_kept (writeRecords_kept h)
                  · exact writeRecords_kept h))))

theorem discardFrame_kept {n fl st} (h : Kept p c s) : Kept p c (discardFrame n fl st s) :=
  .unless tellHost_kept (.apart (.apart (freeReply_kept (freeReply_kept (by
              split
              · exact release_kept (release_kept h)
              · exact release_kept h)))))

theorem finishRaw_kept {n fl hasCtx} (h : Kept p c s) : Kept p c (finishRaw n fl hasCtx s) :=
  finishFrame_kept (logIng_kept (.apart h))

theorem finishAlarm_kept {n fl cause detail vflags outcome} (h : Kept p c s) :
    Kept p c (finishAlarm n fl cause detail vflags outcome s) :=
  finishFrame_kept h

theorem logLane_kept {code lane obj gen discarded named} (h : Kept p c s) :
    Kept p c (logLane code lane obj gen discarded named s) :=
  logEv_kept h

theorem authFailed_kept {n fl detail lane} (h : Kept p c s) : Kept p c (authFailed n fl detail lane s) :=
  finishAlarm_kept (logLane_kept (.apart h))

theorem learnLater_kept {n key ctx gen} (h : Kept p c s) : Kept p c (learnLater n key ctx gen s) :=
  .branch (.apart h) (.apart h)

theorem viaDirectory_kept {n key} (h : Kept p c s) : Kept p c (viaDirectory n key s).2 := by
  dsimp only [viaDirectory]
  split
  · exact .branch_pair (learnLater_kept h) h
  · exact h

theorem findContext_kept {n key} (h : Kept p c s) : Kept p c (findContext n key s).2 := by
  dsimp only [findContext]
  split
  · exact .branch_pair (.apart (checkBucket_kept (checkBucket_kept h)))
        (viaDirectory_kept (.apart (checkBucket_kept (checkBucket_kept h))))
  · exact viaDirectory_kept (checkBucket_kept (checkBucket_kept h))

theorem enterStages_kept {n fl} (h : Kept p c s) : Kept p c (enterStages n fl s) :=
  .branch (finishRaw_kept h) (by
      split
      · rename_i s1 ht1
        have h1 := Kept.of_pair ht1 (findContext_kept h)
        exact finishRaw_kept h1
      · rename_i _ s1 ht1
        have h1 := Kept.of_pair ht1 (findContext_kept h)
        exact .branch (finishAlarm_kept (by
                split
                · split
                  · exact .apart (.apart h1)
                  · exact .apart h1
                · exact .apart h1)) (by
              split
              · exact authFailed_kept (by
                      split
                      · split
                        · exact .apart (.apart h1)
                        · exact .apart h1
                      · exact .apart h1)
              · exact .apart (by
                      split
                      · split
                        · exact .apart (.apart h1)
                        · exact .apart h1
                      · exact .apart h1)))

theorem closeAdmission_kept {n a fl} (h : Kept p c s) : Kept p c (closeAdmission n a fl s) := by
  dsimp only [closeAdmission]
  split
  · exact .branch (logIng_kept (raiseV_kept (.apart h))) (.apart h)
  · exact .branch (.apart h) (logEv_kept (.apart (.apart h)))

/-- The state that a reservation in the uplink leaves, made or not. -/
def uplinkState {β : Type} : Except State (β × State) → State
  | .error s => s
  | .ok d => d.2

theorem reserveAll_kept {n d} (h : Kept p c s) : Kept p c (admissionState (reserveAll n d s)) := by
  unfold reserveAll
  extract_lets f x u addr
  split
  · rename_i s1 h1
    exact .of_pair h1 (reserve_kept h)
  · rename_i pl s1 h1
    have k1 : Kept p c s1 := .of_pair h1 (reserve_kept h)
    extract_lets up
    have hup : Kept p c (uplinkState up) := by
      unfold up
      split
      · exact k1
      · have k2 := reserve_kept (q := f.uhq) (k := u) k1
        split
        · rename_i h2
          exact .of_pair h2 k2
        · rename_i h2
          exact .of_pair h2 k2
    clear_value up
    split
    · exact release_kept hup
    · rename_i place s2
      split
      · split
        · rename_i h3
          exact reserveReply_kept hup _ _ h3
        · refine release_kept ?_
          split
          · exact release_kept hup
          · exact hup
      · exact hup

theorem admitFrame_kept {n} (h : Kept p c s) : Kept p c (admitFrame n s) := by
  dsimp only [admitFrame]
  split
  · split
    · rename_i d rest tag _ _
      have h1 := reserveAll_kept (n := n) (d := d) h
      split
      · rename_i ht
        rw [ht] at h1
        exact closeAdmission_kept h1
      · rename_i ht
        rw [ht] at h1
        exact enterStages_kept (.apart (.apart h1))
    · exact h
  · exact h

theorem reopen_kept {n} (h : Kept p c s) : Kept p c (reopen n s) := by
  dsimp only [reopen]
  split
  · exact h
  · exact .branch (by
          split
          · exact .when logIng_kept (.apart h)
          · exact .apart (.apart h)) h

theorem victimOf_kept {n b but} (h : Kept p c s) : Kept p c (victimOf n b but s).2 :=
  .branch_pair h (.apart h)

theorem relocate_kept {n fuel e b but} (h : Kept p c s) : Kept p c (relocate n fuel e b but s) := by
  induction fuel generalizing e b but s with
  | zero => exact h
  | succ fuel ih =>
    dsimp only [relocate]
    split
    · exact .apart (.apart (victimOf_kept h))
    · exact ih (.apart (victimOf_kept h))

theorem insertJt_kept {n key ctx gen} (h : Kept p c s) : Kept p c (insertJt n key ctx gen s) := by
  dsimp only [insertJt]
  split
  · exact .apart h
  · split
    · exact .apart h
    · split
      · exact .apart h
      · exact relocate_kept h

theorem junctionLearn_kept {n} (h : Kept p c s) : Kept p c (junctionLearn n s) := by
  dsimp only [junctionLearn]
  split
  · exact h
  · exact insertJt_kept (.apart h)

end Sys2Proof.Machine

/-! ### The balance engine keeps the memories (spec/11) -/

namespace Sys2Proof.Machine

open Sys2Proof

variable {p : List Instr} {c : Prop} {s : State}

theorem logBal_kept {code k start ctx res} (h : Kept p c s) : Kept p c (logBal code k start ctx res s) :=
  logEv_kept h

theorem pushClosed_kept {k a start} (h : Kept p c s) : Kept p c (pushClosed k a start s) :=
  .branch (.apart h) (.when logBal_kept (.apart h))

theorem closeBal_kept {k i cause} (h : Kept p c s) : Kept p c (closeBal k i cause s) := by
  unfold closeBal
  extract_lets g interval result r payload closed balance s1 s2 s3 s4 s5
  have h3 : Kept p c s3 := pushClosed_kept (.apart (.apart h))
  have h5 : Kept p c s5 := .when logBal_kept (.unless logBal_kept h3)
  exact .branch (raiseV_kept (logNotice_kept h5)) h5

theorem closeAll_kept {k cause} (h : Kept p c s) : Kept p c (closeAll k cause s) :=
  .foldl (fun _ _ => closeBal_kept) h

theorem coverClose_kept {k} (h : Kept p c s) : Kept p c (coverClose k s) :=
  .foldl (fun _ _ => closeBal_kept) h

theorem openInterval_kept {k start} (h : Kept p c s) : Kept p c (openInterval k start s) :=
  .apart (by
      split
      · exact .branch (closeBal_kept h) h
      · exact h)

theorem placeShare_kept {k m si part} (h : Kept p c s) : Kept p c (placeShare k m si part s) := by
  dsimp only [placeShare]
  split
  · exact .apart (.branch (openInterval_kept h) h)
  · exact .apart (.branch (openInterval_kept h) h)

theorem placeShares_kept {k m n si left} (h : Kept p c s) : Kept p c (placeShares k m n si left s) := by
  induction n generalizing si left s with
  | zero => exact h
  | succ n ih => exact ih (placeShare_kept h)

theorem applyE_kept {k m} (h : Kept p c s) : Kept p c (applyE k m s) :=
  .branch (coverClose_kept (.apart (.branch (placeShares_kept h) h))) h

theorem balTick_kept {mp dp i2t volts n} (h : Kept p c s) : Kept p c (balTick mp dp i2t volts n s) := by
  dsimp only [balTick]
  split
  · exact h
  · exact .branch (by
          split
          · exact .branch (openInterval_kept h) h
          · exact coverClose_kept (.apart (.branch (openInterval_kept h) h))) h

theorem balTickLost_kept {mp} (h : Kept p c s) : Kept p c (balTickLost mp s) := by
  dsimp only [balTickLost]
  split
  · exact h
  · split
    · exact h
    · exact .apart h

theorem decideAfter_kept {k ctx fl} (h : Kept p c s) : Kept p c (decideAfter k ctx fl s) :=
  .when logBal_kept (.branch (raiseV_kept (logNotice_kept (.apart h))) (.apart h))

theorem applyU_kept {k ctx period a dv fl} (h : Kept p c s) : Kept p c (applyU k ctx period a dv fl s) :=
  .branch (by
      split
      · exact h
      · exact decideAfter_kept (.apart h)) h

theorem applyVote_kept {k ctx fl} (h : Kept p c s) : Kept p c (applyVote k ctx fl s) :=
  .branch (decideAfter_kept (.apart h)) h

theorem membersUpdate_kept {i old new} (h : Kept p c s) : Kept p c (membersUpdate i old new s) :=
  .branch (.branch h (by
        split
        · exact .apart (by
                split
                · exact .apart h
                · exact h)
        · split
          · exact .apart h
          · exact h)) (.apart (.branch h (by
          split
          · exact .apart (by
                  split
                  · exact .apart h
                  · exact h)
          · split
            · exact .apart h
            · exact h)))

end Sys2Proof.Machine

/-! ### Metrology keeps the memories, the capture memory among them (spec/04) -/

namespace Sys2Proof.Machine

open Sys2Proof

variable {p : List Instr} {c : Prop} {s t : State}

theorem capture_kept {code detail id offset} (h : Kept p c s) : Kept p c (capture code detail id offset s) :=
  .branch (.apart (.apart h)) (.branch (raiseV_kept (.apart (.apart h))) (logEv_kept (.apart (.apart h))))

theorem setChan_kept {a b} (h : Kept p c s) : Kept p c (setChan a b s) :=
  .meter h rfl

theorem logMeter_kept {code obj alarms named} (h : Kept p c s) : Kept p c (logMeter code obj alarms named s) :=
  logEv_kept h

theorem alarmChange_kept {mp bit on element measured} (h : Kept p c s) : Kept p c (alarmChange mp bit on element measured s) := by
  dsimp only [alarmChange]
  split
  · exact .when tamperSet_kept (.branch (logMeter_kept (.meter h rfl)) (raiseV_kept (notice_kept (logMeter_kept (.meter h rfl)))))
  · exact .branch (logMeter_kept (.meter h rfl)) (raiseV_kept (notice_kept (logMeter_kept (.meter h rfl))))

theorem alarmTo_kept {mp bit on element measured} (h : Kept p c s) : Kept p c (alarmTo mp bit on element measured s) :=
  .branch h (alarmChange_kept h)

theorem alarmAllOf_kept {bit on measured f} (h : Kept p c s) : Kept p c (alarmAllOf bit on measured f s) :=
  .foldl (fun _ _ h => .branch (alarmTo_kept h) h) h

theorem alarmAll_kept {bit on f} (h : Kept p c s) : Kept p c (alarmAll bit on f s) :=
  alarmAllOf_kept h

theorem noteSwitch_kept {a at_} (h : Kept p c s) : Kept p c (noteSwitch a at_ s) :=
  .meter h rfl

theorem writeThroughAll_kept (h : Kept p c s) : Kept p c (writeThroughAll s) :=
  .foldl (fun _ _ h => .meter h rfl) h

theorem pulseAll_kept {incs} (h : Kept p c s) : Kept p c (pulseAll s incs) := by
  unfold pulseAll
  refine .foldl (fun t k h => ?_) h
  extract_lets u
  split
  · generalize pulseStep t.meter.samples u (nthI (incs u.mp) u.reg) = d
    obtain ⟨u', edges⟩ := d
    exact .branch (.apart h) (.apart (.apart h))
  · exact h

theorem applyChannel_kept {a} (h : Kept p c s) : Kept p c (applyChannel a s) :=
  .branch (.meter (setChan_kept (.branch (noteSwitch_kept h) h)) rfl) (setChan_kept (.branch (noteSwitch_kept h) h))

theorem applyConfig_kept (h : Kept p c s) : Kept p c (applyConfig s) :=
  .foldl (fun _ _ h => .meter h rfl) (.foldl (fun _ _ => applyChannel_kept) h)

theorem countOver_kept {samples} (h : Kept p c s) : Kept p c (countOver samples s) :=
  .foldl (fun _ _ => setChan_kept) h

theorem pointEnd_kept {samples n m} (h : Kept p c s) : Kept p c (pointEnd samples n m s).2 :=
  .branch_pair (.when alarmTo_kept (.branch (tamperSet_kept (alarmTo_kept (.meter h rfl))) (.meter h rfl))) h

theorem pointsEnd_kept {samples n} (h : Kept p c s) : Kept p c (pointsEnd samples n s).2 :=
  .foldl_pair (fun _ _ h => pointEnd_kept h) h

theorem meterTick_kept {samples} (h : Kept p c s) : Kept p c (meterTick samples s).2 := by
  have h1 := pointsEnd_kept (samples := samples) (n := min (tickSamples samples) (320 - s.meter.tickPos))
    (countOver_kept (samples := samples) h)
  dsimp only [meterTick]
  generalize pointsEnd samples _ (countOver samples s) = d at h1 ⊢
  exact pulseAll_kept (.apart h1)

theorem setRot_kept {r} (h : Kept p c s) : Kept p c (setRot r s) :=
  .meter h rfl

theorem logSpare_kept {a} (h : Kept p c s) : Kept p c (logSpare a s) :=
  logMeter_kept h

theorem spareFailed_kept {a} (h : Kept p c s) : Kept p c (spareFailed a s) :=
  .when alarmAll_kept (logSpare_kept (.meter (setChan_kept h) rfl))

theorem suspendRotation_kept (h : Kept p c s) : Kept p c (suspendRotation s) :=
  logMeter_kept (alarmAll_kept (setRot_kept h))

theorem acceptBg_kept {path g a fresh} (h : Kept p c s) : Kept p c (acceptBg path g a fresh s) := by
  dsimp only [acceptBg]
  split
  · exact .branch (logSpare_kept h) (.meter h rfl)
  · exact h

theorem endStep3_kept {m} (h : Kept p c s) : Kept p c (endStep3 m s) :=
  .branch (setRot_kept (spareFailed_kept h)) (setRot_kept (acceptBg_kept (noteSwitch_kept h)))

theorem endStep7_kept {m} (h : Kept p c s) : Kept p c (endStep7 m s) := by
  unfold endStep7
  extract_lets r a g own bad accepted s1 s2 u s3
  have h2 : Kept p c s2 := .branch (spareFailed_kept (noteSwitch_kept h)) (acceptBg_kept (noteSwitch_kept h))
  have h3 : Kept p c s3 := .branch (alarmAll_kept (setChan_kept h2)) h2
  exact setRot_kept h3

theorem endSlot_kept (h : Kept p c s) : Kept p c (endSlot s) :=
  setRot_kept h

theorem sparePhase_kept {m} (h : Kept p c s) : Kept p c (sparePhase m s) :=
  .branch h (.branch (endSlot_kept h) (.branch (setRot_kept h)
      (.branch (setRot_kept h) (.branch (.branch (suspendRotation_kept h) (setRot_kept h))
      (.branch (setRot_kept h) (.branch (endStep3_kept h) (endStep7_kept h)))))))

theorem retrySpare_kept {zero ref} (h : Kept p c s) : Kept p c (retrySpare zero ref s) :=
  .branch (logMeter_kept (alarmAll_kept (setRot_kept (endSlot_kept (setRot_kept h))))) h

theorem freqValue_kept {f} (h : Kept p c s) : Kept p c (freqValue f s).2 := by
  dsimp only [freqValue]
  split
  · exact h
  · exact .apart h

theorem windowHarmonics_kept {b x freq} (h : Kept p c s) : Kept p c (windowHarmonics b x freq s) :=
  .foldl (fun _ _ h => .branch h (setChan_kept h)) h

theorem windowEnd_kept {m x crossings} (h : Kept p c s) : Kept p c (windowEnd m x crossings s) :=
  .branch (windowHarmonics_kept (.meter (freqValue_kept h) rfl)) h

theorem alarmTimer_kept {m bit} (h : Kept p c s) : Kept p c (alarmTimer m bit s) :=
  .branch (.branch (.branch (alarmTo_kept h) h) (by
        split
        · exact alarmTo_kept h
        · exact h)) h

theorem meterRecord_kept {m type vflags counter stamp payload} (h : Kept p c s) :
    Kept p c (meterRecord m type vflags counter stamp payload s) := by
  dsimp only [meterRecord]
  split
  · rename_i t ht
    exact KeptIn.branch .none (emitRecord_kept h) t ht
  · exact logMeter_kept (.apart h)

theorem sendInterval_kept {u} (h : Kept p c s) : Kept p c (sendInterval u s) :=
  meterRecord_kept (.meter h rfl)

theorem pointBoundary_kept {kept late m} (h : Kept p c s) : Kept p c (pointBoundary kept late m s) :=
  .branch (.branch (.meter (.meter h rfl) rfl) (sendInterval_kept (.meter h rfl))) h

theorem closeIntervalAs_kept {kept late boundary offset} (h : Kept p c s) :
    Kept p c (closeIntervalAs kept late boundary offset s) :=
  .meter (.foldl (fun _ _ h => .meter h rfl) (.foldl (fun _ _ => pointBoundary_kept) (.branch (capture_kept h) h))) rfl

theorem closeInterval_kept {boundary offset} (h : Kept p c s) : Kept p c (closeInterval boundary offset s) :=
  closeIntervalAs_kept h

theorem intervalBoundary_kept {offset} (h : Kept p c s) : Kept p c (intervalBoundary offset s) :=
  .branch (closeInterval_kept h) h

theorem dueInterval_kept (h : Kept p c s) : Kept p c (dueInterval s) :=
  intervalBoundary_kept h

theorem intervalTb2Moved_kept {old} (h : Kept p c s) : Kept p c (intervalTb2Moved old s) :=
  .branch (.branch (.branch (closeInterval_kept (.meter h rfl)) h) (.meter h rfl)) h

theorem sendUnsent_kept (h : Kept p c s) : Kept p c (sendUnsent s) :=
  .branch (.foldl (fun _ _ => sendInterval_kept) (.meter h rfl)) h

theorem rocofOf_kept {now before rate} (h : Kept p c s) : Kept p c (rocofOf now before rate s).2 := by
  dsimp only [rocofOf]
  split
  · exact h
  · exact .apart h

theorem phasorPayload_kept {m x at_} (h : Kept p c s) : Kept p c (phasorPayload m x at_ s).2 :=
  rocofOf_kept (freqValue_kept h)

theorem phasorReport_kept {a} (h : Kept p c s) : Kept p c (phasorReport a s) := by
  dsimp only [phasorReport]
  split
  · refine .foldl (fun u m h => .branch (meterRecord_kept (.apart ?_)) h) h
    exact phasorPayload_kept h
  · exact h

/-- The words of a capture keep the capture memory canonical (R177). -/
theorem tabWf_captureWords {x first samples} (h : tabWf 0 s.meter.capture = true) :
    tabWf 0 (captureWords x first samples s) = true :=
  List.foldlRecOn (motive := fun t : Tab Nat => tabWf 0 t = true) _ _ h fun _ ht _ _ =>
    List.foldlRecOn (motive := fun t : Tab Nat => tabWf 0 t = true) _ _ ht fun t ht _ _ => tabWf_put 0 t _ _ ht

theorem captureDone_kept {first samples} (h : Kept p c s) : Kept p c (captureDone first samples s) := by
  dsimp only [captureDone]
  split
  · exact .branch h (finishMb_kept ⟨h.1, fun hc => ⟨(h.2 hc).1, (h.2 hc).2.1, (h.2 hc).2.2.1, tabWf_captureWords (h.2 hc).2.2.2⟩⟩)
  · exact h

theorem captureCrossing_kept {a} (h : Kept p c s) : Kept p c (captureCrossing a s) := by
  dsimp only [captureCrossing]
  split
  · split
    · exact .branch (.meter h rfl) h
    · exact h
  · exact h

theorem newestOutage_kept {f} (h : Kept p c s) : Kept p c (newestOutage f s) := by
  dsimp only [newestOutage]
  split
  · exact .meter h rfl
  · exact h

theorem holdupEnd_kept {us cap esr} (h : Kept p c s) : Kept p c (holdupEnd us cap esr s) :=
  .branch h (by
      split
      · exact finishMb_kept (.branch (.meter h rfl) (.unless raiseV_kept (logMeter_kept (alarmAllOf_kept (.meter h rfl)))))
      · exact .branch (.meter h rfl) (.unless raiseV_kept (logMeter_kept (alarmAllOf_kept (.meter h rfl)))))

theorem registerLost_kept {m i} (h : Kept p c s) : Kept p c (registerLost m i s) :=
  legalAuto_kept (logMeter_kept (tamperSet_kept (alarmTo_kept h)))

theorem restorePoint_kept {m} (h : Kept p c s) : Kept p c (restorePoint m s) :=
  .foldl (fun _ _ => registerLost_kept) (.when alarmTo_kept (.meter h rfl))

theorem restartInterval_kept (h : Kept p c s) : Kept p c (restartInterval s) :=
  .branch (.meter (closeIntervalAs_kept (.meter (.meter h rfl) rfl)) rfl) (.meter h rfl)

theorem meterStart_kept (h : Kept p c s) : Kept p c (meterStart s) := by
  unfold meterStart
  extract_lets k ok meter rot s1 s2 tampered s3 afterCommit s4 s5 meter2 s6
  have h2 : Kept p c s2 := .foldl (fun _ _ => restorePoint_kept) (.meter h rfl)
  have h3 : Kept p c s3 := .branch h2 (legalAuto_kept (logMeter_kept (tamperSet_kept (alarmAll_kept h2))))
  have h5 : Kept p c s5 := .when restartInterval_kept (newestOutage_kept h3)
  have h6 : Kept p c s6 := .branch (.meter h5 rfl) h5
  exact sendUnsent_kept h6

end Sys2Proof.Machine

/-! ### Tariffs, billing and prepayment keep the memories (spec/05) -/

namespace Sys2Proof.Machine

open Sys2Proof

variable {p : List Instr} {c : Prop} {s : State}

theorem logTariff_kept {code obj table opcode counter named} (h : Kept p c s) :
    Kept p c (logTariff code obj table opcode counter named s) :=
  logEv_kept h

theorem notice234_kept {code obj detail} (h : Kept p c s) : Kept p c (notice234 code obj detail s) :=
  .branch h (raiseV_kept (notice_kept h))

theorem setDuty_kept {k d} (h : Kept p c s) : Kept p c (setDuty k d s) :=
  .branch h (.host (.apart h) rfl)

theorem logPrepay_kept {code m opcode counter} (h : Kept p c s) : Kept p c (logPrepay code m opcode counter s) :=
  logTariff_kept h

theorem enterDisconnected_kept {m cause} (h : Kept p c s) : Kept p c (enterDisconnected m cause s) :=
  logPrepay_kept (.apart h)

theorem enterOpening_kept {m} (h : Kept p c s) : Kept p c (enterOpening m s) :=
  .branch (.branch (.apart (setDuty_kept h)) (enterDisconnected_kept (setDuty_kept h))) h

theorem enterClosing_kept {m} (h : Kept p c s) : Kept p c (enterClosing m s) :=
  .branch (.branch (logPrepay_kept (.apart (setDuty_kept h))) (.apart (setDuty_kept h))) h

theorem enterFault_kept {m cause} (h : Kept p c s) : Kept p c (enterFault m cause s) :=
  logPrepay_kept (.apart (setDuty_kept h))

theorem prepayEval_kept {m} (h : Kept p c s) : Kept p c (prepayEval m s) :=
  .branch h (by
      split
      · exact .branch (notice234_kept (logPrepay_kept (.apart h))) h
      · exact .branch (.apart h) (.branch (.branch (logPrepay_kept (.apart h)) (enterOpening_kept h)) h)
      · exact .branch (.apart h) (.branch (enterOpening_kept h) h)
      · exact .branch (.branch (enterClosing_kept h) (.branch (notice234_kept (.apart h)) h)) h
      · exact h)

theorem prepayDropIf_kept {hit} (h : Kept p c s) : Kept p c (prepayDropIf hit s) :=
  .foldl (fun _ _ h => .branch (.apart (setDuty_kept h)) h) h

theorem prepayDomainOff_kept (h : Kept p c s) : Kept p c (prepayDomainOff s) :=
  prepayDropIf_kept h

theorem prepayFenced_kept {n} (h : Kept p c s) : Kept p c (prepayFenced n s) :=
  prepayDropIf_kept h

theorem chargeTick_kept {m inc} (h : Kept p c s) : Kept p c (chargeTick m inc s) :=
  .branch (prepayEval_kept (.apart h)) h

theorem prepayFeedback_kept {m closed} (h : Kept p c s) : Kept p c (prepayFeedback m closed s) :=
  .branch h (by
      split
      · exact .unless enterDisconnected_kept (.apart h)
      · exact .branch (logPrepay_kept (.apart (.apart h))) (.apart h)
      · exact .unless enterFault_kept (.apart h)
      · exact .unless enterFault_kept (.apart h)
      · exact .unless enterFault_kept (.apart h)
      · exact .branch (tamperSet_kept (enterFault_kept (.apart h))) (.apart h)
      · exact .apart h)

theorem prepayTimeout_kept {m} (h : Kept p c s) : Kept p c (prepayTimeout m s) :=
  .branch h (by
      split
      · exact .branch (notice234_kept (tamperSet_kept (enterFault_kept h))) h
      · exact .branch h (enterFault_kept h)
      · exact h)

theorem prepayBypass_kept {m} (h : Kept p c s) : Kept p c (prepayBypass m s) :=
  .branch (logPrepay_kept (tamperSet_kept h)) h

theorem applySlot_kept {m k} (h : Kept p c s) : Kept p c (applySlot m k s) := by
  dsimp only [applySlot]
  split
  · exact .apart h
  · exact h

theorem tariffPoint_kept {m n incs} (h : Kept p c s) : Kept p c (tariffPoint m n incs s) :=
  chargeTick_kept (.apart (.foldl (fun _ _ h => .apart h) h))

theorem tariffTick_kept {n incs} (h : Kept p c s) : Kept p c (tariffTick n incs s) :=
  .foldl (fun _ _ => tariffPoint_kept) h

theorem applySlots_kept (h : Kept p c s) : Kept p c (applySlots s) :=
  .foldl (fun _ _ h => .foldl (fun _ _ => applySlot_kept) h) h

theorem evalTable_kept {a} (h : Kept p c s) : Kept p c (evalTable a s) :=
  .branch (.when logTariff_kept (.apart h)) (.foldl (fun _ _ => prepayEval_kept) (.when logTariff_kept (.apart h)))

theorem closeFirst_kept {a b skipped instant} (h : Kept p c s) : Kept p c (closeFirst a b skipped instant s) :=
  notice234_kept (logTariff_kept (.apart (.apart (.foldl (fun _ _ h => .apart (.apart h)) h))))

theorem closePeriod_kept {a b skipped instant} (h : Kept p c s) : Kept p c (closePeriod a b skipped instant s) :=
  .branch h (closeFirst_kept h)

theorem scheduledClose_kept {a} (h : Kept p c s) : Kept p c (scheduledClose a s) := by
  dsimp only [scheduledClose]
  split
  · exact closePeriod_kept h
  · exact h

theorem subintervalEnd_kept {m} (h : Kept p c s) : Kept p c (subintervalEnd m s) :=
  .branch (.apart h) h

theorem beforeClose_kept (h : Kept p c s) : Kept p c (beforeClose s) :=
  .foldl (fun _ _ => subintervalEnd_kept) (dueInterval_kept h)

theorem beforeSwitch_kept (h : Kept p c s) : Kept p c (beforeSwitch s) :=
  .branch (.foldl (fun _ _ => scheduledClose_kept) (beforeClose_kept h)) (beforeClose_kept h)

theorem rateChange_kept {a} (h : Kept p c s) : Kept p c (rateChange a s) :=
  .branch (evalTable_kept (beforeSwitch_kept h)) h

theorem activateTable_kept {a} (h : Kept p c s) : Kept p c (activateTable a s) :=
  logTariff_kept (evalTable_kept (.apart h))

theorem activationDue_kept {a} (h : Kept p c s) : Kept p c (activationDue a s) :=
  .branch (activateTable_kept (beforeSwitch_kept h)) h

theorem beforeCommit_kept (h : Kept p c s) : Kept p c (beforeCommit s) :=
  .branch (.foldl (fun _ _ h => .branch (activateTable_kept h) (evalTable_kept h)) (beforeSwitch_kept h)) (beforeSwitch_kept h)

theorem clockBack_kept {old} (h : Kept p c s) : Kept p c (clockBack old s) := by
  dsimp only [clockBack]
  split
  · exact tamperSet_kept (legalAuto_kept (logTariff_kept (.foldl (fun _ _ h => .branch (.apart h) h) h)))
  · exact h

theorem tableTb2Moved_kept {a} (h : Kept p c s) : Kept p c (tableTb2Moved a s) := by
  dsimp only [tableTb2Moved]
  split
  · exact closePeriod_kept h
  · exact h

theorem tariffTb2Moved_kept {old} (h : Kept p c s) : Kept p c (tariffTb2Moved old s) :=
  .branch (.foldl (fun _ _ => evalTable_kept) (.foldl (fun _ _ => tableTb2Moved_kept)
      (clockBack_kept (.foldl (fun _ _ h => .branch (.apart (.apart h)) (.apart h)) (intervalTb2Moved_kept h))))) (clockBack_kept h)

theorem tariffTb2Lost_kept (h : Kept p c s) : Kept p c (tariffTb2Lost s) :=
  .branch (.foldl (fun _ _ => evalTable_kept) (.foldl (fun _ _ h => .apart h) h)) h

theorem writeAll_kept (h : Kept p c s) : Kept p c (writeAll s) :=
  .foldl (fun _ _ h => .apart h) (.apart (writeThroughAll_kept h))

theorem commitAll_kept (h : Kept p c s) : Kept p c (commitAll s) :=
  .foldl (fun _ _ h => .meter h rfl) (writeAll_kept h)

theorem markCommit_kept (h : Kept p c s) : Kept p c (markCommit s) :=
  .foldl (fun _ _ h => .apart h) h

theorem tariffRestart_kept (h : Kept p c s) : Kept p c (tariffRestart s) :=
  .foldl (fun _ _ h => by
      split
      · exact closePeriod_kept h
      · exact h) (.foldl (fun _ _ h => .apart (.branch (.apart h) h)) h)

theorem forgetCloses_kept (h : Kept p c s) : Kept p c (forgetCloses s) :=
  .foldl (fun _ _ h => .apart h) h

theorem tariffRestore_kept (h : Kept p c s) : Kept p c (tariffRestore s) := by
  unfold tariffRestore
  extract_lets bad tariff s1 s2 s3 s4
  have h3 : Kept p c s3 := .foldl (fun _ _ h => .meter h rfl) (.foldl (fun _ _ h => .apart h) (.apart h))
  exact .branch (legalAuto_kept (logMeter_kept (tamperSet_kept (alarmAll_kept h3)))) h3

theorem tariffStart_kept {commit} (h : Kept p c s) : Kept p c (tariffStart commit s) :=
  .apart (.foldl (fun _ _ h => evalTable_kept (.branch (.apart h) h))
      (.foldl (fun _ _ h => .branch (.apart h) h) (.when tariffRestart_kept (forgetCloses_kept (tariffRestore_kept h)))))

end Sys2Proof.Machine

/-! ### Time bases, milestones, PTP and the Aetheno chain keep the memories (spec/03) -/

namespace Sys2Proof.Machine

open Sys2Proof

variable {p : List Instr} {c : Prop} {s : State}

theorem anchorsMove_kept {k d} (h : Kept p c s) : Kept p c (anchorsMove k d s) :=
  .foldl (fun _ _ h => .branch (.apart h) h) h

theorem timeMoved_kept {n old} (h : Kept p c s) : Kept p c (timeMoved n old s) :=
  .branch (.apart (tariffTb2Moved_kept h)) (.branch (anchorsMove_kept h) h)

theorem slotsFollow_kept {n} (h : Kept p c s) : Kept p c (slotsFollow n s) :=
  .branch (syncSlots_kept h) h

theorem timeLost_kept {n} (h : Kept p c s) : Kept p c (timeLost n s) :=
  .branch (tariffTb2Lost_kept (tamperSet_kept h)) h

theorem followTb0_kept (h : Kept p c s) : Kept p c (followTb0 s) :=
  .branch (.branch (logTb_kept (.apart (.branch (.apart h) h))) (.branch (.apart (.branch (.apart h) h)) (.branch (.apart h) h)))
      (.branch (.apart h) h)

theorem moved_kept {n old} (h : Kept p c s) : Kept p c (moved n old s) :=
  timeMoved_kept (.branch (followTb0_kept h) h)

theorem applyStep_kept {n d} (h : Kept p c s) : Kept p c (applyStep n d s) :=
  moved_kept (.apart h)

theorem hardwareStep_kept {n d} (h : Kept p c s) : Kept p c (hardwareStep n d s) :=
  logTb_kept (applyStep_kept h)

theorem refuseStep_kept {n d} (h : Kept p c s) : Kept p c (refuseStep n d s) :=
  logTb_kept (raiseV_kept (.apart h))

theorem hostStep_kept {n d} (h : Kept p c s) : Kept p c (hostStep n d s).2 :=
  .branch_pair (refuseStep_kept h) (.branch_pair (applyStep_kept h) (refuseStep_kept h))

theorem initialSet_kept {n v} (h : Kept p c s) : Kept p c (initialSet n v s) :=
  moved_kept (logTb_kept (.apart h))

theorem setBase_kept {n v} (h : Kept p c s) : Kept p c (setBase n v s).2.2 := by
  dsimp only [setBase]
  split
  · exact hostStep_kept h
  · exact initialSet_kept h

theorem endStep_kept {n st m} (h : Kept p c s) : Kept p c (endStep n st m s) := by
  dsimp only [endStep]
  split
  · exact .branch (finishMb_kept (mb1Entry_kept h)) (finishMb_kept h)
  · exact h

theorem settleStep_kept {n} (h : Kept p c s) : Kept p c (settleStep n s) := by
  dsimp only [settleStep]
  split
  · exact .foldl (fun _ _ => endStep_kept) (hostStep_kept (.apart h))
  · exact h

theorem dropStep_kept {n} (h : Kept p c s) : Kept p c (dropStep n s) := by
  dsimp only [dropStep]
  split
  · exact .foldl (fun _ _ h => by
          split
          · exact finishMb_kept h
          · exact h) (.apart h)
  · exact h

theorem tickBase_kept {n} (h : Kept p c s) : Kept p c (tickBase n s) :=
  .branch (.apart h) h

theorem tieTb11_kept (h : Kept p c s) : Kept p c (tieTb11 s) :=
  .branch (.apart h) (.branch (.apart h) h)

theorem tickMeter_kept (h : Kept p c s) : Kept p c (tickMeter s) :=
  .branch (.meter h rfl) h

theorem tickAll_kept (h : Kept p c s) : Kept p c (tickAll s) :=
  tickMeter_kept (tieTb11_kept (.apart (.apart (.foldl (fun _ _ => tickBase_kept) h))))

theorem writeInc_kept {n v} (h : Kept p c s) : Kept p c (writeInc n v s) :=
  .branch h (.branch (.apart h) (.branch (.apart h) (logTb_kept (.apart h))))

theorem writeStepHi_kept {n v} (h : Kept p c s) : Kept p c (writeStepHi n v s) :=
  .branch h (.branch (.apart h) (.branch (.apart h) (refuseStep_kept h)))

theorem latchNow_kept {n width} (h : Kept p c s) : Kept p c (latchNow n width s) :=
  .branch (.host (.apart h) rfl) h

theorem popMilestone_kept {v} (h : Kept p c s) : Kept p c (popMilestone v s) :=
  .branch (.apart h) h

theorem msCaptureRun_kept {x r} (h : Kept p c s) : Kept p c (msCaptureRun x r s).2 :=
  capture_kept h

theorem msScheduleRun_kept {x r} (h : Kept p c s) : Kept p c (msScheduleRun x r s).2 := by
  dsimp only [msScheduleRun]
  split
  · exact .branch (.host (.apart h) rfl) (.apart h)
  · exact h

theorem msTriggerSetRun_kept {x r} (h : Kept p c s) : Kept p c (msTriggerSetRun x r s).2 :=
  .apart h

theorem tbInfoRun_kept {x r} (h : Kept p c s) : Kept p c (tbInfoRun x r s).2 :=
  h

theorem tbSetRun_kept {src r} (h : Kept p c s) : Kept p c (tbSetRun src r s).2 := by
  dsimp only [tbSetRun]
  split
  · exact .branch_pair (.apart h) (.branch_pair (.apart h) (initialSet_kept h))
  · exact h

theorem tbStepRun_kept {src r} (h : Kept p c s) : Kept p c (tbStepRun src r s).2 := by
  dsimp only [tbStepRun]
  split
  · exact .branch_pair (.apart h) (refuseStep_kept h)
  · exact h

theorem tbLimitSetRun_kept {x r} (h : Kept p c s) : Kept p c (tbLimitSetRun x r s).2 :=
  .apart h

theorem leaveValid_kept {n} (h : Kept p c s) : Kept p c (leaveValid n s) :=
  timeLost_kept (.when followTb0_kept (.apart h))

theorem followTb11_kept (h : Kept p c s) : Kept p c (followTb11 s) :=
  .branch (.apart (.branch (initialSet_kept (.apart (.branch h (.apart h))))
      (.when leaveValid_kept (.apart (.branch h (.apart h)))))) (.branch h (.apart h))

theorem leaveSource_kept {n} (h : Kept p c s) : Kept p c (leaveSource n s) :=
  .branch (logTb_kept h) (.branch (logTb_kept h) h)

theorem tbSourceSetRun_kept {x r} (h : Kept p c s) : Kept p c (tbSourceSetRun x r s).2 :=
  .when followTb11_kept (slotsFollow_kept (.apart (leaveSource_kept h)))

theorem applyUtc_kept {o} (h : Kept p c s) : Kept p c (applyUtc o s) :=
  logTb_kept (.apart h)

theorem tbUtcOffsetSetRun_kept {x r} (h : Kept p c s) : Kept p c (tbUtcOffsetSetRun x r s).2 :=
  .branch (applyUtc_kept h) (.apart h)

theorem utcEffective_kept (h : Kept p c s) : Kept p c (utcEffective s) := by
  dsimp only [utcEffective]
  split
  · exact .branch (applyUtc_kept h) h
  · exact h

theorem declareLost_kept {n} (h : Kept p c s) : Kept p c (declareLost n s) :=
  timeLost_kept (.when followTb0_kept (logTb_kept (.apart (dropStep_kept h))))

theorem tbDeclareLostRun_kept {x r} (h : Kept p c s) : Kept p c (tbDeclareLostRun x r s).2 :=
  declareLost_kept h

theorem tb2TrimSetRun_kept {x r} (h : Kept p c s) : Kept p c (tb2TrimSetRun x r s).2 :=
  .apart (.apart (.apart h))

theorem applyPps_kept {a} (h : Kept p c s) : Kept p c (applyPps a s) :=
  finishMb_kept (setBase_kept (settleStep_kept h))

theorem ppsTimeout_kept {mb} (h : Kept p c s) : Kept p c (ppsTimeout mb s) :=
  .branch (finishMb_kept (.apart h)) h

theorem mainsCrossing_kept {n late gap} (h : Kept p c s) : Kept p c (mainsCrossing n late gap s) :=
  .when logTb_kept (slotsFollow_kept (.apart (.branch (initialSet_kept h) (.branch (hardwareStep_kept h) h))))

theorem mainsMissing_kept {n} (h : Kept p c s) : Kept p c (mainsMissing n s) :=
  .branch (logTb_kept (slotsFollow_kept (.apart h))) h

theorem ptpPortCfgRun_kept {x r} (h : Kept p c s) : Kept p c (ptpPortCfgRun x r s).2 :=
  .apart h

theorem ptpSync_kept {offset} (h : Kept p c s) : Kept p c (ptpSync offset s) :=
  .when logTb_kept (.apart (.branch (.apart (.apart h)) (initialSet_kept h)))

theorem ptpSendSync_kept {a seq} (h : Kept p c s) : Kept p c (ptpSendSync a seq s) :=
  .branch (.host h rfl) (.host (.host h rfl) rfl)

theorem ptpPdelay_kept {m} (h : Kept p c s) : Kept p c (ptpPdelay m s) :=
  .branch (.host h rfl) (.host (.host h rfl) rfl)

theorem ptpPeer_kept {m} (h : Kept p c s) : Kept p c (ptpPeer m s) :=
  .branch (.apart h) h

theorem ptpMessage_kept {m} (h : Kept p c s) : Kept p c (ptpMessage m s) :=
  .branch h (.branch (.branch (ptpSync_kept h) h)
      (.branch (.branch (.host h rfl) h) (.branch (ptpPdelay_kept h)
      (.branch (.branch (ptpPeer_kept h) h) (.branch (ptpSendSync_kept h) h)))))

theorem ptpTimeout_kept (h : Kept p c s) : Kept p c (ptpTimeout s) :=
  .branch (logTb_kept (.apart h)) h

theorem aethenoCfgRun_kept {x r} (h : Kept p c s) : Kept p c (aethenoCfgRun x r s).2 :=
  .branch (.apart h) (followTb11_kept (followTb0_kept (.apart (.when logTb_kept (.apart h)))))

theorem acquireTb11_kept {value} (h : Kept p c s) : Kept p c (acquireTb11 value s) :=
  logTb_kept (.apart h)

theorem timeReceive_kept {f} (h : Kept p c s) : Kept p c (timeReceive f s) := by
  unfold timeReceive
  extract_lets clock first s1 s2 good clock2 s3 locks base s4
  have h2 : Kept p c s2 := .branch (acquireTb11_kept (.apart h)) (.apart (.apart (.apart h)))
  have h4 : Kept p c s4 := .branch (logTb_kept (.apart (.apart h2))) (.apart h2)
  exact .branch h (.branch (.apart h) (followTb11_kept h4))

theorem timeMissed_kept (h : Kept p c s) : Kept p c (timeMissed s) :=
  .branch (logTb_kept (.apart (.apart h))) h

theorem delayReceive_kept {f} (h : Kept p c s) : Kept p c (delayReceive f s) :=
  .branch h (.branch (.host h rfl) (.branch (.apart h) h))

end Sys2Proof.Machine

/-! ### The commands of metrology and of the balance engine keep the memories (spec/04, spec/11) -/

namespace Sys2Proof.Machine

open Sys2Proof

variable {p : List Instr} {c : Prop} {s t : State}

theorem metInfoRun_kept {x r} (h : Kept p c s) : Kept p c (metInfoRun x r s).2 :=
  h

theorem metChanCfgRun_kept {x r} (h : Kept p c s) : Kept p c (metChanCfgRun x r s).2 :=
  logMeter_kept (setChan_kept h)

theorem metBindRun_kept {x r} (h : Kept p c s) : Kept p c (metBindRun x r s).2 :=
  logMeter_kept (.meter h rfl)

theorem metCalSetRun_kept {x r} (h : Kept p c s) : Kept p c (metCalSetRun x r s).2 :=
  logMeter_kept (setChan_kept h)

theorem metCalGetRun_kept {x r} (h : Kept p c s) : Kept p c (metCalGetRun x r s).2 :=
  h

theorem metRegCfgRun_kept {x r} (h : Kept p c s) : Kept p c (metRegCfgRun x r s).2 :=
  logMeter_kept (.meter h rfl)

theorem metReadRun_kept {x r} (h : Kept p c s) : Kept p c (metReadRun x r s).2 :=
  h

theorem metInstantRun_kept {x r} (h : Kept p c s) : Kept p c (metInstantRun x r s).2 :=
  h

theorem metHarmonicsRun_kept {x r} (h : Kept p c s) : Kept p c (metHarmonicsRun x r s).2 :=
  h

theorem metOutputCfgRun_kept {x r} (h : Kept p c s) : Kept p c (metOutputCfgRun x r s).2 :=
  sendUnsent_kept (.meter h rfl)

theorem metTpoCfgRun_kept {x r} (h : Kept p c s) : Kept p c (metTpoCfgRun x r s).2 :=
  .meter h rfl

theorem metThreshSetRun_kept {x r} (h : Kept p c s) : Kept p c (metThreshSetRun x r s).2 :=
  .meter h rfl

theorem metCaptureRun_kept {src r} (h : Kept p c s) : Kept p c (metCaptureRun src r s).2 := by
  dsimp only [metCaptureRun]
  split
  · exact .meter h rfl
  · exact h

theorem metCaptureReadRun_kept {x r} (h : Kept p c s) : Kept p c (metCaptureReadRun x r s).2 :=
  h

theorem holdupTestRun_kept {src x} (h : Kept p c s) : Kept p c (holdupTestRun src x s).2 := by
  dsimp only [holdupTestRun]
  split
  · exact .meter h rfl
  · exact h

theorem metOutageReadRun_kept {x r} (h : Kept p c s) : Kept p c (metOutageReadRun x r s).2 :=
  h

theorem metRotationRun_kept {x a} (h : Kept p c s) : Kept p c (metRotationRun x a s).2 :=
  h

theorem balOpen_kept {k} (h : Kept p c s) : Kept p c (balOpen k s) :=
  .branch (openInterval_kept h) h

theorem balDeadline_kept {k} (h : Kept p c s) : Kept p c (balDeadline k s) := by
  dsimp only [balDeadline]
  split
  · exact .branch (closeBal_kept h) h
  · exact h

theorem balEmit_kept {k} (h : Kept p c s) : Kept p c (balEmit k s) := by
  dsimp only [balEmit]
  split
  · split
    · split
      · rename_i t ht
        exact .apart (emitRecord_kept h t ht)
      · exact .host_of (reserve_kept h) h
    · exact h
  · exact h

theorem phaseEmit_kept {i} (h : Kept p c s) : Kept p c (phaseEmit i s) := by
  dsimp only [phaseEmit]
  split
  · split
    · split
      · rename_i t ht
        exact .apart (emitRecord_kept h t ht)
      · exact .host_of (reserve_kept h) h
    · exact h
  · exact h

theorem balGroupCfgRun_kept {x r} (h : Kept p c s) : Kept p c (balGroupCfgRun x r s).2 :=
  .apart (.branch (closeAll_kept h) h)

theorem balFeedRun_kept {x r} (h : Kept p c s) : Kept p c (balFeedRun x r s).2 := by
  dsimp only [balFeedRun]
  split
  · exact logBal_kept h
  · exact coverClose_kept (.apart (.branch (openInterval_kept h) h))

theorem balStatusRun_kept {x r} (h : Kept p c s) : Kept p c (balStatusRun x r s).2 :=
  h

theorem balCloseRun_kept {x r} (h : Kept p c s) : Kept p c (balCloseRun x r s).2 := by
  dsimp only [balCloseRun]
  split
  · exact closeBal_kept h
  · exact h

theorem balHistoryReadRun_kept {x r} (h : Kept p c s) : Kept p c (balHistoryReadRun x r s).2 :=
  h

theorem phaseCfgRun_kept {x r} (h : Kept p c s) : Kept p c (phaseCfgRun x r s).2 :=
  .apart h

theorem phaseReadRun_kept {x r} (h : Kept p c s) : Kept p c (phaseReadRun x r s).2 :=
  h

theorem phaseResetRun_kept {x r} (h : Kept p c s) : Kept p c (phaseResetRun x r s).2 :=
  .apart h

theorem balOutputCfgRun_kept {x r} (h : Kept p c s) : Kept p c (balOutputCfgRun x r s).2 :=
  .apart h

theorem metIntervalSetRun_kept {x r} (h : Kept p c s) : Kept p c (metIntervalSetRun x r s).2 :=
  .meter h rfl

end Sys2Proof.Machine

/-! ### Envelopes, lanes and session slots keep the memories (spec/09, spec/10) -/

namespace Sys2Proof.Machine

open Sys2Proof

variable {p : List Instr} {c : Prop} {s t : State}

theorem rejectEnvelope_kept {eth} (h : Kept p c s) : Kept p c (rejectEnvelope eth s) :=
  logEv_kept h

theorem ackReceive_kept {eth b} (h : Kept p c s) : Kept p c (ackReceive eth b s) :=
  .branch (.branch (by
        dsimp only
        split
        · exact h
        · exact .branch (.host (.apart h) rfl) h) (rejectEnvelope_kept h)) h

theorem enterEnvelope_kept {e} (h : Kept p c s) : KeptIn p c (enterEnvelope e s) := by
  dsimp only [enterEnvelope]
  split
  · exact .some (.branch (queueAck_kept h) h)
  · split
    · exact .none
    · rename_i _ s1 ht1
      have h1 := reserveReply_kept h _ _ ht1
      exact placeAll_kept h1

theorem takeEnvelope_kept {e} (h : Kept p c s) : Kept p c (takeEnvelope e s) := by
  dsimp only [takeEnvelope]
  split
  · rename_i t ht
    exact KeptIn.branch (enterEnvelope_kept h) .none t ht
  · exact .branch (.apart (.apart h)) h

theorem drainIngress_kept (h : Kept p c s) : Kept p c (drainIngress s) := by
  dsimp only [drainIngress]
  split
  · split
    · rename_i s1 ht1
      have h1 := enterEnvelope_kept (.apart h) _ ht1
      exact .apart h1
    · exact h
  · exact h

theorem envelopeReceive_kept {slot d b} (h : Kept p c s) : Kept p c (envelopeReceive slot d b s) := by
  dsimp only [envelopeReceive]
  split
  · exact .branch (takeEnvelope_kept h) (rejectEnvelope_kept h)
  · exact rejectEnvelope_kept h

theorem envelopeOpened_kept {i d b} (h : Kept p c s) : Kept p c (envelopeOpened i d b s) :=
  .branch (.branch (ackReceive_kept h) (envelopeReceive_kept h)) h

theorem logSession_kept {i} (h : Kept p c s) : Kept p c (logSession i s) :=
  logLane_kept h

theorem countRecord_kept {i x} (h : Kept p c s) : Kept p c (countRecord i x s) :=
  .branch (logSession_kept (.apart h)) (.apart h)

theorem sessionFails_kept {i k} (h : Kept p c s) : Kept p c (sessionFails i k s) := by
  dsimp only [sessionFails]
  split
  · exact rejectEnvelope_kept h
  · exact .host h rfl

theorem queueSession_kept {i k} (h : Kept p c s) : Kept p c (queueSession i k s) :=
  .branch (.apart h) (sessionFails_kept h)

theorem countUnmask_kept {slot inst} (h : Kept p c s) : Kept p c (countUnmask slot inst s) :=
  .branch (.apart h) (.apart h)

theorem loadFrameOp_kept {l n k fl inst ek omk} (h : Kept p c s) : Kept p c (loadFrameOp l n k fl inst ek omk s) :=
  .apart (countUnmask_kept (.apart h))

theorem dupOutcome_kept {n fl} (h : Kept p c s) : KeptIn p c (dupOutcome n fl s) := by
  dsimp only [dupOutcome]
  split
  · exact .some (finishFrame_kept (.branch (queueAck_kept h) h))
  · exact .branch .none (.some (finishFrame_kept h))

theorem afterReplay_kept {n fl v} (h : Kept p c s) : Kept p c (afterReplay n fl v s) := by
  dsimp only [afterReplay]
  split
  · exact .apart h
  · split
    · rename_i s1 ht1
      have h1 := dupOutcome_kept (.apart h) _ ht1
      exact h1
    · exact .apart (.apart h)
  · exact finishAlarm_kept (logLane_kept (.apart h))
  · exact finishAlarm_kept (logLane_kept (.apart h))

theorem replayCommit_kept {n fl} (h : Kept p c s) : Kept p c (replayCommit n fl s) :=
  afterReplay_kept (.apart h)

theorem replayStage_kept {n fl} (h : Kept p c s) : Kept p c (replayStage n fl s) :=
  .branch (discardFrame_kept (logIng_kept h)) (.branch (replayCommit_kept h)
      (.branch (discardFrame_kept (raiseFault_kept h))
      (.branch (.branch (replayCommit_kept (logLane_kept h)) (.apart (.apart h))) (replayCommit_kept h))))

theorem startFrameOp_kept {l n r fl} (h : Kept p c s) : Kept p c (startFrameOp l n r fl s) := by
  dsimp only [startFrameOp]
  split
  · split
    · exact loadFrameOp_kept h
    · split
      · exact replayStage_kept h
      · exact authFailed_kept h
    · exact loadFrameOp_kept h
  · split
    · exact replayStage_kept h
    · exact authFailed_kept h

theorem startOp_kept {l n} (h : Kept p c s) : Kept p c (startOp l n s) := by
  dsimp only [startOp]
  split
  · exact h
  · split
    · exact .branch (.apart (.apart h)) (sessionFails_kept (.apart h))
    · split
      · exact .apart h
      · exact startFrameOp_kept (.apart h)

theorem laneGrant_kept {l} (h : Kept p c s) : Kept p c (laneGrant l s) := by
  dsimp only [laneGrant]
  split
  · exact h
  · exact .branch h (startOp_kept h)

theorem verifyFailed_kept {l o fl d} (h : Kept p c s) : Kept p c (verifyFailed l o fl d s) := by
  dsimp only [verifyFailed]
  split
  · exact .apart (.apart h)
  · exact authFailed_kept h

theorem verifyDone_kept {l o fl plain} (h : Kept p c s) : Kept p c (verifyDone l o fl plain s) := by
  unfold verifyDone
  extract_lets fl1 k s1
  have h1 : Kept p c s1 := .branch (logLane_kept (.apart h)) h
  exact .branch (.branch (replayStage_kept (logLane_kept h1)) (startFrameOp_kept (.apart h1))) (replayStage_kept h1)

theorem sessionDone_kept {x o i} (h : Kept p c s) : Kept p c (sessionDone x o i s) := by
  unfold sessionDone
  extract_lets live y
  have hcount (z) : Kept p c (if live then countRecord i z s else s) := .branch (countRecord_kept h) h
  generalize recordKeys o.sess = keys
  obtain ⟨_, iv, sn⟩ := keys
  dsimp only
  split
  · split
    · exact .apart (hcount _)
    · exact .apart (hcount _)
  · split
    · split
      · exact envelopeOpened_kept (hcount _)
      · exact .apart (hcount _)
    · exact sessionFails_kept (.when logSession_kept (.branch (.apart h) h))
  · exact .apart (.branch (.apart h) h)
  · exact h
  · exact h

theorem claimEntry_kept {host u} (h : Kept p c s) : Kept p c (claimEntry host u s) := by
  dsimp only [claimEntry]
  split
  · exact h
  · exact .host h rfl

theorem laneMismatch_kept {l o} (h : Kept p c s) : Kept p c (laneMismatch l o s) := by
  dsimp only [laneMismatch]
  split
  · exact sessionFails_kept (.apart (raiseFault_kept (.apart h)))
  · split
    · exact discardFrame_kept (claimEntry_kept (.apart (raiseFault_kept (.apart h))))
    · exact .apart (raiseFault_kept (.apart h))

theorem laneEnd_kept {l mismatch} (h : Kept p c s) : Kept p c (laneEnd l mismatch s) := by
  dsimp only [laneEnd]
  split
  · exact h
  · exact .branch (laneMismatch_kept h) (by
          split
          · exact sessionDone_kept (.apart h)
          · split
            · exact .apart h
            · split
              · exact replayStage_kept (.apart h)
              · split
                · exact verifyDone_kept (.apart h)
                · exact verifyFailed_kept (.apart h))

theorem laneTimeout_kept {n} (h : Kept p c s) : Kept p c (laneTimeout n s) := by
  dsimp only [laneTimeout]
  split
  · exact h
  · exact .branch (by
          split
          · exact sessionFails_kept (logLane_kept (.apart h))
          · split
            · exact .apart h
            · exact discardFrame_kept (logLane_kept (.apart h))) h

theorem discardOp_kept {l o} (h : Kept p c s) : Kept p c (discardOp l o s) := by
  dsimp only [discardOp]
  split
  · exact sessionFails_kept (.apart h)
  · split
    · exact discardFrame_kept (.apart h)
    · exact .apart h

theorem restartOp_kept {l o} (h : Kept p c s) : Kept p c (restartOp l o s) := by
  dsimp only [restartOp]
  split
  · exact .branch (.apart (.apart h)) (sessionFails_kept (.apart h))
  · split
    · exact startFrameOp_kept (.apart h)
    · exact .apart h

theorem revokeLane_kept {omk l} {d : Nat × State} (h : Kept p c d.2) : Kept p c (revokeLane omk l d).2 := by
  dsimp only [revokeLane]
  split
  · exact h
  · exact .branch_pair (discardOp_kept h) (restartOp_kept h)

/-- The lanes that lose their operations to a revocation. -/
theorem revokeLanes_kept {omk n l} (h : Kept p c s) : Kept p c (List.foldl (fun d l => revokeLane omk l d) (n, s) l).2 :=
  .foldl_pair (fun _ _ => revokeLane_kept) h

theorem revoke_kept {omk} (h : Kept p c s) : Kept p c (revoke omk s) := by
  dsimp only [revoke]
  split
  · exact raiseV_kept (logNotice_kept (.branch (.apart (revokeLanes_kept (.apart h))) (revokeLanes_kept (.apart h))))
  · exact .apart h

theorem clStatusRun_kept {x r} (h : Kept p c s) : Kept p c (clStatusRun x r s).2 :=
  h

theorem clTestRun_kept {src r} (h : Kept p c s) : Kept p c (clTestRun src r s).2 :=
  .apart h

theorem clTestEnd_kept {l failing} (h : Kept p c s) : Kept p c (clTestEnd l failing s) :=
  .branch (by
      split
      · exact finishMb_kept (logLane_kept (.apart (.apart h)))
      · exact logLane_kept (.apart (.apart h))) h

theorem clBorrowCfgRun_kept {x r} (h : Kept p c s) : Kept p c (clBorrowCfgRun x r s).2 :=
  .foldl (fun _ _ h => .apart h) h

theorem sessStatusRun_kept {x r} (h : Kept p c s) : Kept p c (sessStatusRun x r s).2 :=
  h

theorem sessClearRun_kept {x r} (h : Kept p c s) : Kept p c (sessClearRun x r s).2 :=
  logSession_kept (.apart h)

end Sys2Proof.Machine

/-! ### Public-key engines, keys and tamper rows keep the memories (spec/12) -/

namespace Sys2Proof.Machine

open Sys2Proof

variable {p : List Instr} {c : Prop} {s : State}

theorem pkeAsk_kept {r} (h : Kept p c s) : Kept p c (pkeAsk r s) := by
  dsimp only [pkeAsk]
  split
  · exact .apart h
  · exact .apart h

theorem pkeServe_kept (h : Kept p c s) : Kept p c (pkeServe s) := by
  dsimp only [pkeServe]
  split
  · exact .apart (.apart h)
  · exact h

theorem pkeDrop_kept {r} (h : Kept p c s) : Kept p c (pkeDrop r s) := by
  dsimp only [pkeDrop]
  split
  · exact finishMb_kept h
  · exact .apart h
  · exact h

theorem pkeDropAll_kept (h : Kept p c s) : Kept p c (pkeDropAll s) :=
  .foldl (fun _ _ => pkeDrop_kept) (.apart h)

theorem pkeCommand_kept {cls src r} (h : Kept p c s) : Kept p c (pkeCommand cls src r s).2 := by
  dsimp only [pkeCommand]
  split
  · exact pkeAsk_kept h
  · exact h

theorem pkeAge_kept {i} (h : Kept p c s) : Kept p c (pkeAge i s) := by
  dsimp only [pkeAge]
  split
  · exact .branch (.apart h) h
  · exact h

theorem erasedRec_kept {r} (h : Kept p c s) : Kept p c (erasedRec r s).2 :=
  .branch_pair h (.apart (.apart h))

theorem loadRam_kept {slot inst} (h : Kept p c s) : Kept p c (loadRam slot inst s) := by
  dsimp only [loadRam]
  split
  · exact .apart (.apart h)
  · exact .apart h

theorem loadAllRam_kept (h : Kept p c s) : Kept p c (loadAllRam s) :=
  .foldl (fun _ _ h => .foldl (fun _ _ h => by
        split
        · exact loadRam_kept h
        · exact h) h) h

theorem eraseInst_kept {slot inst} (h : Kept p c s) : Kept p c (eraseInst slot inst s) :=
  .apart (.apart (erasedRec_kept h))

theorem eraseOpt_kept {slot inst} (h : Kept p c s) : Kept p c (eraseOpt slot inst s) := by
  dsimp only [eraseOpt]
  split
  · exact eraseInst_kept h
  · exact h

theorem omkLoadEffect_kept {x r} (h : Kept p c s) : Kept p c (omkLoadEffect x r s).2 :=
  logKey_kept (.apart (.apart (.apart (eraseOpt_kept h))))

theorem omkLoadRun_kept {src r} (h : Kept p c s) : Kept p c (omkLoadRun src r s).2 :=
  .branch_pair (pkeCommand_kept h) (omkLoadEffect_kept h)

theorem omkVerifyRun_kept {x r} (h : Kept p c s) : Kept p c (omkVerifyRun x r s).2 :=
  .branch_pair (logKey_kept (.apart h)) (logKey_kept (.apart (eraseOpt_kept h)))

theorem omkCommitRun_kept {x r} (h : Kept p c s) : Kept p c (omkCommitRun x r s).2 :=
  .when logKey_kept (logKey_kept (by
        split
        · exact .when loadRam_kept (.apart (.when eraseOpt_kept (eraseOpt_kept h)))
        · exact .apart (.when eraseOpt_kept (eraseOpt_kept h))))

theorem omkRevokeRun_kept {x r} (h : Kept p c s) : Kept p c (omkRevokeRun x r s).2 :=
  raiseV_kept (logKey_kept (revoke_kept (.apart (eraseOpt_kept (eraseOpt_kept (eraseOpt_kept h))))))

theorem endGrace_kept {slot} (h : Kept p c s) : Kept p c (endGrace slot s) :=
  logKey_kept (.apart (eraseOpt_kept h))

theorem graceEnd_kept {slot} (h : Kept p c s) : Kept p c (graceEnd slot s) :=
  .branch (endGrace_kept h) h

theorem keygenStatusRun_kept {x r} (h : Kept p c s) : Kept p c (keygenStatusRun x r s).2 :=
  h

theorem keyGraceSetRun_kept {x r} (h : Kept p c s) : Kept p c (keyGraceSetRun x r s).2 :=
  graceEnd_kept (.apart h)

theorem storeGk_kept {slot typ usage key} (h : Kept p c s) : Kept p c (storeGk slot typ usage key s) :=
  logKey_kept (.apart (.apart h))

theorem keyImportEffect_kept {x r} (h : Kept p c s) : Kept p c (keyImportEffect x r s).2 :=
  storeGk_kept h

theorem keyImportRun_kept {src r} (h : Kept p c s) : Kept p c (keyImportRun src r s).2 :=
  .branch_pair (pkeCommand_kept h) (keyImportEffect_kept h)

theorem keyGenerateEffect_kept {x r} (h : Kept p c s) : Kept p c (keyGenerateEffect x r s).2 :=
  storeGk_kept (.apart h)

theorem keyGenerateRun_kept {src r} (h : Kept p c s) : Kept p c (keyGenerateRun src r s).2 :=
  pkeCommand_kept h

theorem keyEraseRun_kept {x r} (h : Kept p c s) : Kept p c (keyEraseRun x r s).2 :=
  logKey_kept (.apart (erasedRec_kept h))

theorem keyInfoRun_kept {x r} (h : Kept p c s) : Kept p c (keyInfoRun x r s).2 :=
  h

theorem dikReadRun_kept {src r} (h : Kept p c s) : Kept p c (dikReadRun src r s).2 :=
  pkeCommand_kept h

theorem clearSessions_kept {m} (h : Kept p c s) : Kept p c (clearSessions m s) :=
  .host (.foldl (fun _ _ h => .apart h) h) rfl

theorem setAuk_kept {m key} (h : Kept p c s) : Kept p c (setAuk m key s) :=
  clearSessions_kept (.apart (.apart h))

theorem keyAuthSetEffect_kept {src r} (h : Kept p c s) : Kept p c (keyAuthSetEffect src r s).2 :=
  .when legalEntry_kept (logKey_kept (setAuk_kept h))

theorem keyAuthSetRun_kept {src r} (h : Kept p c s) : Kept p c (keyAuthSetRun src r s).2 :=
  pkeCommand_kept h

theorem keyAuthRotateRun_kept {src r} (h : Kept p c s) : Kept p c (keyAuthRotateRun src r s).2 :=
  logKey_kept (.host (.apart h) rfl)

theorem lockoutEnd_kept {m} (h : Kept p c s) : Kept p c (lockoutEnd m s) := by
  dsimp only [lockoutEnd]
  split
  · exact h
  · exact raiseV_kept (logNotice_kept (.apart (.host h rfl)))

theorem tmpCfgRun_kept {x r} (h : Kept p c s) : Kept p c (tmpCfgRun x r s).2 :=
  .when logKey_kept (.apart h)

theorem tmpStatusRun_kept {x a} (h : Kept p c s) : Kept p c (tmpStatusRun x a s).2 :=
  h

theorem secStatusRun_kept {x a} (h : Kept p c s) : Kept p c (secStatusRun x a s).2 :=
  h

theorem rngHealth_kept {passing} (h : Kept p c s) : Kept p c (rngHealth passing s) :=
  .branch h (.unless raiseV_kept (logKey_kept (.apart h)))

theorem remaskTab_kept {a} (h : Kept p c s) : Kept p c (remaskTab a s).2 := by
  induction a generalizing s with
  | nil => exact h
  | cons r a ih => exact ih (.apart h)

theorem remaskRam_kept {a} (h : Kept p c s) : Kept p c (remaskRam a s).2 := by
  induction a generalizing s with
  | nil => exact h
  | cons r a ih => exact ih (.apart h)

theorem remask_kept (h : Kept p c s) : Kept p c (remask s) :=
  .branch (.apart (remaskRam_kept (remaskTab_kept (remaskTab_kept (remaskTab_kept h))))) (logKey_kept (.apart h))

end Sys2Proof.Machine

/-! ### Charge points keep the memories (spec/06) -/

namespace Sys2Proof.Machine

open Sys2Proof

variable {p : List Instr} {c : Prop} {s : State}

theorem logCp_kept {code n before named} (h : Kept p c s) : Kept p c (logCp code n before named s) :=
  logEv_kept h

theorem noticeCp_kept {code n before} (h : Kept p c s) : Kept p c (noticeCp code n before s) :=
  raiseV_kept (notice_kept h)

theorem energise_kept {n} (h : Kept p c s) : Kept p c (energise n s) :=
  .foldl (fun _ _ => setDuty_kept) h

theorem deEnergise_kept {n} (h : Kept p c s) : Kept p c (deEnergise n s) :=
  .foldl (fun _ _ h => .branch (setDuty_kept (.apart h)) h) h

theorem emitSession_kept {r} (h : Kept p c s) : KeptIn p c (emitSession r s) :=
  emitRecord_kept h

theorem fileSession_kept {r} (h : Kept p c s) : Kept p c (fileSession r s) :=
  .branch (.apart h) (by
      split
      · exact .branch (.apart h) (by
              split
              · rename_i s1 ht1
                have h1 := emitSession_kept h _ ht1
                exact .apart (logCp_kept h1)
              · exact .apart h)
      · exact .apart h)

theorem endSession_kept {n endCause} (h : Kept p c s) : Kept p c (endSession n endCause s) := by
  dsimp only [endSession]
  split
  · exact h
  · exact fileSession_kept (.apart (noticeCp_kept (logCp_kept h)))

theorem cpGo_kept {n dest} (h : Kept p c s) : Kept p c (cpGo n dest s) :=
  .when noticeCp_kept (logCp_kept (.apart h))

theorem weldFound_kept {n} (h : Kept p c s) : Kept p c (weldFound n s) :=
  tamperSet_kept (logCp_kept h)

theorem causeLog_kept {n cause} (h : Kept p c s) : Kept p c (causeLog n cause s) :=
  .branch (weldFound_kept h) (.branch (logCp_kept h) (.branch (logCp_kept h) (.branch (logCp_kept h) h)))

theorem cpFault_kept {n cause} (h : Kept p c s) : Kept p c (cpFault n cause s) := by
  dsimp only [cpFault]
  split
  · exact h
  · exact h
  · exact causeLog_kept (logCp_kept (cpGo_kept (.apart (deEnergise_kept h))))

theorem openSession_kept {n} (h : Kept p c s) : Kept p c (openSession n s) :=
  logCp_kept (logCp_kept (.apart (.apart h)))

theorem startOpening_kept {n} (h : Kept p c s) : Kept p c (startOpening n s) :=
  cpGo_kept (.apart (deEnergise_kept h))

theorem leaveSession_kept {n endCause dest} (h : Kept p c s) : Kept p c (leaveSession n endCause dest s) :=
  .branch (cpGo_kept (.apart h)) (cpGo_kept (endSession_kept h))

theorem endOpening_kept {n} (h : Kept p c s) : Kept p c (endOpening n s) :=
  .branch (leaveSession_kept (.apart h)) (.branch (leaveSession_kept (.apart h)) (cpGo_kept (.apart h)))

theorem cpStep_kept {n} (h : Kept p c s) : Kept p c (cpStep n s) := by
  dsimp only [cpStep]
  split
  · exact .branch (cpFault_kept h) (.branch (cpGo_kept h) (.branch h (.branch (cpGo_kept (openSession_kept h)) h)))
  · exact .branch (leaveSession_kept h) (.branch (leaveSession_kept h) (.branch (cpGo_kept h) h))
  · exact .branch (leaveSession_kept h) (.branch (leaveSession_kept h) (.branch (cpGo_kept h) (.branch (cpGo_kept (.apart h)) h)))
  · exact .branch (startOpening_kept h) (.branch (cpGo_kept (.apart h)) h)
  · exact .branch (startOpening_kept h) (.branch (cpGo_kept (.apart h)) h)
  · exact .branch (startOpening_kept h) h
  · exact .branch (endOpening_kept h) h
  · exact .branch h (cpGo_kept (.apart h))
  · exact h

theorem cpRunN_kept {k n} (h : Kept p c s) : Kept p c (cpRunN k n s) := by
  induction k generalizing s with
  | zero => exact h
  | succ k ih => exact .branch (cpStep_kept h) (ih (cpStep_kept h))

theorem cpRun_kept {n} (h : Kept p c s) : Kept p c (cpRun n s) :=
  cpRunN_kept h

theorem pilotAccept_kept {n x} (h : Kept p c s) : Kept p c (pilotAccept n x s) :=
  .branch (cpFault_kept (.apart h)) (cpRun_kept (.apart h))

theorem pilotDecision_kept {n codes} (h : Kept p c s) : Kept p c (pilotDecision n codes s) :=
  .branch (.unless logCp_kept (.apart h)) (.branch (.apart h)
      (.branch (pilotAccept_kept (.apart h)) (.when cpFault_kept (.apart h))))

theorem pilotPeriod_kept {n codes} (h : Kept p c s) : Kept p c (pilotPeriod n codes s) :=
  .apart (pilotDecision_kept h)

theorem cableAccept_kept {n k} (h : Kept p c s) : Kept p c (cableAccept n k s) :=
  .branch (cpFault_kept (logCp_kept (.apart h))) (cpRun_kept (logCp_kept (.apart h)))

theorem proximity_kept {n code} (h : Kept p c s) : Kept p c (proximity n code s) :=
  .branch (.when cableAccept_kept (.apart h)) h

theorem cpFeedback_kept {n second closed} (h : Kept p c s) : Kept p c (cpFeedback n second closed s) :=
  .branch h (by
      split
      · exact .apart h
      · exact .apart h
      · exact cpRun_kept (.apart h)
      · exact .branch (.apart h) (.apart (.apart h))
      · exact .branch (cpFault_kept (.apart h)) (cpRun_kept (.apart h))
      · exact .branch (cpFault_kept (.apart h)) (cpRun_kept (.apart h)))

theorem cpFeedbackPin_kept {n second closed} (h : Kept p c s) : Kept p c (cpFeedbackPin n second closed s) :=
  .branch h (.apart h)

theorem cpTimeout_kept {n} (h : Kept p c s) : Kept p c (cpTimeout n s) := by
  dsimp only [cpTimeout]
  split
  · exact .branch h (cpFault_kept h)
  · exact .branch h (cpFault_kept h)
  · exact .branch (weldFound_kept (logCp_kept (.apart h))) (.apart h)
  · exact h

theorem pullInEnd_kept {n} (h : Kept p c s) : Kept p c (pullInEnd n s) :=
  .foldl (fun _ _ h => .branch (setDuty_kept h) h) h

theorem stoppingTimeout_kept {n} (h : Kept p c s) : Kept p c (stoppingTimeout n s) :=
  .branch (cpRun_kept (startOpening_kept (logCp_kept h))) h

theorem cpTick_kept {n samples} (h : Kept p c s) : Kept p c (cpTick n samples s) :=
  .branch (.branch (energise_kept (.apart (by
            split
            · exact cpRun_kept (endSession_kept (by
                      split
                      · exact .apart (.branch (.apart h) h)
                      · exact .branch (.apart h) h))
            · split
              · exact .apart (.branch (.apart h) h)
              · exact .branch (.apart h) h))) (by
        split
        · exact cpRun_kept (endSession_kept (by
                  split
                  · exact .apart (.branch (.apart h) h)
                  · exact .branch (.apart h) h))
        · split
          · exact .apart (.branch (.apart h) h)
          · exact .branch (.apart h) h)) (.when cpFault_kept (.apart (.branch (energise_kept (.apart (by
                split
                · exact cpRun_kept (endSession_kept (by
                          split
                          · exact .apart (.branch (.apart h) h)
                          · exact .branch (.apart h) h))
                · split
                  · exact .apart (.branch (.apart h) h)
                  · exact .branch (.apart h) h))) (by
            split
            · exact cpRun_kept (endSession_kept (by
                      split
                      · exact .apart (.branch (.apart h) h)
                      · exact .branch (.apart h) h))
            · split
              · exact .apart (.branch (.apart h) h)
              · exact .branch (.apart h) h))))

theorem cpTicks_kept {samples} (h : Kept p c s) : Kept p c (cpTicks samples s) :=
  .branch h (.foldl (fun _ _ h => .branch (cpTick_kept h) h) h)

theorem selfTestEnd_kept {n recent} (h : Kept p c s) : Kept p c (selfTestEnd n recent s) :=
  .branch (.branch (cpRun_kept (.apart h)) (cpFault_kept (.apart h))) h

theorem v2gSend_kept {n kind finished} (h : Kept p c s) : Kept p c (v2gSend n kind finished s) := by
  dsimp only [v2gSend]
  split
  · exact queueSession_kept (.host h rfl)
  · exact .host h rfl

theorem imdPeriod_kept {n positive negative saturated} (h : Kept p c s) : Kept p c (imdPeriod n positive negative saturated s) :=
  .branch h (.branch (cpFault_kept (.apart h))
      (.branch (cpFault_kept (.apart h)) (.branch (v2gSend_kept (noticeCp_kept (logCp_kept (.apart h)))) (.apart h))))

theorem pncNotice_kept {n ok chain} (h : Kept p c s) : Kept p c (pncNotice n ok chain s) :=
  raiseV_kept (notice_kept h)

theorem plugAndCharge_kept {n chain message signature} (h : Kept p c s) : Kept p c (plugAndCharge n chain message signature s) :=
  .branch (v2gSend_kept (pncNotice_kept (logCp_kept (pkeAsk_kept h)))) h

theorem authExpired_kept {n} (h : Kept p c s) : Kept p c (authExpired n s) :=
  .branch (logCp_kept (.apart h)) h

theorem heartbeatLost_kept {n} (h : Kept p c s) : Kept p c (heartbeatLost n s) :=
  cpRun_kept (.apart h)

theorem energyRequest_kept {n k} (h : Kept p c s) : Kept p c (energyRequest n k s) :=
  .branch (.apart h) (by
      split
      · exact v2gSend_kept (cpRun_kept (.apart h))
      · exact .branch (v2gSend_kept (cpRun_kept (.apart h))) (.apart h)
      · exact v2gSend_kept (cpRun_kept (.apart h))
      · exact plugAndCharge_kept (.apart h))

theorem soundFrame_kept {pl run groups} (h : Kept p c s) : Kept p c (soundFrame pl run groups s) :=
  .branch h (.apart h)

theorem slacEnd_kept {run} (h : Kept p c s) : Kept p c (slacEnd run s) :=
  .branch h (.foldl (fun _ _ h => .branch (.host (logCp_kept (.apart h)) rfl) (logCp_kept (.apart h))) (.apart h))

theorem sessionOut_kept {r bare} (h : Kept p c s) : Kept p c (sessionOut r bare s) := by
  dsimp only [sessionOut]
  split
  · rename_i s1 ht1
    have h1 := emitSession_kept h _ ht1
    exact .when logCp_kept (.apart h1)
  · exact reserve_kept h

theorem sessionEmit_kept (h : Kept p c s) : Kept p c (sessionEmit s) := by
  dsimp only [sessionEmit]
  split
  · exact h
  · exact .branch h (.branch (sessionOut_kept h) (.branch (sessionOut_kept h) (.branch h (pkeAsk_kept (.apart h)))))

theorem sessionSigned_kept {id} (h : Kept p c s) : Kept p c (sessionSigned id s) := by
  dsimp only [sessionSigned]
  split
  · exact .branch (by
          split
          · exact sessionEmit_kept (.apart h)
          · exact sessionEmit_kept (.apart h)) h
  · exact h

theorem cpDrop_kept {n cause dest} (h : Kept p c s) : Kept p c (cpDrop n cause dest s) :=
  cpGo_kept (.apart (endSession_kept (deEnergise_kept h)))

theorem cpDropAll_kept {cause dest} (h : Kept p c s) : Kept p c (cpDropAll cause dest s) :=
  .foldl (fun _ _ h => .branch h (cpDrop_kept h)) h

theorem cpRemoved_kept (h : Kept p c s) : Kept p c (cpRemoved s) :=
  .foldl (fun _ _ h => .branch h (.apart (endSession_kept (.apart (cpFault_kept h))))) h

theorem cpLost_kept {cause} (h : Kept p c s) : Kept p c (cpLost cause s) :=
  .foldl (fun _ _ h => .unless logCp_kept (.apart (deEnergise_kept h))) h

theorem cpRestart_kept (h : Kept p c s) : Kept p c (cpRestart s) :=
  .foldl (fun _ _ h => by
      dsimp only
      split
      · exact .branch (weldFound_kept (logCp_kept (cpGo_kept (.apart h)))) h
      · exact h) h

end Sys2Proof.Machine

/-! ### The commands of tariffs, legal displays and charge points keep the memories (spec/05, spec/06) -/

namespace Sys2Proof.Machine

open Sys2Proof

variable {p : List Instr} {c : Prop} {s : State}

theorem showItem_kept {d item} (h : Kept p c s) : Kept p c (showItem d item s) :=
  .host (.host (.host h rfl) rfl) rfl

theorem showCv_kept {d} (h : Kept p c s) : Kept p c (showCv d s) :=
  .branch (.host (.host (.host h rfl) rfl) rfl) h

theorem refresh_kept {d} (h : Kept p c s) : Kept p c (refresh d s) :=
  .branch h (.branch (showCv_kept h) (by
        split
        · exact showItem_kept h
        · exact h))

theorem showCvAll_kept (h : Kept p c s) : Kept p c (showCvAll s) :=
  .foldl (fun _ _ => showCv_kept) (.apart h)

theorem pingDisplay_kept {d reply} (h : Kept p c s) : Kept p c (pingDisplay d reply s) :=
  .branch h (.branch (.when logTariff_kept (.apart (.host h rfl)))
      (.branch (logTariff_kept (tamperSet_kept (.apart (.host h rfl)))) (.apart (.host h rfl))))

theorem scrollDisplay_kept {d} (h : Kept p c s) : Kept p c (scrollDisplay d s) :=
  .branch (refresh_kept (.apart h)) h

theorem cvExpiry_kept (h : Kept p c s) : Kept p c (cvExpiry s) :=
  .branch (.foldl (fun _ _ => refresh_kept) (.apart h)) h

theorem tarStatusRun_kept {x r} (h : Kept p c s) : Kept p c (tarStatusRun x r s).2 :=
  h

theorem editPassive_kept {r f} (h : Kept p c s) : Kept p c (editPassive r f s) :=
  logTariff_kept (.apart h)

theorem tarDayRun_kept {x r} (h : Kept p c s) : Kept p c (tarDayRun x r s).2 := by
  dsimp only [tarDayRun]
  exact editPassive_kept h

theorem tarWeekRun_kept {x r} (h : Kept p c s) : Kept p c (tarWeekRun x r s).2 := by
  dsimp only [tarWeekRun]
  exact editPassive_kept h

theorem tarSeasonRun_kept {x r} (h : Kept p c s) : Kept p c (tarSeasonRun x r s).2 := by
  dsimp only [tarSeasonRun]
  exact editPassive_kept h

theorem tarSpecialRun_kept {x r} (h : Kept p c s) : Kept p c (tarSpecialRun x r s).2 := by
  dsimp only [tarSpecialRun]
  exact editPassive_kept h

theorem tarTableRun_kept {x r} (h : Kept p c s) : Kept p c (tarTableRun x r s).2 := by
  dsimp only [tarTableRun]
  exact editPassive_kept h

theorem tarActivateRun_kept {x r} (h : Kept p c s) : Kept p c (tarActivateRun x r s).2 :=
  .branch_pair (activateTable_kept (beforeSwitch_kept h)) (.apart h)

theorem tarAssignRun_kept {x r} (h : Kept p c s) : Kept p c (tarAssignRun x r s).2 :=
  logTariff_kept (.apart h)

theorem billRegRun_kept {x r} (h : Kept p c s) : Kept p c (billRegRun x r s).2 :=
  logTariff_kept (.apart h)

theorem billCloseRun_kept {x r} (h : Kept p c s) : Kept p c (billCloseRun x r s).2 :=
  closePeriod_kept (scheduledClose_kept (beforeClose_kept h))

theorem billReadRun_kept {x r} (h : Kept p c s) : Kept p c (billReadRun x r s).2 :=
  h

theorem billHistoryRun_kept {x r} (h : Kept p c s) : Kept p c (billHistoryRun x r s).2 :=
  h

theorem demRun_kept {x r} (h : Kept p c s) : Kept p c (demRun x r s).2 :=
  logTariff_kept (.apart h)

theorem demReadRun_kept {x r} (h : Kept p c s) : Kept p c (demReadRun x r s).2 :=
  h

theorem prepayRun_kept {x r} (h : Kept p c s) : Kept p c (prepayRun x r s).2 :=
  logPrepay_kept (.when setDuty_kept (.apart (.branch (.apart (.apart (.branch (setDuty_kept h) h)))
      (.apart (.branch (setDuty_kept h) h)))))

theorem prepayCreditRun_kept {x r} (h : Kept p c s) : Kept p c (prepayCreditRun x r s).2 :=
  prepayEval_kept (logPrepay_kept (.apart h))

theorem prepayAuto_kept {m} (h : Kept p c s) : Kept p c (prepayAuto m s) := by
  dsimp only [prepayAuto]
  split
  · exact .apart (.apart h)
  · exact .unless enterClosing_kept (.apart h)
  · exact .unless enterClosing_kept (.apart h)
  · exact .unless enterClosing_kept (.apart h)
  · exact .when enterOpening_kept (.apart h)
  · exact .branch (enterOpening_kept (.apart h)) (.apart (.apart h))

theorem prepaySwitch_kept {m action} (h : Kept p c s) : Kept p c (prepaySwitch m action s) :=
  .branch (prepayAuto_kept h) (.branch (enterOpening_kept (.apart h)) (.branch (.apart h) h))

theorem prepaySwitchRun_kept {x r} (h : Kept p c s) : Kept p c (prepaySwitchRun x r s).2 :=
  prepaySwitch_kept h

theorem prepayReconnectRun_kept {x r} (h : Kept p c s) : Kept p c (prepayReconnectRun x r s).2 :=
  enterClosing_kept h

theorem prepayStatusRun_kept {x r} (h : Kept p c s) : Kept p c (prepayStatusRun x r s).2 :=
  h

theorem tamperReadRun_kept {x r} (h : Kept p c s) : Kept p c (tamperReadRun x r s).2 :=
  h

theorem legalCvReadRun_kept {x a} (h : Kept p c s) : Kept p c (legalCvReadRun x a s).2 :=
  h

theorem legalCvShowRun_kept {x a} (h : Kept p c s) : Kept p c (legalCvShowRun x a s).2 := by
  dsimp only [legalCvShowRun]
  exact showCvAll_kept h

theorem displayRun_kept {x r} (h : Kept p c s) : Kept p c (displayRun x r s).2 :=
  refresh_kept (.apart h)

theorem legalLogRun_kept {x r} (h : Kept p c s) : Kept p c (legalLogRun x r s).2 := by
  dsimp only [legalLogRun]
  split
  · exact h
  · exact h

theorem decommissionRun_kept {x r} (h : Kept p c s) : Kept p c (decommissionRun x r s).2 := by
  dsimp only [decommissionRun]
  exact logEv_kept (.apart (commitAll_kept (.foldl (fun _ _ => closePeriod_kept) (beforeClose_kept h))))

theorem legalStatusRun_kept {x a} (h : Kept p c s) : Kept p c (legalStatusRun x a s).2 :=
  h

theorem cpCfgRun_kept {x r} (h : Kept p c s) : Kept p c (cpCfgRun x r s).2 := by
  unfold cpCfgRun
  extract_lets n me s1 cfg s2 s3 point s4 s5 s6 s7
  have h1 : Kept p c s1 := .apart (.apart h)
  have h4 : Kept p c s4 := .apart (.branch (.apart h1) (.apart (.apart h1)))
  have h5 : Kept p c s5 := cpGo_kept (.apart h4)
  have h7 : Kept p c s7 := .branch (.branch (.branch (cpFault_kept h5) (cpRun_kept h5)) (cpRun_kept h4))
    (.branch h1 (cpGo_kept (.apart (endSession_kept h1))))
  exact h7

theorem cpStatusRun_kept {x r} (h : Kept p c s) : Kept p c (cpStatusRun x r s).2 :=
  h

theorem authoriseRun_kept {x r} (h : Kept p c s) : Kept p c (authoriseRun x r s).2 :=
  cpRun_kept (logCp_kept (.apart (.apart h)))

theorem limitRun_kept {x r} (h : Kept p c s) : Kept p c (limitRun x r s).2 :=
  .branch (cpGo_kept (.apart (cpRun_kept (.apart (.apart h))))) (cpRun_kept (.apart (.apart h)))

theorem stopRun_kept {x r} (h : Kept p c s) : Kept p c (stopRun x r s).2 :=
  .branch (cpRun_kept (cpGo_kept (.apart (.apart h)))) (.apart h)

theorem availRun_kept {x r} (h : Kept p c s) : Kept p c (availRun x r s).2 := by
  dsimp only [availRun]
  exact cpRun_kept (.apart (.apart h))

theorem cpResetRun_kept {x r} (h : Kept p c s) : Kept p c (cpResetRun x r s).2 :=
  cpGo_kept (.apart (endSession_kept (.apart h)))

theorem rcdRun_kept {x r} (h : Kept p c s) : Kept p c (rcdRun x r s).2 :=
  .apart (.apart h)

theorem imdRun_kept {x r} (h : Kept p c s) : Kept p c (imdRun x r s).2 :=
  .apart (.apart h)

theorem sessionReadRun_kept {x r} (h : Kept p c s) : Kept p c (sessionReadRun x r s).2 :=
  h

theorem recordCfgRun_kept {x r} (h : Kept p c s) : Kept p c (recordCfgRun x r s).2 :=
  .apart h

theorem slacStatusRun_kept {x r} (h : Kept p c s) : Kept p c (slacStatusRun x r s).2 :=
  h

theorem v2gRun_kept {x r} (h : Kept p c s) : Kept p c (v2gRun x r s).2 :=
  .apart (.apart h)

theorem trustRun_kept {x r} (h : Kept p c s) : Kept p c (trustRun x r s).2 :=
  .apart h

theorem pilotReadRun_kept {x r} (h : Kept p c s) : Kept p c (pilotReadRun x r s).2 :=
  h

end Sys2Proof.Machine

/-! ### The commands of ingest keep the memories (spec/09) -/

namespace Sys2Proof.Machine

open Sys2Proof

variable {p : List Instr} {c : Prop} {s t : State}

theorem sendEnvelope_kept {u b} (h : Kept p c s) : Kept p c (sendEnvelope u b s) :=
  .branch (.host h rfl) (queueSession_kept h)

theorem closeEnvelope_kept (h : Kept p c s) : Kept p c (closeEnvelope s) :=
  sendEnvelope_kept (.apart h)

theorem addRecord_kept {q a} (h : Kept p c s) : Kept p c (addRecord q a s) := by
  dsimp only [addRecord]
  split
  · exact h
  · exact .apart (.branch (closeEnvelope_kept h) h)

theorem uplinkPull_kept {q} (h : Kept p c s) : Kept p c (uplinkPull q s) :=
  .branch (by
      split
      · exact addRecord_kept (countRead_kept (takeNext_kept h))
      · exact addRecord_kept (countRead_kept (takeNext_kept h))
      · exact addRecord_kept (countRead_kept (takeNext_kept h))
      · exact h) h

theorem envelopeTimeout_kept (h : Kept p c s) : Kept p c (envelopeTimeout s) :=
  .branch (closeEnvelope_kept h) h

theorem retransmitEnvelope_kept {seq} (h : Kept p c s) : Kept p c (retransmitEnvelope seq s) := by
  dsimp only [retransmitEnvelope]
  split
  · exact h
  · exact .branch (sendEnvelope_kept (.when logEv_kept (.apart h))) h

theorem dataReceive_kept {eth addr udp b} (h : Kept p c s) : Kept p c (dataReceive eth addr udp b s) :=
  .branch (.branch (.host h rfl) (.branch (by
          split
          · exact queueSession_kept h
          · exact rejectEnvelope_kept h) (envelopeReceive_kept h))) h

theorem endRequest_kept {n answered} (h : Kept p c s) : Kept p c (endRequest n answered s) := by
  dsimp only [endRequest]
  split
  · exact h
  · exact finishHost_kept (.apart h)

theorem smbReceive_kept {n ok collision apdu addr b} (h : Kept p c s) : Kept p c (smbReceive n ok collision apdu addr b s) :=
  .branch (.branch (.branch (.host (endRequest_kept h) rfl) (by
          dsimp only
          split
          · rename_i s1 ht1
            have h1 := placeFrame_kept (endRequest_kept h) _ ht1
            exact h1
          · exact .apart (endRequest_kept h))) (logEv_kept (.apart h))) h

theorem ingStatusRun_kept {x r} (h : Kept p c s) : Kept p c (ingStatusRun x r s).2 :=
  h

theorem fipCfgRun_kept {x r} (h : Kept p c s) : Kept p c (fipCfgRun x r s).2 :=
  .apart h

theorem ingSteerSetRun_kept {x r} (h : Kept p c s) : Kept p c (ingSteerSetRun x r s).2 :=
  .apart h

theorem ingPortCfgRun_kept {x r} (h : Kept p c s) : Kept p c (ingPortCfgRun x r s).2 :=
  .apart h

theorem ingParseSetRun_kept {x r} (h : Kept p c s) : Kept p c (ingParseSetRun x r s).2 :=
  .apart h

theorem ingAckTemplateRun_kept {x r} (h : Kept p c s) : Kept p c (ingAckTemplateRun x r s).2 :=
  .apart h

theorem dirRelocate_kept {fuel e b but} (h : Kept p c s) : KeptIn p c (dirRelocate fuel e b but s) := by
  induction fuel generalizing e b but s with
  | zero => exact .none
  | succ fuel ih =>
    dsimp only [dirRelocate]
    split
    · exact .some (.apart (.apart h))
    · split
      · exact .some (.apart (.apart (.apart h)))
      · exact ih (.apart (.apart h))

theorem dirInsert_kept {e} (h : Kept p c s) : KeptIn p c (dirInsert e s) := by
  dsimp only [dirInsert]
  split
  · exact .some (.apart h)
  · split
    · exact .some (.apart h)
    · split
      · exact .some (.apart h)
      · exact dirRelocate_kept h

theorem dirRemove_kept {title i} (h : Kept p c s) : Kept p c (dirRemove title i s) := by
  dsimp only [dirRemove]
  split
  · exact .branch (.apart h) h
  · exact h

theorem ctxWriteRun_kept {src r} (h : Kept p c s) : Kept p c (ctxWriteRun src r s).2 := by
  dsimp only [ctxWriteRun]
  split
  · exact logEv_kept h
  · rename_i t ht
    have h1 : Kept p c t := KeptIn.branch (dirInsert_kept (.branch h (dirRemove_kept h)))
        (.some (.branch h (dirRemove_kept h))) t ht
    exact membersUpdate_kept (.apart h1)

theorem ctxReadRun_kept {x r} (h : Kept p c s) : Kept p c (ctxReadRun x r s).2 :=
  h

theorem ctxDeleteRun_kept {x r} (h : Kept p c s) : Kept p c (ctxDeleteRun x r s).2 :=
  membersUpdate_kept (.apart (dirRemove_kept h))

theorem jtInvalidateRun_kept {x r} (h : Kept p c s) : Kept p c (jtInvalidateRun x r s).2 :=
  .apart h

theorem jtReadRun_kept {x r} (h : Kept p c s) : Kept p c (jtReadRun x r s).2 :=
  h

theorem ingSubmitRun_kept {src r} (h : Kept p c s) : Kept p c (ingSubmitRun src r s).2 := by
  dsimp only [ingSubmitRun]
  split
  · split
    · exact claimEntry_kept (.apart h)
    · exact h
  · exact h

theorem dxPeerCfgRun_kept {x r} (h : Kept p c s) : Kept p c (dxPeerCfgRun x r s).2 :=
  .apart h

theorem dxUplinkCfgRun_kept {x r} (h : Kept p c s) : Kept p c (dxUplinkCfgRun x r s).2 :=
  .apart h

theorem smbCfgRun_kept {x r} (h : Kept p c s) : Kept p c (smbCfgRun x r s).2 :=
  .apart h

theorem smbTxRun_kept {src r} (h : Kept p c s) : Kept p c (smbTxRun src r s).2 := by
  dsimp only [smbTxRun]
  split
  · exact claimEntry_kept (smbSend_kept (.apart (endRequest_kept h)))
  · exact h

end Sys2Proof.Machine

/-! ### Submission entries and the commands of powerline, logbook and radio keep the memories (spec/02, spec/07, spec/08, spec/14) -/

namespace Sys2Proof.Machine

open Sys2Proof

variable {p : List Instr} {c : Prop} {s : State}

theorem takeEntry_kept {q len r} (h : Kept p c s) : Kept p c (takeEntry q len r s) := by
  dsimp only [takeEntry]
  split
  · exact completeSq_kept (.host (.host h rfl) rfl)
  · exact .host (.host h rfl) rfl

theorem sqFetch_kept {q cell buffer} (h : Kept p c s) : Kept p c (sqFetch q cell buffer s) :=
  .branch (takeEntry_kept h) h

theorem plCouplingSetRun_kept {x r} (h : Kept p c s) : Kept p c (plCouplingSetRun x r s).2 :=
  .apart h

theorem plCfgRun_kept {x r} (h : Kept p c s) : Kept p c (plCfgRun x r s).2 :=
  logPl_kept (.apart (.branch (.foldl (fun _ _ => finishMb_kept) (.apart (dropPlQueues_kept h))) h))

theorem plNetCfgRun_kept {x r} (h : Kept p c s) : Kept p c (plNetCfgRun x r s).2 :=
  logEv_kept (.apart h)

theorem plStatusRun_kept {x r} (h : Kept p c s) : Kept p c (plStatusRun x r s).2 :=
  h

theorem plNbrReadRun_kept {x r} (h : Kept p c s) : Kept p c (plNbrReadRun x r s).2 :=
  h

theorem plTmReadRun_kept {x r} (h : Kept p c s) : Kept p c (plTmReadRun x r s).2 :=
  h

theorem plNbrDeleteRun_kept {x r} (h : Kept p c s) : Kept p c (plNbrDeleteRun x r s).2 :=
  removeNbr_kept h

theorem plTmRefreshRun_kept {src r} (h : Kept p c s) : Kept p c (plTmRefreshRun src r s).2 := by
  dsimp only [plTmRefreshRun]
  split
  · exact h
  · exact .apart (.foldl (fun _ _ => setPending_kept) h)

theorem plRouteSetRun_kept {x r} (h : Kept p c s) : Kept p c (plRouteSetRun x r s).2 :=
  .apart h

theorem plRouteReadRun_kept {x r} (h : Kept p c s) : Kept p c (plRouteReadRun x r s).2 :=
  h

theorem plRouteFlushRun_kept {x r} (h : Kept p c s) : Kept p c (plRouteFlushRun x r s).2 :=
  .apart h

theorem plTxRun_kept {src r} (h : Kept p c s) : Kept p c (plTxRun src r s).2 := by
  dsimp only [plTxRun]
  split
  · exact h
  · split
    · exact .host h rfl
    · split
      · rename_i s1 ht1
        have h1 := routePl_kept h _ ht1
        exact h1
      · exact h

theorem plBeaconSetRun_kept {x r} (h : Kept p c s) : Kept p c (plBeaconSetRun x r s).2 :=
  .apart h

theorem windowLastRead_kept {width} (h : Kept p c s) : Kept p c (windowLastRead width s) :=
  .branch (.apart (.host h rfl)) h

theorem tokenRefill_kept {code} (h : Kept p c s) : Kept p c (tokenRefill code s) :=
  .branch (.apart h) h

theorem logInfoRun_kept {x a} (h : Kept p c s) : Kept p c (logInfoRun x a s).2 :=
  h

theorem logReadRun_kept {x r} (h : Kept p c s) : Kept p c (logReadRun x r s).2 :=
  h

theorem logFlushRun_kept {x a} (h : Kept p c s) : Kept p c (logFlushRun x a s).2 :=
  flush_kept h

theorem logRateSetRun_kept {x r} (h : Kept p c s) : Kept p c (logRateSetRun x r s).2 :=
  logEv_kept (.apart h)

theorem logClearRun_kept {x a} (h : Kept p c s) : Kept p c (logClearRun x a s).2 :=
  logEv_kept (.apart (flush_kept h))

theorem faultStatusRun_kept {x r} (h : Kept p c s) : Kept p c (faultStatusRun x r s).2 :=
  h

theorem dropRfQueues_kept {n st} (h : Kept p c s) : Kept p c (dropRfQueues n st s) :=
  .foldl (fun _ _ => finishHost_kept) (.apart h)

theorem rfCfgRun_kept {x r} (h : Kept p c s) : Kept p c (rfCfgRun x r s).2 :=
  logRf_kept (.apart (.branch (.foldl (fun _ _ => removeLink_kept) (dropRfQueues_kept h)) h))

theorem rfNetCfgRun_kept {x r} (h : Kept p c s) : Kept p c (rfNetCfgRun x r s).2 :=
  logEv_kept (.apart h)

theorem rfStatusRun_kept {x r} (h : Kept p c s) : Kept p c (rfStatusRun x r s).2 :=
  h

theorem rfLinkAddRun_kept {x r} (h : Kept p c s) : Kept p c (rfLinkAddRun x r s).2 :=
  .when enterReAcquire_kept (rfLinkRecord_kept (logRf_kept (.apart (.apart (by
              split
              · rename_i s1 ht1
                have h1 := ensureDev_kept h _ ht1
                exact h1
              · exact h)))))

theorem rfLinkUpdateRun_kept {x r} (h : Kept p c s) : Kept p c (rfLinkUpdateRun x r s).2 :=
  logRf_kept (.apart h)

theorem rfLinkRemoveRun_kept {x r} (h : Kept p c s) : Kept p c (rfLinkRemoveRun x r s).2 :=
  removeLink_kept h

theorem rfLinkReadRun_kept {x r} (h : Kept p c s) : Kept p c (rfLinkReadRun x r s).2 :=
  h

theorem rfTxRun_kept {src r} (h : Kept p c s) : Kept p c (rfTxRun src r s).2 := by
  dsimp only [rfTxRun]
  split
  · exact h
  · split
    · rename_i s1 ht1
      have h1 := enqueueRf_kept h _ ht1
      exact h1
    · exact h

theorem rfDevDeleteRun_kept {x r} (h : Kept p c s) : Kept p c (rfDevDeleteRun x r s).2 :=
  .apart h

end Sys2Proof.Machine

/-! ### Fences, recovery and fault sources keep the memories (spec/14) -/

namespace Sys2Proof.Machine

open Sys2Proof

variable {p : List Instr} {c : Prop} {s : State}

theorem dropLaneOps_kept {n} (h : Kept p c s) : Kept p c (dropLaneOps n s) :=
  .foldl (fun _ _ h => by
      dsimp only
      split
      · exact .branch (.apart h) h
      · exact h) h

theorem dropLaneQueue_kept {n} (h : Kept p c s) : Kept p c (dropLaneQueue n s) :=
  .apart (.foldl (fun _ _ h => by
        split
        · exact sessionFails_kept h
        · exact h) h)

theorem discardFip_kept {n} (h : Kept p c s) : Kept p c (discardFip n s) :=
  .apart (.apart (dropLaneQueue_kept (dropLaneOps_kept
      (.foldl (fun _ _ h => discardFrame_kept (claimEntry_kept h)) (.foldl (fun _ _ h => freeReply_kept (claimEntry_kept h)) h)))))

theorem discardLane_kept {l} (h : Kept p c s) : Kept p c (discardLane l s) := by
  dsimp only [discardLane]
  split
  · exact .apart (by
          split
          · exact finishMb_kept h
          · exact h)
  · split
    · exact sessionFails_kept (.apart (.apart (by
                split
                · exact finishMb_kept h
                · exact h)))
    · split
      · exact discardFrame_kept (claimEntry_kept (.apart (.apart (by
                    split
                    · exact finishMb_kept h
                    · exact h))))
      · exact .apart (.apart (by
                split
                · exact finishMb_kept h
                · exact h))

theorem discardPl_kept {n} (h : Kept p c s) : Kept p c (discardPl n s) :=
  .apart (.apart (.foldl (fun _ _ => finishMb_kept) (dropPlQueues_kept h)))

theorem discardRf_kept {n} (h : Kept p c s) : Kept p c (discardRf n s) :=
  .apart (dropRfQueues_kept h)

theorem discardUnit_kept {u} (h : Kept p c s) : Kept p c (discardUnit u s) :=
  .branch (.host h rfl) (.branch (.apart (.foldl (fun _ _ h => by
            split
            · exact .foldl (fun _ _ => finishMb_kept) (.apart h)
            · exact h) (.foldl (fun _ _ => finishMb_kept) h)))
                  (.branch (.apart (.apart h)) (.branch (discardFip_kept h) (.branch (discardLane_kept h) (.branch (by
                split
                · exact .apart (pkeServe_kept (pkeDrop_kept (.apart h)))
                · exact h) (.branch (.apart (.apart (.apart h)))
                      (.branch (.apart (.apart h)) (.branch (discardPl_kept h) (.branch (discardRf_kept h) (.branch (by
                          split
                          · exact finishMb_kept (.meter h rfl)
                          · exact h) (.branch (prepayFenced_kept (.branch h (cpDrop_kept h))) h)))))))))))

theorem discardFenced_kept {u} (h : Kept p c s) : Kept p c (discardFenced u s) :=
  .branch (.foldl (fun _ _ => discardUnit_kept) h) (discardUnit_kept h)

theorem releaseCqs_kept {sq n} (h : Kept p c s) : Kept p c (releaseCqs sq n s) := by
  induction n generalizing s with
  | zero => exact h
  | succ n ih => exact ih (.apart h)

theorem postFence_kept {sq st keep} (h : Kept p c s) : Kept p c (postFence sq st keep s) := by
  dsimp only [postFence]
  split
  · exact h
  · exact .branch (postWaitFence_kept (releaseCqs_kept (.host h rfl))) (.host (releaseCqs_kept (.host h rfl)) rfl)

theorem fenceQueue_kept {u sq} (h : Kept p c s) : Kept p c (fenceQueue u s sq) :=
  .branch (postFence_kept h) (.host h rfl)

theorem postFences_kept {u} (h : Kept p c s) : Kept p c (postFences u s) :=
  .foldl (fun _ _ => fenceQueue_kept) h

theorem fenceComplete_kept {u} (h : Kept p c s) : Kept p c (fenceComplete u s) :=
  .branch (.branch (raiseV_kept (flush_kept (logNotice_kept (.apart (.apart (postFences_kept (discardFenced_kept h)))))))
      (.branch (.apart h) h)) h

theorem f1Complete_kept {u} (h : Kept p c s) : Kept p c (f1Complete u s) :=
  .branch (.apart h) h

theorem f1Timeout_kept {u} (h : Kept p c s) : Kept p c (f1Timeout u s) :=
  .branch (takeF2_kept h) h

theorem resetUnit_kept {u} (h : Kept p c s) : Kept p c (resetUnit u s) :=
  .branch (.apart (loadEngine_kept h)) (.branch (.apart (.apart (loadEngine_kept h)))
      (.branch (.apart (loadEngine_kept h)) (loadEngine_kept h)))

theorem unitReturns_kept {u} (h : Kept p c s) : Kept p c (unitReturns u s) :=
  .branch (.apart h) (.branch (.apart h) (.branch (pkeServe_kept h)
      (.branch (postAllWaiting_kept (sendPending_kept h)) (.branch (resumeLinks_kept h) h))))

theorem unitRecoverRun_kept {src r} (h : Kept p c s) : Kept p c (unitRecoverRun src r s).2 :=
  resetUnit_kept (.apart h)

theorem recoveryEnd_kept {u passed} (h : Kept p c s) : Kept p c (recoveryEnd u passed s) :=
  .branch (.branch (by
        split
        · exact finishMb_kept (logEv_kept (unitReturns_kept (.apart h)))
        · exact logEv_kept (unitReturns_kept (.apart h))) (recoveryFails_kept h)) h

theorem supplyFaultOf_kept {d rail} (h : Kept p c s) : Kept p c (supplyFaultOf d rail s) :=
  .foldl (fun _ _ => raiseFault_kept) (.apart h)

theorem dropPond_kept {q} (h : Kept p c s) : Kept p c (dropPond q s) := by
  dsimp only [dropPond]
  split
  · exact h
  · exact freeReply_kept (.host (.host h rfl) rfl)

theorem dropFromPan_kept {q} (h : Kept p c s) : Kept p c (dropFromPan q s) := by
  dsimp only [dropFromPan]
  split
  · exact freeReply_kept (handOff_kept (.host h rfl))
  · exact freeReply_kept (handOff_kept (.host h rfl))
  · exact h

theorem dropWork_kept {u work} (h : Kept p c s) : Kept p c (dropWork u work s) :=
  .branch (by
      split
      · exact discardFrame_kept h
      · exact h) (.branch (dropFromPan_kept h) (.branch (.apart h) h))

theorem correctedError_kept {u addr} (h : Kept p c s) : Kept p c (correctedError u addr s) :=
  .apart (countedFault_kept h)

theorem eccError_kept {e} (h : Kept p c s) : Kept p c (eccError e s) := by
  dsimp only [eccError]
  split
  · exact correctedError_kept h
  · exact dropWork_kept (raiseFault_kept h)
  · exact raiseFault_kept h
  · exact raiseFault_kept h
  · exact raiseFault_kept h
  · exact dropPond_kept (raiseFault_kept h)
  · exact raiseFault_kept h

theorem faultInjectRun_kept {x r} (h : Kept p c s) : Kept p c (faultInjectRun x r s).2 :=
  logEv_kept h

theorem injectAfter_kept {req} (h : Kept p c s) : Kept p c (injectAfter req s) := by
  dsimp only [injectAfter]
  split
  · exact raiseFault_kept h
  · exact h

theorem mismatch_kept {m} (h : Kept p c s) : Kept p c (mismatch m s) :=
  .branch (by
      split
      · exact .foldl (fun _ _ => raiseFault_kept) (raiseV_kept (notice_kept (.apart (.apart h))))
      · exact logEv_kept (raiseV_kept (notice_kept (.apart (.apart h))))) h

theorem reconcile_kept {found} (h : Kept p c s) : Kept p c (reconcile found s) :=
  .branch (.foldl (fun _ _ h => .branch (mismatch_kept h) h) h) h

end Sys2Proof.Machine

/-! ### Start-up, image banks, domains and restarts keep the memories (spec/01, spec/12, spec/13, spec/15) -/

namespace Sys2Proof.Machine

open Sys2Proof

variable {p : List Instr} {c : Prop} {s t : State}

theorem loadDirectory_kept (h : Kept p c s) : Kept p c (loadDirectory s) := by
  dsimp only [loadDirectory]
  split
  · exact h
  · exact .firm h rfl rfl

theorem runLegal_kept {k} (h : Kept p c s) : Kept p c (runLegal k s) :=
  .firm (.firm (.firm h rfl rfl) rfl rfl) rfl rfl

theorem legalCheck_kept (h : Kept p c s) : Kept p c (legalCheck s) := by
  unfold legalCheck
  extract_lets firm s1
  have h1 : Kept p c s1 := .firm (.firm (.firm h rfl rfl) rfl rfl) rfl rfl
  split
  · exact h1
  · have h2 {k n} : Kept p c (legalAuto 0xB0B (le8 n) (logBoot 0xB0B 0xFFFF [snapN n] (hashCopy k s1).2)) :=
      legalAuto_kept (logBoot_kept (.apart h1))
    exact .branch (runLegal_kept (.apart h1)) (.branch h2
        (.branch (.firm (.firm (runLegal_kept (.firm (.apart h2) rfl rfl)) rfl rfl) rfl rfl) (.apart h2)))

theorem logLegalState_kept {opcode counter} (h : Kept p c s) : Kept p c (logLegalState opcode counter s) :=
  logEv_kept h

theorem enterService_kept {opcode counter} (h : Kept p c s) : Kept p c (enterService opcode counter s) :=
  .branch h (logLegalState_kept (.apart h))

theorem pd10Start_kept {commit} (h : Kept p c s) : Kept p c (pd10Start commit s) := by
  dsimp only [pd10Start]
  split
  · exact showCvAll_kept (tariffStart_kept (meterStart_kept (.apart (legalCheck_kept h))))
  · exact alarmAll_kept (tariffStart_kept (meterStart_kept (.apart (legalCheck_kept h))))

/-- An image bank takes any canonical memory (R457). -/
theorem setFlash_kept {b m} (hm : c → Memory.wf m = true) (h : Kept p c s) : Kept p c (setFlash b m s) :=
  .branch ⟨h.1, fun hc => ⟨(h.2 hc).1, hm hc, (h.2 hc).2.2⟩⟩
    ⟨h.1, fun hc => ⟨(h.2 hc).1, (h.2 hc).2.1, hm hc, (h.2 hc).2.2.2⟩⟩

theorem writeBank_kept {b k} (h : Kept p c s) : Kept p c (writeBank b k s) :=
  .firm (.firm (setBank_kept h) rfl rfl) rfl rfl

theorem endStaging_kept {st} (h : Kept p c s) : Kept p c (endStaging st s) := by
  dsimp only [endStaging]
  split
  · exact h
  · split
    · exact finishMb_kept (logBoot_kept (writeBank_kept (.firm h rfl rfl)))
    · exact logBoot_kept (writeBank_kept (.firm h rfl rfl))

theorem freeActSlot_kept {a} (h : Kept p c s) : Kept p c (freeActSlot a s) :=
  .branch (.apart h) h

theorem endActivation_kept {st payload} (h : Kept p c s) : Kept p c (endActivation st payload s) := by
  dsimp only [endActivation]
  split
  · exact h
  · split
    · exact finishMb_kept (freeActSlot_kept (.firm h rfl rfl))
    · exact freeActSlot_kept (.firm h rfl rfl)

theorem releaseHold_kept (h : Kept p c s) : Kept p c (releaseHold s) := by
  dsimp only [releaseHold]
  split
  · exact .branch h (logBootNotice_kept (.firm h rfl rfl))
  · exact h

theorem enterHold_kept {mpe} (h : Kept p c s) : Kept p c (enterHold mpe s) :=
  .branch (logBootNotice_kept (.firm h rfl rfl)) h

theorem runImage_kept {b} (h : Kept p c s) : Kept p c (runImage b s) :=
  .firm h rfl rfl

theorem switchImage_kept (h : Kept p c s) : Kept p c (switchImage s) :=
  .foldl (fun _ _ h => .branch (loadDomain_kept h) h) (.firm h rfl rfl)

theorem loadService_kept (h : Kept p c s) : Kept p c (loadService s) :=
  .branch h (.firm h rfl rfl)

theorem beginPause_kept {a} (h : Kept p c s) : Kept p c (beginPause a s) :=
  .firm (writeBank_kept (.firm h rfl rfl)) rfl rfl

theorem missed_kept (h : Kept p c s) : Kept p c (missed s) :=
  logBootNotice_kept h

theorem activationInstant_kept {k m} (h : Kept p c s) : Kept p c (activationInstant k m s) := by
  dsimp only [activationInstant]
  split
  · exact .branch (.branch (beginPause_kept (.branch (enterHold_kept h) h))
        (endActivation_kept (missed_kept (.branch (enterHold_kept h) h)))) (.when missed_kept (.branch (enterHold_kept h) h))
  · exact .branch (missed_kept (enterHold_kept h)) h

theorem keepBase_kept {n} (h : Kept p c s) : Kept p c (keepBase n s) :=
  .apart (settleStep_kept h)

theorem startBase_kept {n} (h : Kept p c s) : Kept p c (startBase n s) := by
  dsimp only [startBase]
  split
  · exact .apart h
  · exact .apart h

theorem withdraw_kept {d} (h : Kept p c s) : Kept p c (withdraw d s) := by
  unfold withdraw
  extract_lets s1 power s2
  have h2 : Kept p c s2 := .apart (.foldl (fun _ _ => keepBase_kept) h)
  exact .branch (.apart (.foldl (fun _ _ h => .host (.host h rfl) rfl) h2))
    (.branch (.apart h2) (.branch (prepayDomainOff_kept (cpDropAll_kept h2)) h2))

theorem discardDomain_kept {d} (h : Kept p c s) : Kept p c (discardDomain d s) :=
  .foldl (fun _ _ h => postFences_kept (discardUnit_kept h)) h

theorem loseDomain_kept {d} (h : Kept p c s) : Kept p c (loseDomain d s) :=
  .branch (.foldl (fun _ _ h => .apart h) (.apart h))
      (.branch (.apart (pkeDropAll_kept h)) (.branch (.host h rfl)
      (.branch (.apart (.apart h)) (.branch (.apart h) (.branch (.apart h) h)))))

theorem unitReset_kept {u} (h : Kept p c s) : Kept p c (unitReset u s) :=
  .branch h (.apart h)

theorem endRecovery_kept {u} (h : Kept p c s) : Kept p c (endRecovery u s) := by
  dsimp only [endRecovery]
  split
  · exact finishMb_kept h
  · exact h

theorem powerOff_kept {d} (h : Kept p c s) : Kept p c (powerOff d s) := by
  unfold powerOff
  extract_lets s1 s2 s3 s4 f s5
  have h2 : Kept p c s2 := .foldl (fun _ _ h => unitReset_kept (endRecovery_kept h)) (discardDomain_kept h)
  have h3 : Kept p c s3 := loseDomain_kept h2
  have h4 : Kept p c s4 := .branch (.apart h3) (.branch (.host (.host h3 rfl) rfl) h3)
  have h5 : Kept p c s5 := .branch (.firm h4 rfl rfl) h4
  exact clearDomain_kept (.apart h5)

theorem unitOn_kept {u} (h : Kept p c s) : Kept p c (unitOn u s) :=
  .branch (.apart h) (unitReset_kept h)

theorem lanesUp_kept {failed} (h : Kept p c s) : Kept p c (lanesUp failed s) :=
  .foldl (fun _ _ h => .branch (raiseFault_kept (.apart h)) (.branch (.apart h) h)) h

theorem powerUp_kept {d failed} (h : Kept p c s) : Kept p c (powerUp d failed s) := by
  unfold powerUp
  extract_lets power s1 s2 s3
  have h2 : Kept p c s2 := .foldl (fun _ _ => unitOn_kept) (loadDomain_kept (.apart h))
  have h3 : Kept p c s3 := .foldl (fun _ _ h => slotsFollow_kept (startBase_kept h)) h2
  exact .branch (lanesUp_kept (loadAllRam_kept h3))
      (.branch (loadService_kept h3) (.branch (.foldl (fun _ _ => resumeLinks_kept) h3)
    (.branch (enterService_kept (pd10Start_kept (.apart h3))) (.when cpRestart_kept h3))))

theorem startTransition_kept {m d a} (h : Kept p c s) : Kept p c (startTransition m d a s) :=
  .branch (.apart (.apart (.apart h))) (withdraw_kept (.apart (.apart h)))

theorem pdSetRun_kept {src r} (h : Kept p c s) : Kept p c (pdSetRun src r s).2 := by
  dsimp only [pdSetRun]
  split
  · exact .branch_pair h (.branch_pair (enterService_kept h) (startTransition_kept h))
  · exact h

theorem offWorkDiscard_kept (h : Kept p c s) : Kept p c (offWorkDiscard s) := by
  dsimp only [offWorkDiscard]
  split
  · exact .branch (.apart (.foldl (fun _ _ => discardDomain_kept) h)) h
  · exact h

theorem endTransition_kept {failed} (h : Kept p c s) : Kept p c (endTransition failed s) := by
  dsimp only [endTransition]
  split
  · split
    · exact finishMb_kept (.apart (.foldl (fun _ _ h => .branch (powerUp_kept h) (powerOff_kept h)) h))
    · exact h
    · exact h
  · exact h

theorem pdStatusRun_kept {x a} (h : Kept p c s) : Kept p c (pdStatusRun x a s).2 :=
  h

theorem dramSlot_kept (h : Kept p c s) : Kept p c (dramSlot s) := by
  dsimp only [dramSlot]
  split
  · exact .apart h
  · exact h

theorem dramArbSetRun_kept {x r} (h : Kept p c s) : Kept p c (dramArbSetRun x r s).2 :=
  .apart h

theorem promote_kept {cls} (h : Kept p c s) : Kept p c (promote cls s) :=
  .branch (.apart h) h

theorem fabricStatusRun_kept {x r} (h : Kept p c s) : Kept p c (fabricStatusRun x r s).2 :=
  .apart (.apart (.apart (.apart h)))

theorem fabricError_kept {hop w} (h : Kept p c s) : Kept p c (fabricError hop w s) :=
  .branch (.when raiseFault_kept (countedFault_kept (.host (.apart h) rfl))) h

theorem logBypass_kept {entered} (h : Kept p c s) : Kept p c (logBypass entered s) :=
  logMeter_kept h

theorem lockLoss_kept {refHz} (h : Kept p c s) : Kept p c (lockLoss refHz s) := by
  unfold lockLoss
  extract_lets heldUs lost s1 bypassed s2 power s3
  have h2 : Kept p c s2 := .branch (logBypass_kept (.apart (.apart h))) (.apart h)
  have h3 : Kept p c s3 := .branch (logEv_kept (.apart h2)) h2
  exact .branch (raiseFault_kept h3) h

theorem lockRegain_kept (h : Kept p c s) : Kept p c (lockRegain s) :=
  .branch (.when followTb0_kept (logBypass_kept (.apart (.apart h)))) (.apart h)

theorem importBundle_kept {b} (h : Kept p c s) : Kept p c (importBundle b s) :=
  .branch h (by
      split
      · split
        · exact .foldl (fun _ _ h => .branch (setAuk_kept h) h) h
        · exact h
      · exact h)

theorem checkStore_kept (h : Kept p c s) : Kept p c (checkStore s) :=
  .foldl (fun _ _ h => .branch (logKey_kept h) h) h

theorem ikEnvelope_kept {root ik} (h : Kept p c s) : Kept p c (ikEnvelope root ik s).2 := by
  dsimp only [ikEnvelope]
  split
  · exact .apart h
  · exact .apart h

theorem carryIks_kept {root} (h : Kept p c s) : Kept p c (carryIks root s).2 :=
  .foldl_pair (fun _ _ h => by
    dsimp only
    split
    · split
      · exact ikEnvelope_kept h
      · exact h
    · exact h) h

theorem rekeyBank_kept {a} (h : Kept p c s) : Kept p c (rekeyBank a s) := by
  dsimp only [rekeyBank]
  split
  · split
    · exact setBank_kept h
    · exact setBank_kept h
  · exact h

theorem dropStagingBanks_kept (h : Kept p c s) : Kept p c (dropStagingBanks s) :=
  .foldl (fun _ _ h => .branch (setBank_kept h) h) h

theorem completeTransition_kept {j code} (h : Kept p c s) : Kept p c (completeTransition j code s) := by
  unfold completeTransition
  extract_lets s1 s2 keys s3 s4 s5 keys2 s6 s7
  have h1 : Kept p c s1 := .branch (.apart h) h
  have h3 : Kept p c s3 := .branch (.apart h1) (.apart (.apart h1))
  have h4 : Kept p c s4 := .branch h3 (.firm (.firm
      (dropStagingBanks_kept (.foldl (fun _ _ => rekeyBank_kept) h3)) rfl rfl) rfl rfl)
  have h5 : Kept p c s5 := .unless importBundle_kept h4
  have h7 : Kept p c s7 := .branch (.apart (.apart h5)) (.apart h5)
  exact legalAuto_kept (logBoot_kept h7)

theorem resumeJournal_kept (h : Kept p c s) : Kept p c (resumeJournal s) := by
  dsimp only [resumeJournal]
  split
  · exact h
  · exact .branch (completeTransition_kept (.apart h)) (.apart h)

theorem logKeyNotice_kept {code obj discarded} (h : Kept p c s) : Kept p c (logKeyNotice code obj discarded s) :=
  notice_kept (logKey_kept h)

theorem alarmRunning_kept {cls} (h : Kept p c s) : Kept p c (alarmRunning cls s) :=
  raiseV_kept (logKeyNotice_kept (tamperSet_kept (endStaging_kept (.apart (.apart (.apart (pkeDropAll_kept (revoke_kept h))))))))

theorem recordTrip_kept {cls} (h : Kept p c s) : Kept p c (recordTrip cls s) :=
  raiseV_kept (logKeyNotice_kept (tamperSet_kept h))

theorem sleepTrip_kept {cls} (h : Kept p c s) : Kept p c (sleepTrip cls s) :=
  .branch (.apart (.apart (.apart h))) (.apart h)

theorem takeSleepTrips_kept (h : Kept p c s) : Kept p c (takeSleepTrips s) :=
  .apart (.foldl (fun _ _ h => .branch (logTamper_kept (.apart h))
      (.branch (legalAuto_kept (logTamper_kept (.apart h)))
      (raiseV_kept (logKeyNotice_kept (legalAuto_kept (logTamper_kept (.apart h))))))) h)

theorem logHp_kept {code snaps} (h : Kept p c s) : Kept p c (logHp code snaps s) :=
  logEv_kept h

theorem noticeHp_kept {code snaps} (h : Kept p c s) : Kept p c (noticeHp code snaps s) :=
  logNotice_kept h

theorem discardFlights_kept {n} (h : Kept p c s) : Kept p c (discardFlights n s) :=
  .apart (dropLaneOps_kept (.foldl (fun _ _ => discardFrame_kept) h))

theorem discardAllFlights_kept (h : Kept p c s) : Kept p c (discardAllFlights s) :=
  .foldl (fun _ _ => discardFlights_kept) h

theorem latchRemoval_kept {w} (h : Kept p c s) : Kept p c (latchRemoval w s) :=
  raiseV_kept (noticeHp_kept (.apart h))

theorem dropActivation_kept (h : Kept p c s) : Kept p c (dropActivation s) := by
  dsimp only [dropActivation]
  split
  · exact .branch h (endActivation_kept h)
  · exact h

theorem closeForRemoval_kept (h : Kept p c s) : Kept p c (closeForRemoval s) :=
  dropActivation_kept (endStaging_kept (prepayDomainOff_kept (cpRemoved_kept h)))

theorem requestRemoval_kept {src} (h : Kept p c s) : Kept p c (requestRemoval src s) :=
  .branch (noticeHp_kept h) (.when closeForRemoval_kept (latchRemoval_kept h))

theorem endInflight_kept (h : Kept p c s) : Kept p c (endInflight s) :=
  .apart (discardAllFlights_kept h)

theorem endDrain_kept (h : Kept p c s) : Kept p c (endDrain s) :=
  .branch h (noticeHp_kept (.apart (.foldl (fun _ _ h => .host (.host h rfl) rfl) h)))

theorem removalOff_kept (h : Kept p c s) : Kept p c (removalOff s) :=
  raiseV_kept (noticeHp_kept (.apart (.apart (.foldl (fun _ _ h => powerOff_kept (withdraw_kept h)) h))))

theorem finishRemoval_kept (h : Kept p c s) : Kept p c (finishRemoval s) :=
  .branch (.apart (flush_kept (.branch (commitAll_kept h) h))) (removalOff_kept (flush_kept (.branch (commitAll_kept h) h)))

theorem awaitedOff_kept (h : Kept p c s) : Kept p c (awaitedOff s) :=
  .branch (removalOff_kept h) h

theorem relatch_kept (h : Kept p c s) : Kept p c (relatch s) := by
  dsimp only [relatch]
  split
  · exact latchRemoval_kept h
  · exact h

theorem restoreDomains_kept {want failed} (h : Kept p c s) : Kept p c (restoreDomains want failed s) :=
  .foldl (fun _ _ h => .branch (powerUp_kept h) h) h

/-- A full reset clears the mailbox areas, another keeps them. -/
theorem resetHost_kept {full} (h : Kept p c s) : Kept p c (resetHost full s) :=
  .branch ⟨h.1, fun hc => ⟨rfl, (h.2 hc).2⟩⟩ (.apart h)

theorem resetDomains_kept {full cause} (h : Kept p c s) : Kept p c (resetDomains full cause s) :=
  .apart (.apart (.meter (.apart (.firm (.apart
      (resetHost_kept (.apart (.apart (.when prepayDomainOff_kept (cpLost_kept (endStaging_kept h))))))) rfl rfl)) rfl))

theorem takeBackup_kept (h : Kept p c s) : Kept p c (takeBackup s) :=
  .branch (.apart (tariffTb2Lost_kept (logTb_kept (.apart (.apart (takeSleepTrips_kept h)))))) (takeSleepTrips_kept h)

theorem checkRoot_kept (h : Kept p c s) : Kept p c (checkRoot s) :=
  .when logKey_kept (.apart h)

theorem enterAlarm_kept (h : Kept p c s) : Kept p c (enterAlarm s) :=
  .when logKey_kept (.branch (.apart (.apart h)) (.apart h))

theorem bootFuses_kept (h : Kept p c s) : Kept p c (bootFuses s) :=
  enterAlarm_kept (checkRoot_kept (resumeJournal_kept
      (takeBackup_kept (.apart (.when logBoot_kept
      (followTb0_kept (lockRegain_kept (.firm (loadDirectory_kept (.apart h)) rfl rfl))))))))

theorem bootPd10_kept (h : Kept p c s) : Kept p c (bootPd10 s) :=
  .branch (pd10Start_kept (.foldl (fun _ _ => unitReset_kept) (.apart h))) h

theorem tryActive_kept (h : Kept p c s) : Kept p c (tryActive s).2 := by
  dsimp only [tryActive]
  split
  · exact .branch_pair (logBoot_kept (writeBank_kept h)) (writeBank_kept h)
  · exact h
  · exact h

theorem chooseBank_kept (h : Kept p c s) : Kept p c (chooseBank s).2 := by
  dsimp only [chooseBank]
  exact .branch_pair (tryActive_kept h)
    (.branch_pair (logBootNotice_kept (.firm (.firm (tryActive_kept h) rfl rfl) rfl rfl)) (tryActive_kept h))

theorem startImage_kept {b} (h : Kept p c s) : Kept p c (startImage b s) :=
  notice_kept (logBoot_kept (.firm (runImage_kept (.firm h rfl rfl)) rfl rfl))

theorem restoreAll_kept (h : Kept p c s) : Kept p c (restoreAll s) :=
  .firm (.branch (finishRemoval_kept (.firm h rfl rfl)) (restoreDomains_kept (.firm h rfl rfl))) rfl rfl

theorem armCredits_kept (h : Kept p c s) : Kept p c (armCredits s) :=
  .when raiseV_kept (.host h rfl)

theorem resumeRemoval_kept (h : Kept p c s) : Kept p c (resumeRemoval s) :=
  .branch (finishRemoval_kept h) h

theorem bootImage_kept {after} (hafter : ∀ {t}, Kept p c t → Kept p c (after t)) (h : Kept p c s) :
    Kept p c (bootImage after s) := by
  dsimp only [bootImage]
  split
  · exact resumeRemoval_kept (hafter (.apart h))
  · split
    · exact restoreAll_kept (hafter (startImage_kept (chooseBank_kept (.apart (checkStore_kept (.apart h))))))
    · exact resumeRemoval_kept (hafter (.apart (logBoot_kept (.apart (chooseBank_kept (.apart (checkStore_kept (.apart h))))))))

theorem boot_kept {cause after} (hafter : ∀ {t}, Kept p c t → Kept p c (after t)) (h : Kept p c s) :
    Kept p c (boot cause after s) :=
  armCredits_kept (bootImage_kept hafter (bootPd10_kept (bootFuses_kept (.apart h))))

theorem discardOwned_kept (h : Kept p c s) : Kept p c (discardOwned s) :=
  .foldl (fun _ _ h => by
      dsimp only
      split
      · exact answerMb_kept h
      · exact h) h

theorem fatalDiscards_kept (h : Kept p c s) : Kept p c (fatalDiscards s) :=
  discardOwned_kept (.foldl (fun _ _ h => .host (.host h rfl) rfl)
      (.foldl (fun _ _ h => .host h rfl) (.foldl (fun _ _ => postFence_kept) h)))

theorem afterF3_kept {r} (h : Kept p c s) : Kept p c (afterF3 r s) :=
  raiseV_kept (logNotice_kept (fatalDiscards_kept h))

theorem restartPd10_kept (h : Kept p c s) : Kept p c (restartPd10 s) := by
  dsimp only [restartPd10]
  split
  · exact pd10Start_kept (.apart (.foldl (fun _ _ => unitReset_kept) (commitAll_kept h)))
  · exact h

theorem releaseRestart_kept (h : Kept p c s) : Kept p c (releaseRestart s) := by
  dsimp only [releaseRestart]
  split
  · exact boot_kept afterF3_kept (resetDomains_kept (.branch (restartPd10_kept h) (.apart h)))
  · exact h

theorem softRestart_kept (h : Kept p c s) : Kept p c (softRestart s) :=
  boot_kept fatalDiscards_kept (resetDomains_kept (flush_kept h))

theorem moduleReset_kept (h : Kept p c s) : Kept p c (moduleReset s) :=
  boot_kept (fun h => h) (relatch_kept (resetDomains_kept (.apart h)))

theorem selectReference_kept {refSel refHz} (h : Kept p c s) : Kept p c (selectReference refSel refHz s) :=
  .when logHp_kept (.apart h)

theorem logInsertion_kept {rampMv rampUs} (h : Kept p c s) : Kept p c (logInsertion rampMv rampUs s) :=
  .branch (logHp_kept h) (.apart (logHp_kept (logHp_kept h)))

theorem startPowerOn_kept {after} (hafter : ∀ {t}, Kept p c t → Kept p c (after t)) (h : Kept p c s) :
    Kept p c (startPowerOn after s) :=
  .branch h (boot_kept hafter h)

theorem thermalEnd_kept {temps} (h : Kept p c s) : Kept p c (thermalEnd temps s) :=
  .branch (.branch (logHp_kept (.branch (releaseRestart_kept (.apart h)) (boot_kept (fun h => h) (.apart h)))) (.apart h)) h

end Sys2Proof.Machine

/-! ### Staging, activation, hot plug and life cycle keep the memories (spec/12, spec/13, spec/15) -/

namespace Sys2Proof.Machine

open Sys2Proof

variable {p : List Instr} {c : Prop} {s : State}

theorem fwStatusRun_kept {x a} (h : Kept p c s) : Kept p c (fwStatusRun x a s).2 :=
  h

theorem fwStageOpenRun_kept {src r} (h : Kept p c s) : Kept p c (fwStageOpenRun src r s).2 := by
  dsimp only [fwStageOpenRun]
  split
  · exact logBoot_kept (pkeAsk_kept (writeBank_kept (.firm h rfl rfl)))
  · exact h

theorem stageOpenDone_kept (h : Kept p c s) : Kept p c (stageOpenDone s) := by
  dsimp only [stageOpenDone]
  split
  · exact .branch h (by
      split
      · exact finishMb_kept (setFlash_kept (fun _ => rfl) (.apart h))
      · exact setFlash_kept (fun _ => rfl) (.apart h))
  · exact h

theorem flashOf_wf {b : Nat} (h : Kept p c s) (hc : c) : (flashOf s b).wf = true := by
  unfold flashOf
  split
  · exact (h.2 hc).2.1
  · exact (h.2 hc).2.2.1

theorem fwStageWriteRun_kept {x r} (h : Kept p c s) : Kept p c (fwStageWriteRun x r s).2 := by
  dsimp only [fwStageWriteRun]
  split
  · exact setFlash_kept (fun hc => wf_writeBytes _ _ _ (flashOf_wf h hc)) h
  · exact h

theorem fwStageCloseRun_kept {src x} (h : Kept p c s) : Kept p c (fwStageCloseRun src x s).2 := by
  dsimp only [fwStageCloseRun]
  split
  · exact .firm h rfl rfl
  · exact h

theorem startStaged_kept {b} (h : Kept p c s) : Kept p c (startStaged b s) :=
  restoreAll_kept (startImage_kept (writeBank_kept (.firm h rfl rfl)))

theorem stageCloseDone_kept (h : Kept p c s) : Kept p c (stageCloseDone s) := by
  dsimp only [stageCloseDone]
  split
  · exact .branch (.when startStaged_kept (by
            split
            · exact finishMb_kept (.unless logBoot_kept (logBoot_kept (writeBank_kept (.firm h rfl rfl))))
            · exact .unless logBoot_kept (logBoot_kept (writeBank_kept (.firm h rfl rfl))))) h
  · exact h

theorem fwStageAbortRun_kept {x a} (h : Kept p c s) : Kept p c (fwStageAbortRun x a s).2 :=
  endStaging_kept h

theorem activateRun_kept {src r} (h : Kept p c s) : Kept p c (activateRun src r s).2 := by
  dsimp only [activateRun]
  split
  · exact .firm h rfl rfl
  · exact h

theorem activatePrepared_kept (h : Kept p c s) : Kept p c (activatePrepared s) := by
  dsimp only [activatePrepared]
  split
  · exact .branch (.branch (.firm (.branch (.firm h rfl rfl) h) rfl rfl)
        (.branch h (.branch (beginPause_kept (.firm h rfl rfl)) (endActivation_kept (logBoot_kept h))))) h
  · exact h

theorem resumeRf_kept (h : Kept p c s) : Kept p c (resumeRf s) :=
  .foldl (fun _ _ h => .branch (startAccess_kept h) h) h

theorem dropHolders_kept (h : Kept p c s) : Kept p c (dropHolders s) :=
  .apart (.meter (.apart h) rfl)

theorem discardAccepted_kept {own} (h : Kept p c s) : Kept p c (discardAccepted own s) :=
  dropHolders_kept (.foldl (fun _ _ h => .branch h (finishMb_kept h)) h)

theorem ready_kept (h : Kept p c s) : Kept p c { s with firm := { s.firm with stage := .ready, act := none } } := .apart h

theorem pauseEnd_kept {a} (h : Kept p c s) : Kept p c (pauseEnd a s) := by
  unfold pauseEnd
  split
  · split
    · extract_lets s1 f s2 s3 s4
      have h3 : Kept p c s3 :=
        releaseHold_kept (logBootNotice_kept (resumeRf_kept
            (ready_kept (runImage_kept (switchImage_kept (discardAllFlights_kept h))))))
      refine discardAccepted_kept ?_
      unfold s4
      split
      · exact finishMb_kept h3
      · exact h3
    · exact h
  · exact h

theorem cancelPending_kept (h : Kept p c s) : Kept p c (cancelPending s) := by
  dsimp only [cancelPending]
  split
  · exact .branch (endActivation_kept h) h
  · exact h

theorem activateAtRun_kept {src r} (h : Kept p c s) : Kept p c (activateAtRun src r s).2 :=
  .branch_pair (cancelPending_kept h) (by
      split
      · exact .branch (.host (.apart (.firm h rfl rfl)) rfl) (.apart (.firm h rfl rfl))
      · exact h)

theorem prepareFor_kept {f k} (h : Kept p c s) : Kept p c (prepareFor f k s) := by
  dsimp only [prepareFor]
  split
  · exact .branch (.firm h rfl rfl) h
  · exact h

theorem triggerReceive_kept {f} (h : Kept p c s) : Kept p c (triggerReceive f s) :=
  .branch (by
      dsimp only
      split
      · exact .when prepareFor_kept (.apart (.host h rfl))
      · exact .host h rfl) h

theorem fwConfirmRun_kept {x a} (h : Kept p c s) : Kept p c (fwConfirmRun x a s).2 :=
  .branch_pair (logBoot_kept (writeBank_kept (.firm h rfl rfl))) h

theorem fwOpkeySetRun_kept {x r} (h : Kept p c s) : Kept p c (fwOpkeySetRun x r s).2 :=
  logBoot_kept (.firm h rfl rfl)

theorem writeCopy_kept {k head plain digest} (h : Kept p c s) : Kept p c (writeCopy k head plain digest s) :=
  .firm (.firm (.branch (.firm h rfl rfl) (.firm h rfl rfl)) rfl rfl) rfl rfl

theorem activateLegalRun_kept {src r} (h : Kept p c s) : Kept p c (activateLegalRun src r s).2 :=
  .branch_pair h (by
      split
      · exact .firm (writeCopy_kept h) rfl rfl
      · exact h)

theorem legalSwitch_kept (h : Kept p c s) : Kept p c (legalSwitch s) := by
  dsimp only [legalSwitch]
  split
  · exact finishMb_kept (raiseV_kept (notice_kept
        (logBoot_kept (showCvAll_kept (legalEntry_kept (.firm (.firm (.firm (runLegal_kept h) rfl rfl) rfl rfl) rfl rfl))))))
  · exact h

theorem removalSource_kept {src} (h : Kept p c s) : Kept p c (removalSource src s) := by
  dsimp only [removalSource]
  split
  · exact .when requestRemoval_kept (.apart h)
  · exact .branch (requestRemoval_kept h) h
  · exact .branch (.branch (requestRemoval_kept (.apart h)) (.apart (.apart h))) h

theorem hpCfgRun_kept {x r} (h : Kept p c s) : Kept p c (hpCfgRun x r s).2 :=
  .branch (.apart (.apart h)) (.apart h)

theorem resumePower_kept (h : Kept p c s) : Kept p c (resumePower s) :=
  .foldl (fun _ _ h => .branch (.apart h) h) h

theorem hpResumeRun_kept {src x} (h : Kept p c s) : Kept p c (hpResumeRun src x s).2 := by
  dsimp only [hpResumeRun]
  split
  · exact .apart (resumePower_kept (.apart h))
  · exact h

theorem resumeComplete_kept (h : Kept p c s) : Kept p c (resumeComplete s) := by
  dsimp only [resumeComplete]
  split
  · split
    · exact awaitedOff_kept (finishMb_kept (logHp_kept (.apart (.foldl (fun _ _ => powerUp_kept) h))))
    · exact h
    · exact h
  · exact h

theorem warmCrossing_kept {die a b} (h : Kept p c s) : Kept p c (warmCrossing die a b s) :=
  .branch (notice_kept (raiseFault_kept (.apart h))) (.branch (raiseFault_kept (.apart h)) h)

theorem cutoff_kept {die a} (h : Kept p c s) : Kept p c (cutoff die a s) :=
  .branch (.apart (raiseFault_kept h)) h

theorem alarmTrip_kept {cls} (h : Kept p c s) : Kept p c (alarmTrip cls s) :=
  .branch (softRestart_kept (alarmRunning_kept (.apart h))) (tamperSet_kept (.apart (.apart h)))

theorem tamperTrip_kept {cls} (h : Kept p c s) : Kept p c (tamperTrip cls s) :=
  .branch (.branch (sleepTrip_kept h) (.branch (tamperSet_kept h) (.branch (alarmTrip_kept h) (recordTrip_kept h)))) h

theorem noteSample_kept {x} (h : Kept p c s) : Kept p c (noteSample x s) := by
  dsimp only [noteSample]
  split
  · exact .apart h
  · exact .apart h
  · exact .apart h
  · exact .apart h
  · exact .apart h

theorem tamperSample_kept {x} (h : Kept p c s) : Kept p c (tamperSample x s) :=
  .when tamperTrip_kept (noteSample_kept h)

theorem lcStatusRun_kept {x a} (h : Kept p c s) : Kept p c (lcStatusRun x a s).2 :=
  h

theorem lcNextDikRun_kept {src r} (h : Kept p c s) : Kept p c (lcNextDikRun src r s).2 :=
  pkeCommand_kept h

/-- What waited for a public-key engine keeps the memories. -/
theorem pkeEffect_kept {op m r} (h : Kept p c s) : Kept p c ((pkeEffect op).2 (.mb m) r s).2 := by
  unfold pkeEffect
  split
  · exact omkLoadEffect_kept (x := .mb m) h
  · exact keyImportEffect_kept (x := .mb m) h
  · exact keyGenerateEffect_kept (x := .mb m) h
  · exact h
  · exact keyAuthSetEffect_kept h
  · exact h

theorem pkeAnswer_kept {m r} (h : Kept p c s) : Kept p c (pkeAnswer m r s) := by
  dsimp only [pkeAnswer]
  split
  · split
    · exact respond_kept h
    · exact carryOut_kept pkeEffect_kept h
  · exact h

theorem pkeDone_kept {r} (h : Kept p c s) : Kept p c (pkeDone r s) := by
  dsimp only [pkeDone]
  split
  · exact pkeAnswer_kept h
  · exact sessionSigned_kept h
  · exact h

theorem pkeEnd_kept {n ok} (h : Kept p c s) : Kept p c (pkeEnd n ok s) := by
  dsimp only [pkeEnd]
  split
  · exact h
  · exact .branch (pkeServe_kept (pkeDone_kept (.apart (.apart h))))
        (pkeServe_kept (pkeDrop_kept (.apart (raiseFault_kept (.apart (.apart h))))))

theorem cancelActivation_kept (h : Kept p c s) : Kept p c (cancelActivation s) := by
  dsimp only [cancelActivation]
  split
  · exact .branch h (.branch (endActivation_kept h) (endActivation_kept h))
  · exact h

theorem beginTransition_kept {m dst bundle} (h : Kept p c s) : Kept p c (beginTransition m dst bundle s) :=
  logBoot_kept (.apart (.apart (cancelActivation_kept (endStaging_kept (.apart (by
                split
                · exact .branch_pair h (carryIks_kept h)
                · exact h))))))

theorem lcAdvanceRun_kept {src r} (h : Kept p c s) : Kept p c (lcAdvanceRun src r s).2 := by
  dsimp only [lcAdvanceRun]
  split
  · exact pkeAsk_kept (beginTransition_kept h)
  · exact h

theorem transitionComplete_kept (h : Kept p c s) : Kept p c (transitionComplete s) := by
  dsimp only [transitionComplete]
  split
  · exact softRestart_kept (finishMb_kept (completeTransition_kept (.branch (revoke_kept h) h)))
  · exact h

theorem lcRecoverRun_kept {src r} (h : Kept p c s) : Kept p c (lcRecoverRun src r s).2 := by
  dsimp only [lcRecoverRun]
  split
  · exact .apart h
  · exact h

theorem recoverComplete_kept (h : Kept p c s) : Kept p c (recoverComplete s) := by
  dsimp only [recoverComplete]
  split
  · exact importBundle_kept (softRestart_kept (.apart (finishMb_kept (logBoot_kept (.apart h)))))
  · exact h

theorem lcDebugOpenRun_kept {x a} (h : Kept p c s) : Kept p c (lcDebugOpenRun x a s).2 :=
  logBoot_kept (.apart (.apart h))

end Sys2Proof.Machine

/-! ### Milestones, the fabric tick and power failure keep the memories (spec/03, spec/04) -/

namespace Sys2Proof.Machine

open Sys2Proof

variable {p : List Instr} {c : Prop} {s : State}

theorem fireSlot_kept {k m off} (h : Kept p c s) : Kept p c (fireSlot k m off s) :=
  .when activationInstant_kept (.branch (.when capture_kept (.apart h)) (capture_kept (.apart h)))

theorem milestoneFire_kept {k} (h : Kept p c s) : Kept p c (milestoneFire k s) := by
  dsimp only [milestoneFire]
  split
  · exact .branch (fireSlot_kept h) h
  · exact h

theorem firePassed_kept {d} (h : Kept p c s) : Kept p c (firePassed d s) :=
  .branch (.foldl (fun _ _ h => by
        split
        · exact .branch (fireSlot_kept h) h
        · exact h) h) h

theorem settleBase_kept {n} (h : Kept p c s) : Kept p c (settleBase n s) := by
  dsimp only [settleBase]
  split
  · exact settleStep_kept (.branch (firePassed_kept h) h)
  · exact h

theorem settleAll_kept (h : Kept p c s) : Kept p c (settleAll s) :=
  .branch (.foldl (fun _ _ => settleBase_kept) h) h

theorem ppsPassed_kept {a} (h : Kept p c s) : Kept p c (ppsPassed a s) :=
  .branch (firePassed_kept h) h

theorem ppsEdge_kept {offset} (h : Kept p c s) : Kept p c (ppsEdge offset s) :=
  .branch (.foldl (fun _ _ h => .branch (finishMb_kept h) (applyPps_kept (ppsPassed_kept (settleBase_kept h))))
      (.apart (.branch (capture_kept h) h))) h

theorem fabricWork_kept (h : Kept p c s) : Kept p c (fabricWork s) :=
  .branch (drainIngress_kept (dramSlot_kept h)) h

theorem fabricTick_kept (h : Kept p c s) : Kept p c (fabricTick s) :=
  tickAll_kept (fabricWork_kept (settleAll_kept h))

theorem feedBalance_kept (h : Kept p c s) : Kept p c (feedBalance s) :=
  .foldl (fun _ _ h => .branch (.branch (balTickLost_kept h) (balTick_kept h)) h) h

theorem firstTick_kept (h : Kept p c s) : Kept p c (firstTick s) := by
  dsimp only [firstTick]
  split
  · exact logEv_kept (legalAuto_kept (.apart h))
  · exact h

theorem tickEnd_kept {samples} (h : Kept p c s) : Kept p c (tickEnd samples s) := by
  have h1 := meterTick_kept (samples := samples) h
  dsimp only [tickEnd]
  generalize meterTick samples s = d at h1 ⊢
  have h2 : Kept p c (tariffTick (min (tickSamples samples) (320 - s.meter.tickPos)) d.1 d.2) := tariffTick_kept h1
  generalize tariffTick _ d.1 d.2 = u at h2 ⊢
  exact .branch h (.branch
    (legalSwitch_kept (firstTick_kept (applyConfig_kept
        (sendUnsent_kept (cpTicks_kept (feedBalance_kept (.when applySlots_kept h2)))))))
    (sendUnsent_kept (cpTicks_kept (feedBalance_kept (.when applySlots_kept h2)))))

theorem crossingTrigger_kept {mp ch offset} (h : Kept p c s) : Kept p c (crossingTrigger mp ch offset s) :=
  .branch (.branch (capture_kept (.apart h)) (.apart h)) h

theorem crossing_kept {mp ch a} (h : Kept p c s) : Kept p c (crossing mp ch a s) :=
  .branch (captureCrossing_kept (.meter h rfl))
      (crossingTrigger_kept (.foldl (fun _ _ => mainsCrossing_kept) (captureCrossing_kept (.meter h rfl))))

theorem powerFail_kept {cause} (h : Kept p c s) : Kept p c (powerFail cause s) := by
  unfold powerFail
  extract_lets s1 up firm s2 s3 s4 s5
  have h2 : Kept p c s2 := .firm (.branch (.meter h rfl) h) rfl rfl
  have h3 : Kept p c s3 := .branch (raiseV_kept (notice_kept h2)) h2
  have h4 : Kept p c s4 := .branch (flush_kept h3) h2
  exact .meter (resetDomains_kept h4) rfl

theorem commitDone_kept (h : Kept p c s) : Kept p c (commitDone s) :=
  .apart (logMeter_kept (newestOutage_kept (markCommit_kept (commitAll_kept (beforeCommit_kept h)))))

theorem supplyReturn_kept (h : Kept p c s) : Kept p c (supplyReturn s) :=
  sendUnsent_kept (startPowerOn_kept (fun h => h) (.apart (.apart (.apart (newestOutage_kept h)))))

theorem applyMsgs_kept {i fl msgs} (h : Kept p c s) : Kept p c (applyMsgs i fl msgs s) := by
  dsimp only [applyMsgs]
  split
  · exact h
  · exact applyVote_kept (.foldl (fun _ _ h => by
            split
            · exact applyE_kept h
            · exact applyU_kept h) h)

theorem storeAck_kept {fl b} (h : Kept p c s) : Kept p c (storeAck fl b s) := by
  dsimp only [storeAck]
  split
  · split
    · exact .apart h
    · exact h
  · exact h

theorem validateFrame_kept {n fl} (h : Kept p c s) : Kept p c (validateFrame n fl s) :=
  .branch (discardFrame_kept (logIng_kept h)) (finishFrame_kept
      (storeAck_kept (applyMsgs_kept (.apart (.when logBal_kept (.branch (logIng_kept h) h))))))

theorem frameValidate_kept {n tag} (h : Kept p c s) : Kept p c (frameValidate n tag s) := by
  dsimp only [frameValidate]
  split
  · exact h
  · exact .branch (validateFrame_kept h) h

end Sys2Proof.Machine

/-! ### Register accesses and sideband frames keep the memories (spec/02) -/

namespace Sys2Proof.Machine

open Sys2Proof

variable {p : List Instr} {c : Prop} {s t : State}

theorem clearRead_kept {off} (h : Kept p c s) : Kept p c (clearRead off s) :=
  .branch (.apart h) (.branch (.apart h) (.branch (.apart h)
      (.branch (.apart h) (.branch (.apart h) (.branch (.apart h) (.branch (.apart h) h))))))

theorem readWord_kept {off} (h : Kept p c s) : Kept p c (readWord off s).2 :=
  .branch (.apart (clearRead_kept (.branch (.apart h) h))) (clearRead_kept (.branch (.apart h) h))

theorem readWords_kept {k off} (h : Kept p c s) : Kept p c (readWords k off s).2 := by
  induction k generalizing off s with
  | zero => exact h
  | succ k ih => exact ih (readWord_kept h)

theorem readNarrow_kept {off width} (h : Kept p c s) : Kept p c (readNarrow off width s).2 :=
  .branch h (readWord_kept h)

theorem windowRead_kept {off width} (h : Kept p c s) : Kept p c (windowRead off width s).2 :=
  .branch_pair (readWords_kept h) (.branch_pair (readWords_kept h) (readNarrow_kept h))

theorem mbCtrl_kept {n v path} (h : Kept p c s) : Kept p c (mbCtrl n v path s) :=
  .branch (.branch (.host h rfl) (.branch (.host h rfl) (.host (.host h rfl) rfl))) (.host h rfl)

/-- A host write of mailbox memory goes through `writeBytes` too (R47). -/
theorem writeArea_kept {off width v} (h : Kept p c s) : Kept p c (writeArea off width v s) := by
  dsimp only [writeArea]
  split
  · exact ⟨h.1, fun hc => ⟨wf_writeBytes _ _ _ (h.2 hc).1, (h.2 hc).2⟩⟩
  · exact h

theorem writeQueue_kept {q r v} (h : Kept p c s) : Kept p c (writeQueue q r v s) :=
  .branch (qCtrl_kept h) (.branch (.branch (.host h rfl)
      (.branch (consume_kept h) (.branch (.host h rfl) (.branch (.host h rfl) h))))
      (.branch (.branch (.host h rfl) (.branch (sqTail_kept h) h))
      (.branch (.host h rfl) (.branch (cqHead_kept h) (.branch (.host h rfl) h)))))

theorem writeVectors_kept {r v} (h : Kept p c s) : Kept p c (writeVectors r v s) :=
  .branch (sendPending_kept (.host h rfl)) (.branch (.host h rfl) (.branch (.host h rfl) h))

theorem writeTb_kept {n r v} (h : Kept p c s) : Kept p c (writeTb n r v s) :=
  .branch (.branch (.apart h) h) (.branch (writeStepHi_kept h) h)

theorem writeThresh_kept {f} (h : Kept p c s) : Kept p c (writeThresh f s) :=
  .when raiseV_kept (.apart h)

theorem writeLog_kept {r v} (h : Kept p c s) : Kept p c (writeLog r v s) :=
  .branch (.apart h) (.branch (writeThresh_kept h) (.branch (writeThresh_kept h) h))

theorem writeReg32_kept {path off v} (h : Kept p c s) : Kept p c (writeReg32 path off v s) :=
  .branch (.host h rfl) (.branch (.host h rfl)
      (.branch (mbCtrl_kept h) (.branch (writeQueue_kept h)
      (.branch (writeVectors_kept h) (.branch (writeTb_kept h)
      (.branch (.apart h) (.branch (popMilestone_kept h)
      (.branch (writeLog_kept h) (.branch (.apart h)
      (.branch (.branch (moduleReset_kept h) h) (.branch (.branch (removalSource_kept h) h) h)))))))))))

theorem writeWide_kept {off v} (h : Kept p c s) : Kept p c (writeWide off v s) :=
  .branch (.branch (.branch (.host h rfl) (.host h rfl)) (.branch (.host h rfl) (.host h rfl)))
      (.branch (writeInc_kept h) (.branch (.apart h) h))

theorem writeWord_kept {path off v} (h : Kept p c s) : Kept p c (writeWord path off v s) :=
  .branch (.branch (.host h rfl) (.host (writeWide_kept h) rfl)) (writeReg32_kept h)

theorem windowWrite_kept {path off width v} (h : Kept p c s) : Kept p c (windowWrite path off width v s) :=
  .branch h (.branch (writeArea_kept h) (.branch (writeWord_kept h)
      (.branch (.branch (.host (writeWide_kept h) rfl) (writeWord_kept (writeWord_kept h))) h)))

theorem smpWords_kept {k off b} (h : Kept p c s) : Kept p c (smpWords k off b s) := by
  induction k generalizing off b s with
  | zero => exact h
  | succ k ih => exact .branch (ih (windowWrite_kept h)) (windowWrite_kept h)

theorem popCell_kept {q} (h : Kept p c s) : KeptWith p c (popCell q s) :=
  .branch (by
      split
      · exact .branch (.some (.host h rfl)) (.some (markDelivered_kept (countRead_kept (takeNext_kept h))))
      · exact .branch (.some (.host h rfl)) (.some (markDelivered_kept (countRead_kept (takeNext_kept h))))
      · exact .branch (.some (.host h rfl)) (.some (markDelivered_kept (countRead_kept (takeNext_kept h))))
      · exact .none) .none

theorem servePop_kept (h : Kept p c s) : Kept p c (servePop s) := by
  dsimp only [servePop]
  split
  · exact .branch (by
          split
          · rename_i _ s1 ht1
            have h1 := popCell_kept h _ _ ht1
            exact .host (.host (.host h1 rfl) rfl) rfl
          · exact h) h
  · exact h

theorem idle_kept (h : Kept p c s) : Kept p c (idle s) :=
  servePop_kept (fabricTick_kept h)

theorem smpFrame_kept {a f run} (hrun : ∀ {t}, Kept p c t → Kept p c (run t)) (h : Kept p c s) :
    Kept p c (smpFrame a f run s) :=
  .when hrun (servePop_kept h)

end Sys2Proof.Machine

/-! ### Every step keeps the rest of the queue and the memories (R47, R177, R457) -/

namespace Sys2Proof.Machine

open Sys2Proof

variable {p : List Instr} {c : Prop} {s t : State}

/-- An outcome whose next state, if there is one, keeps the memories. -/
def KeptOut (p : List Instr) (c : Prop) (o : Host.Outcome State Fault Refusal) : Prop := ∀ t, o = .next t → Kept p c t

theorem KeptOut.next (h : Kept p c s) : KeptOut p c (.next s) := fun _ ht => Host.Outcome.next.inj ht ▸ h

theorem KeptOut.within {what i n} (h : Kept p c s) : KeptOut p c (within what i n s) := by
  unfold Machine.within
  split
  · exact .next h
  · exact fun _ ht => nomatch ht

theorem KeptOut.command {op check src} {run : Src → Req → State → Reply × State}
    (hrun : ∀ {src r t}, Kept p c t → Kept p c (run src r t).2) (h : Kept p c s) : KeptOut p c (runCmd op check run src s) := by
  unfold runCmd
  split
  · split
    · split
      · split
        · exact .next (respond_kept h)
        · exact .next (carryOut_kept hrun h)
      · exact .next h
    · exact .next h
  · exact fun _ ht => nomatch ht

theorem KeptOut.unchecked {op src} {run : Src → Req → State → Reply × State}
    (hrun : ∀ {src r t}, Kept p c t → Kept p c (run src r t).2) (h : Kept p c s) : KeptOut p c (runCmd op noCheck run src s) :=
  .command hrun h

theorem KeptOut.branch {o o' : Host.Outcome State Fault Refusal} {q : Prop} {inst : Decidable q} (h : KeptOut p c o)
    (h' : KeptOut p c o') : KeptOut p c (@ite _ q inst o o') := by
  split
  · exact h
  · exact h'

/-- A POP frame waits as the stalled one and is served at once where it can be (R79). -/
theorem execSmpPop_kept {frame} (h : Kept p c s) : KeptOut p c (execSmpPop frame s) := by
  refine .next (smpFrame_kept (fun h => ?_) h)
  split
  · exact servePop_kept (.host h rfl)
  · exact .host (.host h rfl) rfl

theorem execIngSubmit_kept {src} (h : Kept p c s) : KeptOut p c (execIngSubmit src s) :=
  .branch (.next h) (.command ingSubmitRun_kept h)

theorem execFaultInject_kept {src} (h : Kept p c s) : KeptOut p c (execFaultInject src s) := by
  have hcommand : KeptOut p c (runCmd 0x0C08 faultInjectCheck faultInjectRun src s) := .command faultInjectRun_kept h
  unfold execFaultInject
  split
  · rename_i t ht
    exact .next (injectAfter_kept (hcommand t ht))
  · exact hcommand

theorem exec_kept (i : Instr) (h : Kept p c s) : KeptOut p c (exec i s) := by
  cases i with
  | mbGoWrite _ _ _ => exact .within (.branch (mbCtrl_kept h) h)
  | mailboxRequestTake _ => exact .within (.branch h (takeRequest_kept h))
  | registerWrite _ _ _ _ => exact .next (.branch (windowWrite_kept h) h)
  | rcRegisterRead _ _ => exact .next (.branch (.host (windowRead_kept h) rfl) h)
  | qCtrlEnWrite _ _ => exact .within (.branch (qCtrl_kept h) h)
  | hqConsumedWrite _ _ => exact .within (.branch (consume_kept h) h)
  | sqTailWrite _ _ => exact .within (.branch (sqTail_kept h) h)
  | cqHeadWrite _ _ => exact .within (.branch (cqHead_kept h) h)
  | sqEntryFetch _ _ _ => exact .within (sqFetch_kept h)
  | tbNowReadLatch _ _ => exact .within (latchNow_kept h)
  | tbIncWrite _ _ => exact .within (writeInc_kept h)
  | tbStepHiWrite _ _ => exact .within (writeStepHi_kept h)
  | msPopWrite _ => exact .next (popMilestone_kept h)
  | rstCtrlWrite _ => exact .next (.branch (moduleReset_kept h) h)
  | hpCtrlWrite _ => exact .next (.branch (removalSource_kept h) h)
  | logCursorWrite _ => exact .next (.branch (.apart h) h)
  | logWindowLastRead _ => exact .next (windowLastRead_kept h)
  | smpWrite _ => exact .next (smpFrame_kept (fun h => .branch (smpWords_kept (.host h rfl)) (.host h rfl)) h)
  | smpRead _ => exact .next (smpFrame_kept (fun h => .branch (.host (.host (.branch_pair (readWords_kept h) h) rfl) rfl)
      (.host h rfl)) h)
  | smpStatus _ => exact .next (smpFrame_kept (fun h => .host h rfl) h)
  | smpPop _ => exact execSmpPop_kept h
  | smpPopCancel => exact .next (.branch (.host (.host (servePop_kept h) rfl) rfl) (servePop_kept h))
  | packetWriteToRing _ => exact .within (.branch (uplinkPull_kept h) (packetToRing_kept h))
  | panTailTimeout _ => exact .within (tailTimeout_kept h)
  | vectorModerationTimeout _ => exact .within (moderationTimeout_kept h)
  | creditWithholdTimeout => exact .next (.branch (.branch (raiseFault_kept (.host (raiseV_kept h) rfl)) (raiseV_kept h)) h)
  | pcieLinkDown => exact .next (.branch (.host (.host h rfl) rfl) h)
  | perstNAssert => exact .next (.branch (.host (.branch (.host (.host h rfl) rfl) h) rfl) h)
  | rstInNAssert => exact .next (.branch (.apart
      (.branch (resetDomains_kept (.apart (.branch (restartPd10_kept h) h))) (.branch (restartPd10_kept h) h))) h)
  | rstInNRelease => exact .next (.branch (.branch (boot_kept id (relatch_kept (.apart h))) (.apart h)) h)
  | pdSet _ => exact .command pdSetRun_kept h
  | pdTransitionComplete _ => exact .next (.branch (awaitedOff_kept (endTransition_kept h)) h)
  | pdOffWorkDiscard => exact .next (offWorkDiscard_kept h)
  | pdStatus _ => exact .unchecked pdStatusRun_kept h
  | dramArbSet _ => exact .command dramArbSetRun_kept h
  | fabricStatus _ => exact .command fabricStatusRun_kept h
  | plCouplingSet _ => exact .command plCouplingSetRun_kept h
  | fabricWordError _ _ => exact .next (fabricError_kept h)
  | dramRequestPromotion _ => exact .next (promote_kept h)
  | pllLockLoss _ => exact .next (lockLoss_kept h)
  | pllLockRegain => exact .next (.branch (lockRegain_kept h) h)
  | qInfo _ => exact .unchecked qInfoRun_kept h
  | hqFlush _ => exact .command hqFlushRun_kept h
  | sqNop _ => exact .unchecked sqNopRun_kept h
  | intTest _ => exact .command intTestRun_kept h
  | tbInfo _ => exact .command tbInfoRun_kept h
  | tbSet _ => exact .command tbSetRun_kept h
  | tbStep _ => exact .command tbStepRun_kept h
  | tbLimitSet _ => exact .command tbLimitSetRun_kept h
  | tbSourceSet _ => exact .command tbSourceSetRun_kept h
  | tbUtcOffsetSet _ => exact .unchecked tbUtcOffsetSetRun_kept h
  | utcOffsetEffective => exact .next (utcEffective_kept h)
  | tbDeclareLost _ => exact .command tbDeclareLostRun_kept h
  | tb2TrimSet _ => exact .command tb2TrimSetRun_kept h
  | msTriggerSet _ => exact .command msTriggerSetRun_kept h
  | msCapture _ => exact .unchecked msCaptureRun_kept h
  | msSchedule _ => exact .command msScheduleRun_kept h
  | ptpPortCfg _ => exact .command ptpPortCfgRun_kept h
  | aethenoCfg _ => exact .command aethenoCfgRun_kept h
  | ppsInEdge _ => exact .next (ppsEdge_kept h)
  | tbSetPpsTimeout _ => exact .within (ppsTimeout_kept h)
  | zeroCrossing _ _ _ _ => exact .within (.branch (crossing_kept h) h)
  | mainsCrossingMissing _ => exact .within (mainsMissing_kept h)
  | ptpEventMessage _ => exact .within (ptpMessage_kept h)
  | ptpSyncTimeout => exact .next (ptpTimeout_kept h)
  | scheduledMilestoneFire _ => exact .within (.branch (milestoneFire_kept h) h)
  | aethenoTimeSend => exact .next (.branch (.host h rfl) h)
  | aethenoTimeReceive _ => exact .next (timeReceive_kept h)
  | aethenoTimeMissed => exact .next (followTb11_kept (timeMissed_kept h))
  | aethenoDelayExchange => exact .next (.branch (.host (.apart h) rfl) h)
  | aethenoTriggerReceive _ => exact .next (triggerReceive_kept h)
  | tb2TemperatureSample _ => exact .next (.apart (.apart (.apart h)))
  | vbatLowDetect => exact .next (.branch h (.apart h))
  | metrologyTickEnd _ => exact .next (.branch (tickEnd_kept h) h)
  | spareSlotPhase _ => exact .next (.branch (sparePhase_kept h) h)
  | spareRetry _ _ => exact .next (.branch (retrySpare_kept h) h)
  | measurementWindowEnd _ _ _ => exact .within (.branch (windowEnd_kept h) h)
  | phasorReport _ => exact .next (phasorReport_kept h)
  | metrologyAlarmTimer _ _ => exact .within (.branch (alarmTimer_kept h) h)
  | writeThrough => exact .next (.branch (writeAll_kept h) h)
  | meteringIntervalBoundary _ => exact .next (intervalBoundary_kept h)
  | powerFailTrigger _ => exact .next (.branch (powerFail_kept h) h)
  | powerFailCommitDone => exact .next (.branch (commitDone_kept h) h)
  | holdupCutoff => exact .next (.branch (.update (.apart h) rfl rfl rfl rfl) h)
  | supplyReturn => exact .next (.branch (supplyReturn_kept h) h)
  | holdupCheckStart => exact .next (.branch (.meter h rfl) h)
  | holdupCheckEnd _ _ _ => exact .next (holdupEnd_kept h)
  | metCaptureDone _ => exact .next (captureDone_kept h)
  | metInfo _ => exact .command metInfoRun_kept h
  | metChanCfg _ => exact .command metChanCfgRun_kept h
  | metBind _ => exact .command metBindRun_kept h
  | metCalSet _ => exact .command metCalSetRun_kept h
  | metCalGet _ => exact .command metCalGetRun_kept h
  | metRegCfg _ => exact .command metRegCfgRun_kept h
  | metRead _ => exact .command metReadRun_kept h
  | metInstant _ => exact .command metInstantRun_kept h
  | metHarmonics _ => exact .command metHarmonicsRun_kept h
  | metOutputCfg _ => exact .command metOutputCfgRun_kept h
  | metIntervalSet _ => exact .command metIntervalSetRun_kept h
  | metTpoCfg _ => exact .command metTpoCfgRun_kept h
  | metThreshSet _ => exact .command metThreshSetRun_kept h
  | metCapture _ => exact .command metCaptureRun_kept h
  | metCaptureRead _ => exact .command metCaptureReadRun_kept h
  | holdupTest _ => exact .command holdupTestRun_kept h
  | metOutageRead _ => exact .command metOutageReadRun_kept h
  | metRotation _ => exact .command metRotationRun_kept h
  | rateSwitch _ => exact .within (rateChange_kept h)
  | dstChange _ => exact .within (rateChange_kept h)
  | demandSubintervalEnd _ => exact .within (subintervalEnd_kept (dueInterval_kept h))
  | billingPeriodClose _ => exact .within (.branch (scheduledClose_kept (beforeClose_kept h)) h)
  | tariffActivationDue _ => exact .within (.branch (activationDue_kept h) h)
  | prepayFeedbackChange _ _ => exact .within (prepayFeedback_kept h)
  | prepayFeedbackTimeout _ => exact .within (prepayTimeout_kept h)
  | prepayBypassDetect _ => exact .within (prepayBypass_kept h)
  | legalDisplayPing _ _ => exact .within (pingDisplay_kept h)
  | legalDisplayScroll _ => exact .within (scrollDisplay_kept h)
  | ldreqNFall => exact .next (.branch (showCvAll_kept h) h)
  | cvShowExpiry => exact .next (cvExpiry_kept h)
  | tarStatus _ => exact .command tarStatusRun_kept h
  | tarDaySet _ => exact .command tarDayRun_kept h
  | tarWeekSet _ => exact .command tarWeekRun_kept h
  | tarSeasonSet _ => exact .command tarSeasonRun_kept h
  | tarSpecialSet _ => exact .command tarSpecialRun_kept h
  | tarTableSet _ => exact .command tarTableRun_kept h
  | tarActivate _ => exact .command tarActivateRun_kept h
  | tarAssign _ => exact .command tarAssignRun_kept h
  | billRegCfg _ => exact .command billRegRun_kept h
  | billClose _ => exact .command billCloseRun_kept h
  | billRead _ => exact .command billReadRun_kept h
  | billHistoryRead _ => exact .command billHistoryRun_kept h
  | demCfg _ => exact .command demRun_kept h
  | demRead _ => exact .command demReadRun_kept h
  | prepayCfg _ => exact .command prepayRun_kept h
  | prepayCredit _ => exact .command prepayCreditRun_kept h
  | prepaySwitch _ => exact .command prepaySwitchRun_kept h
  | prepayReconnect _ => exact .command prepayReconnectRun_kept h
  | prepayStatus _ => exact .command prepayStatusRun_kept h
  | tamperRead _ => exact .command tamperReadRun_kept h
  | legalCvRead _ => exact .command legalCvReadRun_kept h
  | legalCvShow _ => exact .command legalCvShowRun_kept h
  | legalDisplayCfg _ => exact .command displayRun_kept h
  | legalLogRead _ => exact .command legalLogRun_kept h
  | legalDecommission _ => exact .command decommissionRun_kept h
  | legalStatus _ => exact .unchecked legalStatusRun_kept h
  | pilotMeasurement _ _ _ => exact .within (.branch (pilotPeriod_kept h) h)
  | proximityWindow _ _ => exact .within (.branch (proximity_kept h) h)
  | cpFeedbackChange _ _ _ => exact .within (.branch (cpFeedback_kept h) (cpFeedbackPin_kept h))
  | cpFeedbackTimeout _ => exact .within (.branch (cpTimeout_kept h) h)
  | cpPullInEnd _ => exact .within (.branch (pullInEnd_kept h) h)
  | cpStoppingTimeout _ => exact .within (.branch (stoppingTimeout_kept h) h)
  | rcdSelfTestEnd _ _ => exact .within (.branch (selfTestEnd_kept h) h)
  | imdPeriodEnd _ _ _ _ => exact .within (.branch (imdPeriod_kept h) h)
  | authTimeout _ => exact .within (.branch (authExpired_kept h) h)
  | nulvoHeartbeatLoss _ => exact .within (.branch (heartbeatLost_kept h) h)
  | nulvoEnergyRequest _ _ => exact .within (.branch (energyRequest_kept h) h)
  | slacSoundFrame _ _ _ => exact .within (soundFrame_kept h)
  | slacRunEnd _ => exact .next (slacEnd_kept h)
  | sessionRecordEmit => exact .next (sessionEmit_kept h)
  | cpCfg _ => exact .command cpCfgRun_kept h
  | cpStatus _ => exact .command cpStatusRun_kept h
  | cpAuthorise _ => exact .command authoriseRun_kept h
  | cpLimit _ => exact .command limitRun_kept h
  | cpStop _ => exact .command stopRun_kept h
  | cpAvailability _ => exact .command availRun_kept h
  | cpReset _ => exact .command cpResetRun_kept h
  | cpRcdCfg _ => exact .command rcdRun_kept h
  | cpImdCfg _ => exact .command imdRun_kept h
  | cpSessionRead _ => exact .command sessionReadRun_kept h
  | cpSlacStatus _ => exact .command slacStatusRun_kept h
  | cpV2gCfg _ => exact .command v2gRun_kept h
  | cpTrustSet _ => exact .command trustRun_kept h
  | cpPilotRead _ => exact .command pilotReadRun_kept h
  | cpRecordCfg _ => exact .command recordCfgRun_kept h
  | plFrameReceive _ _ => exact .within (.branch (receivePl_kept h) h)
  | plTransmitTurn _ _ => exact .within (transmitTurn_kept h)
  | plAckReceive _ => exact .within (.branch (plAcked_kept h) h)
  | plAckTimeout _ _ _ => exact .within (.branch (plNotAcked_kept h) h)
  | plRefreshTimer _ _ _ => exact .within (.branch (refreshTimer_kept h) h)
  | plReassemblyTimeout _ _ => exact .within (.branch (reassemblyTimeout_kept h) h)
  | plNeighbourAgeing _ _ => exact .within (.branch (nbrAgeing_kept h) h)
  | plRouteLapse _ _ => exact .within (.branch (routeLapse_kept h) h)
  | plCfg _ => exact .command plCfgRun_kept h
  | plNetCfg _ => exact .command plNetCfgRun_kept h
  | plStatus _ => exact .command plStatusRun_kept h
  | plNbrRead _ => exact .command plNbrReadRun_kept h
  | plNbrDelete _ => exact .command plNbrDeleteRun_kept h
  | plTmRead _ => exact .command plTmReadRun_kept h
  | plTmRefresh _ => exact .command plTmRefreshRun_kept h
  | plRouteSet _ => exact .command plRouteSetRun_kept h
  | plRouteRead _ => exact .command plRouteReadRun_kept h
  | plRouteFlush _ => exact .command plRouteFlushRun_kept h
  | plTx _ => exact .command plTxRun_kept h
  | plBeaconSet _ => exact .command plBeaconSetRun_kept h
  | rfFrameReceive _ _ => exact .within (.branch (receiveRf_kept h) h)
  | rfBackoffExpiry _ _ _ => exact .within (.branch (backoffExpiry_kept h) h)
  | rfAckReceive _ => exact .within (.branch (rfAcked_kept h) h)
  | rfAckTimeout _ => exact .within (.branch (rfNotAcked_kept h) h)
  | rfWindowTune _ _ => exact .within (.branch (windowTune_kept h) h)
  | rfWindowEnd _ _ => exact .within (.branch (startAccess_kept (linkWindowEnd_kept h)) h)
  | rfSupervisionTimeout _ _ => exact .within (.branch (supervision_kept h) h)
  | rfDutyLimitChange _ _ => exact .within (.branch (dutyChange_kept h) h)
  | rfDeviceAgeing _ _ => exact .within (.branch (deviceAgeing_kept h) h)
  | rfCfg _ => exact .command rfCfgRun_kept h
  | rfNetCfg _ => exact .command rfNetCfgRun_kept h
  | rfStatus _ => exact .command rfStatusRun_kept h
  | rfLinkAdd _ => exact .command rfLinkAddRun_kept h
  | rfLinkUpdate _ => exact .command rfLinkUpdateRun_kept h
  | rfLinkRemove _ => exact .command rfLinkRemoveRun_kept h
  | rfLinkRead _ => exact .command rfLinkReadRun_kept h
  | rfTx _ => exact .command rfTxRun_kept h
  | rfDevDelete _ => exact .command rfDevDeleteRun_kept h
  | smbFrameReceive _ _ _ _ _ => exact .within (smbReceive_kept h)
  | dxDataReceive _ _ _ _ _ _ => exact .within (.branch (dataReceive_kept h) h)
  | frameAdmit _ => exact .within (admitFrame_kept h)
  | admissionReopen _ => exact .within (reopen_kept h)
  | laneGrant _ => exact .within (laneGrant_kept h)
  | laneOperationEnd _ _ => exact .within (.branch (laneEnd_kept h) h)
  | laneQueueTimeout _ => exact .within (.branch (laneTimeout_kept h) h)
  | frameValidate _ _ => exact .within (frameValidate_kept h)
  | junctionLearn _ => exact .within (.branch (junctionLearn_kept h) h)
  | junctionScrub _ _ => exact .within (.branch (checkBucket_kept h) h)
  | recordDelivered _ _ => exact .within (.branch (recordDelivered_kept h) h)
  | replyEntryExpiry _ => exact .next (.branch (replyExpiry_kept h) h)
  | dxAckReceive _ _ => exact .within (ackReceive_kept h)
  | dxEnvelopeTimeout => exact .next (envelopeTimeout_kept h)
  | dxRetransmitTimeout _ => exact .next (retransmitEnvelope_kept h)
  | ingStatus _ => exact .command ingStatusRun_kept h
  | fipCfg _ => exact .command fipCfgRun_kept h
  | ingSteerSet _ => exact .command ingSteerSetRun_kept h
  | ingPortCfg _ => exact .command ingPortCfgRun_kept h
  | ingParseSet _ => exact .command ingParseSetRun_kept h
  | ingAckTemplate _ => exact .command ingAckTemplateRun_kept h
  | ctxWrite _ => exact .command ctxWriteRun_kept h
  | ctxRead _ => exact .command ctxReadRun_kept h
  | ctxDelete _ => exact .command ctxDeleteRun_kept h
  | jtInvalidate _ => exact .command jtInvalidateRun_kept h
  | jtRead _ => exact .command jtReadRun_kept h
  | ingSubmit _ => exact execIngSubmit_kept h
  | dxPeerCfg _ => exact .command dxPeerCfgRun_kept h
  | dxUplinkCfg _ => exact .command dxUplinkCfgRun_kept h
  | smbCfg _ => exact .command smbCfgRun_kept h
  | smbTx _ => exact .command smbTxRun_kept h
  | revocation _ => exact .next (.branch (revoke_kept h) h)
  | graceWindowEnd _ => exact .within (.branch (graceEnd_kept h) h)
  | remaskPeriod => exact .next (.branch (remask_kept h) h)
  | rngReseed => exact .next (.branch (.apart h) h)
  | rngHealthFail _ => exact .next (.branch (rngHealth_kept h) h)
  | tamperSampleTrip _ => exact .next (tamperSample_kept h)
  | debugAccessAttempt _ => exact .next (.branch (tamperTrip_kept h) h)
  | pkeOperationEnd _ _ => exact .within (.branch (pkeEnd_kept h) h)
  | pkeQueueAgeing _ => exact .next (.branch (pkeAge_kept h) h)
  | mailboxLockoutEnd _ => exact .within (.branch (lockoutEnd_kept h) h)
  | clStatus _ => exact .command clStatusRun_kept h
  | clTest _ => exact .command clTestRun_kept h
  | clTestEnd _ _ => exact .within (.branch (clTestEnd_kept h) h)
  | clBorrowCfg _ => exact .command clBorrowCfgRun_kept h
  | keygenStatus _ => exact .command keygenStatusRun_kept h
  | keyGraceSet _ => exact .command keyGraceSetRun_kept h
  | sessStatus _ => exact .command sessStatusRun_kept h
  | sessClear _ => exact .command sessClearRun_kept h
  | balIntervalOpen _ => exact .within (balOpen_kept h)
  | balDeadline _ => exact .within (balDeadline_kept h)
  | balRecordEmit _ => exact .within (balEmit_kept h)
  | phaseRecordEmit _ => exact .within (phaseEmit_kept h)
  | balGroupCfg _ => exact .command balGroupCfgRun_kept h
  | balFeed _ => exact .command balFeedRun_kept h
  | balStatus _ => exact .command balStatusRun_kept h
  | balClose _ => exact .command balCloseRun_kept h
  | balHistoryRead _ => exact .command balHistoryReadRun_kept h
  | phaseCfg _ => exact .command phaseCfgRun_kept h
  | phaseRead _ => exact .command phaseReadRun_kept h
  | phaseReset _ => exact .command phaseResetRun_kept h
  | balOutputCfg _ => exact .command balOutputCfgRun_kept h
  | omkLoad _ => exact .command omkLoadRun_kept h
  | omkVerify _ => exact .command omkVerifyRun_kept h
  | omkCommit _ => exact .command omkCommitRun_kept h
  | omkRevoke _ => exact .command omkRevokeRun_kept h
  | keyImport _ => exact .command keyImportRun_kept h
  | keyGenerate _ => exact .command keyGenerateRun_kept h
  | keyErase _ => exact .command keyEraseRun_kept h
  | keyInfo _ => exact .command keyInfoRun_kept h
  | dikRead _ => exact .command dikReadRun_kept h
  | keyAuthSet _ => exact .command keyAuthSetRun_kept h
  | keyAuthRotate _ => exact .command keyAuthRotateRun_kept h
  | tmpCfg _ => exact .command tmpCfgRun_kept h
  | tmpStatus _ => exact .unchecked tmpStatusRun_kept h
  | secStatus _ => exact .unchecked secStatusRun_kept h
  | lcStatus _ => exact .unchecked lcStatusRun_kept h
  | lcAdvance _ => exact .command lcAdvanceRun_kept h
  | lcTransitionComplete => exact .next (.branch (transitionComplete_kept h) h)
  | lcNextDik _ => exact .command lcNextDikRun_kept h
  | lcRecover _ => exact .command lcRecoverRun_kept h
  | lcDebugOpen _ => exact .command lcDebugOpenRun_kept h
  | fwStatus _ => exact .unchecked fwStatusRun_kept h
  | fwStageOpen _ => exact .command fwStageOpenRun_kept h
  | fwStageOpenDone => exact .next (.branch (stageOpenDone_kept h) h)
  | fwStageWrite _ => exact .command fwStageWriteRun_kept h
  | fwStageClose _ => exact .command fwStageCloseRun_kept h
  | fwStageCloseDone => exact .next (.branch (stageCloseDone_kept h) h)
  | fwStageAbort _ => exact .command fwStageAbortRun_kept h
  | activate _ => exact .command activateRun_kept h
  | activatePrepared => exact .next (.branch (activatePrepared_kept h) h)
  | activatePauseEnd _ => exact .next (.branch (pauseEnd_kept h) h)
  | activateAt _ => exact .command activateAtRun_kept h
  | fwConfirm _ => exact .command fwConfirmRun_kept h
  | fwOpkeySet _ => exact .command fwOpkeySetRun_kept h
  | activateLegal _ => exact .command activateLegalRun_kept h
  | watchdogExpiry _ => exact .within (.branch (raiseFault_kept h) h)
  | eccError _ => exact .within (.branch (eccError_kept h) h)
  | lockstepMismatch _ _ _ => exact .within (.branch (raiseFault_kept h) h)
  | busTimeout _ _ _ => exact .within (.branch (raiseFault_kept h) h)
  | mramVerifyFailure _ _ => exact .next (.branch (raiseFault_kept h) h)
  | domainSupplyFault _ _ => exact .within (.branch (supplyFaultOf_kept h) h)
  | f1HandlingComplete _ => exact .within (f1Complete_kept h)
  | f1RepeatTimeout _ => exact .within (f1Timeout_kept h)
  | fenceComplete _ => exact .within (fenceComplete_kept h)
  | unitRecoveryEnd _ _ => exact .within (recoveryEnd_kept h)
  | restartResetRelease => exact .next (.branch (releaseRestart_kept h) h)
  | reconciliationPass _ => exact .next (reconcile_kept h)
  | logFlushTimer => exact .next (.branch (flush_kept h) h)
  | logTokenRefill _ => exact .next (.branch (tokenRefill_kept h) h)
  | logInfo _ => exact .unchecked logInfoRun_kept h
  | logRead _ => exact .command logReadRun_kept h
  | logFlush _ => exact .unchecked logFlushRun_kept h
  | logRateSet _ => exact .command logRateSetRun_kept h
  | logClear _ => exact .unchecked logClearRun_kept h
  | faultStatus _ => exact .command faultStatusRun_kept h
  | unitRecover _ => exact .command unitRecoverRun_kept h
  | faultInject _ => exact execFaultInject_kept h
  | auxSupplyPresent => exact .next (.apart h)
  | insertionPresent => exact .next (.branch (.apart h) h)
  | powerGood _ _ _ _ => exact .next (.branch (startPowerOn_kept id
      (logInsertion_kept (selectReference_kept (.apart (.update (.apart (resetDomains_kept h)) rfl rfl rfl rfl))))) h)
  | inrushFault _ => exact .next (.branch (.apart h) h)
  | inrushRetry => exact .next (.branch (.apart h) h)
  | removalRequest _ => exact .next (removalSource_kept h)
  | removalInflightEnd => exact .next (.branch (endInflight_kept h) h)
  | removalDrainEnd => exact .next (.branch (finishRemoval_kept (endDrain_kept h)) h)
  | hpCfg _ => exact .command hpCfgRun_kept h
  | hpResume _ => exact .command hpResumeRun_kept h
  | hpResumeComplete => exact .next (.branch (resumeComplete_kept h) h)
  | thermalThreshold _ _ _ => exact .next (.branch (tamperSample_kept (cutoff_kept (warmCrossing_kept h))) (tamperSample_kept h))
  | thermalHoldEnd _ => exact .next (thermalEnd_kept h)
  | perstNRelease => exact .next (.host h rfl)
  | pcieLinkUp _ => exact .next (.branch (.host h rfl) h)
  | aethenoDelayReceive _ => exact .next (delayReceive_kept h)
  | lcRecoverComplete => exact .next (.branch (recoverComplete_kept h) h)

/-- A step keeps the rest of the queue and the memories: it is a row or an idle tick. -/
theorem step_kept (h : step s = .next t) : Kept s.pending.tail (MemoriesCanonical s) t := by
  cases hp : s.pending with
  | nil =>
    rw [step_nil hp] at h
    exact KeptOut.next (idle_kept ⟨hp, id⟩) t h
  | cons i rest =>
    rw [step_cons hp] at h
    exact exec_kept (s := { s with pending := rest }) i ⟨rfl, id⟩ t h

end Sys2Proof.Machine

section

open Sys2Proof Sys2Proof.Machine

/-- Settles O35: every function that a row or an idle tick calls keeps the rest of the queue and the memories. -/
theorem stepsKeepQueueAndMemories : Obligations.StepsKeepQueueAndMemories := by
  unfold Obligations.StepsKeepQueueAndMemories
  intro s t h
  exact step_kept h

end
